-- ==== Sys2Proof/Word.lean ====
section
/-! DEFINITION. Words, bytes and sparse tables: the plainest data of the model. -/

namespace Sys2Proof

/-- A byte. -/
abbrev Byte := BitVec 8

/-- A 32-bit register word (R7). -/
abbrev Word := BitVec 32

/-- A cell of a memory or buffer: an address and the byte it holds. -/
abbrev Cell := Nat × Byte

/-- A sparse table: entries by number, numbers strictly rising; an unlisted number holds the table's default. -/
abbrev Tbl (α : Type) := List (Nat × α)

/-- The entry at `k`, if one is listed. -/
def Tbl.find (k : Nat) : Tbl α → Option α
  | [] => none
  | (j, a) :: t => if j = k then some a else Tbl.find k t

/-- The value at `k`, where `d` is what an unlisted entry holds. -/
def Tbl.get (t : Tbl α) (k : Nat) (d : α) : α := (Tbl.find k t).getD d

/-- The table without an entry at `k`. -/
def Tbl.erase (k : Nat) : Tbl α → Tbl α
  | [] => []
  | (j, a) :: t => if j = k then Tbl.erase k t else (j, a) :: Tbl.erase k t

/-- The entry put before the first larger number. -/
def Tbl.insert (k : Nat) (v : α) : Tbl α → Tbl α
  | [] => [(k, v)]
  | (j, a) :: t => if k < j then (k, v) :: (j, a) :: t else (j, a) :: Tbl.insert k v t

/-- Entry `k` becomes `v`, listed even when it is the default. -/
def Tbl.put (t : Tbl α) (k : Nat) (v : α) : Tbl α := Tbl.insert k v (Tbl.erase k t)

/-- Entry `k` becomes `v`; an entry equal to the default `d` is not listed. -/
def Tbl.set [DecidableEq α] (t : Tbl α) (k : Nat) (v d : α) : Tbl α :=
  if v = d then Tbl.erase k t else Tbl.put t k v

/-- The listed numbers. -/
def Tbl.keys (t : Tbl α) : List Nat := t.map (·.1)

/-- The listed entries. -/
def Tbl.vals (t : Tbl α) : List α := t.map (·.2)

/-- The numbers of the table rise strictly, each above `lo`. -/
def Tbl.risingFrom : Nat → Tbl α → Bool
  | _, [] => true
  | lo, (j, _) :: t => decide (lo ≤ j) && Tbl.risingFrom (j + 1) t

/-- The table's canonical form: numbers strictly rising. -/
def Tbl.wf (t : Tbl α) : Bool := Tbl.risingFrom 0 t

/-- An exact fraction in lowest terms with a positive denominator. -/
structure Q where
  num : Int
  den : Nat
  deriving DecidableEq, Repr

/-- The fraction `n / d` in lowest terms; a zero denominator gives 0. -/
def Q.mk' (n : Int) (d : Nat) : Q :=
  if d = 0 then ⟨0, 1⟩ else
  let g := Nat.gcd n.natAbs d
  ⟨n / g, d / g⟩

/-- The fraction of a natural number. -/
def Q.ofNat (n : Nat) : Q := ⟨n, 1⟩

/-- Exact sum. -/
def Q.add (a b : Q) : Q := Q.mk' (a.num * b.den + b.num * a.den) (a.den * b.den)

/-- Exact difference. -/
def Q.sub (a b : Q) : Q := Q.mk' (a.num * b.den - b.num * a.den) (a.den * b.den)

/-- Exact product. -/
def Q.mul (a b : Q) : Q := Q.mk' (a.num * b.num) (a.den * b.den)

/-- Exact quotient; a zero divisor gives 0. -/
def Q.div (a b : Q) : Q :=
  if b.num = 0 then ⟨0, 1⟩ else
  if b.num < 0 then Q.mk' (-(a.num * b.den)) (a.den * b.num.natAbs) else Q.mk' (a.num * b.den) (a.den * b.num.natAbs)

/-- `a` is at most `b`. -/
def Q.le (a b : Q) : Bool := decide (a.num * b.den ≤ b.num * a.den)

end Sys2Proof
end

