-- ==== Sys2Proof/Syntax.lean ====
section
/-! DEFINITION. The commands of the block: one constructor per row of spec/opcode_table.json, and their operands. -/

namespace Sys2Proof

/-- Who issues a register access (R33): a virtual function, the physical function, the towpath, or Dravner. -/
inductive Source where
  | vf (k : Fin 256)
  | towpath
  | pf
  | dravner
  deriving DecidableEq, Repr

/-- A 32-bit register access (R7): a read, or a write of a word. -/
inductive Access where
  | read
  | write (v : Word)
  deriving DecidableEq, Repr

/-- A host access through BAR2 (R31): a read of some bytes, or a write of bytes. -/
inductive HostAccess where
  | read (bytes : Nat)
  | write (data : List Byte)
  deriving DecidableEq, Repr

/-- A PCIe configuration request (R406): any request, or one that assigns the function's BARs (R395). -/
inductive ConfigReq where
  | other
  | assignBars
  deriving DecidableEq, Repr

/-- What is measured at a tick edge (R53, R75, R415, R422, R429). -/
structure EdgeIn where
  /-- signed offset of the edge from its reference in ns (R75 OFFSET) -/
  offset : Int
  /-- time step 7 of the edge ended, in 10 ns (R75 LAST) -/
  lastEnd : Nat
  /-- k of the first EPOCH + k × period, used by the first edge under PTP or EPOCH_ALIGN (R73) -/
  number : BitVec 48
  /-- durations of the edge work of yard slices 0 to 3 in ns (R203, R205) -/
  cydNs : List Nat
  /-- domains whose raised rail has not reached its target (R415), by domain number -/
  railLate : BitVec 7
  /-- guard band remaining of domains 0 to 6 in mV (R429) -/
  gb : List Nat
  /-- mean normalised ring frequency of domains 0 to 6 in kHz (R429) -/
  ro : List Nat
  /-- measured average power of C0 and C1 over the pound in mW (R422) -/
  domPower : List Nat
  deriving DecidableEq, Repr

/-- Access width of a scalar load (RV32I). -/
inductive LoadWidth where
  | lb | lh | lw | lbu | lhu
  deriving DecidableEq, Repr

/-- Access width of a scalar store (RV32I). -/
inductive StoreWidth where
  | sb | sh | sw
  deriving DecidableEq, Repr

/-- How a request frame arrived (R313, R314, R315). -/
inductive Arrival where
  | udp (port : Fin 18) (addr : BitVec 128) (srcPort dstPort : BitVec 16)
  | roce (port : Fin 18) (addr : BitVec 128) (qp : BitVec 24)
  | ring (ctx : Fin 256)
  deriving DecidableEq, Repr

/-- The Gelzan TLVs of a received LLDP frame (R297). -/
structure LldpTlvs where
  /-- VERSION: major and minor -/
  version : Option (BitVec 8 × BitVec 8)
  /-- IDENTITY: serial, link number, and FLIGHT, member and low 64 bits of the plan hash of each ARMED plan -/
  identity : Option (BitVec 64 × BitVec 5 × List (BitVec 16 × BitVec 12 × BitVec 64))
  deriving DecidableEq, Repr

/-- An IEEE 1588 message that disciplines the device time (R299). -/
structure PtpMsg where
  /-- domain number of the message -/
  domain : BitVec 8
  /-- device time after the message is applied, in ns -/
  time : BitVec 64
  deriving DecidableEq, Repr

/-- The IEEE 1588 messages the part sends on their rates (R299). -/
inductive PtpTx where
  | sync
  | peerDelay
  deriving DecidableEq, Repr

/-- An SPDM transport (R338): the DOE mailbox of function k, or MCTP over the towpath. -/
inductive Transport where
  | doe (k : Fin 256)
  | mctp
  deriving DecidableEq, Repr

/-- What a PSK_EXCHANGE request carries that the profile judges (R338, R339). -/
structure PskExchange where
  /-- requester's half of the session ID -/
  reqSid : BitVec 16
  /-- measurement summary hash type -/
  summary : Byte
  /-- PSKHint -/
  hint : List Byte
  /-- requester's context (random) -/
  context : List Byte
  /-- the requester uses HBEAT_CAP -/
  hbeat : Bool
  deriving DecidableEq, Repr

/-- A request for a GAUGE record (R380): the requester's register write, or the towpath's message. -/
inductive GaugeReq where
  | pf (src : Source) (v : Word)
  | view (src : Source) (ctx : Fin 256) (v : Word)
  | towpath (page : BitVec 2)
  deriving DecidableEq, Repr

/-- Whose GAUGE record is finished (R380). -/
inductive GaugeFor where
  | pf
  | vf (ctx : Fin 256)
  | towpath
  deriving DecidableEq, Repr

/-- TAP instructions (R353). -/
inductive TapInstr where
  | bypass | idcode | usercode | sample | extest | intest | preload | clamp | highz | scan | mbist | trace
  deriving DecidableEq, Repr

/-- Tamper flags (R399, R410). -/
inductive TamperFlag where
  | vbakLow | voltGlitch | clockGlitch | attRollback | optRollback
  deriving DecidableEq, Repr

/-- What is measured or sampled at release (R393, R405, R449). -/
structure ReleaseIn where
  /-- straps TOWSEL, SLOT_ID and OPT_MODE (R449) -/
  straps : BitVec 13
  /-- ends of OPTIONS, MEMORY and READY in µs (R409) -/
  tOptions : Word
  tMemory : Word
  tReady : Word
  deriving DecidableEq, Repr

/-- Package power as measured in a 10 µs sample (R418). -/
structure PowerIn where
  /-- 1 ms average in W -/
  avg1ms : Nat
  /-- 1 s average in W -/
  avg1s : Nat
  /-- 1 ms averages of the seven domains in 0.1 W (R435 DOM_POWER) -/
  dom : List Nat
  deriving DecidableEq, Repr

/-- What the patrol scrubber finds in a line (R219, R220). -/
inductive EccFound where
  | clean | corrected | uncorrectable
  deriving DecidableEq, Repr

/-- Conditions Dravner raises itself (R392). -/
inductive DrvCond where
  | fwAssert
  | fwEventLost
  | fwContextFault (ctx : Fin 256)
  deriving DecidableEq, Repr

/-- A PCIe IDE stream (R343). -/
inductive IdeStream where
  | link
  | selective (n : Fin 8)
  deriving DecidableEq, Repr

/-- The commands of the block, one constructor per row of the opcode table, in its order. -/
inductive Instr where
  /-- `REGISTER_WRITE` (R10): A write to a register field that has no row of its own is applied, staged, or refused according to the field's access class. -/
  | registerWrite (src : Source) (off : BitVec 32) (acc : Access)
  /-- `BAD_ACCESS` (R7): A register access of the wrong size or alignment reads 0, is discarded and records BAD_ACCESS. -/
  | badAccess (src : Source) (off : BitVec 32) (bytes : Nat)
  /-- `UNMAPPED` (R27): An access to an unassigned offset reads 0, is discarded and sets UNMAPPED in the issuing function's PCI page. -/
  | unmapped (src : Source) (off : BitVec 32) (acc : Access)
  /-- `POWERED_DOWN` (R35): An access to a page in a powered-off domain reads 0, is discarded and sets POWERED_DOWN. -/
  | poweredDown (src : Source) (off : BitVec 32) (acc : Access)
  /-- `BLK_RESET` (R42): A write of BLK_CTRL.BLK_RESET starts a single-block reset when the block is idle, and is refused with RESET_REFUSED otherwise. -/
  | blkReset (src : Source) (page : BitVec 32) (v : Word)
  /-- `BLK_RESET_END` (R407): A single-block reset completes, RESETTING returns to 0, and held commands proceed. -/
  | blkResetEnd (page : BitVec 32)
  /-- `INJECT` (R41): A write of BLK_CTRL.INJECT raises the chosen condition at the chosen severity, where the source and debug state allow it. -/
  | inject (src : Source) (page : BitVec 32) (v : Word)
  /-- `BLK_FIRST_CLEAR` (R37): Writing 1 to BLK_FIRST.VALID clears the first-error capture and re-arms it. -/
  | blkFirstClear (src : Source) (page : BitVec 32) (v : Word)
  /-- `APERTURE_ACCESS` (R31): A host access through BAR2 is translated in the function's context, and a translation fault raises APERTURE_FAULT. -/
  | apertureAccess (ctx : Fin 256) (off : BitVec 32) (acc : HostAccess)
  /-- `RING_WINDOW_ACCESS` (R46): A host access to the manifest ring window reaches a slot through translation, under the rules for mode and words 12-15. -/
  | ringWindowAccess (ctx : Fin 256) (off : BitVec 18) (acc : Access)
  /-- `CONFIG_REQUEST` (R406): A PCIe configuration request receives Retry Status until FUSES ends, and is answered after that. -/
  | configRequest (fn : Fin 256) (req : ConfigReq)
  /-- `DRN_CTX_MODE_WRITE` (R113): A write of a DRN_CTX_MODE register through any core's page is staged for all 512 cores together. -/
  | drnCtxModeWrite (src : Source) (core : Fin 512) (idx : Fin 16) (v : Word)
  /-- `TICK_START` (R73): LKP_TICK_CMD.START starts a stopped tick and sets where the first edge falls and which number it carries. -/
  | tickStart (src : Source) (v : Word)
  /-- `TICK_STOP` (R73): LKP_TICK_CMD.STOP makes the next edge the last one, and that edge admits nothing. -/
  | tickStop (src : Source) (v : Word)
  /-- `TICK_EDGE` (R56): The tick edge runs its seven steps: cut-off, fence, tick-latched configuration, limbo reclaim, manifest admission and grants, power plan, and heartbeat check. -/
  | tickEdge (e : EdgeIn)
  /-- `LAUNCH_ENTRY` (R63): At run start plus START, the cluster sequencer starts a kernel on each named core and sets s10 to s13. -/
  | launchEntry (ctx : Fin 256) (entry : BitVec 16) (time : BitVec 24)
  /-- `GUARD_OPEN` (R65): At guard open, launches stop and a LATE member sets LATE_SENT, sends LATE notices and, under ABORT, gets its repeat manifest. -/
  | guardOpen
  /-- `FLIGHT_CHECK_TF` (R305): At tF, incomplete instances and exchanges are FAILED unless a LATE case moves or lifts the check. -/
  | flightCheckTf
  /-- `MANIFEST_PREREAD` (R58): Every 1 µs from guard open, the lock-keeper pre-reads the next slot and fetches a valid body. -/
  | manifestPreread (ctx : Fin 256) (time : BitVec 24)
  /-- `TAG_VERIFY_DONE` (R58): Verification of a manifest tag ends, and the final classification is written back. -/
  | tagVerifyDone (ctx : Fin 256) (time : BitVec 24)
  /-- `TICK_IN_TRANSITION` (R52): A TICK_IN transition is accepted as an edge when it falls within ±1 µs of its expected time, and is otherwise counted as PIN_STRAY. -/
  | tickInTransition (rising : Bool) (inWindow : Bool) (e : EdgeIn)
  /-- `SYNC_REFERENCE_LOST` (R53): Loss of the tick reference puts the lock-keeper in HOLDOVER. -/
  | syncReferenceLost
  /-- `SYNC_REFERENCE_RESTORED` (R53): The reference returns within the limit, and the lock-keeper is LOCKED again, slewing out the offset. -/
  | syncReferenceRestored
  /-- `HOLDOVER_LIMIT_EXPIRED` (R53): HOLDOVER lasts beyond LKP_HOLDOVER_LIMIT, so the lock-keeper goes UNLOCKED and raises TICK_UNLOCKED. -/
  | holdoverLimitExpired
  /-- `MXQ_SLOAD` (R97): The mxq instruction enqueues an SLOAD tile command after checks. -/
  | mxqSload (core : Fin 512) (rs : BitVec 5)
  /-- `MXQ_SWAP` (R83): The mxq instruction enqueues a SWAP of live and shadow stationary sets. -/
  | mxqSwap (core : Fin 512) (rs : BitVec 5)
  /-- `MXQ_WSMUL` (R82): The mxq instruction enqueues a weight-stationary multiply. -/
  | mxqWsmul (core : Fin 512) (rs : BitVec 5)
  /-- `MXQ_OSMUL` (R86): The mxq instruction enqueues an output-stationary tile. -/
  | mxqOsmul (core : Fin 512) (rs : BitVec 5)
  /-- `MXQ_FORM` (R93): The mxq instruction enqueues a change of array form. -/
  | mxqForm (core : Fin 512) (rs : BitVec 5)
  /-- `MXA_CMD_START` (R90): A queued tile command starts once its wait conditions and the scoreboard check hold. -/
  | mxaCmdStart (core : Fin 512) (idx : Fin 16)
  /-- `SHADOW_FULL` (R84): A stationary load finishes, and the shadow sets become FULL. -/
  | shadowFull (core : Fin 512) (arr : Fin 4)
  /-- `SWAP_EFFECT` (R83): A swap takes effect once the shadow set is FULL and no step still uses the live set. -/
  | swapEffect (core : Fin 512) (arr : Fin 4)
  /-- `BANK_HANDOVER` (R91): A WSMUL with HAND writes its last row and hands its bank to the drain path. -/
  | bankHandover (core : Fin 512)
  /-- `OS_SWAP_OUT` (R88): A finished output-stationary tile swaps out once the shadow set is EMPTY, and its rows go to the drain path or the attention pipeline. -/
  | osSwapOut (core : Fin 512)
  /-- `DSET` (R114): The dset instruction checks a 64-byte drain descriptor and loads it, or raises BAD_DESC. -/
  | dset (core : Fin 512) (rs : BitVec 5) (idx : BitVec 4)
  /-- `DRAIN_BANK` (R116): The drain path takes a handed-over bank or shadow and converts its rows through the stages. -/
  | drainBank (core : Fin 512)
  /-- `CART_ENTER` (R147): A held cart enters the cart queue after a CPOP frees an entry. -/
  | cartEnter (core : Fin 512)
  /-- `NAN_REPORT` (R122): A produced-NaN report reaches the X-die, fills an armed first-NaN record and raises FIRST_NAN or FIRST_NAN_HALT. -/
  | nanReport
  /-- `VEC_ISSUE` (R133): A queued vector instruction issues once its operands are ready. -/
  | vecIssue (core : Fin 512)
  /-- `VEC_SETVL_I` (R129): Sets VL from the immediate, capped at 1,024. -/
  | vecSetvlI (core : Fin 512) (word : BitVec 64)
  /-- `VEC_SETVL_S` (R129): Sets VL from a scalar register, capped at 1,024. -/
  | vecSetvlS (core : Fin 512) (word : BitVec 64)
  /-- `VEC_GETVL` (R132): Writes VL to a scalar register. -/
  | vecGetvl (core : Fin 512) (word : BitVec 64)
  /-- `VEC_STAT_R` (R144): Reads VSTAT into a scalar register after earlier instructions complete. -/
  | vecStatR (core : Fin 512) (word : BitVec 64)
  /-- `VEC_STAT_C` (R144): Clears the VSTAT bits named in the immediate. -/
  | vecStatC (core : Fin 512) (word : BitVec 64)
  /-- `VEC_MVXS` (R132): Moves one vector element into a scalar register. -/
  | vecMvxs (core : Fin 512) (word : BitVec 64)
  /-- `VEC_MVSX` (R132): Broadcasts a scalar value into the active elements. -/
  | vecMvsx (core : Fin 512) (word : BitVec 64)
  /-- `VEC_FADD` (R134): Float add. -/
  | vecFadd (core : Fin 512) (word : BitVec 64)
  /-- `VEC_FSUB` (R134): Float subtract. -/
  | vecFsub (core : Fin 512) (word : BitVec 64)
  /-- `VEC_FMUL` (R134): Float multiply. -/
  | vecFmul (core : Fin 512) (word : BitVec 64)
  /-- `VEC_FMA` (R134): Fused float multiply-add. -/
  | vecFma (core : Fin 512) (word : BitVec 64)
  /-- `VEC_FMIN` (R134): Float minimum. -/
  | vecFmin (core : Fin 512) (word : BitVec 64)
  /-- `VEC_FMAX` (R134): Float maximum. -/
  | vecFmax (core : Fin 512) (word : BitVec 64)
  /-- `VEC_ABS` (R132): Clears the sign. -/
  | vecAbs (core : Fin 512) (word : BitVec 64)
  /-- `VEC_NEG` (R132): Inverts the sign. -/
  | vecNeg (core : Fin 512) (word : BitVec 64)
  /-- `VEC_MULS` (R134): Multiplies by a scalar. -/
  | vecMuls (core : Fin 512) (word : BitVec 64)
  /-- `VEC_ADDS` (R134): Adds a scalar. -/
  | vecAdds (core : Fin 512) (word : BitVec 64)
  /-- `VEC_IADD` (R135): Wrapping integer add. -/
  | vecIadd (core : Fin 512) (word : BitVec 64)
  /-- `VEC_ISUB` (R135): Wrapping integer subtract. -/
  | vecIsub (core : Fin 512) (word : BitVec 64)
  /-- `VEC_IMUL` (R135): Low half of the integer product. -/
  | vecImul (core : Fin 512) (word : BitVec 64)
  /-- `VEC_ADDSAT` (R135): Saturating integer add. -/
  | vecAddsat (core : Fin 512) (word : BitVec 64)
  /-- `VEC_SUBSAT` (R135): Saturating integer subtract. -/
  | vecSubsat (core : Fin 512) (word : BitVec 64)
  /-- `VEC_IMIN` (R132): Signed integer minimum. -/
  | vecImin (core : Fin 512) (word : BitVec 64)
  /-- `VEC_IMAX` (R132): Signed integer maximum. -/
  | vecImax (core : Fin 512) (word : BitVec 64)
  /-- `VEC_AND` (R132): Bitwise AND. -/
  | vecAnd (core : Fin 512) (word : BitVec 64)
  /-- `VEC_OR` (R132): Bitwise OR. -/
  | vecOr (core : Fin 512) (word : BitVec 64)
  /-- `VEC_XOR` (R132): Bitwise XOR. -/
  | vecXor (core : Fin 512) (word : BitVec 64)
  /-- `VEC_SHL` (R135): Shift left. -/
  | vecShl (core : Fin 512) (word : BitVec 64)
  /-- `VEC_SHRL` (R135): Logical shift right. -/
  | vecShrl (core : Fin 512) (word : BitVec 64)
  /-- `VEC_SHRA` (R135): Arithmetic shift right. -/
  | vecShra (core : Fin 512) (word : BitVec 64)
  /-- `VEC_EQ` (R136): Equal comparison into a mask. -/
  | vecEq (core : Fin 512) (word : BitVec 64)
  /-- `VEC_NE` (R136): Not-equal comparison into a mask. -/
  | vecNe (core : Fin 512) (word : BitVec 64)
  /-- `VEC_LT` (R136): Less-than comparison into a mask. -/
  | vecLt (core : Fin 512) (word : BitVec 64)
  /-- `VEC_LE` (R136): Less-or-equal comparison into a mask. -/
  | vecLe (core : Fin 512) (word : BitVec 64)
  /-- `VEC_GT` (R136): Greater-than comparison into a mask. -/
  | vecGt (core : Fin 512) (word : BitVec 64)
  /-- `VEC_GE` (R136): Greater-or-equal comparison into a mask. -/
  | vecGe (core : Fin 512) (word : BitVec 64)
  /-- `VEC_UNORD` (R136): Unordered comparison into a mask. -/
  | vecUnord (core : Fin 512) (word : BitVec 64)
  /-- `VEC_EXP` (R137): Exponential. -/
  | vecExp (core : Fin 512) (word : BitVec 64)
  /-- `VEC_EXP2` (R137): Base-2 exponential. -/
  | vecExp2 (core : Fin 512) (word : BitVec 64)
  /-- `VEC_LN` (R137): Natural logarithm. -/
  | vecLn (core : Fin 512) (word : BitVec 64)
  /-- `VEC_LOG2` (R137): Base-2 logarithm. -/
  | vecLog2 (core : Fin 512) (word : BitVec 64)
  /-- `VEC_RCP` (R137): Reciprocal. -/
  | vecRcp (core : Fin 512) (word : BitVec 64)
  /-- `VEC_RSQRT` (R137): Reciprocal square root. -/
  | vecRsqrt (core : Fin 512) (word : BitVec 64)
  /-- `VEC_SQRT` (R137): Square root. -/
  | vecSqrt (core : Fin 512) (word : BitVec 64)
  /-- `VEC_TANH` (R137): Hyperbolic tangent. -/
  | vecTanh (core : Fin 512) (word : BitVec 64)
  /-- `VEC_SIGMOID` (R137): Sigmoid. -/
  | vecSigmoid (core : Fin 512) (word : BitVec 64)
  /-- `VEC_ERF` (R137): Error function. -/
  | vecErf (core : Fin 512) (word : BitVec 64)
  /-- `VEC_SIN` (R137): Sine. -/
  | vecSin (core : Fin 512) (word : BitVec 64)
  /-- `VEC_COS` (R137): Cosine. -/
  | vecCos (core : Fin 512) (word : BitVec 64)
  /-- `VEC_CVT` (R138): Converts between element types. -/
  | vecCvt (core : Fin 512) (word : BitVec 64)
  /-- `VEC_CVTS` (R138): Scales by a scalar, then converts. -/
  | vecCvts (core : Fin 512) (word : BitVec 64)
  /-- `VEC_QMX` (R139): Block-quantises a register into elements and scale codes. -/
  | vecQmx (core : Fin 512) (word : BitVec 64)
  /-- `VEC_PERM` (R140): Permutes elements by an index operand. -/
  | vecPerm (core : Fin 512) (word : BitVec 64)
  /-- `VEC_SLIDEUP` (R140): Slides elements up by a scalar amount. -/
  | vecSlideup (core : Fin 512) (word : BitVec 64)
  /-- `VEC_SLIDEDN` (R140): Slides elements down by a scalar amount. -/
  | vecSlidedn (core : Fin 512) (word : BitVec 64)
  /-- `VEC_BCAST` (R140): Broadcasts one element to the active elements. -/
  | vecBcast (core : Fin 512) (word : BitVec 64)
  /-- `VEC_COMPRESS` (R140): Packs the selected elements and writes their count. -/
  | vecCompress (core : Fin 512) (word : BitVec 64)
  /-- `VEC_SUM` (R141): Sum reduction in a fixed tree. -/
  | vecSum (core : Fin 512) (word : BitVec 64)
  /-- `VEC_PROD` (R141): Product reduction in a fixed tree. -/
  | vecProd (core : Fin 512) (word : BitVec 64)
  /-- `VEC_RMAX` (R141): Maximum reduction. -/
  | vecRmax (core : Fin 512) (word : BitVec 64)
  /-- `VEC_RMIN` (R141): Minimum reduction. -/
  | vecRmin (core : Fin 512) (word : BitVec 64)
  /-- `VEC_LSE` (R141): Log-sum-exp reduction. -/
  | vecLse (core : Fin 512) (word : BitVec 64)
  /-- `VEC_ARGMAX` (R142): Lowest position of the maximum. -/
  | vecArgmax (core : Fin 512) (word : BitVec 64)
  /-- `VEC_ARGMIN` (R142): Lowest position of the minimum. -/
  | vecArgmin (core : Fin 512) (word : BitVec 64)
  /-- `MASK_AND` (R132): Mask AND. -/
  | maskAnd (core : Fin 512) (word : BitVec 64)
  /-- `MASK_OR` (R132): Mask OR. -/
  | maskOr (core : Fin 512) (word : BitVec 64)
  /-- `MASK_XOR` (R132): Mask XOR. -/
  | maskXor (core : Fin 512) (word : BitVec 64)
  /-- `MASK_ANDN` (R132): Mask AND-NOT. -/
  | maskAndn (core : Fin 512) (word : BitVec 64)
  /-- `MASK_NOT` (R132): Mask NOT. -/
  | maskNot (core : Fin 512) (word : BitVec 64)
  /-- `MASK_SETN` (R132): Sets the first n bits of a mask. -/
  | maskSetn (core : Fin 512) (word : BitVec 64)
  /-- `MASK_POPC` (R132): Counts the set mask bits below EL. -/
  | maskPopc (core : Fin 512) (word : BitVec 64)
  /-- `MASK_FIRST` (R132): Finds the lowest set mask bit. -/
  | maskFirst (core : Fin 512) (word : BitVec 64)
  /-- `VEC_LDW` (R143): Contiguous wharf load. -/
  | vecLdw (core : Fin 512) (word : BitVec 64)
  /-- `VEC_STW` (R143): Contiguous wharf store. -/
  | vecStw (core : Fin 512) (word : BitVec 64)
  /-- `VEC_LDWS` (R143): Strided wharf load. -/
  | vecLdws (core : Fin 512) (word : BitVec 64)
  /-- `VEC_STWS` (R143): Strided wharf store. -/
  | vecStws (core : Fin 512) (word : BitVec 64)
  /-- `VEC_LDD` (R143): DVA load through the data cache. -/
  | vecLdd (core : Fin 512) (word : BitVec 64)
  /-- `VEC_STD` (R143): DVA store through the data cache. -/
  | vecStd (core : Fin 512) (word : BitVec 64)
  /-- `CTAG` (R149): Reads a tag word of the head cart. -/
  | ctag (core : Fin 512) (word : BitVec 64)
  /-- `CRD` (R149): Reads 1,024 bytes of the head cart into a vector register. -/
  | crd (core : Fin 512) (word : BitVec 64)
  /-- `CPOP` (R149): Discards the head cart. -/
  | cpop (core : Fin 512) (word : BitVec 64)
  /-- `KERNEL_END` (R150): The kernel-end instruction takes effect when the vector engine and the drain path are empty, and discards orphaned carts. -/
  | kernelEnd (core : Fin 512) (time : BitVec 24)
  /-- `ATQ_DECODE` (R161): The atq instruction queues a decode attention job after checking its descriptor. -/
  | atqDecode (core : Fin 512) (rs : BitVec 5)
  /-- `ATQ_PREFILL` (R162): The atq instruction queues a prefill attention job and its claim on MXA2 and MXA3. -/
  | atqPrefill (core : Fin 512) (rs : BitVec 5)
  /-- `ATP_JOB_START` (R160): A queued attention job starts and resolves its coach handles. -/
  | atpJobStart (core : Fin 512)
  /-- `ATP_JOB_END` (R175): An attention job writes or sends its last output and sends its score increments. -/
  | atpJobEnd (core : Fin 512)
  /-- `MRG_CONTRIBUTION` (R167): A contribution reaches a merge slot and arms it, is stored, or is dropped as faulty. -/
  | mrgContribution (cluster : Fin 32)
  /-- `MRG_DELIVER` (R169): A completed merge slot delivers its roots to the wharf or to the fabric collective engine. -/
  | mrgDeliver (cluster : Fin 32) (slot : Fin 16)
  /-- `SCORE_INCREMENT` (R201): A coach score increment arrives at the yard and is added to SCORE. -/
  | scoreIncrement
  /-- `CYQ_OPEN` (R193): Opens a berth with empty chains. -/
  | cyqOpen (core : Fin 512) (rs : BitVec 5)
  /-- `CYQ_APPEND` (R193): Appends a PENDING coach to each selected chain. -/
  | cyqAppend (core : Fin 512) (rs : BitVec 5)
  /-- `CYQ_CLAIM` (R198): Makes each selected tail coach writable, copying it when it is shared. -/
  | cyqClaim (core : Fin 512) (rs : BitVec 5)
  /-- `CYQ_FORK` (R193): Opens a new berth that shares or copies the coaches of an existing one. -/
  | cyqFork (core : Fin 512) (rs : BitVec 5)
  /-- `CYQ_RELEASE` (R193): Journals the removal of coaches from a position onward, and closes the berth when FROM is 0. -/
  | cyqRelease (core : Fin 512) (rs : BitVec 5)
  /-- `CYQ_EVICT` (R193): Journals the removal of a coach from every chain that holds it. -/
  | cyqEvict (core : Fin 512) (rs : BitVec 5)
  /-- `CYQ_LIST` (R193): Writes the handles of a working chain. -/
  | cyqList (core : Fin 512) (rs : BitVec 5)
  /-- `CYQ_INFO` (R188): Writes a coach-table entry. -/
  | cyqInfo (core : Fin 512) (rs : BitVec 5)
  /-- `CYQ_BINFO` (R190): Writes a berth entry. -/
  | cyqBinfo (core : Fin 512) (rs : BitVec 5)
  /-- `DMQ_COPY` (R225): Queues a DMA copy, with optional skew and conversion. -/
  | dmqCopy (core : Fin 512) (rs : BitVec 5)
  /-- `DMQ_FILL` (R225): Queues a DMA fill with a 32-bit pattern. -/
  | dmqFill (core : Fin 512) (rs : BitVec 5)
  /-- `DMQ_COACH` (R197): Queues a DMA write of keys and values into coach slots. -/
  | dmqCoach (core : Fin 512) (rs : BitVec 5)
  /-- `DMQ_ATOMIC` (R222): Queues memory-side atomic operations. -/
  | dmqAtomic (core : Fin 512) (rs : BitVec 5)
  /-- `DMQ_RWRITE` (R293): Queues a remote write to another member of the flight. -/
  | dmqRwrite (core : Fin 512) (rs : BitVec 5)
  /-- `DMA_CMD_START` (R225): A queued DMA command starts once the scoreboard allows it. -/
  | dmaCmdStart (core : Fin 512)
  /-- `DMA_CMD_COMPLETE` (R247): A DMA command completes, its scoreboard entry is released and its sync counter is incremented. -/
  | dmaCmdComplete (core : Fin 512) (idx : Fin 4)
  /-- `SCALAR_LOAD` (R239): A scalar load of a DVA, served from the data cache or from memory. -/
  | scalarLoad (core : Fin 512) (width : LoadWidth) (rd rs1 : BitVec 5) (imm : BitVec 12)
  /-- `SCALAR_STORE` (R235): A scalar store to a DVA, written through the data cache. -/
  | scalarStore (core : Fin 512) (width : StoreWidth) (rs1 rs2 : BitVec 5) (imm : BitVec 12)
  /-- `LDU` (R240): Uncached load served at the basin. -/
  | ldu (core : Fin 512) (rd rs1 rs2 : BitVec 5)
  /-- `REL` (R241): Release fence at a scope. -/
  | rel (core : Fin 512) (scope : BitVec 2)
  /-- `ACQ` (R241): Acquire fence at a scope. -/
  | acq (core : Fin 512) (scope : BitVec 2)
  /-- `FENCE` (R241): Release followed by acquire. -/
  | fence (core : Fin 512) (scope : BitVec 2)
  /-- `SYI` (R247): Release, then increment a sync counter. -/
  | syi (core : Fin 512) (rs1 rs2 : BitVec 5) (scope : BitVec 2)
  /-- `SYW` (R246): Waits for a sync counter to reach a target. -/
  | syw (core : Fin 512) (rs1 rs2 : BitVec 5) (scope : BitVec 2)
  /-- `SYW_WAIT_END` (R246): A waiting syw sees its counter reach the target, performs its acquire, and may raise SCOPE_MISMATCH. -/
  | sywWaitEnd (core : Fin 512)
  /-- `SYR` (R240): Reads a sync counter. -/
  | syr (core : Fin 512) (rd rs1 : BitVec 5)
  /-- `DCINV` (R224): Invalidates the data cache. -/
  | dcinv (core : Fin 512)
  /-- `RTQ` (R264): The rtq instruction releases at device scope and queues a routing job. -/
  | rtq (core : Fin 512) (rs : BitVec 5)
  /-- `RTE_SELECT` (R267): The routing engine selects for a job, writes its dispatch table, sends request barges and increments RSYNC. -/
  | rteSelect
  /-- `FETCH_LANDED` (R271): A fetched expert lands, its entry becomes CACHED, a landing entry is written and FSYNC is incremented. -/
  | fetchLanded (idx : Nat)
  /-- `FCQ` (R301): A core contributes to a collective instance. -/
  | fcq (core : Fin 512) (rs : BitVec 5)
  /-- `COLLECTIVE_COMPLETE` (R302): A collective instance writes its output and increments its counter. -/
  | collectiveComplete (idx : Nat)
  /-- `SPQ` (R323): The spq instruction requests a sample for a berth. -/
  | spq (core : Fin 512) (rs : BitVec 5)
  /-- `SAMPLE_COMPLETE` (R323): A sampler unit finishes a draw, the stop check runs, and the token frame is sent. -/
  | sampleComplete (unit : Fin 16)
  /-- `BUILD_MANIFEST` (R321): The serving engine builds the batch and the manifest for the next pound. -/
  | buildManifest (ctx : Fin 256)
  /-- `OPEN` (R318): An OPEN frame assigns a berth and issues a coach-yard OPEN, answered by ACCEPT or REJECT. -/
  | openFrame (arr : Arrival) (frame : List Byte)
  /-- `APPEND` (R318): An APPEND frame adds prompt tokens to an open berth. -/
  | appendFrame (arr : Arrival) (frame : List Byte)
  /-- `CANCEL` (R327): A CANCEL frame cancels a berth and issues RELEASE. -/
  | cancelFrame (arr : Arrival) (frame : List Byte)
  /-- `INTAKE_POLL` (R315): Every 10 µs the serving engine reads the next intake ring entry. -/
  | intakePoll (ctx : Fin 256)
  /-- `LINK_ALIGN_LOST` (R284): Loss of PCS alignment for 2 µs takes the link DOWN and resends its barges. -/
  | linkAlignLost (link : Fin 18)
  /-- `LINK_FEC_FAIL` (R284): 64 consecutive uncorrectable codewords take the link DOWN. -/
  | linkFecFail (link : Fin 18)
  /-- `LINK_ALIGNED` (R284): Alignment held for 100 µs puts the link in VERIFYING, or UP for a FRONT port. -/
  | linkAligned (link : Fin 18) (lanes : BitVec 4)
  /-- `LLDP_TX` (R284): An LLDP frame is sent on its period. -/
  | lldpTx (link : Fin 18)
  /-- `LLDP_RX` (R297): A received LLDP frame is judged and the link goes UP or QUARANTINED. -/
  | lldpRx (link : Fin 18) (tlvs : LldpTlvs)
  /-- `DATA` (R302): A collective DATA barge is received. -/
  | dataBarge (link : Fin 18) (hdr : BitVec 256) (payload : List Byte)
  /-- `MERGE` (R171): A device-partial MERGE barge is received and merged. -/
  | mergeBarge (link : Fin 18) (hdr : BitVec 256) (payload : List Byte)
  /-- `FETCH_REQ` (R274): A request barge is received, and the home serves or refuses each request. -/
  | fetchReqBarge (link : Fin 18) (hdr : BitVec 256) (payload : List Byte)
  /-- `WEIGHT` (R274): A weight barge is received, or a refused one frees its slot. -/
  | weightBarge (link : Fin 18) (hdr : BitVec 256) (payload : List Byte)
  /-- `RWRITE` (R293): An RWRITE barge is applied at the target and acknowledged. -/
  | rwriteBarge (link : Fin 18) (hdr : BitVec 256) (payload : List Byte)
  /-- `RWACK` (R293): An end-to-end RWRITE acknowledgement, or NAK, is received. -/
  | rwackBarge (link : Fin 18) (hdr : BitVec 256) (payload : List Byte)
  /-- `LATE` (R65): A LATE notice is received and flooded onward. -/
  | lateBarge (link : Fin 18) (hdr : BitVec 256) (payload : List Byte)
  /-- `ABORT` (R306): An ABORT notice is received and flooded onward. -/
  | abortBarge (link : Fin 18) (hdr : BitVec 256) (payload : List Byte)
  /-- `ACK` (R292): A hop acknowledgement is received and frees retransmit-buffer entries. -/
  | ackBarge (link : Fin 18) (hdr : BitVec 256) (payload : List Byte)
  /-- `ACK_TX` (R292): Pending hop acknowledgements are sent within 1 µs or at 64 pending. -/
  | ackTx (link : Fin 18)
  /-- `ACK_TIMEOUT` (R292): No ACK within ACK_TMO triggers a retransmission, or makes the barge undeliverable. -/
  | ackTimeout (idx : Nat)
  /-- `ARP_REQUEST` (R288): An ARP request or IPv6 neighbour solicitation for the port's address is answered. -/
  | arpRequest (port : Fin 18) (addr : BitVec 128) (v6 : Bool)
  /-- `PFC_RX` (R288): A PFC frame pauses or resumes a FRONT port. -/
  | pfcRx (link : Fin 18) (cls : BitVec 3) (pause : Bool)
  /-- `PTP_MESSAGE_RX` (R299): An IEEE 1588 message disciplines the device time. -/
  | ptpMessageRx (port : Fin 18) (msg : PtpMsg)
  /-- `PTP_SYNC_TX` (R299): Sync and peer-delay messages are sent on their rates. -/
  | ptpSyncTx (port : Fin 18) (kind : PtpTx)
  /-- `PLAN_LOAD` (R295): FCE_PLAN_CMD.LOAD reads, hashes and checks a flight plan. -/
  | planLoad (src : Source) (v : Word)
  /-- `PLAN_ARM` (R295): FCE_PLAN_CMD.ARM arms a slot at edge ARM_AT. -/
  | planArm (src : Source) (v : Word)
  /-- `PLAN_DISARM` (R295): FCE_PLAN_CMD.DISARM returns an ARMED slot to LOADED. -/
  | planDisarm (src : Source) (v : Word)
  /-- `PLAN_CLEAR` (R295): FCE_PLAN_CMD.CLEAR empties an unbound slot. -/
  | planClear (src : Source) (v : Word)
  /-- `ACTIVATE` (R333): ACTIVATE of a context draws a key and activates the context at the next edge. -/
  | activate (src : Source) (v : Word)
  /-- `DEACTIVATE` (R334): DEACTIVATE clears a context's key and sessions at the next edge. -/
  | deactivate (src : Source) (v : Word)
  /-- `MEM_XLAT_INV` (R213): Drops one context's cached translations at the next edge. -/
  | memXlatInv (src : Source) (v : Word)
  /-- `MEM_XLAT_INV_ALL` (R213): Drops every context's cached translations at the next edge. -/
  | memXlatInvAll (src : Source) (v : Word)
  /-- `PSK_WRITE` (R339): A write of the context PSK, refused while a session exists. -/
  | pskWrite (src : Source) (ctx : Fin 256) (idx : Fin 8) (v : Word)
  /-- `SAK_INSTALL` (R343): Installs a MACsec key from the SAK registers. -/
  | sakInstall (src : Source) (v : Word)
  /-- `FW_COMMIT` (R345): Raises a fuse SVN to that of the running image. -/
  | fwCommit (src : Source) (v : Word)
  /-- `PSK_EXCHANGE` (R338): An SPDM PSK_EXCHANGE opens a session or draws an error. -/
  | pskExchange (t : Transport) (req : PskExchange)
  /-- `PSK_FINISH` (R340): An SPDM PSK_FINISH derives the application keys, which become active at the next edge. -/
  | pskFinish (t : Transport) (sid : Word) (macOk : Bool)
  /-- `END_SESSION` (R340): An SPDM END_SESSION ends a session and changes the active key set. -/
  | endSession (t : Transport) (sid : Word)
  /-- `KEY_UPDATE` (R338): An SPDM KEY_UPDATE within a session. -/
  | keyUpdate (t : Transport) (sid : Word)
  /-- `HEARTBEAT` (R338): An SPDM HEARTBEAT within a session. -/
  | heartbeat (t : Transport) (sid : Word)
  /-- `SPDM_UNSUPPORTED` (R338): An SPDM request that needs an unsupported capability draws ERROR UnsupportedRequest. -/
  | spdmUnsupported (t : Transport) (code : Byte)
  /-- `EVIDENCE_REQUEST` (R349): A vendor-defined evidence request is answered with a record signed under the next HSS index. -/
  | evidenceRequest (t : Transport) (sid : Option Word) (nonce : BitVec 256)
  /-- `PUBLIC_KEY_REQUEST` (R349): Returns the HSS public key and its endorsement. -/
  | publicKeyRequest (t : Transport) (sid : Option Word)
  /-- `PLDM_FW_UPDATE` (R345): PLDM firmware update stages an image to the inactive copy and verifies it. -/
  | pldmFwUpdate (image : List Byte)
  /-- `ACTIVATE_FIRMWARE` (R345): PLDM ActivateFirmware is acknowledged once the staged image verifies. -/
  | activateFirmware
  /-- `SET_NUMERIC_EFFECTER_VALUE` (R421): The rack manager writes the cap through effecter 1. -/
  | setNumericEffecterValue (id : BitVec 16) (value : Word)
  /-- `GET_SENSOR_READING` (R421): The rack manager reads a power, temperature, margin or state sensor. -/
  | getSensorReading (id : BitVec 16)
  /-- `GAUGE` (R380): A request for a full GAUGE record through HWD_GAUGE_CMD, a VF or the towpath. -/
  | gauge (req : GaugeReq)
  /-- `GAUGE_BRIEF` (R380): A request for the 256-byte GAUGE.BRIEF record. -/
  | gaugeBrief (req : GaugeReq)
  /-- `GAUGE_WRITE_DONE` (R380): The GAUGE record is written, DONE is set and the interrupt follows. -/
  | gaugeWriteDone (req : GaugeFor)
  /-- `DBG_REQ` (R350): DBG_REQ.GO requests a debug-state change, reading the token for FIELD. -/
  | dbgReq (src : Source) (v : Word)
  /-- `TOKEN_VERIFY_DONE` (R352): Verification of the FIELD token ends, and the change to FIELD is accepted or refused. -/
  | tokenVerifyDone
  /-- `JTAG_INSTRUCTION` (R353): A TAP instruction is loaded, and restricted ones are refused outside reset. -/
  | jtagInstruction (name : TapInstr)
  /-- `RNG_FAIL` (R341): An entropy health test fails at severity DEVICE. -/
  | rngFail
  /-- `HWD_BEAT` (R374): Dravner writes the heartbeat. -/
  | hwdBeat (src : Source) (v : Word)
  /-- `HWD_FW_CTX` (R374): Dravner names the context it is handling. -/
  | hwdFwCtx (src : Source) (v : Word)
  /-- `HANG` (R375): MISSED reaches MISS_LIMIT, and a hang is declared, captured and acted on by escalation stage. -/
  | hang
  /-- `CAPTURE` (R377): HWD_CTRL.CAPTURE triggers a snapshot of the capture buffer. -/
  | capture (src : Source) (v : Word)
  /-- `CAPTURE_END` (R377): A capture finishes and HELD reads 1. -/
  | captureEnd (start dur : BitVec 32)
  /-- `FW_RESTART` (R376): HWD_CTRL.FW_RESTART restarts the firmware. -/
  | fwRestart (src : Source) (v : Word)
  /-- `FW_RESTART_TIMEOUT` (R376): 50 ms without a first beat after a restart resumes miss counting. -/
  | fwRestartTimeout
  /-- `FW_FIRST_BEAT` (R376): The first beat after a restart ends RESTARTING and releases the hang alert. -/
  | fwFirstBeat
  /-- `SCRUB_CMD` (R389): HWD_CTRL.SCRUB condemns a context. -/
  | scrubCmd (src : Source) (v : Word)
  /-- `POWER_ON` (R393): Power-on reset source. -/
  | powerOn (vbakHeld : Bool)
  /-- `RESET_N_ASSERT` (R394): RESET_N low for 0.5 µs clears keys, stops the links and the tick, and records the reset. -/
  | resetNAssert
  /-- `RELEASE` (R405): Release starts the start-up sequence through to READY. -/
  | release (r : ReleaseIn)
  /-- `OPTION_LOAD_RETRY` (R402): 1.0 ms after a failed attempt, a new option load attempt starts. -/
  | optionLoadRetry
  /-- `PERST_N` (R395): PERST_N resets only the PCIe port. -/
  | perstN (low : Bool)
  /-- `SUPPLY_FAULT` (R443): A main supply out of range, or PWROK falling, freezes the part as if power were removed. -/
  | supplyFault
  /-- `CLEAR_FAILS` (R402): RST_OPT_CTRL.CLEAR_FAILS sets OPT_FAILS to 0. -/
  | clearFails (src : Source) (v : Word)
  /-- `TAMPER_CLEAR` (R399): Clears a tamper flag only in FIELD or LAB. -/
  | tamperClear (src : Source) (v : Word)
  /-- `TAMPER` (R399): A tamper event sets its flag and raises TAMPER. -/
  | tamper (flag : TamperFlag)
  /-- `PWR_STATE_REQ` (R424): Requests a move to D3-RETAIN or back to D0. -/
  | pwrStateReq (src : Source) (v : Word)
  /-- `POWER_STATE_DONE` (R424): A power-state transition completes. -/
  | powerStateDone
  /-- `IDLE_ENTRY` (R424): After IDLE_AFTER µs with the tick stopped, the part enters D0-IDLE. -/
  | idleEntry
  /-- `POWER_PLAN_COMPUTE` (R415): At T_P the controller plans points for the next edge and starts the rail raises. -/
  | powerPlanCompute
  /-- `POWER_SAMPLE` (R418): Package power is measured every 10 µs and checked against the cap bounds. -/
  | powerSample (p : PowerIn)
  /-- `BRAKE_ADJUST` (R419): The brake duty moves up or down with the 1 ms average. -/
  | brakeAdjust
  /-- `SLUICE` (R426): A droop beyond the threshold doubles a cluster's clock period. -/
  | sluice (cluster : Fin 32)
  /-- `SLUICE_END` (R426): After at least 64 clocks with the supply recovered, the cluster clock is restored. -/
  | sluiceEnd (cluster : Fin 32)
  /-- `SIG_RESET` (R422): Restores the default power signatures. -/
  | sigReset (src : Source) (v : Word)
  /-- `ENERGY_METER_TICK` (R427): Every 1 µs energy is charged to the context meters. -/
  | energyMeterTick (uJ : List (Nat × Nat))
  /-- `AVS_READBACK` (R445): Every 1 ms every rail is read back and checked for REG_FAULT. -/
  | avsReadback (mv : List (Nat × Bool))
  /-- `THERMAL_SAMPLE` (R428): Every 100 µs the sensors are read and the thermal responses applied. -/
  | thermalSample (readings : List (Option (BitVec 12)))
  /-- `REPLAN` (R430): AGE_CMD.REPLAN computes a new margin plan. -/
  | replan (src : Source) (v : Word)
  /-- `RETENTION_SAMPLE` (R432): Hourly retention sentinels set the refresh multiplier. -/
  | retentionSample (ms : List Nat)
  /-- `EYE_SAMPLE` (R429): Every second the link eyes are measured. -/
  | eyeSample (eyes : List (Nat × Nat))
  /-- `LOG_SUMMARY_WRITE` (R434): Dravner writes the lifetime-log summary hourly and at READY. -/
  | logSummaryWrite
  /-- `PATROL_SCRUB` (R219): The patrol scrubber reads a line and writes back a corrected one. -/
  | patrolScrub (line : BitVec 31) (found : EccFound)
  /-- `TARGETED_REFRESH` (R217): A row reaching RAA_LIMIT triggers refresh of its neighbours. -/
  | targetedRefresh (ch : Fin 256) (ctx : Fin 256) (expired : Nat)
  /-- `IMBALANCE_WINDOW` (R218): Each 10 µs window the imbalance monitor judges channel occupancy. -/
  | imbalanceWindow (ch : Fin 256) (occ mean : BitVec 16) (ctx : Fin 256)
  /-- `STAGED_APPLY_WHILE_STOPPED` (R12): While the tick is stopped, a staged T field or step-3 command takes effect within 10 µs of its acceptance, in acceptance order. -/
  | stagedApplyWhileStopped
  /-- `MARGIN_STEP_WHILE_STOPPED` (R430): While the tick is stopped, every 10 µs the applied MARGIN of each domain moves up to 5 mV toward the plan. -/
  | marginStepWhileStopped
  /-- `CYD_RESULT_WRITTEN` (R191): A coach-yard slice executes a queued command in arrival order, makes any copy and writes its result record, which releases the scoreboard entry. -/
  | cydResultWritten (slice : Fin 4)
  /-- `PLAN_LOAD_DONE` (R295): Loading of a flight plan ends, and the slot becomes LOADED or stays EMPTY with PLAN_FAIL. -/
  | planLoadDone (slot : Fin 32)
  /-- `REPLAN_DONE` (R430): A re-plan computation ends, BUSY clears, and the new plan with its retirements and restorations is logged. -/
  | replanDone (plan : List Nat)
  /-- `SIGNATURE_RELEASED` (R347): The HSS signature of up to 30 ms completes and the evidence response is released. -/
  | signatureReleased
  /-- `THERMTRIP_N_ASSERT` (R428): A sensor reaching 115 °C asserts THERMTRIP_N within 10 µs through the independent hardware path and freezes the dies. -/
  | thermtripNAssert (sensor : BitVec 8)
  /-- `LOG_RING_RECORD_WRITE` (R434): Dravner writes a lifetime-log ring record within 20 ms of its event, raising LOG_FAULT when the read-back fails. -/
  | logRingRecordWrite (readBackOk : Bool)
  /-- `DRV_CONDITION` (R392): Dravner raises FW_ASSERT, FW_EVENT_LOST or FW_CONTEXT_FAULT in an HWD page, where FW_CONTEXT_FAULT condemns a context and FW_ASSERT stops the device. -/
  | drvCondition (cond : DrvCond)
  /-- `SCALAR_INSTRUCTION` (R233): The scalar unit executes an ordinary RV32IMC instruction, including instruction fetch under the X permission. -/
  | scalarInstruction (core : Fin 512)
  /-- `IDE_KM` (R343): IDE_KM messages inside a context-0 SPDM session program and start PCIe IDE link or selective stream keys. -/
  | ideKm (t : Transport) (sid : Word) (stream : IdeStream)
  /-- `GET_VERSION` (R338): An SPDM GET_VERSION request is answered and fixes the version of the connection. -/
  | getVersion (t : Transport)
  /-- `GET_CAPABILITIES` (R338): An SPDM GET_CAPABILITIES request is answered with the supported capabilities of the profile. -/
  | getCapabilities (t : Transport)
  /-- `NEGOTIATE_ALGORITHMS` (R338): An SPDM NEGOTIATE_ALGORITHMS request fixes SHA-256, AES-256-GCM and the SPDM key schedule for the connection. -/
  | negotiateAlgorithms (t : Transport)
  /-- `HEARTBEAT_TIMEOUT` (R338): Under HBEAT_CAP, a session that receives no message within its heartbeat period is ended, with the key-set changes of R340. -/
  | heartbeatTimeout (ctx : Fin 256) (sid : Word)
  /-- `DYNAMIC_ADDRESS_ASSIGNMENT` (R449): The I3C controller assigns the towpath's dynamic address, which the Huatil takes. -/
  | dynamicAddressAssignment (addr : BitVec 7)
  deriving DecidableEq, Repr

end Sys2Proof
end

