-- ==== Sys2Proof/Decode.lean ====
section
/-! DEFINITION. The opcode table gives no row any bits: commands reach the block as operations and events, not as words. -/

namespace Sys2Proof

/-- The command a word spells by the bits of the opcode table: every row of the table has an empty field list, so no word spells one. -/
def decodeTableWord (_nbits _w : Nat) : Option Instr := none

end Sys2Proof
end

