-- ==== Sys2Proof/Config.lean ====
section
/-! DEFINITION. Values the spec leaves open: opaque constants with no body, so nothing can be proved of them. -/

namespace Sys2Proof.Config

/-- A 32-bit value nothing constrains, by draw number. -/
opaque freeWord : Nat → Word

/-- A bit nothing constrains, by draw number: an outcome of R2 or R213 the part is free to choose. -/
opaque freeBit : Nat → Bool

/-- A natural number nothing constrains, by draw number. -/
opaque freeNat : Nat → Nat

/-- A 128-bit value nothing constrains, by draw number (random draws of R209, R338, R351). -/
opaque free128 : Nat → BitVec 128

/-- A 256-bit value nothing constrains, by draw number (random draws of R338, R346). -/
opaque free256 : Nat → BitVec 256

/-- What byte `dpa` reads as under key `g` when the line was last written under key `tag`, 0 = the initialisation pattern (R214, R396): the decryption of other ciphertext. -/
opaque undecrypted (g tag dpa : Nat) : Byte

/-- What a 32-bit scalar address names on a core: with an even quotient by 2^48 the device virtual address that is the remainder, with an odd one a wharf offset. The spec gives the scalar unit 32-bit registers and 48-bit addresses and no mapping. -/
opaque scalarAddr (core : Nat) (a : Word) : Nat

/-- The 32-bit register value that names a program address on a core (links, AUIPC); the spec gives no mapping. -/
opaque pcWord (core : Nat) (pc : BitVec 48) : Word

/-- Number of basin hits an M-die has counted after some line accesses (R230): the set index of R221 is not given. -/
opaque basinHits (m accesses : Nat) : Word × Word

/-- Number of basin misses an M-die has counted after some line accesses (R230). -/
opaque basinMisses (m accesses : Nat) : Word × Word

/-- Bytes of the capture buffer beyond its header and common-register section (R378), whose inner layout the spec does not give. -/
opaque captureByte (capture off : Nat) : Byte

/-- Result of transcendental function `op` on an FP32 operand: any value within the accuracy bound of R116 and R137 may be the part's. -/
opaque transcend (op : Nat) (x : Word) : Word

/-- Payload of the NaN an operation writes when a NaN operand propagates (R134); the spec gives no payload rule. -/
opaque nanPayload (a b c : Nat) : Nat

/-- SIN and COS beyond |x| = 2^16: any value in [−1, 1] (R137). -/
opaque trigFar (op : Nat) (x : Word) : Word

/-- CRC-32C of a flow's key, whose low 6 bits select its bucket (R286); the spec does not give the layout of the key's bytes. -/
opaque flowHash (flight src dst kind coll : Nat) : Nat

/-- SHA-256 of the boot ROM (R349), whose contents the spec does not give. -/
opaque bootRom : BitVec 256

/-- The debug authority public key of an index (R351): the spec gives its hash a fuse and does not say where the key itself is held. -/
opaque debugKey (index : Nat) : BitVec 448

/-- The debug authority key of an index is revoked (R351 KEY); the spec does not say where that is recorded. -/
opaque debugRevoked (index : Nat) : Bool

/-- Byte `i` of the HSS signature (R346) made with an index over a record; the private key is the device's. -/
opaque signatureByte (index record i : Nat) : Byte

/-- Context to which Dravner's software has bound a RoCEv2 RC queue pair (R314); no register holds the binding. -/
opaque rcContext (qp : BitVec 24) : Nat

/-- LOGPROB of a greedy draw (R323 defines the probability over the kept candidates, which a greedy draw does not form), by berth draw number. -/
opaque greedyLogprob (draw : Nat) : Word

/-- Byte of the device detail section of a GAUGE record (R382, bytes 0x100 to 0x3FF) and of the bit two fields of R386 share: the spec names what the section holds and gives no layout. -/
opaque gaugeByte (draw off : Nat) : Byte

/-- The regular refresh interval in ms (R432), which the spec does not give. -/
opaque refreshInterval : Nat

/-- MAGIC of the lifetime-log summary (R433), which the spec does not give. -/
opaque summaryMagic : Word

/-- What flash holds after a write whose read-back failed (R439 LOG_FAULT). -/
opaque flashByte (draw off : Nat) : Byte

end Sys2Proof.Config
end

