-- ==== Sys2Proof/Machine/RegTable.lean ====
section
/-! DEFINITION. The register tables of the spec as data: every page kind, its registers and their fields (R10, R36 and the register map rule of each chapter). -/

namespace Sys2Proof.Machine

/-- Access class of a field (R10). -/
inductive Cls where
  | s | t | l | ro | w1c | wo
  deriving DecidableEq, Repr

/-- Values a field accepts (R40). -/
inductive Lim where
  | any
  | range (lo hi : Nat)
  | oneOf (xs : List Nat)
  deriving DecidableEq, Repr

/-- Whether a register shows one of several stored copies chosen by a selector of its page. -/
inductive Bank where
  | one | ctx | slot | dom
  deriving DecidableEq, Repr

/-- A field of a register: low bit, width, class, reset value, accepted values. -/
structure Field where
  lo : Nat
  w : Nat
  cls : Cls
  rst : Nat
  lim : Lim := .any
  /-- a provisioning field: writable only through the physical function (R30) -/
  prov : Bool := false
  /-- reads 0 and ignores writes through the physical function (R30) -/
  hidden : Bool := false
  /-- its value follows from the state of the block -/
  derived : Bool := false
  deriving DecidableEq, Repr

/-- A register, or `count` registers of one layout at offsets `off + i × stride`. -/
structure Reg where
  off : Nat
  count : Nat
  stride : Nat
  bank : Bank
  /-- the low half of a pair: reading it latches the high half at the next offset -/
  latches : Bool
  fields : List Field
  deriving DecidableEq, Repr

/-- Kinds of register page (R25, R26, R28). -/
inductive PageKind where
  | lkp
  | vlkp
  | csq
  | mxa
  | drn
  | vec
  | atp
  | mrg
  | cyd
  | vcyd
  | mem
  | memch
  | bsn
  | whf
  | dch
  | dma
  | scb
  | syc
  | rte
  | lnk
  | lpt
  | fce
  | srv
  | vsrv
  | smp
  | sec
  | vsec
  | dbg
  | vdbg
  | hwd
  | hwdsum
  | vhwd
  | rst
  | bkp
  | pwr
  | vpwr
  | thm
  | age
  | vpci
  | pci
  | mgt
  deriving DecidableEq, Repr

/-- Registers of the `common` page (R36). -/
def commonRegs : List Reg := [
  -- BLK_ID: TYPE, DIE, CTXVIEW, INSTANCE
  ⟨0x000, 1, 4, .one, false, [{ lo := 24, w := 8, cls := .ro, rst := 0, derived := true },
    { lo := 20, w := 4, cls := .ro, rst := 0, derived := true },
    { lo := 19, w := 1, cls := .ro, rst := 0, derived := true },
    { lo := 0, w := 16, cls := .ro, rst := 0, derived := true }]⟩,
  -- BLK_VER: MAJOR, MINOR, STEPPING
  ⟨0x004, 1, 4, .one, false, [{ lo := 24, w := 8, cls := .ro, rst := 1 },
    { lo := 16, w := 8, cls := .ro, rst := 0 },
    { lo := 8, w := 8, cls := .ro, rst := 1 }]⟩,
  -- BLK_CTRL: BLK_RESET, INJECT, INJECT_COND, INJECT_SEV
  ⟨0x008, 1, 4, .one, false, [{ lo := 0, w := 1, cls := .wo, rst := 0 },
    { lo := 1, w := 1, cls := .wo, rst := 0 },
    { lo := 8, w := 8, cls := .l, rst := 0 },
    { lo := 16, w := 2, cls := .l, rst := 0 }]⟩,
  -- BLK_STATUS: IDLE, ERR, RESETTING
  ⟨0x00C, 1, 4, .one, false, [{ lo := 0, w := 1, cls := .ro, rst := 1, derived := true },
    { lo := 1, w := 1, cls := .ro, rst := 0, derived := true },
    { lo := 2, w := 1, cls := .ro, rst := 0, derived := true }]⟩,
  -- BLK_STICKY: STICKY
  ⟨0x010, 1, 4, .one, false, [{ lo := 0, w := 32, cls := .w1c, rst := 0 }]⟩,
  -- BLK_STICKY_EN: EN
  ⟨0x014, 1, 4, .one, false, [{ lo := 0, w := 32, cls := .l, rst := 0xffffffff }]⟩,
  -- BLK_FIRST: CODE, SEV, INJECTED, VALID
  ⟨0x018, 1, 4, .one, false, [{ lo := 0, w := 16, cls := .ro, rst := 0 },
    { lo := 16, w := 2, cls := .ro, rst := 0 },
    { lo := 18, w := 1, cls := .ro, rst := 0 },
    { lo := 31, w := 1, cls := .w1c, rst := 0 }]⟩,
  -- BLK_FIRST_TICK: TICK
  ⟨0x01C, 1, 4, .one, false, [{ lo := 0, w := 32, cls := .ro, rst := 0 }]⟩,
  -- BLK_FIRST_CTX: CTX, ATTRIBUTED
  ⟨0x020, 1, 4, .one, false, [{ lo := 0, w := 8, cls := .ro, rst := 0 },
    { lo := 8, w := 1, cls := .ro, rst := 0 }]⟩,
  -- BLK_ERRCNT: COUNT
  ⟨0x024, 1, 4, .one, false, [{ lo := 0, w := 32, cls := .ro, rst := 0 }]⟩,
  -- BLK_SECOND: CODE, SEV, INJECTED, VALID
  ⟨0x028, 1, 4, .one, false, [{ lo := 0, w := 16, cls := .ro, rst := 0 },
    { lo := 16, w := 2, cls := .ro, rst := 0 },
    { lo := 18, w := 1, cls := .ro, rst := 0 },
    { lo := 31, w := 1, cls := .w1c, rst := 0 }]⟩]

/-- Registers of the `lkp` page (R75). -/
def lkpRegs0 : List Reg := [
  -- LKP_TICK_CFG: SRC, TICK_OUT_EN, EPOCH_ALIGN
  ⟨0x100, 1, 4, .one, false, [{ lo := 0, w := 2, cls := .s, rst := 0, lim := (.range 0 2) },
    { lo := 2, w := 1, cls := .l, rst := 1 },
    { lo := 3, w := 1, cls := .s, rst := 0 }]⟩,
  -- LKP_TICK_CMD: START, STOP
  ⟨0x104, 1, 4, .one, false, [{ lo := 0, w := 1, cls := .wo, rst := 0 },
    { lo := 1, w := 1, cls := .wo, rst := 0 }]⟩,
  -- LKP_TICK_PERIOD: PERIOD
  ⟨0x108, 1, 4, .one, false, [{ lo := 0, w := 23, cls := .t, rst := 0x186a0, lim := (.range 2000 5000000) }]⟩,
  -- LKP_GUARD: GUARD
  ⟨0x10C, 1, 4, .one, false, [{ lo := 0, w := 23, cls := .t, rst := 0x3e8, lim := (.range 100 2500000) }]⟩,
  -- LKP_SWITCH_AT_LO: SWITCH_AT_LO
  ⟨0x110, 1, 4, .one, false, [{ lo := 0, w := 32, cls := .t, rst := 0 }]⟩,
  -- LKP_SWITCH_AT_HI: SWITCH_AT_HI
  ⟨0x114, 1, 4, .one, false, [{ lo := 0, w := 16, cls := .t, rst := 0 }]⟩,
  -- LKP_TICK_NOW_LO: NOW_LO
  ⟨0x118, 1, 4, .one, true, [{ lo := 0, w := 32, cls := .ro, rst := 0, derived := true }]⟩,
  -- LKP_TICK_NOW_HI: NOW_HI
  ⟨0x11C, 1, 4, .one, false, [{ lo := 0, w := 16, cls := .ro, rst := 0, derived := true }]⟩,
  -- LKP_TICK_LOAD_LO: LOAD_LO
  ⟨0x120, 1, 4, .one, false, [{ lo := 0, w := 32, cls := .s, rst := 0 }]⟩,
  -- LKP_TICK_LOAD_HI: LOAD_HI
  ⟨0x124, 1, 4, .one, false, [{ lo := 0, w := 16, cls := .s, rst := 0 }]⟩,
  -- LKP_EPOCH_LO: EPOCH_LO
  ⟨0x128, 1, 4, .one, false, [{ lo := 0, w := 32, cls := .s, rst := 0 }]⟩,
  -- LKP_EPOCH_HI: EPOCH_HI
  ⟨0x12C, 1, 4, .one, false, [{ lo := 0, w := 32, cls := .s, rst := 0 }]⟩,
  -- LKP_PIN_CFG: EDGE
  ⟨0x130, 1, 4, .one, false, [{ lo := 0, w := 1, cls := .s, rst := 0 }]⟩,
  -- LKP_SYNC_STATUS: STATE, OFFSET
  ⟨0x134, 1, 4, .one, false, [{ lo := 0, w := 2, cls := .ro, rst := 0 },
    { lo := 16, w := 16, cls := .ro, rst := 0 }]⟩,
  -- LKP_HOLDOVER_LIMIT: LIMIT
  ⟨0x138, 1, 4, .one, false, [{ lo := 0, w := 10, cls := .s, rst := 0x32, lim := (.range 1 1000) }]⟩,
  -- LKP_EDGE_TIME: LAST, MAX
  ⟨0x13C, 1, 4, .one, false, [{ lo := 0, w := 16, cls := .ro, rst := 0 },
    { lo := 16, w := 16, cls := .ro, rst := 0 }]⟩,
  -- LKP_MISSED_EDGES: COUNT
  ⟨0x140, 1, 4, .one, false, [{ lo := 0, w := 32, cls := .ro, rst := 0 }]⟩,
  -- LKP_OVERRUNS: COUNT
  ⟨0x144, 1, 4, .one, false, [{ lo := 0, w := 32, cls := .ro, rst := 0 }]⟩,
  -- LKP_CLUSTER_GRANTED: GRANTED
  ⟨0x148, 1, 4, .one, false, [{ lo := 0, w := 32, cls := .ro, rst := 0, derived := true }]⟩,
  -- LKP_CLUSTER_OWNER: OWNER
  ⟨0x14C, 8, 4, .one, false, [{ lo := 0, w := 32, cls := .ro, rst := 0, derived := true }]⟩]

/-- Registers of the `lkp` page (R75). -/
def lkpRegs1 : List Reg := [
  -- LKP_GRANTS: CONTEXTS, CLUSTERS, ZEROED
  ⟨0x16C, 1, 4, .one, false, [{ lo := 0, w := 6, cls := .ro, rst := 0, derived := true },
    { lo := 8, w := 6, cls := .ro, rst := 0, derived := true },
    { lo := 16, w := 6, cls := .ro, rst := 0, derived := true }]⟩]

/-- Registers of the `lkp` page (R75). -/
def lkpRegs : List Reg := lkpRegs0 ++ lkpRegs1

/-- Registers of the `vlkp` page (R76). -/
def vlkpRegs : List Reg := [
  -- LKP_CTX_RING_BASE_LO: BASE_LO
  ⟨0x100, 1, 4, .one, false, [{ lo := 12, w := 20, cls := .t, rst := 0, prov := true }]⟩,
  -- LKP_CTX_RING_BASE_HI: BASE_HI
  ⟨0x104, 1, 4, .one, false, [{ lo := 0, w := 16, cls := .t, rst := 0, prov := true }]⟩,
  -- LKP_CTX_RING_CFG: LOG2_SLOTS, MODE
  ⟨0x108, 1, 4, .one, false, [{ lo := 0, w := 4, cls := .t, rst := 6, lim := (.range 2 12), prov := true },
    { lo := 4, w := 2, cls := .t, rst := 0, lim := (.range 0 2) }]⟩,
  -- LKP_CTX_ADMITTED: COUNT
  ⟨0x10C, 1, 4, .one, false, [{ lo := 0, w := 32, cls := .ro, rst := 0 }]⟩,
  -- LKP_CTX_SKIPPED: COUNT
  ⟨0x110, 1, 4, .one, false, [{ lo := 0, w := 32, cls := .ro, rst := 0 }]⟩,
  -- LKP_CTX_AHEAD: COUNT
  ⟨0x114, 1, 4, .one, false, [{ lo := 0, w := 32, cls := .ro, rst := 0 }]⟩,
  -- LKP_CTX_SKIP_LAST: REASON, TICK
  ⟨0x118, 1, 4, .one, false, [{ lo := 0, w := 8, cls := .ro, rst := 0 },
    { lo := 8, w := 24, cls := .ro, rst := 0 }]⟩,
  -- LKP_CTX_CTRL: STOP, OVR_POLICY, HELD
  ⟨0x11C, 1, 4, .one, false, [{ lo := 0, w := 1, cls := .t, rst := 0 },
    { lo := 1, w := 1, cls := .t, rst := 0, prov := true },
    { lo := 2, w := 1, cls := .t, rst := 0, prov := true }]⟩,
  -- LKP_CTX_WEIGHT: WEIGHT
  ⟨0x120, 1, 4, .one, false, [{ lo := 0, w := 8, cls := .t, rst := 1, lim := (.range 1 255), prov := true }]⟩,
  -- LKP_CTX_DEFICIT: DEFICIT
  ⟨0x124, 1, 4, .one, false, [{ lo := 0, w := 16, cls := .ro, rst := 0 }]⟩,
  -- LKP_CTX_GRANT: GRANT
  ⟨0x128, 1, 4, .one, false, [{ lo := 0, w := 32, cls := .ro, rst := 0, derived := true }]⟩,
  -- LKP_CTX_RUN_START: START
  ⟨0x12C, 1, 4, .one, false, [{ lo := 0, w := 24, cls := .ro, rst := 0 }]⟩,
  -- LKP_CTX_LAST_DONE: DONE
  ⟨0x130, 1, 4, .one, false, [{ lo := 0, w := 24, cls := .ro, rst := 0 }]⟩,
  -- LKP_CTX_STEP: STATE, LATE_SENT, LAST_OUTCOME
  ⟨0x134, 1, 4, .one, false, [{ lo := 0, w := 2, cls := .ro, rst := 0, derived := true },
    { lo := 2, w := 1, cls := .ro, rst := 0, derived := true },
    { lo := 8, w := 3, cls := .ro, rst := 0, derived := true }]⟩,
  -- LKP_CTX_SPILLS: COUNT
  ⟨0x138, 1, 4, .one, false, [{ lo := 0, w := 32, cls := .ro, rst := 0 }]⟩,
  -- LKP_CTX_ABORTS: COUNT
  ⟨0x13C, 1, 4, .one, false, [{ lo := 0, w := 32, cls := .ro, rst := 0 }]⟩]

/-- Registers of the `csq` page (R78). -/
def csqRegs : List Reg := [
  -- CSQ_OWNER: CTX, GRANTED
  ⟨0x100, 1, 4, .one, false, [{ lo := 0, w := 8, cls := .ro, rst := 0, derived := true },
    { lo := 8, w := 1, cls := .ro, rst := 0, derived := true }]⟩,
  -- CSQ_STATE: PHASE
  ⟨0x104, 1, 4, .one, false, [{ lo := 0, w := 3, cls := .ro, rst := 0, derived := true }]⟩,
  -- CSQ_LAUNCHED: STARTED, PENDING
  ⟨0x108, 1, 4, .one, false, [{ lo := 0, w := 16, cls := .ro, rst := 0, derived := true },
    { lo := 16, w := 16, cls := .ro, rst := 0, derived := true }]⟩,
  -- CSQ_CORE_BUSY: BUSY
  ⟨0x10C, 1, 4, .one, false, [{ lo := 0, w := 16, cls := .ro, rst := 0, derived := true }]⟩,
  -- CSQ_HANDOVERS: COUNT
  ⟨0x110, 1, 4, .one, false, [{ lo := 0, w := 32, cls := .ro, rst := 0 }]⟩,
  -- CSQ_SLIP: MAX
  ⟨0x114, 1, 4, .one, false, [{ lo := 0, w := 24, cls := .ro, rst := 0 }]⟩,
  -- CSQ_SLIP_ALERT: THRESHOLD
  ⟨0x118, 1, 4, .one, false, [{ lo := 0, w := 24, cls := .l, rst := 0xffffff }]⟩]

/-- Registers of the `mxa` page (R102). -/
def mxaRegs : List Reg := [
  -- MXA_CFG: ARR_EN
  ⟨0x100, 1, 4, .one, false, [{ lo := 0, w := 4, cls := .s, rst := 0xf }]⟩,
  -- MXA_STATE: STATE
  ⟨0x104, 1, 4, .one, false, [{ lo := 0, w := 32, cls := .ro, rst := 0, derived := true }]⟩,
  -- MXA_QUEUE: DEPTH, HIGH
  ⟨0x108, 1, 4, .one, false, [{ lo := 0, w := 5, cls := .ro, rst := 0, derived := true },
    { lo := 8, w := 5, cls := .ro, rst := 0 }]⟩,
  -- MXA_CMD_SEQ: SEQ
  ⟨0x10C, 1, 4, .one, false, [{ lo := 0, w := 32, cls := .ro, rst := 0 }]⟩,
  -- MXA_REJECT: OP, ARR, COND, SEQ
  ⟨0x110, 1, 4, .one, false, [{ lo := 0, w := 4, cls := .ro, rst := 0 },
    { lo := 4, w := 4, cls := .ro, rst := 0 },
    { lo := 8, w := 8, cls := .ro, rst := 0 },
    { lo := 16, w := 16, cls := .ro, rst := 0 }]⟩,
  -- MXA_MACS_LO: MACS
  ⟨0x114, 1, 4, .one, true, [{ lo := 0, w := 32, cls := .ro, rst := 0 }]⟩,
  -- MXA_MACS_HI: MACS
  ⟨0x118, 1, 4, .one, false, [{ lo := 0, w := 32, cls := .ro, rst := 0 }]⟩,
  -- MXA_BUSY_CLKS_LO: BUSY_CLKS
  ⟨0x11C, 1, 4, .one, true, [{ lo := 0, w := 32, cls := .ro, rst := 0 }]⟩,
  -- MXA_BUSY_CLKS_HI: BUSY_CLKS
  ⟨0x120, 1, 4, .one, false, [{ lo := 0, w := 32, cls := .ro, rst := 0 }]⟩,
  -- MXA_STALL_SWAP: COUNT
  ⟨0x124, 1, 4, .one, false, [{ lo := 0, w := 32, cls := .ro, rst := 0 }]⟩,
  -- MXA_STALL_BANK: COUNT
  ⟨0x128, 1, 4, .one, false, [{ lo := 0, w := 32, cls := .ro, rst := 0 }]⟩,
  -- MXA_STALL_PORT: COUNT
  ⟨0x12C, 1, 4, .one, false, [{ lo := 0, w := 32, cls := .ro, rst := 0 }]⟩]

/-- Registers of the `drn` page (R126). -/
def drnRegs : List Reg := [
  -- DRN_STATE: PENDING, CART_WAIT, BUSY, DESC_LOADED
  ⟨0x100, 1, 4, .one, false, [{ lo := 0, w := 4, cls := .ro, rst := 0, derived := true },
    { lo := 4, w := 1, cls := .ro, rst := 0, derived := true },
    { lo := 5, w := 1, cls := .ro, rst := 0, derived := true },
    { lo := 16, w := 16, cls := .ro, rst := 0, derived := true }]⟩,
  -- DRN_ROWS_LO: ROWS
  ⟨0x104, 1, 4, .one, true, [{ lo := 0, w := 32, cls := .ro, rst := 0 }]⟩,
  -- DRN_ROWS_HI: ROWS
  ⟨0x108, 1, 4, .one, false, [{ lo := 0, w := 32, cls := .ro, rst := 0 }]⟩,
  -- DRN_STALL_CART: COUNT
  ⟨0x10C, 1, 4, .one, false, [{ lo := 0, w := 32, cls := .ro, rst := 0 }]⟩,
  -- DRN_CTX_SEL: CTX
  ⟨0x110, 1, 4, .one, false, [{ lo := 0, w := 8, cls := .l, rst := 0 }]⟩,
  -- DRN_CTX_CRUSH: COUNT
  ⟨0x114, 1, 4, .ctx, false, [{ lo := 0, w := 32, cls := .ro, rst := 0 }]⟩,
  -- DRN_CTX_SATCNT: COUNT
  ⟨0x118, 1, 4, .ctx, false, [{ lo := 0, w := 32, cls := .ro, rst := 0 }]⟩,
  -- DRN_CTX_CLAMP: COUNT
  ⟨0x11C, 1, 4, .ctx, false, [{ lo := 0, w := 32, cls := .ro, rst := 0 }]⟩,
  -- DRN_CTX_FLUSH: COUNT
  ⟨0x120, 1, 4, .ctx, false, [{ lo := 0, w := 32, cls := .ro, rst := 0 }]⟩,
  -- DRN_CTX_NANCNT: COUNT
  ⟨0x124, 1, 4, .ctx, false, [{ lo := 0, w := 32, cls := .ro, rst := 0 }]⟩,
  -- DRN_NAN_REC0: REC, VALID
  ⟨0x130, 1, 4, .one, false, [{ lo := 0, w := 31, cls := .ro, rst := 0 },
    { lo := 31, w := 1, cls := .w1c, rst := 0 }]⟩,
  -- DRN_NAN_REC1: REC
  ⟨0x134, 7, 4, .one, false, [{ lo := 0, w := 32, cls := .ro, rst := 0 }]⟩,
  -- DRN_SAT_REC0: REC, VALID
  ⟨0x150, 1, 4, .one, false, [{ lo := 0, w := 31, cls := .ro, rst := 0 },
    { lo := 31, w := 1, cls := .w1c, rst := 0 }]⟩,
  -- DRN_SAT_REC1: REC
  ⟨0x154, 7, 4, .one, false, [{ lo := 0, w := 32, cls := .ro, rst := 0 }]⟩,
  -- DRN_CTX_MODE: MODE
  ⟨0x180, 16, 4, .one, false, [{ lo := 0, w := 32, cls := .t, rst := 0 }]⟩]

/-- Registers of the `vec` page (R153). -/
def vecRegs0 : List Reg := [
  -- VEC_STATE: IQ_DEPTH, CARTS, BUSY, CART_WAIT, HELD
  ⟨0x100, 1, 4, .one, false, [{ lo := 0, w := 6, cls := .ro, rst := 0, derived := true },
    { lo := 8, w := 5, cls := .ro, rst := 0, derived := true },
    { lo := 16, w := 1, cls := .ro, rst := 0, derived := true },
    { lo := 17, w := 1, cls := .ro, rst := 0, derived := true },
    { lo := 18, w := 1, cls := .ro, rst := 0, derived := true }]⟩,
  -- VEC_QUEUE: IQ_HIGH, CART_HIGH
  ⟨0x104, 1, 4, .one, false, [{ lo := 0, w := 6, cls := .ro, rst := 0 },
    { lo := 8, w := 5, cls := .ro, rst := 0 }]⟩,
  -- VEC_INSN_SEQ: SEQ
  ⟨0x108, 1, 4, .one, false, [{ lo := 0, w := 32, cls := .ro, rst := 0 }]⟩,
  -- VEC_REJECT: GRP, FN, COND
  ⟨0x10C, 1, 4, .one, false, [{ lo := 0, w := 4, cls := .ro, rst := 0 },
    { lo := 4, w := 6, cls := .ro, rst := 0 },
    { lo := 16, w := 8, cls := .ro, rst := 0 }]⟩,
  -- VEC_REJECT_SEQ: SEQ
  ⟨0x110, 1, 4, .one, false, [{ lo := 0, w := 32, cls := .ro, rst := 0 }]⟩,
  -- VEC_OPS_LO: OPS
  ⟨0x114, 1, 4, .one, true, [{ lo := 0, w := 32, cls := .ro, rst := 0 }]⟩,
  -- VEC_OPS_HI: OPS
  ⟨0x118, 1, 4, .one, false, [{ lo := 0, w := 32, cls := .ro, rst := 0 }]⟩,
  -- VEC_BUSY_CLKS_LO: BUSY_CLKS
  ⟨0x11C, 1, 4, .one, true, [{ lo := 0, w := 32, cls := .ro, rst := 0 }]⟩,
  -- VEC_BUSY_CLKS_HI: BUSY_CLKS
  ⟨0x120, 1, 4, .one, false, [{ lo := 0, w := 32, cls := .ro, rst := 0 }]⟩,
  -- VEC_STALL_CART: COUNT
  ⟨0x124, 1, 4, .one, false, [{ lo := 0, w := 32, cls := .ro, rst := 0 }]⟩,
  -- VEC_STALL_WHARF: COUNT
  ⟨0x128, 1, 4, .one, false, [{ lo := 0, w := 32, cls := .ro, rst := 0 }]⟩,
  -- VEC_STALL_DCH: COUNT
  ⟨0x12C, 1, 4, .one, false, [{ lo := 0, w := 32, cls := .ro, rst := 0 }]⟩,
  -- VEC_CARTS_POPPED: COUNT
  ⟨0x130, 1, 4, .one, false, [{ lo := 0, w := 32, cls := .ro, rst := 0 }]⟩,
  -- VEC_CTX_SEL: CTX
  ⟨0x134, 1, 4, .one, false, [{ lo := 0, w := 8, cls := .l, rst := 0 }]⟩,
  -- VEC_CTX_RANGE: COUNT
  ⟨0x138, 1, 4, .ctx, false, [{ lo := 0, w := 32, cls := .ro, rst := 0 }]⟩,
  -- VEC_CTX_EMPTY: COUNT
  ⟨0x13C, 1, 4, .ctx, false, [{ lo := 0, w := 32, cls := .ro, rst := 0 }]⟩,
  -- VEC_CTX_ORPHAN: COUNT
  ⟨0x140, 1, 4, .ctx, false, [{ lo := 0, w := 32, cls := .ro, rst := 0 }]⟩,
  -- VEC_CTX_FLUSH: COUNT
  ⟨0x144, 1, 4, .ctx, false, [{ lo := 0, w := 32, cls := .ro, rst := 0 }]⟩,
  -- VEC_CTX_NANCNT: COUNT
  ⟨0x148, 1, 4, .ctx, false, [{ lo := 0, w := 32, cls := .ro, rst := 0 }]⟩,
  -- VEC_CTX_CLAMP: COUNT
  ⟨0x14C, 1, 4, .ctx, false, [{ lo := 0, w := 32, cls := .ro, rst := 0 }]⟩]

/-- Registers of the `vec` page (R153). -/
def vecRegs1 : List Reg := [
  -- VEC_CTX_CRUSH: COUNT
  ⟨0x150, 1, 4, .ctx, false, [{ lo := 0, w := 32, cls := .ro, rst := 0 }]⟩]

/-- Registers of the `vec` page (R153). -/
def vecRegs : List Reg := vecRegs0 ++ vecRegs1

/-- Registers of the `atp` page (R180). -/
def atpRegs : List Reg := [
  -- ATP_STATE: JQ_DEPTH, BUSY, CLAIM, PREFILL
  ⟨0x100, 1, 4, .one, false, [{ lo := 0, w := 4, cls := .ro, rst := 0, derived := true },
    { lo := 4, w := 1, cls := .ro, rst := 0, derived := true },
    { lo := 5, w := 1, cls := .ro, rst := 0, derived := true },
    { lo := 6, w := 1, cls := .ro, rst := 0, derived := true }]⟩,
  -- ATP_JOB_SEQ: SEQ
  ⟨0x104, 1, 4, .one, false, [{ lo := 0, w := 32, cls := .ro, rst := 0 }]⟩,
  -- ATP_REJECT: OP, COND, SEQ
  ⟨0x108, 1, 4, .one, false, [{ lo := 0, w := 2, cls := .ro, rst := 0 },
    { lo := 8, w := 8, cls := .ro, rst := 0 },
    { lo := 16, w := 16, cls := .ro, rst := 0 }]⟩,
  -- ATP_POS_LO: POS
  ⟨0x10C, 1, 4, .one, true, [{ lo := 0, w := 32, cls := .ro, rst := 0 }]⟩,
  -- ATP_POS_HI: POS
  ⟨0x110, 1, 4, .one, false, [{ lo := 0, w := 32, cls := .ro, rst := 0 }]⟩,
  -- ATP_BUSY_CLKS_LO: BUSY_CLKS
  ⟨0x114, 1, 4, .one, true, [{ lo := 0, w := 32, cls := .ro, rst := 0 }]⟩,
  -- ATP_BUSY_CLKS_HI: BUSY_CLKS
  ⟨0x118, 1, 4, .one, false, [{ lo := 0, w := 32, cls := .ro, rst := 0 }]⟩,
  -- ATP_COACHES: COUNT
  ⟨0x11C, 1, 4, .one, false, [{ lo := 0, w := 32, cls := .ro, rst := 0 }]⟩,
  -- ATP_STALL_COACH: COUNT
  ⟨0x120, 1, 4, .one, false, [{ lo := 0, w := 32, cls := .ro, rst := 0 }]⟩,
  -- ATP_STALL_CLAIM: COUNT
  ⟨0x124, 1, 4, .one, false, [{ lo := 0, w := 32, cls := .ro, rst := 0 }]⟩,
  -- ATP_CTX_SEL: CTX
  ⟨0x128, 1, 4, .one, false, [{ lo := 0, w := 8, cls := .l, rst := 0 }]⟩,
  -- ATP_CTX_EMPTY: COUNT
  ⟨0x12C, 1, 4, .ctx, false, [{ lo := 0, w := 32, cls := .ro, rst := 0 }]⟩,
  -- ATP_CTX_NANCNT: COUNT
  ⟨0x130, 1, 4, .ctx, false, [{ lo := 0, w := 32, cls := .ro, rst := 0 }]⟩,
  -- ATP_CTX_FLUSH: COUNT
  ⟨0x134, 1, 4, .ctx, false, [{ lo := 0, w := 32, cls := .ro, rst := 0 }]⟩,
  -- ATP_CTX_CLAMP: COUNT
  ⟨0x138, 1, 4, .ctx, false, [{ lo := 0, w := 32, cls := .ro, rst := 0 }]⟩]

/-- Registers of the `mrg` page (R182). -/
def mrgRegs : List Reg := [
  -- MRG_STATE: ARMED, BUSY
  ⟨0x100, 1, 4, .one, false, [{ lo := 0, w := 16, cls := .ro, rst := 0, derived := true },
    { lo := 16, w := 1, cls := .ro, rst := 0, derived := true }]⟩,
  -- MRG_BUF: RESERVED
  ⟨0x104, 1, 4, .one, false, [{ lo := 0, w := 21, cls := .ro, rst := 0, derived := true }]⟩,
  -- MRG_SLOT_SEL: SLOT
  ⟨0x108, 1, 4, .one, false, [{ lo := 0, w := 4, cls := .l, rst := 0 }]⟩,
  -- MRG_SLOT_CFG: CFG
  ⟨0x10C, 1, 4, .one, false, [{ lo := 0, w := 18, cls := .ro, rst := 0, derived := true }]⟩,
  -- MRG_SLOT_GOT: GOT
  ⟨0x110, 1, 4, .one, false, [{ lo := 0, w := 32, cls := .ro, rst := 0, derived := true }]⟩,
  -- MRG_MERGES_LO: MERGES
  ⟨0x114, 1, 4, .one, true, [{ lo := 0, w := 32, cls := .ro, rst := 0 }]⟩,
  -- MRG_MERGES_HI: MERGES
  ⟨0x118, 1, 4, .one, false, [{ lo := 0, w := 32, cls := .ro, rst := 0 }]⟩,
  -- MRG_COMPLETED: COUNT
  ⟨0x11C, 1, 4, .one, false, [{ lo := 0, w := 32, cls := .ro, rst := 0 }]⟩,
  -- MRG_NANCNT: COUNT
  ⟨0x120, 1, 4, .one, false, [{ lo := 0, w := 32, cls := .ro, rst := 0 }]⟩]

/-- Registers of the `cyd` page (R205). -/
def cydRegs : List Reg := [
  -- CYD_TABLE_LO: BASE_LO
  ⟨0x100, 1, 4, .one, false, [{ lo := 16, w := 16, cls := .s, rst := 0 }]⟩,
  -- CYD_TABLE_HI: BASE_HI
  ⟨0x104, 1, 4, .one, false, [{ lo := 0, w := 16, cls := .s, rst := 0 }]⟩,
  -- CYD_TABLE_SIZE: LOG2_ENTRIES
  ⟨0x108, 1, 4, .one, false, [{ lo := 0, w := 5, cls := .s, rst := 0x10, lim := (.range 16 24) }]⟩,
  -- CYD_STATE: QUEUED, EDGE_BUSY, COPY_BUSY
  ⟨0x10C, 1, 4, .one, false, [{ lo := 0, w := 8, cls := .ro, rst := 0, derived := true },
    { lo := 8, w := 1, cls := .ro, rst := 0 },
    { lo := 9, w := 1, cls := .ro, rst := 0 }]⟩,
  -- CYD_ENTRIES_FREE: COUNT
  ⟨0x110, 1, 4, .one, false, [{ lo := 0, w := 25, cls := .ro, rst := 0, derived := true }]⟩,
  -- CYD_LIMBO: COUNT
  ⟨0x114, 1, 4, .one, false, [{ lo := 0, w := 25, cls := .ro, rst := 0, derived := true }]⟩,
  -- CYD_CMDS: COUNT
  ⟨0x118, 1, 4, .one, false, [{ lo := 0, w := 32, cls := .ro, rst := 0 }]⟩,
  -- CYD_COPIES: COUNT
  ⟨0x11C, 1, 4, .one, false, [{ lo := 0, w := 32, cls := .ro, rst := 0 }]⟩,
  -- CYD_RECLAIMED: COUNT
  ⟨0x120, 1, 4, .one, false, [{ lo := 0, w := 32, cls := .ro, rst := 0 }]⟩,
  -- CYD_EVICTED: COUNT
  ⟨0x124, 1, 4, .one, false, [{ lo := 0, w := 32, cls := .ro, rst := 0 }]⟩,
  -- CYD_COPY_BYTES_LO: BYTES
  ⟨0x128, 1, 4, .one, true, [{ lo := 0, w := 32, cls := .ro, rst := 0 }]⟩,
  -- CYD_COPY_BYTES_HI: BYTES
  ⟨0x12C, 1, 4, .one, false, [{ lo := 0, w := 32, cls := .ro, rst := 0 }]⟩,
  -- CYD_EDGE_TIME: LAST, MAX
  ⟨0x130, 1, 4, .one, false, [{ lo := 0, w := 16, cls := .ro, rst := 0 },
    { lo := 16, w := 16, cls := .ro, rst := 0 }]⟩]

/-- Registers of the `vcyd` page (R206). -/
def vcydRegs : List Reg := [
  -- CYD_CTX_ARENA_LO: ARENA_LO
  ⟨0x100, 1, 4, .one, false, [{ lo := 16, w := 16, cls := .t, rst := 0, prov := true }]⟩,
  -- CYD_CTX_ARENA_HI: ARENA_HI
  ⟨0x104, 1, 4, .one, false, [{ lo := 0, w := 16, cls := .t, rst := 0, prov := true }]⟩,
  -- CYD_CTX_FRAME: SIZE, LOG2_CAP
  ⟨0x108, 1, 4, .one, false, [{ lo := 0, w := 3, cls := .t, rst := 2, lim := (.range 0 4), prov := true },
    { lo := 3, w := 5, cls := .t, rst := 0xc, lim := (.range 6 16), prov := true }]⟩,
  -- CYD_CTX_QUOTA: QUOTA
  ⟨0x10C, 1, 4, .one, false, [{ lo := 0, w := 24, cls := .t, rst := 0, prov := true }]⟩,
  -- CYD_CTX_MARK: MARK
  ⟨0x110, 1, 4, .one, false, [{ lo := 0, w := 24, cls := .t, rst := 0xffffff }]⟩,
  -- CYD_CTX_BERTHS: BASE, COUNT
  ⟨0x114, 1, 4, .one, false, [{ lo := 0, w := 14, cls := .t, rst := 0, prov := true },
    { lo := 16, w := 15, cls := .t, rst := 0, lim := (.range 0 16384), prov := true }]⟩,
  -- CYD_CTX_KEEP: SINK, RECENT, DECAY, EVICT_MAX
  ⟨0x118, 1, 4, .one, false, [{ lo := 0, w := 8, cls := .t, rst := 1 },
    { lo := 8, w := 8, cls := .t, rst := 4, lim := (.range 1 255) },
    { lo := 16, w := 4, cls := .t, rst := 0 },
    { lo := 20, w := 10, cls := .t, rst := 0x100, lim := (.range 1 1023) }]⟩,
  -- CYD_CTX_USED: COUNT
  ⟨0x11C, 1, 4, .one, false, [{ lo := 0, w := 24, cls := .ro, rst := 0, derived := true }]⟩,
  -- CYD_CTX_LIMBO: COUNT
  ⟨0x120, 1, 4, .one, false, [{ lo := 0, w := 24, cls := .ro, rst := 0, derived := true }]⟩,
  -- CYD_CTX_RESERVED: COUNT
  ⟨0x124, 1, 4, .one, false, [{ lo := 0, w := 24, cls := .ro, rst := 0, derived := true }]⟩,
  -- CYD_CMD_SEQ: SEQ
  ⟨0x128, 1, 4, .one, false, [{ lo := 0, w := 32, cls := .ro, rst := 0 }]⟩,
  -- CYD_CTX_COPIES: COUNT
  ⟨0x12C, 1, 4, .one, false, [{ lo := 0, w := 32, cls := .ro, rst := 0 }]⟩,
  -- CYD_CTX_EVICTIONS: COUNT
  ⟨0x130, 1, 4, .one, false, [{ lo := 0, w := 32, cls := .ro, rst := 0 }]⟩,
  -- CYD_CTX_REFUSED: COUNT
  ⟨0x134, 1, 4, .one, false, [{ lo := 0, w := 32, cls := .ro, rst := 0 }]⟩,
  -- CYD_CTX_BLOCKED: COUNT
  ⟨0x138, 1, 4, .one, false, [{ lo := 0, w := 32, cls := .ro, rst := 0 }]⟩]

/-- Registers of the `mem` page (R229). -/
def memRegs : List Reg := [
  -- MEM_PTDIR_LO: PTDIR_LO
  ⟨0x100, 1, 4, .one, false, [{ lo := 12, w := 20, cls := .s, rst := 0 }]⟩,
  -- MEM_PTDIR_HI: PTDIR_HI
  ⟨0x104, 1, 4, .one, false, [{ lo := 0, w := 5, cls := .s, rst := 0 }]⟩,
  -- MEM_XLAT_INV: XLAT_CTX, XLAT_ALL
  ⟨0x108, 1, 4, .one, false, [{ lo := 0, w := 8, cls := .wo, rst := 0 },
    { lo := 8, w := 1, cls := .wo, rst := 0 }]⟩,
  -- MEM_RAA_LIMIT: RAA_LIMIT
  ⟨0x10C, 1, 4, .one, false, [{ lo := 0, w := 14, cls := .s, rst := 0x800, lim := (.range 512 8192) }]⟩,
  -- MEM_SCRUB: HOURS
  ⟨0x110, 1, 4, .one, false, [{ lo := 0, w := 8, cls := .s, rst := 0x18, lim := (.range 1 168) }]⟩,
  -- MEM_IMB: RATIO, WINDOWS
  ⟨0x114, 1, 4, .one, false, [{ lo := 0, w := 4, cls := .l, rst := 4, lim := (.range 2 15) },
    { lo := 8, w := 8, cls := .l, rst := 0x64, lim := (.range 1 255) }]⟩,
  -- MEM_CTX0_SHARE: SHARE
  ⟨0x118, 1, 4, .one, false, [{ lo := 0, w := 8, cls := .t, rst := 0x20, lim := (.range 1 255) }]⟩,
  -- MEM_CE_LIMIT: LIMIT
  ⟨0x11C, 1, 4, .one, false, [{ lo := 0, w := 16, cls := .l, rst := 0x3e8 }]⟩,
  -- MEM_CE_COUNT: COUNT
  ⟨0x120, 1, 4, .one, false, [{ lo := 0, w := 32, cls := .ro, rst := 0 }]⟩,
  -- MEM_UE_COUNT: COUNT
  ⟨0x124, 1, 4, .one, false, [{ lo := 0, w := 32, cls := .ro, rst := 0 }]⟩,
  -- MEM_TREFRESH: COUNT
  ⟨0x128, 1, 4, .one, false, [{ lo := 0, w := 32, cls := .ro, rst := 0 }]⟩,
  -- MEM_RAA_TOP: CTX, N
  ⟨0x12C, 1, 4, .one, false, [{ lo := 0, w := 8, cls := .ro, rst := 0 },
    { lo := 8, w := 24, cls := .ro, rst := 0 }]⟩,
  -- MEM_IMB_LAST: CH, CTX
  ⟨0x130, 1, 4, .one, false, [{ lo := 0, w := 6, cls := .ro, rst := 0 },
    { lo := 8, w := 8, cls := .ro, rst := 0 }]⟩,
  -- MEM_POISON_SEL: SEL
  ⟨0x134, 1, 4, .one, false, [{ lo := 0, w := 4, cls := .l, rst := 0 }]⟩,
  -- MEM_POISON_LOG: LOG, VALID
  ⟨0x138, 1, 4, .one, false, [{ lo := 0, w := 31, cls := .ro, rst := 0, derived := true },
    { lo := 31, w := 1, cls := .ro, rst := 0, derived := true }]⟩]

/-- Registers of the `memch` page (R229). -/
def memchRegs : List Reg := [
  -- MEM_CH_BUSY: COUNT
  ⟨0x100, 4, 16, .one, false, [{ lo := 0, w := 32, cls := .ro, rst := 0 }]⟩,
  -- MEM_CH_CE: COUNT
  ⟨0x104, 4, 16, .one, false, [{ lo := 0, w := 32, cls := .ro, rst := 0 }]⟩,
  -- MEM_CH_TREF: COUNT
  ⟨0x108, 4, 16, .one, false, [{ lo := 0, w := 32, cls := .ro, rst := 0 }]⟩,
  -- MEM_CH_OCC: OCC
  ⟨0x10C, 4, 16, .one, false, [{ lo := 0, w := 16, cls := .ro, rst := 0 }]⟩]

/-- Registers of the `bsn` page (R230). -/
def bsnRegs : List Reg := [
  -- BSN_WAYMASK: WAYMASK
  ⟨0x100, 4, 4, .one, false, [{ lo := 0, w := 16, cls := .t, rst := 0xffff, lim := (.range 1 65535) }]⟩,
  -- BSN_CTX_PART: PART
  ⟨0x110, 16, 4, .one, false, [{ lo := 0, w := 32, cls := .t, rst := 0 }]⟩,
  -- BSN_HITS_LO: HITS
  ⟨0x150, 1, 4, .one, true, [{ lo := 0, w := 32, cls := .ro, rst := 0 }]⟩,
  -- BSN_HITS_HI: HITS
  ⟨0x154, 1, 4, .one, false, [{ lo := 0, w := 32, cls := .ro, rst := 0 }]⟩,
  -- BSN_MISSES_LO: MISSES
  ⟨0x158, 1, 4, .one, true, [{ lo := 0, w := 32, cls := .ro, rst := 0 }]⟩,
  -- BSN_MISSES_HI: MISSES
  ⟨0x15C, 1, 4, .one, false, [{ lo := 0, w := 32, cls := .ro, rst := 0 }]⟩,
  -- BSN_ATOMICS_LO: ATOMICS
  ⟨0x160, 1, 4, .one, true, [{ lo := 0, w := 32, cls := .ro, rst := 0 }]⟩,
  -- BSN_ATOMICS_HI: ATOMICS
  ⟨0x164, 1, 4, .one, false, [{ lo := 0, w := 32, cls := .ro, rst := 0 }]⟩]

/-- Registers of the `whf` page (R231). -/
def whfRegs : List Reg := [
  -- WHF_CE: COUNT
  ⟨0x100, 1, 4, .one, false, [{ lo := 0, w := 32, cls := .ro, rst := 0 }]⟩,
  -- WHF_CONFLICT: COUNT
  ⟨0x104, 1, 4, .one, false, [{ lo := 0, w := 32, cls := .ro, rst := 0 }]⟩,
  -- WHF_ZEROED: COUNT
  ⟨0x108, 1, 4, .one, false, [{ lo := 0, w := 32, cls := .ro, rst := 0 }]⟩]

/-- Registers of the `dch` page (R231). -/
def dchRegs : List Reg := [
  -- DCH_HITS: COUNT
  ⟨0x100, 1, 4, .one, false, [{ lo := 0, w := 32, cls := .ro, rst := 0 }]⟩,
  -- DCH_MISSES: COUNT
  ⟨0x104, 1, 4, .one, false, [{ lo := 0, w := 32, cls := .ro, rst := 0 }]⟩,
  -- DCH_INVAL: COUNT
  ⟨0x108, 1, 4, .one, false, [{ lo := 0, w := 32, cls := .ro, rst := 0 }]⟩]

/-- Registers of the `dma` page (R231). -/
def dmaRegs : List Reg := [
  -- DMA_STATE: DEPTH, INFLIGHT
  ⟨0x100, 1, 4, .one, false, [{ lo := 0, w := 5, cls := .ro, rst := 0, derived := true },
    { lo := 8, w := 3, cls := .ro, rst := 0, derived := true }]⟩,
  -- DMA_CMD_SEQ: SEQ
  ⟨0x104, 1, 4, .one, false, [{ lo := 0, w := 32, cls := .ro, rst := 0 }]⟩,
  -- DMA_REJECT: OP, COND, SEQ
  ⟨0x108, 1, 4, .one, false, [{ lo := 0, w := 4, cls := .ro, rst := 0 },
    { lo := 8, w := 8, cls := .ro, rst := 0 },
    { lo := 16, w := 16, cls := .ro, rst := 0 }]⟩,
  -- DMA_BYTES_LO: BYTES
  ⟨0x10C, 1, 4, .one, true, [{ lo := 0, w := 32, cls := .ro, rst := 0 }]⟩,
  -- DMA_BYTES_HI: BYTES
  ⟨0x110, 1, 4, .one, false, [{ lo := 0, w := 32, cls := .ro, rst := 0 }]⟩]

/-- Registers of the `scb` page (R257). -/
def scbRegs : List Reg := [
  -- SCB_STATE: USED, HIGH, FULL_WAIT, CONFLICT_WAIT, FENCE_WAIT
  ⟨0x100, 1, 4, .one, false, [{ lo := 0, w := 6, cls := .ro, rst := 0, derived := true },
    { lo := 8, w := 6, cls := .ro, rst := 0 },
    { lo := 16, w := 1, cls := .ro, rst := 0, derived := true },
    { lo := 17, w := 1, cls := .ro, rst := 0, derived := true },
    { lo := 18, w := 1, cls := .ro, rst := 0, derived := true }]⟩,
  -- SCB_STALL_FULL: COUNT
  ⟨0x104, 1, 4, .one, false, [{ lo := 0, w := 32, cls := .ro, rst := 0 }]⟩,
  -- SCB_STALL_CONFLICT: COUNT
  ⟨0x108, 1, 4, .one, false, [{ lo := 0, w := 32, cls := .ro, rst := 0 }]⟩,
  -- SCB_FENCE_CLKS: COUNT
  ⟨0x10C, 1, 4, .one, false, [{ lo := 0, w := 32, cls := .ro, rst := 0 }]⟩,
  -- SCB_FENCES: COUNT
  ⟨0x110, 1, 4, .one, false, [{ lo := 0, w := 32, cls := .ro, rst := 0 }]⟩,
  -- SCB_FENCE_MAX: CLKS, SCOPE
  ⟨0x114, 1, 4, .one, false, [{ lo := 0, w := 24, cls := .ro, rst := 0 },
    { lo := 24, w := 2, cls := .ro, rst := 0 }]⟩]

/-- Registers of the `syc` page (R259). -/
def sycRegs : List Reg := [
  -- SYC_STATE: WAITING
  ⟨0x100, 1, 4, .one, false, [{ lo := 0, w := 16, cls := .ro, rst := 0, derived := true }]⟩,
  -- SYC_INCS: COUNT
  ⟨0x104, 1, 4, .one, false, [{ lo := 0, w := 32, cls := .ro, rst := 0 }]⟩,
  -- SYC_WAIT_CLKS: COUNT
  ⟨0x108, 1, 4, .one, false, [{ lo := 0, w := 32, cls := .ro, rst := 0 }]⟩,
  -- SYC_MISMATCH: COUNTER, WAITER, PRODUCER, REL_SCOPE, ACQ_SCOPE, AGENT, VALID
  ⟨0x10C, 1, 4, .one, false, [{ lo := 0, w := 8, cls := .ro, rst := 0 },
    { lo := 8, w := 4, cls := .ro, rst := 0 },
    { lo := 12, w := 4, cls := .ro, rst := 0 },
    { lo := 16, w := 2, cls := .ro, rst := 0 },
    { lo := 18, w := 2, cls := .ro, rst := 0 },
    { lo := 20, w := 1, cls := .ro, rst := 0 },
    { lo := 31, w := 1, cls := .w1c, rst := 0 }]⟩,
  -- SYC_CNT: VALUE
  ⟨0x400, 255, 4, .one, false, [{ lo := 0, w := 32, cls := .ro, rst := 0, derived := true }]⟩]

/-- Registers of the `rte` page (R281). -/
def rteRegs0 : List Reg := [
  -- RTE_CFG: POOL, FETCH_WEIGHT
  ⟨0x100, 1, 4, .one, false, [{ lo := 0, w := 12, cls := .t, rst := 0x800 },
    { lo := 16, w := 4, cls := .t, rst := 4, lim := (.range 1 15) }]⟩,
  -- RTE_STATE: JQ_DEPTH, BUSY, FETCHING, SERVING
  ⟨0x104, 1, 4, .one, false, [{ lo := 0, w := 7, cls := .ro, rst := 0, derived := true },
    { lo := 7, w := 1, cls := .ro, rst := 0, derived := true },
    { lo := 8, w := 10, cls := .ro, rst := 0, derived := true },
    { lo := 18, w := 10, cls := .ro, rst := 0, derived := true }]⟩,
  -- RTE_POOL_FREE: FREE
  ⟨0x108, 1, 4, .one, false, [{ lo := 0, w := 12, cls := .ro, rst := 0 }]⟩,
  -- RTE_JOB_SEQ: SEQ
  ⟨0x10C, 1, 4, .one, false, [{ lo := 0, w := 32, cls := .ro, rst := 0 }]⟩,
  -- RTE_REJECT: CTX, COND, SEQ
  ⟨0x110, 1, 4, .one, false, [{ lo := 0, w := 8, cls := .ro, rst := 0 },
    { lo := 8, w := 8, cls := .ro, rst := 0 },
    { lo := 16, w := 16, cls := .ro, rst := 0 }]⟩,
  -- RTE_FETCH_BYTES_LO: BYTES
  ⟨0x114, 1, 4, .one, true, [{ lo := 0, w := 32, cls := .ro, rst := 0 }]⟩,
  -- RTE_FETCH_BYTES_HI: BYTES
  ⟨0x118, 1, 4, .one, false, [{ lo := 0, w := 32, cls := .ro, rst := 0 }]⟩,
  -- RTE_SERVE_BYTES_LO: BYTES
  ⟨0x11C, 1, 4, .one, true, [{ lo := 0, w := 32, cls := .ro, rst := 0 }]⟩,
  -- RTE_SERVE_BYTES_HI: BYTES
  ⟨0x120, 1, 4, .one, false, [{ lo := 0, w := 32, cls := .ro, rst := 0 }]⟩,
  -- RTE_SLOTS_USED: USED
  ⟨0x124, 1, 4, .one, false, [{ lo := 0, w := 15, cls := .ro, rst := 0, derived := true }]⟩,
  -- RTE_CTX_SEL: CTX
  ⟨0x128, 1, 4, .one, false, [{ lo := 0, w := 8, cls := .l, rst := 0 }]⟩,
  -- RTE_CTX_DIR_LO: DIR_LO
  ⟨0x12C, 1, 4, .ctx, false, [{ lo := 6, w := 26, cls := .t, rst := 0 }]⟩,
  -- RTE_CTX_DIR_HI: DIR_HI
  ⟨0x130, 1, 4, .ctx, false, [{ lo := 0, w := 16, cls := .t, rst := 0 }]⟩,
  -- RTE_CTX_CACHE_LO: CACHE_LO
  ⟨0x134, 1, 4, .ctx, false, [{ lo := 0, w := 32, cls := .t, rst := 0 }]⟩,
  -- RTE_CTX_CACHE_HI: CACHE_HI
  ⟨0x138, 1, 4, .ctx, false, [{ lo := 0, w := 16, cls := .t, rst := 0 }]⟩,
  -- RTE_CTX_CACHE_CFG: SLOT_LOG2, SLOTS
  ⟨0x13C, 1, 4, .ctx, false, [{ lo := 0, w := 5, cls := .t, rst := 0x16, lim := (.range 16 26) },
    { lo := 8, w := 13, cls := .t, rst := 0, lim := (.range 0 4096) }]⟩,
  -- RTE_CTX_LAYOUT: EXPERTS, LAYERS
  ⟨0x140, 1, 4, .ctx, false, [{ lo := 0, w := 13, cls := .t, rst := 0 },
    { lo := 16, w := 11, cls := .t, rst := 0, lim := (.range 0 1024) }]⟩,
  -- RTE_CTX_JOBS: COUNT
  ⟨0x144, 1, 4, .ctx, false, [{ lo := 0, w := 32, cls := .ro, rst := 0 }]⟩,
  -- RTE_CTX_HITS: COUNT
  ⟨0x148, 1, 4, .ctx, false, [{ lo := 0, w := 32, cls := .ro, rst := 0 }]⟩,
  -- RTE_CTX_FETCHES: COUNT
  ⟨0x14C, 1, 4, .ctx, false, [{ lo := 0, w := 32, cls := .ro, rst := 0 }]⟩]

/-- Registers of the `rte` page (R281). -/
def rteRegs1 : List Reg := [
  -- RTE_CTX_SERVED: COUNT
  ⟨0x150, 1, 4, .ctx, false, [{ lo := 0, w := 32, cls := .ro, rst := 0 }]⟩,
  -- RTE_CTX_DROPPED: COUNT
  ⟨0x154, 1, 4, .ctx, false, [{ lo := 0, w := 32, cls := .ro, rst := 0 }]⟩,
  -- RTE_CTX_SPILLED: COUNT
  ⟨0x158, 1, 4, .ctx, false, [{ lo := 0, w := 32, cls := .ro, rst := 0 }]⟩,
  -- RTE_CTX_RENORMED: COUNT
  ⟨0x15C, 1, 4, .ctx, false, [{ lo := 0, w := 32, cls := .ro, rst := 0 }]⟩,
  -- RTE_CTX_UNFETCH: COUNT
  ⟨0x160, 1, 4, .ctx, false, [{ lo := 0, w := 32, cls := .ro, rst := 0 }]⟩,
  -- RTE_CTX_SKIPPED: COUNT
  ⟨0x164, 1, 4, .ctx, false, [{ lo := 0, w := 32, cls := .ro, rst := 0 }]⟩,
  -- RTE_CTX_REFUSED: COUNT
  ⟨0x168, 1, 4, .ctx, false, [{ lo := 0, w := 32, cls := .ro, rst := 0 }]⟩]

/-- Registers of the `rte` page (R281). -/
def rteRegs : List Reg := rteRegs0 ++ rteRegs1

/-- Registers of the `lnk` page (R309). -/
def lnkRegs : List Reg := [
  -- LNK_CFG: EN, LOOPBACK
  ⟨0x100, 1, 4, .one, false, [{ lo := 0, w := 1, cls := .s, rst := 1 },
    { lo := 1, w := 2, cls := .s, rst := 0, lim := (.range 0 2) }]⟩,
  -- LNK_LLDP_CFG: PERIOD
  ⟨0x104, 1, 4, .one, false, [{ lo := 0, w := 16, cls := .l, rst := 0x64, lim := (.range 1 30000) }]⟩,
  -- LNK_STATUS: STATE, LANES, QREASON, LP
  ⟨0x108, 1, 4, .one, false, [{ lo := 0, w := 3, cls := .ro, rst := 1, derived := true },
    { lo := 8, w := 4, cls := .ro, rst := 0, derived := true },
    { lo := 12, w := 3, cls := .ro, rst := 0, derived := true },
    { lo := 16, w := 5, cls := .ro, rst := 0x1f, derived := true }]⟩,
  -- LNK_PEER: MEMBER, LINK, VALID
  ⟨0x10C, 1, 4, .one, false, [{ lo := 0, w := 12, cls := .ro, rst := 0, derived := true },
    { lo := 12, w := 5, cls := .ro, rst := 0, derived := true },
    { lo := 31, w := 1, cls := .ro, rst := 0, derived := true }]⟩,
  -- LNK_PEER_SERIAL_LO: SERIAL
  ⟨0x110, 1, 4, .one, false, [{ lo := 0, w := 32, cls := .ro, rst := 0, derived := true }]⟩,
  -- LNK_PEER_SERIAL_HI: SERIAL
  ⟨0x114, 1, 4, .one, false, [{ lo := 0, w := 32, cls := .ro, rst := 0, derived := true }]⟩,
  -- LNK_PEER_VER: MINOR, MAJOR
  ⟨0x118, 1, 4, .one, false, [{ lo := 0, w := 8, cls := .ro, rst := 0, derived := true },
    { lo := 8, w := 8, cls := .ro, rst := 0, derived := true }]⟩,
  -- LNK_FEC_CW_LO: CW
  ⟨0x11C, 1, 4, .one, true, [{ lo := 0, w := 32, cls := .ro, rst := 0 }]⟩,
  -- LNK_FEC_CW_HI: CW
  ⟨0x120, 1, 4, .one, false, [{ lo := 0, w := 32, cls := .ro, rst := 0 }]⟩,
  -- LNK_FEC_SYM: COUNT
  ⟨0x124, 1, 4, .one, false, [{ lo := 0, w := 32, cls := .ro, rst := 0 }]⟩,
  -- LNK_FEC_UNCORR: COUNT
  ⟨0x128, 1, 4, .one, false, [{ lo := 0, w := 32, cls := .ro, rst := 0 }]⟩,
  -- LNK_DOWNS: COUNT
  ⟨0x12C, 1, 4, .one, false, [{ lo := 0, w := 32, cls := .ro, rst := 0 }]⟩,
  -- LNK_LAST_DOWN: TICK
  ⟨0x130, 1, 4, .one, false, [{ lo := 0, w := 32, cls := .ro, rst := 0 }]⟩,
  -- LNK_RETX: COUNT
  ⟨0x134, 1, 4, .one, false, [{ lo := 0, w := 32, cls := .ro, rst := 0 }]⟩]

/-- Registers of the `lpt` page (R310). -/
def lptRegs : List Reg := [
  -- LPT_CFG: ROLE, IPV6, MACSEC, VLAN_EN, PCP, VID
  ⟨0x100, 1, 4, .one, false, [{ lo := 0, w := 2, cls := .t, rst := 0, lim := (.range 0 2) },
    { lo := 2, w := 1, cls := .s, rst := 1 },
    { lo := 3, w := 1, cls := .s, rst := 0 },
    { lo := 4, w := 1, cls := .s, rst := 0 },
    { lo := 5, w := 3, cls := .s, rst := 0 },
    { lo := 8, w := 12, cls := .s, rst := 0 }]⟩,
  -- LPT_LINKS: LINKS
  ⟨0x104, 1, 4, .one, false, [{ lo := 0, w := 18, cls := .t, rst := 0 }]⟩,
  -- LPT_ACTIVE: ACTIVE
  ⟨0x108, 1, 4, .one, false, [{ lo := 0, w := 18, cls := .ro, rst := 0, derived := true }]⟩,
  -- LPT_MAC_LO: MAC
  ⟨0x10C, 1, 4, .one, false, [{ lo := 0, w := 32, cls := .s, rst := 0 }]⟩,
  -- LPT_MAC_HI: MAC
  ⟨0x110, 1, 4, .one, false, [{ lo := 0, w := 16, cls := .s, rst := 0 }]⟩,
  -- LPT_IP: IP
  ⟨0x114, 4, 4, .one, false, [{ lo := 0, w := 32, cls := .s, rst := 0 }]⟩,
  -- LPT_GW_MAC_LO: GW_MAC
  ⟨0x124, 1, 4, .one, false, [{ lo := 0, w := 32, cls := .s, rst := 0 }]⟩,
  -- LPT_GW_MAC_HI: GW_MAC
  ⟨0x128, 1, 4, .one, false, [{ lo := 0, w := 16, cls := .s, rst := 0 }]⟩,
  -- LPT_UDP: UDP
  ⟨0x12C, 1, 4, .one, false, [{ lo := 0, w := 16, cls := .s, rst := 0x4d58 }]⟩,
  -- LPT_TX_BYTES_LO: BYTES
  ⟨0x130, 1, 4, .one, true, [{ lo := 0, w := 32, cls := .ro, rst := 0 }]⟩,
  -- LPT_TX_BYTES_HI: BYTES
  ⟨0x134, 1, 4, .one, false, [{ lo := 0, w := 32, cls := .ro, rst := 0 }]⟩,
  -- LPT_RX_BYTES_LO: BYTES
  ⟨0x138, 1, 4, .one, true, [{ lo := 0, w := 32, cls := .ro, rst := 0 }]⟩,
  -- LPT_RX_BYTES_HI: BYTES
  ⟨0x13C, 1, 4, .one, false, [{ lo := 0, w := 32, cls := .ro, rst := 0 }]⟩,
  -- LPT_DROPS: COUNT
  ⟨0x140, 1, 4, .one, false, [{ lo := 0, w := 32, cls := .ro, rst := 0 }]⟩,
  -- LPT_MACSEC: SECY_UP, ICV_FAIL
  ⟨0x144, 1, 4, .one, false, [{ lo := 0, w := 1, cls := .ro, rst := 0 },
    { lo := 16, w := 16, cls := .ro, rst := 0 }]⟩,
  -- LPT_SWITCH_AT_LO: SWITCH_AT_LO
  ⟨0x148, 1, 4, .one, false, [{ lo := 0, w := 32, cls := .l, rst := 0 }]⟩,
  -- LPT_SWITCH_AT_HI: SWITCH_AT_HI
  ⟨0x14C, 1, 4, .one, false, [{ lo := 0, w := 16, cls := .l, rst := 0 }]⟩]

/-- Registers of the `fce` page (R311). -/
def fceRegs0 : List Reg := [
  -- FCE_CFG: ACK_TMO, RETRY_MAX, DOMAIN, TIMING_SLOT, PTP_FRONT
  ⟨0x100, 1, 4, .one, false, [{ lo := 0, w := 8, cls := .l, rst := 8, lim := (.range 2 255) },
    { lo := 8, w := 4, cls := .l, rst := 3, lim := (.range 1 15) },
    { lo := 12, w := 8, cls := .s, rst := 0, lim := (.range 0 127) },
    { lo := 20, w := 5, cls := .t, rst := 0 },
    { lo := 25, w := 1, cls := .s, rst := 0 }]⟩,
  -- FCE_STATE: INSTANCES, RETX_FULL
  ⟨0x104, 1, 4, .one, false, [{ lo := 0, w := 16, cls := .ro, rst := 0, derived := true },
    { lo := 16, w := 1, cls := .ro, rst := 0, derived := true }]⟩,
  -- FCE_OUI: OUI, PROTO
  ⟨0x108, 1, 4, .one, false, [{ lo := 0, w := 24, cls := .ro, rst := 0, derived := true },
    { lo := 24, w := 8, cls := .ro, rst := 0x10 }]⟩,
  -- FCE_PLAN_SEL: SLOT
  ⟨0x10C, 1, 4, .one, false, [{ lo := 0, w := 5, cls := .l, rst := 0 }]⟩,
  -- FCE_PLAN_ADDR_LO: ADDR_LO
  ⟨0x110, 1, 4, .slot, false, [{ lo := 6, w := 26, cls := .t, rst := 0 }]⟩,
  -- FCE_PLAN_ADDR_HI: ADDR_HI
  ⟨0x114, 1, 4, .slot, false, [{ lo := 0, w := 16, cls := .t, rst := 0 }]⟩,
  -- FCE_PLAN_CMD: LOAD, ARM, DISARM, CLEAR
  ⟨0x118, 1, 4, .one, false, [{ lo := 0, w := 1, cls := .wo, rst := 0 },
    { lo := 1, w := 1, cls := .wo, rst := 0 },
    { lo := 2, w := 1, cls := .wo, rst := 0 },
    { lo := 3, w := 1, cls := .wo, rst := 0 }]⟩,
  -- FCE_PLAN_ARM_AT_LO: ARM_AT_LO
  ⟨0x11C, 1, 4, .slot, false, [{ lo := 0, w := 32, cls := .t, rst := 0 }]⟩,
  -- FCE_PLAN_ARM_AT_HI: ARM_AT_HI
  ⟨0x120, 1, 4, .slot, false, [{ lo := 0, w := 16, cls := .t, rst := 0 }]⟩,
  -- FCE_PLAN_STATE: STATE, CTX, FLIGHT
  ⟨0x124, 1, 4, .slot, false, [{ lo := 0, w := 2, cls := .ro, rst := 0, derived := true },
    { lo := 8, w := 8, cls := .ro, rst := 0, derived := true },
    { lo := 16, w := 16, cls := .ro, rst := 0, derived := true }]⟩,
  -- FCE_PLAN_ERR: ERR
  ⟨0x128, 1, 4, .slot, false, [{ lo := 0, w := 8, cls := .ro, rst := 0 }]⟩,
  -- FCE_PLAN_HASH: HASH
  ⟨0x12C, 8, 4, .slot, false, [{ lo := 0, w := 32, cls := .ro, rst := 0, derived := true }]⟩,
  -- FCE_ABORT_REC0: CAUSE, MEMBER, VALID
  ⟨0x14C, 1, 4, .slot, false, [{ lo := 0, w := 8, cls := .ro, rst := 0 },
    { lo := 8, w := 12, cls := .ro, rst := 0 },
    { lo := 31, w := 1, cls := .w1c, rst := 0 }]⟩,
  -- FCE_ABORT_REC1: TICK
  ⟨0x150, 1, 4, .slot, false, [{ lo := 0, w := 32, cls := .ro, rst := 0 }]⟩,
  -- FCE_ABORT_REC2: COLL, INST
  ⟨0x154, 1, 4, .slot, false, [{ lo := 0, w := 16, cls := .ro, rst := 0 },
    { lo := 16, w := 8, cls := .ro, rst := 0 }]⟩,
  -- FCE_ABORT_REC3: FAILED
  ⟨0x158, 1, 4, .slot, false, [{ lo := 0, w := 32, cls := .ro, rst := 0 }]⟩,
  -- FCE_CTX_SEL: CTX
  ⟨0x15C, 1, 4, .one, false, [{ lo := 0, w := 8, cls := .l, rst := 0 }]⟩,
  -- FCE_CTX_PLAN: SLOT, BOUND
  ⟨0x160, 1, 4, .ctx, false, [{ lo := 0, w := 5, cls := .t, rst := 0 },
    { lo := 5, w := 1, cls := .t, rst := 0 }]⟩,
  -- FCE_CTX_CTAB_LO: CTAB_LO
  ⟨0x164, 1, 4, .ctx, false, [{ lo := 6, w := 26, cls := .t, rst := 0 }]⟩,
  -- FCE_CTX_CTAB_HI: CTAB_HI
  ⟨0x168, 1, 4, .ctx, false, [{ lo := 0, w := 16, cls := .t, rst := 0 }]⟩]

/-- Registers of the `fce` page (R311). -/
def fceRegs1 : List Reg := [
  -- FCE_CTX_CTAB_LOG2: LOG2
  ⟨0x16C, 1, 4, .ctx, false, [{ lo := 0, w := 5, cls := .t, rst := 0, lim := (.range 0 16) }]⟩,
  -- FCE_CTX_COLLS: COUNT
  ⟨0x170, 1, 4, .ctx, false, [{ lo := 0, w := 32, cls := .ro, rst := 0 }]⟩,
  -- FCE_CTX_FAILED: COUNT
  ⟨0x174, 1, 4, .ctx, false, [{ lo := 0, w := 32, cls := .ro, rst := 0 }]⟩,
  -- FCE_CTX_DUP: COUNT
  ⟨0x178, 1, 4, .ctx, false, [{ lo := 0, w := 32, cls := .ro, rst := 0 }]⟩,
  -- FCE_CTX_RETX: COUNT
  ⟨0x17C, 1, 4, .ctx, false, [{ lo := 0, w := 32, cls := .ro, rst := 0 }]⟩,
  -- FCE_CTX_RWRITES: COUNT
  ⟨0x180, 1, 4, .ctx, false, [{ lo := 0, w := 32, cls := .ro, rst := 0 }]⟩,
  -- FCE_CTX_STRAY: COUNT
  ⟨0x184, 1, 4, .ctx, false, [{ lo := 0, w := 32, cls := .ro, rst := 0 }]⟩]

/-- Registers of the `fce` page (R311). -/
def fceRegs : List Reg := fceRegs0 ++ fceRegs1

/-- Registers of the `srv` page (R329). -/
def srvRegs : List Reg := [
  -- SRV_CFG: UDP
  ⟨0x100, 1, 4, .one, false, [{ lo := 0, w := 16, cls := .s, rst := 0x4d59 }]⟩,
  -- SRV_OPEN: OPEN
  ⟨0x104, 1, 4, .one, false, [{ lo := 0, w := 15, cls := .ro, rst := 0, derived := true }]⟩,
  -- SRV_FRAMES_IN: COUNT
  ⟨0x108, 1, 4, .one, false, [{ lo := 0, w := 32, cls := .ro, rst := 0 }]⟩,
  -- SRV_FRAMES_OUT: COUNT
  ⟨0x10C, 1, 4, .one, false, [{ lo := 0, w := 32, cls := .ro, rst := 0 }]⟩,
  -- SRV_DROPS: COUNT
  ⟨0x110, 1, 4, .one, false, [{ lo := 0, w := 32, cls := .ro, rst := 0 }]⟩,
  -- SRV_BERTH_SEL: BERTH
  ⟨0x114, 1, 4, .one, false, [{ lo := 0, w := 14, cls := .l, rst := 0 }]⟩,
  -- SRV_BERTH_STATE: STATE, CTX
  ⟨0x118, 1, 4, .one, false, [{ lo := 0, w := 3, cls := .ro, rst := 0, derived := true },
    { lo := 8, w := 8, cls := .ro, rst := 0, derived := true }]⟩,
  -- SRV_BERTH_POSITION: POSITION
  ⟨0x11C, 1, 4, .one, false, [{ lo := 0, w := 32, cls := .ro, rst := 0, derived := true }]⟩]

/-- Registers of the `vsrv` page (R330). -/
def vsrvRegs0 : List Reg := [
  -- SRV_CTX_TEMPLATE_LO: TEMPLATE_LO
  ⟨0x100, 1, 4, .one, false, [{ lo := 6, w := 26, cls := .t, rst := 0 }]⟩,
  -- SRV_CTX_TEMPLATE_HI: TEMPLATE_HI
  ⟨0x104, 1, 4, .one, false, [{ lo := 0, w := 16, cls := .t, rst := 0 }]⟩,
  -- SRV_CTX_BATCH_LO: BATCH_LO
  ⟨0x108, 1, 4, .one, false, [{ lo := 16, w := 16, cls := .t, rst := 0 }]⟩,
  -- SRV_CTX_BATCH_HI: BATCH_HI
  ⟨0x10C, 1, 4, .one, false, [{ lo := 0, w := 16, cls := .t, rst := 0 }]⟩,
  -- SRV_CTX_BATCH_LOG2: BATCH_LOG2
  ⟨0x110, 1, 4, .one, false, [{ lo := 0, w := 5, cls := .t, rst := 0, lim := (.range 16 24) }]⟩,
  -- SRV_CTX_TOKBUF_LO: TOKBUF_LO
  ⟨0x114, 1, 4, .one, false, [{ lo := 0, w := 32, cls := .t, rst := 0 }]⟩,
  -- SRV_CTX_TOKBUF_HI: TOKBUF_HI
  ⟨0x118, 1, 4, .one, false, [{ lo := 0, w := 16, cls := .t, rst := 0 }]⟩,
  -- SRV_CTX_TOK_LOG2: TOK_LOG2
  ⟨0x11C, 1, 4, .one, false, [{ lo := 0, w := 5, cls := .t, rst := 0, lim := (.range 12 26) }]⟩,
  -- SRV_CTX_INRING_LO: INRING_LO
  ⟨0x120, 1, 4, .one, false, [{ lo := 0, w := 32, cls := .t, rst := 0 }]⟩,
  -- SRV_CTX_INRING_HI: INRING_HI
  ⟨0x124, 1, 4, .one, false, [{ lo := 0, w := 16, cls := .t, rst := 0 }]⟩,
  -- SRV_CTX_OUTRING_LO: OUTRING_LO
  ⟨0x128, 1, 4, .one, false, [{ lo := 0, w := 32, cls := .t, rst := 0 }]⟩,
  -- SRV_CTX_OUTRING_HI: OUTRING_HI
  ⟨0x12C, 1, 4, .one, false, [{ lo := 0, w := 16, cls := .t, rst := 0 }]⟩,
  -- SRV_CTX_RING_LOG2: IN_LOG2, OUT_LOG2
  ⟨0x130, 1, 4, .one, false, [{ lo := 0, w := 4, cls := .t, rst := 0, lim := (.range 4 15) },
    { lo := 4, w := 4, cls := .t, rst := 0, lim := (.range 4 15) }]⟩,
  -- SRV_CTX_OUT_HEAD: OUT_HEAD
  ⟨0x134, 1, 4, .one, false, [{ lo := 0, w := 16, cls := .l, rst := 0 }]⟩,
  -- SRV_CTX_LIMITS: MAX_DECODE, PREFILL
  ⟨0x138, 1, 4, .one, false, [{ lo := 0, w := 14, cls := .t, rst := 0x3fff },
    { lo := 16, w := 16, cls := .t, rst := 0 }]⟩,
  -- SRV_CTX_CHUNK: CHUNK
  ⟨0x13C, 1, 4, .one, false, [{ lo := 0, w := 16, cls := .t, rst := 0x200 }]⟩,
  -- SRV_CTX_MODEL: LAYERS, GROUPS, FMT, HDIM
  ⟨0x140, 1, 4, .one, false, [{ lo := 0, w := 8, cls := .t, rst := 0 },
    { lo := 8, w := 6, cls := .t, rst := 0 },
    { lo := 14, w := 4, cls := .t, rst := 0 },
    { lo := 18, w := 2, cls := .t, rst := 0 }]⟩,
  -- SRV_CTX_KSCALE: KSCALE
  ⟨0x144, 1, 4, .one, false, [{ lo := 0, w := 32, cls := .t, rst := 0 }]⟩,
  -- SRV_CTX_VSCALE: VSCALE
  ⟨0x148, 1, 4, .one, false, [{ lo := 0, w := 32, cls := .t, rst := 0 }]⟩,
  -- SRV_CTX_OPENED: COUNT
  ⟨0x14C, 1, 4, .one, false, [{ lo := 0, w := 32, cls := .ro, rst := 0 }]⟩]

/-- Registers of the `vsrv` page (R330). -/
def vsrvRegs1 : List Reg := [
  -- SRV_CTX_ENDED: COUNT
  ⟨0x150, 1, 4, .one, false, [{ lo := 0, w := 32, cls := .ro, rst := 0 }]⟩,
  -- SRV_CTX_CANCELLED: COUNT
  ⟨0x154, 1, 4, .one, false, [{ lo := 0, w := 32, cls := .ro, rst := 0 }]⟩,
  -- SRV_CTX_REJECTED: COUNT
  ⟨0x158, 1, 4, .one, false, [{ lo := 0, w := 32, cls := .ro, rst := 0 }]⟩,
  -- SRV_CTX_REPLAYS: COUNT
  ⟨0x15C, 1, 4, .one, false, [{ lo := 0, w := 32, cls := .ro, rst := 0 }]⟩,
  -- SRV_CTX_OUT_FULL: COUNT
  ⟨0x160, 1, 4, .one, false, [{ lo := 0, w := 32, cls := .ro, rst := 0 }]⟩,
  -- SRV_CTX_BUILD_LATE: COUNT
  ⟨0x164, 1, 4, .one, false, [{ lo := 0, w := 32, cls := .ro, rst := 0 }]⟩,
  -- SRV_CTX_OUT_TAIL: OUT_TAIL
  ⟨0x168, 1, 4, .one, false, [{ lo := 0, w := 16, cls := .ro, rst := 0 }]⟩]

/-- Registers of the `vsrv` page (R330). -/
def vsrvRegs : List Reg := vsrvRegs0 ++ vsrvRegs1

/-- Registers of the `smp` page (R331). -/
def smpRegs : List Reg := [
  -- SMP_BUSY: BUSY
  ⟨0x100, 1, 4, .one, false, [{ lo := 0, w := 16, cls := .ro, rst := 0, derived := true }]⟩,
  -- SMP_SAMPLES_LO: SAMPLES
  ⟨0x104, 1, 4, .one, true, [{ lo := 0, w := 32, cls := .ro, rst := 0 }]⟩,
  -- SMP_SAMPLES_HI: SAMPLES
  ⟨0x108, 1, 4, .one, false, [{ lo := 0, w := 32, cls := .ro, rst := 0 }]⟩,
  -- SMP_NAN_LOGITS: COUNT
  ⟨0x10C, 1, 4, .one, false, [{ lo := 0, w := 32, cls := .ro, rst := 0 }]⟩,
  -- SMP_INSTANTIATED: COUNT
  ⟨0x110, 1, 4, .one, false, [{ lo := 0, w := 32, cls := .ro, rst := 0 }]⟩]

/-- Registers of the `sec` page (R356). -/
def secRegs : List Reg := [
  -- SEC_STATUS: LAB_FUSE, RNG_OK, KEYSTORE_READY, FALLBACK
  ⟨0x100, 1, 4, .one, false, [{ lo := 0, w := 1, cls := .ro, rst := 0, derived := true },
    { lo := 1, w := 1, cls := .ro, rst := 0, derived := true },
    { lo := 2, w := 1, cls := .ro, rst := 0, derived := true },
    { lo := 3, w := 1, cls := .ro, rst := 0, derived := true }]⟩,
  -- SEC_CTX_SEL: CTX_SEL
  ⟨0x104, 1, 4, .one, false, [{ lo := 0, w := 8, cls := .l, rst := 0 }]⟩,
  -- SEC_CTX_CMD: ACTIVATE, DEACTIVATE
  ⟨0x108, 1, 4, .one, false, [{ lo := 0, w := 1, cls := .wo, rst := 0 },
    { lo := 1, w := 1, cls := .wo, rst := 0 }]⟩,
  -- SEC_CTX_STATUS: STATE, SLOT_LOADED, SESSIONS
  ⟨0x10C, 1, 4, .one, false, [{ lo := 0, w := 2, cls := .ro, rst := 0, derived := true },
    { lo := 2, w := 1, cls := .ro, rst := 0, derived := true },
    { lo := 3, w := 2, cls := .ro, rst := 0, derived := true }]⟩,
  -- SEC_SVN: FW_SVN, OPT_SVN
  ⟨0x110, 1, 4, .one, false, [{ lo := 0, w := 16, cls := .ro, rst := 0, derived := true },
    { lo := 16, w := 16, cls := .ro, rst := 0, derived := true }]⟩,
  -- SEC_FW_REVOKE: FW_REVOKE
  ⟨0x114, 1, 4, .one, false, [{ lo := 0, w := 4, cls := .ro, rst := 0, derived := true }]⟩,
  -- SEC_ATT_NEXT: ATT_NEXT
  ⟨0x118, 1, 4, .one, false, [{ lo := 0, w := 31, cls := .ro, rst := 0, derived := true }]⟩,
  -- SEC_ATT_RESERVE: ATT_RESERVE
  ⟨0x11C, 1, 4, .one, false, [{ lo := 0, w := 31, cls := .ro, rst := 0, derived := true }]⟩,
  -- SEC_ATT_RATE: ATT_RATE
  ⟨0x120, 1, 4, .one, false, [{ lo := 0, w := 4, cls := .s, rst := 4, lim := (.range 1 8) }]⟩,
  -- SEC_ATT_SIGS: COUNT
  ⟨0x124, 1, 4, .one, false, [{ lo := 0, w := 32, cls := .ro, rst := 0 }]⟩,
  -- SEC_SAK_CTRL: SAK_LP, SAK_DIR, SAK_AN, SAK_XPN, SAK_INSTALL
  ⟨0x128, 1, 4, .one, false, [{ lo := 0, w := 5, cls := .l, rst := 0 },
    { lo := 5, w := 1, cls := .l, rst := 0 },
    { lo := 6, w := 2, cls := .l, rst := 0 },
    { lo := 8, w := 1, cls := .l, rst := 0 },
    { lo := 9, w := 1, cls := .wo, rst := 0 }]⟩,
  -- SEC_SAK: SAK
  ⟨0x12C, 8, 4, .one, false, [{ lo := 0, w := 32, cls := .wo, rst := 0 }]⟩,
  -- SEC_SALT: SALT
  ⟨0x14C, 3, 4, .one, false, [{ lo := 0, w := 32, cls := .wo, rst := 0 }]⟩,
  -- SEC_SSCI: SSCI
  ⟨0x158, 1, 4, .one, false, [{ lo := 0, w := 32, cls := .wo, rst := 0 }]⟩,
  -- SEC_IDE: LINK_IDE, SEL_STREAMS
  ⟨0x15C, 1, 4, .one, false, [{ lo := 0, w := 1, cls := .ro, rst := 0, derived := true },
    { lo := 1, w := 4, cls := .ro, rst := 0, derived := true }]⟩,
  -- SEC_FW_COMMIT: COMMIT_TYPE, COMMIT_SVN
  ⟨0x160, 1, 4, .one, false, [{ lo := 0, w := 8, cls := .wo, rst := 0 },
    { lo := 8, w := 16, cls := .wo, rst := 0 }]⟩]

/-- Registers of the `vsec` page (R357). -/
def vsecRegs : List Reg := [
  -- SEC_CTX_SESSION: SESSION, SESSIONS, SWITCH_PENDING
  ⟨0x100, 1, 4, .one, false, [{ lo := 0, w := 2, cls := .ro, rst := 0, hidden := true, derived := true },
    { lo := 2, w := 2, cls := .ro, rst := 0, derived := true },
    { lo := 4, w := 1, cls := .ro, rst := 0, derived := true }]⟩,
  -- SEC_CTX_SID: SID
  ⟨0x104, 1, 4, .one, false, [{ lo := 0, w := 32, cls := .ro, rst := 0, hidden := true, derived := true }]⟩,
  -- SEC_CTX_PSK: PSK
  ⟨0x108, 8, 4, .one, false, [{ lo := 0, w := 32, cls := .wo, rst := 0, hidden := true }]⟩,
  -- SEC_CTX_PSK_SET: PSK_SET
  ⟨0x128, 1, 4, .one, false, [{ lo := 0, w := 1, cls := .ro, rst := 0, derived := true }]⟩,
  -- SEC_CTX_DROPS: COUNT
  ⟨0x12C, 1, 4, .one, false, [{ lo := 0, w := 32, cls := .ro, rst := 0 }]⟩,
  -- SEC_CTX_DROP_LIMIT: LIMIT
  ⟨0x130, 1, 4, .one, false, [{ lo := 0, w := 16, cls := .l, rst := 0x40 }]⟩,
  -- SEC_CTX_OPEN_MARK_LO: OPEN_MARK
  ⟨0x134, 1, 4, .one, true, [{ lo := 0, w := 32, cls := .ro, rst := 0, hidden := true, derived := true }]⟩,
  -- SEC_CTX_OPEN_MARK_HI: OPEN_MARK
  ⟨0x138, 1, 4, .one, false, [{ lo := 0, w := 32, cls := .ro, rst := 0, hidden := true, derived := true }]⟩,
  -- SEC_CTX_STATE: STATE
  ⟨0x13C, 1, 4, .one, false, [{ lo := 0, w := 2, cls := .ro, rst := 0, derived := true }]⟩]

/-- Registers of the `dbg` page (R359). -/
def dbgRegs : List Reg := [
  -- DBG_STATE: STATE, LAB_FUSE, PENDING, PEND_VALID
  ⟨0x100, 1, 4, .one, false, [{ lo := 0, w := 2, cls := .ro, rst := 0, derived := true },
    { lo := 2, w := 1, cls := .ro, rst := 0, derived := true },
    { lo := 4, w := 2, cls := .ro, rst := 0, derived := true },
    { lo := 6, w := 1, cls := .ro, rst := 0, derived := true }]⟩,
  -- DBG_REQ: TARGET, GO
  ⟨0x104, 1, 4, .one, false, [{ lo := 0, w := 2, cls := .l, rst := 0 },
    { lo := 8, w := 1, cls := .wo, rst := 0 }]⟩,
  -- DBG_TOKEN_ADDR_LO: ADDR_LO
  ⟨0x108, 1, 4, .one, false, [{ lo := 6, w := 26, cls := .l, rst := 0 }]⟩,
  -- DBG_TOKEN_ADDR_HI: ADDR_HI
  ⟨0x10C, 1, 4, .one, false, [{ lo := 0, w := 16, cls := .l, rst := 0 }]⟩,
  -- DBG_NONCE: NONCE
  ⟨0x110, 4, 4, .one, false, [{ lo := 0, w := 32, cls := .ro, rst := 0, derived := true }]⟩,
  -- DBG_RESULT: RESULT
  ⟨0x120, 1, 4, .one, false, [{ lo := 0, w := 8, cls := .ro, rst := 0 }]⟩,
  -- DBG_UNLOCKS: COUNT
  ⟨0x124, 1, 4, .one, false, [{ lo := 0, w := 32, cls := .ro, rst := 0, derived := true }]⟩]

/-- Registers of the `vdbg` page (R360). -/
def vdbgRegs : List Reg := [
  -- DBG_CTX_TRACE: EN, SPILL, LOG2
  ⟨0x100, 1, 4, .one, false, [{ lo := 0, w := 1, cls := .l, rst := 0 },
    { lo := 1, w := 1, cls := .t, rst := 0 },
    { lo := 2, w := 5, cls := .t, rst := 0xc, lim := (.range 8 20) }]⟩,
  -- DBG_CTX_BASE_LO: BASE_LO
  ⟨0x104, 1, 4, .one, false, [{ lo := 12, w := 20, cls := .t, rst := 0 }]⟩,
  -- DBG_CTX_BASE_HI: BASE_HI
  ⟨0x108, 1, 4, .one, false, [{ lo := 0, w := 16, cls := .t, rst := 0 }]⟩,
  -- DBG_CTX_HEAD: HEAD
  ⟨0x10C, 1, 4, .one, false, [{ lo := 0, w := 32, cls := .ro, rst := 0 }]⟩,
  -- DBG_CTX_DROPS: COUNT
  ⟨0x110, 1, 4, .one, false, [{ lo := 0, w := 32, cls := .ro, rst := 0 }]⟩,
  -- DBG_CTX_WINDOW: WINDOW
  ⟨0x800, 512, 4, .one, false, [{ lo := 0, w := 32, cls := .ro, rst := 0, hidden := true, derived := true }]⟩]

/-- Registers of the `hwd` page (R389). -/
def hwdRegs : List Reg := [
  -- HWD_CFG: MISS_LIMIT, AUTO, WINDOW
  ⟨0x100, 1, 4, .one, false, [{ lo := 0, w := 8, cls := .t, rst := 4, lim := (.range 2 255) },
    { lo := 8, w := 1, cls := .t, rst := 1 },
    { lo := 16, w := 16, cls := .t, rst := 0x3e8, lim := (.range 1 65535) }]⟩,
  -- HWD_BEAT: BEAT
  ⟨0x104, 1, 4, .one, false, [{ lo := 0, w := 32, cls := .wo, rst := 0 }]⟩,
  -- HWD_STATUS: MISSED, STAGE, RESTARTING, DEVSTATE
  ⟨0x108, 1, 4, .one, false, [{ lo := 0, w := 8, cls := .ro, rst := 0, derived := true },
    { lo := 8, w := 2, cls := .ro, rst := 0, derived := true },
    { lo := 10, w := 1, cls := .ro, rst := 0, derived := true },
    { lo := 12, w := 4, cls := .ro, rst := 0, derived := true }]⟩,
  -- HWD_LAST_BEAT: LAST_BEAT
  ⟨0x10C, 1, 4, .one, false, [{ lo := 0, w := 32, cls := .ro, rst := 0, derived := true }]⟩,
  -- HWD_FW_CTX: FW_CTX, VALID
  ⟨0x110, 1, 4, .one, false, [{ lo := 0, w := 8, cls := .l, rst := 0 },
    { lo := 8, w := 1, cls := .l, rst := 0 }]⟩,
  -- HWD_CTRL: CAPTURE, FW_RESTART, SCRUB, SCRUB_CTX
  ⟨0x114, 1, 4, .one, false, [{ lo := 0, w := 1, cls := .wo, rst := 0 },
    { lo := 1, w := 1, cls := .wo, rst := 0 },
    { lo := 2, w := 1, cls := .wo, rst := 0 },
    { lo := 8, w := 8, cls := .l, rst := 0 }]⟩,
  -- HWD_CAP_STATUS: HELD, CAUSE
  ⟨0x118, 1, 4, .one, false, [{ lo := 0, w := 1, cls := .w1c, rst := 0 },
    { lo := 1, w := 3, cls := .ro, rst := 0 }]⟩,
  -- HWD_CAP_TICK: CAP_TICK
  ⟨0x11C, 1, 4, .one, false, [{ lo := 0, w := 32, cls := .ro, rst := 0 }]⟩,
  -- HWD_CAP_LOST: CAP_LOST
  ⟨0x120, 1, 4, .one, false, [{ lo := 0, w := 32, cls := .ro, rst := 0 }]⟩,
  -- HWD_CAP_WIN: CAP_WIN
  ⟨0x124, 1, 4, .one, false, [{ lo := 0, w := 10, cls := .l, rst := 0 }]⟩,
  -- HWD_GAUGE_ADDR_LO: ADDR_LO
  ⟨0x128, 1, 4, .one, false, [{ lo := 6, w := 26, cls := .l, rst := 0 }]⟩,
  -- HWD_GAUGE_ADDR_HI: ADDR_HI
  ⟨0x12C, 1, 4, .one, false, [{ lo := 0, w := 16, cls := .l, rst := 0 }]⟩,
  -- HWD_GAUGE_CMD: FULL, BRIEF, BERTH_PAGE
  ⟨0x130, 1, 4, .one, false, [{ lo := 0, w := 1, cls := .wo, rst := 0 },
    { lo := 1, w := 1, cls := .wo, rst := 0 },
    { lo := 4, w := 2, cls := .l, rst := 0 }]⟩,
  -- HWD_GAUGE_STATUS: PENDING, DONE, FAULT
  ⟨0x134, 1, 4, .one, false, [{ lo := 0, w := 1, cls := .ro, rst := 0, derived := true },
    { lo := 1, w := 1, cls := .w1c, rst := 0 },
    { lo := 2, w := 1, cls := .w1c, rst := 0 }]⟩,
  -- HWD_HANGS: COUNT
  ⟨0x138, 1, 4, .one, false, [{ lo := 0, w := 32, cls := .ro, rst := 0 }]⟩,
  -- HWD_RESTARTS: COUNT
  ⟨0x13C, 1, 4, .one, false, [{ lo := 0, w := 32, cls := .ro, rst := 0 }]⟩,
  -- HWD_SCRUBS: COUNT
  ⟨0x140, 1, 4, .one, false, [{ lo := 0, w := 32, cls := .ro, rst := 0 }]⟩,
  -- HWD_CAP_DATA: CAP_DATA
  ⟨0x800, 512, 4, .one, false, [{ lo := 0, w := 32, cls := .ro, rst := 0, derived := true }]⟩]

/-- Registers of the `hwdsum` page (R390). -/
def hwdsumRegs : List Reg := [
  -- HWD_SUM_TOP: SUM
  ⟨0x100, 1, 4, .one, false, [{ lo := 0, w := 32, cls := .ro, rst := 0, derived := true }]⟩,
  -- HWD_SUM_XDIE: SUM
  ⟨0x104, 1, 4, .one, false, [{ lo := 0, w := 16, cls := .ro, rst := 0, derived := true }]⟩,
  -- HWD_SUM_LNK: SUM
  ⟨0x108, 1, 4, .one, false, [{ lo := 0, w := 18, cls := .ro, rst := 0, derived := true }]⟩,
  -- HWD_SUM_LPT: SUM
  ⟨0x10C, 1, 4, .one, false, [{ lo := 0, w := 18, cls := .ro, rst := 0, derived := true }]⟩,
  -- HWD_SUM_MDIE: SUM
  ⟨0x110, 4, 4, .one, false, [{ lo := 0, w := 19, cls := .ro, rst := 0, derived := true }]⟩,
  -- HWD_SUM_CLUSTER: SUM
  ⟨0x120, 1, 4, .one, false, [{ lo := 0, w := 32, cls := .ro, rst := 0, derived := true }]⟩,
  -- HWD_SUM_COREGRP: SUM
  ⟨0x124, 1, 4, .one, false, [{ lo := 0, w := 32, cls := .ro, rst := 0, derived := true }]⟩,
  -- HWD_SUM_CORE: SUM
  ⟨0x128, 16, 4, .one, false, [{ lo := 0, w := 32, cls := .ro, rst := 0, derived := true }]⟩,
  -- HWD_ALERT_CFG: MIN_SEV, HANG
  ⟨0x168, 1, 4, .one, false, [{ lo := 0, w := 2, cls := .l, rst := 1 },
    { lo := 2, w := 1, cls := .l, rst := 1 }]⟩]

/-- Registers of the `vhwd` page (R391). -/
def vhwdRegs : List Reg := [
  -- HWD_CTX_SUM: SUM, WORST, WORST_VALID, CONDEMNED
  ⟨0x100, 1, 4, .one, false, [{ lo := 0, w := 8, cls := .ro, rst := 0, derived := true },
    { lo := 8, w := 2, cls := .ro, rst := 0, derived := true },
    { lo := 10, w := 1, cls := .ro, rst := 0, derived := true },
    { lo := 11, w := 1, cls := .ro, rst := 0, derived := true }]⟩,
  -- HWD_CTX_SCRUB0: SCRUB_CODE, SCRUB_SEV, SCRUB_VALID
  ⟨0x104, 1, 4, .one, false, [{ lo := 0, w := 16, cls := .ro, rst := 0 },
    { lo := 16, w := 2, cls := .ro, rst := 0 },
    { lo := 31, w := 1, cls := .w1c, rst := 0 }]⟩,
  -- HWD_CTX_SCRUB_RAISED: TICK
  ⟨0x108, 1, 4, .one, false, [{ lo := 0, w := 32, cls := .ro, rst := 0 }]⟩,
  -- HWD_CTX_SCRUB_EDGE: TICK
  ⟨0x10C, 1, 4, .one, false, [{ lo := 0, w := 32, cls := .ro, rst := 0 }]⟩,
  -- HWD_CTX_SCRUB_CORE: CORE
  ⟨0x110, 1, 4, .one, false, [{ lo := 0, w := 16, cls := .ro, rst := 0 }]⟩,
  -- HWD_CTX_SCRUBS: COUNT
  ⟨0x114, 1, 4, .one, false, [{ lo := 0, w := 32, cls := .ro, rst := 0 }]⟩,
  -- HWD_CTX_SCRUB_LIMIT: LIMIT
  ⟨0x118, 1, 4, .one, false, [{ lo := 0, w := 8, cls := .t, rst := 0x10, lim := (.range 1 255), prov := true }]⟩,
  -- HWD_CTX_NAN0: REC, VALID
  ⟨0x120, 1, 4, .one, false, [{ lo := 0, w := 31, cls := .ro, rst := 0 },
    { lo := 31, w := 1, cls := .w1c, rst := 0 }]⟩,
  -- HWD_CTX_NAN1: REC
  ⟨0x124, 7, 4, .one, false, [{ lo := 0, w := 32, cls := .ro, rst := 0 }]⟩,
  -- HWD_CTX_SAT0: REC, VALID
  ⟨0x140, 1, 4, .one, false, [{ lo := 0, w := 31, cls := .ro, rst := 0 },
    { lo := 31, w := 1, cls := .w1c, rst := 0 }]⟩,
  -- HWD_CTX_SAT1: REC
  ⟨0x144, 7, 4, .one, false, [{ lo := 0, w := 32, cls := .ro, rst := 0 }]⟩,
  -- HWD_CTX_CRUSH: COUNT
  ⟨0x160, 1, 4, .one, false, [{ lo := 0, w := 32, cls := .ro, rst := 0 }]⟩,
  -- HWD_CTX_SATCNT: COUNT
  ⟨0x164, 1, 4, .one, false, [{ lo := 0, w := 32, cls := .ro, rst := 0 }]⟩,
  -- HWD_CTX_CLAMP: COUNT
  ⟨0x168, 1, 4, .one, false, [{ lo := 0, w := 32, cls := .ro, rst := 0 }]⟩,
  -- HWD_CTX_FLUSH: COUNT
  ⟨0x16C, 1, 4, .one, false, [{ lo := 0, w := 32, cls := .ro, rst := 0 }]⟩,
  -- HWD_CTX_NANCNT: COUNT
  ⟨0x170, 1, 4, .one, false, [{ lo := 0, w := 32, cls := .ro, rst := 0 }]⟩,
  -- HWD_CTX_GAUGE_ADDR_LO: ADDR_LO
  ⟨0x174, 1, 4, .one, false, [{ lo := 6, w := 26, cls := .l, rst := 0 }]⟩,
  -- HWD_CTX_GAUGE_ADDR_HI: ADDR_HI
  ⟨0x178, 1, 4, .one, false, [{ lo := 0, w := 16, cls := .l, rst := 0 }]⟩,
  -- HWD_CTX_GAUGE_CMD: FULL, BRIEF, BERTH_PAGE
  ⟨0x17C, 1, 4, .one, false, [{ lo := 0, w := 1, cls := .wo, rst := 0 },
    { lo := 1, w := 1, cls := .wo, rst := 0 },
    { lo := 4, w := 2, cls := .l, rst := 0 }]⟩,
  -- HWD_CTX_GAUGE_STATUS: PENDING, DONE, FAULT
  ⟨0x180, 1, 4, .one, false, [{ lo := 0, w := 1, cls := .ro, rst := 0, derived := true },
    { lo := 1, w := 1, cls := .w1c, rst := 0 },
    { lo := 2, w := 1, cls := .w1c, rst := 0 }]⟩]

/-- Registers of the `rst` page (R409). -/
def rstRegs : List Reg := [
  -- RST_STATUS: PHASE, OPT_COPY, OPT_FAILS, FALLBACK, CAP_KEPT
  ⟨0x100, 1, 4, .one, false, [{ lo := 0, w := 4, cls := .ro, rst := 0, derived := true },
    { lo := 8, w := 8, cls := .ro, rst := 0, derived := true },
    { lo := 16, w := 8, cls := .ro, rst := 0, derived := true },
    { lo := 24, w := 1, cls := .ro, rst := 0, derived := true },
    { lo := 25, w := 1, cls := .ro, rst := 0, derived := true }]⟩,
  -- RST_OPT_RESULT: RESULT, A_CHECK, B_CHECK, SKIPPED
  ⟨0x104, 1, 4, .one, false, [{ lo := 0, w := 4, cls := .ro, rst := 0 },
    { lo := 4, w := 3, cls := .ro, rst := 0 },
    { lo := 7, w := 3, cls := .ro, rst := 0 },
    { lo := 12, w := 8, cls := .ro, rst := 0 }]⟩,
  -- RST_OPT_VERSION: OPT_VERSION
  ⟨0x108, 1, 4, .one, false, [{ lo := 0, w := 32, cls := .ro, rst := 0 }]⟩,
  -- RST_VER_A: VER_A
  ⟨0x10C, 1, 4, .one, false, [{ lo := 0, w := 32, cls := .ro, rst := 0 }]⟩,
  -- RST_VER_B: VER_B
  ⟨0x110, 1, 4, .one, false, [{ lo := 0, w := 32, cls := .ro, rst := 0 }]⟩,
  -- RST_OPT_CTRL: CLEAR_FAILS
  ⟨0x114, 1, 4, .one, false, [{ lo := 0, w := 1, cls := .wo, rst := 0 }]⟩,
  -- RST_T_OPTIONS: T
  ⟨0x118, 1, 4, .one, false, [{ lo := 0, w := 32, cls := .ro, rst := 0 }]⟩,
  -- RST_T_MEMORY: T
  ⟨0x11C, 1, 4, .one, false, [{ lo := 0, w := 32, cls := .ro, rst := 0 }]⟩,
  -- RST_T_READY: T
  ⟨0x120, 1, 4, .one, false, [{ lo := 0, w := 32, cls := .ro, rst := 0 }]⟩]

/-- Registers of the `bkp` page (R410). -/
def bkpRegs : List Reg := [
  -- BKP_STATUS: VALID, RESTORED, LOAD_MARK, OPT_FAILS
  ⟨0x100, 1, 4, .one, false, [{ lo := 0, w := 1, cls := .ro, rst := 0, derived := true },
    { lo := 1, w := 1, cls := .ro, rst := 0, derived := true },
    { lo := 2, w := 1, cls := .ro, rst := 0, derived := true },
    { lo := 8, w := 8, cls := .ro, rst := 0, derived := true }]⟩,
  -- BKP_RESETS: RESETS
  ⟨0x104, 1, 4, .one, false, [{ lo := 0, w := 32, cls := .ro, rst := 0, derived := true }]⟩,
  -- BKP_LAST_RESET: CAUSE, PRIOR_DEVSTATE, PRIOR_TICK
  ⟨0x108, 1, 4, .one, false, [{ lo := 0, w := 1, cls := .ro, rst := 0, derived := true },
    { lo := 4, w := 4, cls := .ro, rst := 0, derived := true },
    { lo := 8, w := 24, cls := .ro, rst := 0, derived := true }]⟩,
  -- BKP_TAMPER: FLAGS
  ⟨0x10C, 1, 4, .one, false, [{ lo := 0, w := 5, cls := .w1c, rst := 0, derived := true }]⟩,
  -- BKP_ATT_NEXT: ATT_NEXT
  ⟨0x110, 1, 4, .one, false, [{ lo := 0, w := 31, cls := .ro, rst := 0, derived := true }]⟩,
  -- BKP_HIST_SEL: HIST_SEL
  ⟨0x114, 1, 4, .one, false, [{ lo := 0, w := 3, cls := .l, rst := 0 }]⟩,
  -- BKP_HIST: HIST
  ⟨0x118, 1, 4, .one, false, [{ lo := 0, w := 32, cls := .ro, rst := 0, derived := true }]⟩]

/-- Registers of the `pwr` page (R435). -/
def pwrRegs0 : List Reg := [
  -- PWR_CAP: CAP
  ⟨0x100, 1, 4, .one, false, [{ lo := 0, w := 9, cls := .t, rst := 0x12c, lim := (.range 90 300) }]⟩,
  -- PWR_PKG_MAX: PKG_MAX
  ⟨0x104, 1, 4, .one, false, [{ lo := 0, w := 9, cls := .ro, rst := 0x12c, derived := true }]⟩,
  -- PWR_STATE_REQ: TARGET, GO
  ⟨0x108, 1, 4, .one, false, [{ lo := 0, w := 2, cls := .l, rst := 0, lim := (.oneOf [0, 2]) },
    { lo := 8, w := 1, cls := .wo, rst := 0 }]⟩,
  -- PWR_STATE: STATE, PENDING
  ⟨0x10C, 1, 4, .one, false, [{ lo := 0, w := 2, cls := .ro, rst := 1, derived := true },
    { lo := 2, w := 1, cls := .ro, rst := 0, derived := true }]⟩,
  -- PWR_IDLE_AFTER: IDLE_AFTER
  ⟨0x110, 1, 4, .one, false, [{ lo := 0, w := 16, cls := .s, rst := 0x64, lim := (.range 1 65535) }]⟩,
  -- PWR_AVG: AVG_1MS, AVG_1S
  ⟨0x114, 1, 4, .one, false, [{ lo := 0, w := 16, cls := .ro, rst := 0 },
    { lo := 16, w := 16, cls := .ro, rst := 0 }]⟩,
  -- PWR_DOM_SEL: DOM_SEL
  ⟨0x118, 1, 4, .one, false, [{ lo := 0, w := 3, cls := .l, rst := 0, lim := (.range 0 6) }]⟩,
  -- PWR_DOM_STATE: POINT, MAXPOINT, THERMAL_MAX, VOLT
  ⟨0x11C, 1, 4, .dom, false, [{ lo := 0, w := 4, cls := .ro, rst := 0, derived := true },
    { lo := 4, w := 4, cls := .ro, rst := 0xe, derived := true },
    { lo := 8, w := 4, cls := .ro, rst := 0xe, derived := true },
    { lo := 16, w := 10, cls := .ro, rst := 0, derived := true }]⟩,
  -- PWR_DOM_CTRL: FMAX, CEIL
  ⟨0x120, 1, 4, .dom, false, [{ lo := 0, w := 4, cls := .t, rst := 0xe, lim := (.range 0 14) },
    { lo := 8, w := 8, cls := .t, rst := 0x69 }]⟩,
  -- PWR_DOM_POWER: DOM_POWER
  ⟨0x124, 1, 4, .dom, false, [{ lo := 0, w := 16, cls := .ro, rst := 0 }]⟩,
  -- PWR_BRAKE: BRAKE
  ⟨0x128, 1, 4, .one, false, [{ lo := 0, w := 4, cls := .ro, rst := 0, derived := true }]⟩,
  -- PWR_BRAKE_CLKS: COUNT
  ⟨0x12C, 1, 4, .one, false, [{ lo := 0, w := 32, cls := .ro, rst := 0 }]⟩,
  -- PWR_CTRL: LEARN_EN, HEADROOM
  ⟨0x130, 1, 4, .one, false, [{ lo := 0, w := 1, cls := .l, rst := 1 },
    { lo := 8, w := 8, cls := .t, rst := 0x5f, lim := (.range 80 100) }]⟩,
  -- PWR_SIG_SEL: SIG_CLASS, SIG_DOM
  ⟨0x134, 1, 4, .one, false, [{ lo := 0, w := 2, cls := .l, rst := 0 },
    { lo := 2, w := 3, cls := .l, rst := 0, lim := (.range 0 1) }]⟩,
  -- PWR_SIG_LEAK: SIG_LEAK
  ⟨0x138, 1, 4, .one, false, [{ lo := 0, w := 16, cls := .ro, rst := 0x578, derived := true }]⟩,
  -- PWR_SIG_DYN: SIG_DYN
  ⟨0x13C, 1, 4, .one, false, [{ lo := 0, w := 16, cls := .ro, rst := 0, derived := true }]⟩,
  -- PWR_SIG_SAMPLES: SIG_SAMPLES
  ⟨0x140, 1, 4, .one, false, [{ lo := 0, w := 32, cls := .ro, rst := 0, derived := true }]⟩,
  -- PWR_SIG_RESET: SIG_RESET
  ⟨0x144, 1, 4, .one, false, [{ lo := 0, w := 1, cls := .wo, rst := 0 }]⟩,
  -- PWR_SLUICE_CFG: MV, LIMIT
  ⟨0x148, 1, 4, .one, false, [{ lo := 0, w := 8, cls := .s, rst := 0x28, lim := (.range 20 100) },
    { lo := 8, w := 16, cls := .l, rst := 0x40 }]⟩,
  -- PWR_SLUICES: COUNT
  ⟨0x14C, 1, 4, .one, false, [{ lo := 0, w := 32, cls := .ro, rst := 0 }]⟩]

/-- Registers of the `pwr` page (R435). -/
def pwrRegs1 : List Reg := [
  -- PWR_ENERGY_LO: ENERGY
  ⟨0x150, 1, 4, .one, true, [{ lo := 0, w := 32, cls := .ro, rst := 0 }]⟩,
  -- PWR_ENERGY_HI: ENERGY
  ⟨0x154, 1, 4, .one, false, [{ lo := 0, w := 32, cls := .ro, rst := 0 }]⟩]

/-- Registers of the `pwr` page (R435). -/
def pwrRegs : List Reg := pwrRegs0 ++ pwrRegs1

/-- Registers of the `vpwr` page (R436). -/
def vpwrRegs : List Reg := [
  -- PWR_CTX_SHARE: SHARE
  ⟨0x100, 1, 4, .one, false, [{ lo := 0, w := 8, cls := .t, rst := 0x10, lim := (.range 1 255), prov := true }]⟩,
  -- PWR_CTX_FLOOR: FLOOR
  ⟨0x104, 1, 4, .one, false, [{ lo := 0, w := 4, cls := .t, rst := 0, lim := (.range 0 14), prov := true }]⟩,
  -- PWR_CTX_ENERGY_LO: ENERGY
  ⟨0x108, 1, 4, .one, true, [{ lo := 0, w := 32, cls := .ro, rst := 0 }]⟩,
  -- PWR_CTX_ENERGY_HI: ENERGY
  ⟨0x10C, 1, 4, .one, false, [{ lo := 0, w := 32, cls := .ro, rst := 0 }]⟩,
  -- PWR_CTX_LAST_POUND: LAST_POUND
  ⟨0x110, 1, 4, .one, false, [{ lo := 0, w := 32, cls := .ro, rst := 0 }]⟩,
  -- PWR_CTX_FORCED: COUNT
  ⟨0x114, 1, 4, .one, false, [{ lo := 0, w := 32, cls := .ro, rst := 0 }]⟩]

/-- Registers of the `thm` page (R437). -/
def thmRegs : List Reg := [
  -- THM_SENSOR_SEL: SENSOR_SEL
  ⟨0x100, 1, 4, .one, false, [{ lo := 0, w := 9, cls := .l, rst := 0, lim := (.range 0 207) }]⟩,
  -- THM_SENSOR: READING, FAILED
  ⟨0x104, 1, 4, .one, false, [{ lo := 0, w := 12, cls := .ro, rst := 0, derived := true },
    { lo := 12, w := 1, cls := .ro, rst := 0, derived := true }]⟩,
  -- THM_DOM_MAX: DOM_MAX
  ⟨0x108, 7, 4, .one, false, [{ lo := 0, w := 8, cls := .ro, rst := 0 }]⟩,
  -- THM_STACK_MAX: STACK_MAX
  ⟨0x124, 1, 4, .one, false, [{ lo := 0, w := 32, cls := .ro, rst := 0 }]⟩,
  -- THM_WARN: WARN, THROTTLE, TRIP
  ⟨0x128, 1, 4, .one, false, [{ lo := 0, w := 8, cls := .l, rst := 0x64, lim := (.range 60 110) },
    { lo := 8, w := 8, cls := .ro, rst := 0x69 },
    { lo := 16, w := 8, cls := .ro, rst := 0x73 }]⟩,
  -- THM_THROTTLE_EDGES: COUNT
  ⟨0x12C, 1, 4, .one, false, [{ lo := 0, w := 32, cls := .ro, rst := 0 }]⟩]

/-- Registers of the `age` page (R438). -/
def ageRegs : List Reg := [
  -- AGE_CMD: REPLAN
  ⟨0x100, 1, 4, .one, false, [{ lo := 0, w := 1, cls := .wo, rst := 0 }]⟩,
  -- AGE_STATUS: BUSY, CONVERGING
  ⟨0x104, 1, 4, .one, false, [{ lo := 0, w := 1, cls := .ro, rst := 0, derived := true },
    { lo := 1, w := 1, cls := .ro, rst := 0, derived := true }]⟩,
  -- AGE_DOM_SEL: DOM_SEL
  ⟨0x108, 1, 4, .one, false, [{ lo := 0, w := 3, cls := .l, rst := 0, lim := (.range 0 6) }]⟩,
  -- AGE_DOM: GB_REMAIN, MARGIN, PLAN, DROOP
  ⟨0x10C, 1, 4, .one, false, [{ lo := 0, w := 8, cls := .ro, rst := 0, derived := true },
    { lo := 8, w := 8, cls := .ro, rst := 0, derived := true },
    { lo := 16, w := 8, cls := .ro, rst := 0, derived := true },
    { lo := 24, w := 8, cls := .ro, rst := 0, derived := true }]⟩,
  -- AGE_GB: GB_TARGET, GB_MIN
  ⟨0x110, 1, 4, .one, false, [{ lo := 0, w := 8, cls := .t, rst := 0x19 },
    { lo := 8, w := 8, cls := .t, rst := 0xa }]⟩,
  -- AGE_RO: RO_FREQ
  ⟨0x114, 1, 4, .one, false, [{ lo := 0, w := 24, cls := .ro, rst := 0, derived := true }]⟩,
  -- AGE_RETENTION: RETENTION, REFRESH
  ⟨0x118, 4, 4, .one, false, [{ lo := 0, w := 16, cls := .ro, rst := 0 },
    { lo := 16, w := 2, cls := .ro, rst := 0 }]⟩,
  -- AGE_EYE_SEL: EYE_SEL
  ⟨0x128, 1, 4, .one, false, [{ lo := 0, w := 7, cls := .l, rst := 0, lim := (.range 0 71) }]⟩,
  -- AGE_EYE: EYE_H, EYE_W
  ⟨0x12C, 1, 4, .one, false, [{ lo := 0, w := 10, cls := .ro, rst := 0, derived := true },
    { lo := 16, w := 10, cls := .ro, rst := 0, derived := true }]⟩,
  -- AGE_EYE_MIN: EYE_MIN
  ⟨0x130, 1, 4, .one, false, [{ lo := 0, w := 10, cls := .l, rst := 0x1e }]⟩,
  -- AGE_POH_MIN: POH_MIN
  ⟨0x134, 1, 4, .one, false, [{ lo := 0, w := 32, cls := .ro, rst := 0, derived := true }]⟩,
  -- AGE_LOG_WIN: LOG_REGION, LOG_POS
  ⟨0x138, 1, 4, .one, false, [{ lo := 0, w := 1, cls := .l, rst := 0 },
    { lo := 8, w := 24, cls := .l, rst := 0 }]⟩,
  -- AGE_LOG_HEAD: LOG_HEAD
  ⟨0x13C, 1, 4, .one, false, [{ lo := 0, w := 32, cls := .ro, rst := 0, derived := true }]⟩,
  -- AGE_LOG_DATA: LOG_DATA
  ⟨0x800, 512, 4, .one, false, [{ lo := 0, w := 32, cls := .ro, rst := 0, derived := true }]⟩]

/-- Registers of the `vpci` page (R31). -/
def vpciRegs : List Reg := [
  -- PCI_CTX_APERTURE_BASE_HI: BASE_HI
  ⟨0x100, 1, 4, .one, false, [{ lo := 0, w := 16, cls := .l, rst := 0 }]⟩]

/-- Registers of the `pci` page (R456). -/
def pciRegs : List Reg := [
]

/-- Registers of the `mgt` page (R25). -/
def mgtRegs : List Reg := [
]

/-- The block-specific registers of a page, from 0x100 on. -/
def pageRegs : PageKind → List Reg
  | .lkp => lkpRegs
  | .vlkp => vlkpRegs
  | .csq => csqRegs
  | .mxa => mxaRegs
  | .drn => drnRegs
  | .vec => vecRegs
  | .atp => atpRegs
  | .mrg => mrgRegs
  | .cyd => cydRegs
  | .vcyd => vcydRegs
  | .mem => memRegs
  | .memch => memchRegs
  | .bsn => bsnRegs
  | .whf => whfRegs
  | .dch => dchRegs
  | .dma => dmaRegs
  | .scb => scbRegs
  | .syc => sycRegs
  | .rte => rteRegs
  | .lnk => lnkRegs
  | .lpt => lptRegs
  | .fce => fceRegs
  | .srv => srvRegs
  | .vsrv => vsrvRegs
  | .smp => smpRegs
  | .sec => secRegs
  | .vsec => vsecRegs
  | .dbg => dbgRegs
  | .vdbg => vdbgRegs
  | .hwd => hwdRegs
  | .hwdsum => hwdsumRegs
  | .vhwd => vhwdRegs
  | .rst => rstRegs
  | .bkp => bkpRegs
  | .pwr => pwrRegs
  | .vpwr => vpwrRegs
  | .thm => thmRegs
  | .age => ageRegs
  | .vpci => vpciRegs
  | .pci => pciRegs
  | .mgt => mgtRegs

/-- The register of a list that covers an offset. -/
def findReg (off : Nat) : List Reg → Option Reg
  | [] => none
  | r :: rs => if r.off ≤ off ∧ off < r.off + r.count * r.stride ∧ (off - r.off) % r.stride = 0 then some r else findReg off rs

/-- The register at an offset of a page; none = reserved or unassigned. -/
def regAt (k : PageKind) (off : Nat) : Option Reg :=
  if off < 0x100 then findReg off commonRegs else findReg off (pageRegs k)

/-- Reset value of a word of fields. -/
def fieldsReset (fs : List Field) : Nat := fs.foldl (fun a f => a ||| (f.rst <<< f.lo)) 0

/-- Reset value of the register at an offset of a page (R9). -/
def resetOf (k : PageKind) (off : Nat) : Word :=
  match regAt k off with
  | some r => BitVec.ofNat 32 (fieldsReset r.fields)
  | none => 0

end Sys2Proof.Machine
end

