-- ==== Sys2Proof/Machine/Pages.lean ====
section
/-! DEFINITION. The address maps of the register pages (R16, R24 to R29) and the identity of each page (R36, R43, R373). -/

namespace Sys2Proof.Machine

/-- A register page: its kind and its instance (core, cluster, link, port, M-die, or context). Page `memch` of M-die m, group j has instance 16 × m + j. -/
structure PageRef where
  kind : PageKind
  inst : Nat := 0
  deriving DecidableEq, Repr

/-- The kind of X-die page `p` (R25). -/
def xdiePage : Nat → Option PageKind
  | 0 => some .pci
  | 1 => some .mgt
  | 2 => some .lkp
  | 3 => some .rte
  | 4 => some .fce
  | 5 => some .srv
  | 6 => some .smp
  | 7 => some .sec
  | 8 => some .dbg
  | 9 => some .pwr
  | 10 => some .thm
  | 11 => some .age
  | 12 => some .rst
  | 13 => some .bkp
  | 14 => some .hwd
  | 15 => some .hwdsum
  | _ => none

/-- The kind of page `p` of a core (R26). -/
def corePage : Nat → Option PageKind
  | 0 => some .scb
  | 1 => some .mxa
  | 2 => some .drn
  | 3 => some .vec
  | 4 => some .atp
  | 5 => some .dma
  | 6 => some .whf
  | 7 => some .dch
  | _ => none

/-- The kind of page `p` of a context view (R28). -/
def viewPage : Nat → Option PageKind
  | 0 => some .vpci
  | 1 => some .vlkp
  | 2 => some .vsec
  | 3 => some .vcyd
  | 4 => some .vpwr
  | 5 => some .vdbg
  | 6 => some .vsrv
  | 7 => some .vhwd
  | _ => none

/-- The page that holds a BAR0 offset of the physical function (R24 to R26, R28). -/
def pageOf (a : Nat) : Option PageRef :=
  if a < 0x10000 then (xdiePage (a / 0x1000)).map (⟨·, 0⟩)
  else if a < 0x22000 then some ⟨.lpt, (a - 0x10000) / 0x1000⟩
  else if a < 0x200000 then none
  else if a < 0x212000 then some ⟨.lnk, (a - 0x200000) / 0x1000⟩
  else if a < 0x400000 then none
  else if a < 0x500000 then
    let m := (a - 0x400000) / 0x40000
    let p := (a - 0x400000) % 0x40000 / 0x1000
    if p = 0 then some ⟨.mem, m⟩
    else if p ≤ 16 then some ⟨.memch, 16 * m + (p - 1)⟩
    else if p = 17 then some ⟨.bsn, m⟩
    else if p = 18 then some ⟨.cyd, m⟩
    else none
  else if a < 0x800000 then none
  else if a < 0xA00000 then
    let c := (a - 0x800000) / 0x10000
    match (a - 0x800000) % 0x10000 / 0x1000 with
    | 0 => some ⟨.csq, c⟩
    | 1 => some ⟨.mrg, c⟩
    | 2 => some ⟨.syc, c⟩
    | _ => none
  else if a < 0x1000000 then none
  else if a < 0x3000000 then
    (corePage ((a - 0x1000000) % 0x10000 / 0x1000)).map (⟨·, (a - 0x1000000) / 0x10000⟩)
  else if a < 0x4000000 then
    (viewPage ((a - 0x3000000) % 0x10000 / 0x1000)).map (⟨·, (a - 0x3000000) / 0x10000⟩)
  else none

/-- BAR0 offset of a page (R24 to R26, R28). -/
def PageRef.base (p : PageRef) : Nat :=
  match p.kind with
  | .pci => 0x0000
  | .mgt => 0x1000
  | .lkp => 0x2000
  | .rte => 0x3000
  | .fce => 0x4000
  | .srv => 0x5000
  | .smp => 0x6000
  | .sec => 0x7000
  | .dbg => 0x8000
  | .pwr => 0x9000
  | .thm => 0xA000
  | .age => 0xB000
  | .rst => 0xC000
  | .bkp => 0xD000
  | .hwd => 0xE000
  | .hwdsum => 0xF000
  | .lpt => 0x10000 + p.inst * 0x1000
  | .lnk => 0x200000 + p.inst * 0x1000
  | .mem => 0x400000 + p.inst * 0x40000
  | .memch => 0x400000 + (p.inst / 16) * 0x40000 + (p.inst % 16 + 1) * 0x1000
  | .bsn => 0x400000 + p.inst * 0x40000 + 0x11000
  | .cyd => 0x400000 + p.inst * 0x40000 + 0x12000
  | .csq => 0x800000 + p.inst * 0x10000
  | .mrg => 0x801000 + p.inst * 0x10000
  | .syc => 0x802000 + p.inst * 0x10000
  | .scb => 0x1000000 + p.inst * 0x10000
  | .mxa => 0x1001000 + p.inst * 0x10000
  | .drn => 0x1002000 + p.inst * 0x10000
  | .vec => 0x1003000 + p.inst * 0x10000
  | .atp => 0x1004000 + p.inst * 0x10000
  | .dma => 0x1005000 + p.inst * 0x10000
  | .whf => 0x1006000 + p.inst * 0x10000
  | .dch => 0x1007000 + p.inst * 0x10000
  | .vpci => 0x3000000 + p.inst * 0x10000
  | .vlkp => 0x3001000 + p.inst * 0x10000
  | .vsec => 0x3002000 + p.inst * 0x10000
  | .vcyd => 0x3003000 + p.inst * 0x10000
  | .vpwr => 0x3004000 + p.inst * 0x10000
  | .vdbg => 0x3005000 + p.inst * 0x10000
  | .vsrv => 0x3006000 + p.inst * 0x10000
  | .vhwd => 0x3007000 + p.inst * 0x10000

/-- Block type of a page (R43); the summary page is a page of HWD (R390). -/
def PageKind.type : PageKind → Nat
  | .lkp | .vlkp => 0x01
  | .csq => 0x02
  | .scb => 0x03
  | .mxa => 0x04
  | .drn => 0x05
  | .vec => 0x06
  | .atp => 0x07
  | .dma => 0x08
  | .whf => 0x09
  | .dch => 0x0A
  | .mrg => 0x0B
  | .syc => 0x0C
  | .cyd | .vcyd => 0x0D
  | .mem | .memch => 0x0E
  | .bsn => 0x0F
  | .rte => 0x10
  | .fce => 0x11
  | .lnk => 0x12
  | .lpt => 0x13
  | .srv | .vsrv => 0x14
  | .smp => 0x15
  | .sec | .vsec => 0x16
  | .dbg | .vdbg => 0x17
  | .pwr | .vpwr => 0x18
  | .thm => 0x19
  | .age => 0x1A
  | .rst => 0x1B
  | .bkp => 0x1C
  | .hwd | .hwdsum | .vhwd => 0x1D
  | .pci | .vpci => 0x1E
  | .mgt => 0x1F

/-- The page is a context view page (R28). -/
def PageKind.isView : PageKind → Bool
  | .vpci | .vlkp | .vsec | .vcyd | .vpwr | .vdbg | .vsrv | .vhwd => true
  | _ => false

/-- The block page kind behind a view page (R36); any other kind is itself. -/
def PageKind.block : PageKind → PageKind
  | .vpci => .pci
  | .vlkp => .lkp
  | .vsec => .sec
  | .vcyd => .cyd
  | .vpwr => .pwr
  | .vdbg => .dbg
  | .vsrv => .srv
  | .vhwd => .hwd
  | k => k

/-- The page of the same block type in a context view, where R28 gives the view one (R36). -/
def PageKind.view : PageKind → Option PageKind
  | .pci | .vpci => some .vpci
  | .lkp | .vlkp => some .vlkp
  | .sec | .vsec => some .vsec
  | .cyd | .vcyd => some .vcyd
  | .pwr | .vpwr => some .vpwr
  | .dbg | .vdbg => some .vdbg
  | .srv | .vsrv => some .vsrv
  | .hwd | .hwdsum | .vhwd => some .vhwd
  | _ => none

/-- Position of a view page in its view: its bit of HWD_CTX_SUM (R28, R391). -/
def PageKind.viewBit : PageKind → Nat
  | .vpci => 0
  | .vlkp => 1
  | .vsec => 2
  | .vcyd => 3
  | .vpwr => 4
  | .vdbg => 5
  | .vsrv => 6
  | _ => 7

/-- BLK_ID.DIE of a page: 0 = C0, 1 = C1, 2 to 5 = M0 to M3, 6 = X-die (R36, R16). -/
def PageRef.die (p : PageRef) : Nat :=
  match p.kind with
  | .mem | .bsn | .cyd => 2 + p.inst
  | .memch => 2 + p.inst / 16
  | .csq | .mrg | .syc => p.inst / 16
  | .scb | .mxa | .drn | .vec | .atp | .dma | .whf | .dch => p.inst / 256
  | _ => 6

/-- BLK_ID.INSTANCE of a page (R36): the M-die number for its channel pages, and 1 for the summary page (R390). -/
def PageRef.instNo (p : PageRef) : Nat :=
  match p.kind with
  | .memch => p.inst / 16
  | .hwdsum => 1
  | _ => p.inst

/-- Page index of a block page (R373); none for a view page. -/
def PageRef.index (p : PageRef) : Option Nat :=
  match p.kind with
  | .lpt => some (16 + p.inst)
  | .lnk => some (34 + p.inst)
  | .mem => some (52 + 19 * p.inst)
  | .memch => some (52 + 19 * (p.inst / 16) + 1 + p.inst % 16)
  | .bsn => some (52 + 19 * p.inst + 17)
  | .cyd => some (52 + 19 * p.inst + 18)
  | .csq => some (128 + 3 * p.inst)
  | .mrg => some (128 + 3 * p.inst + 1)
  | .syc => some (128 + 3 * p.inst + 2)
  | .scb => some (224 + 8 * p.inst)
  | .mxa => some (224 + 8 * p.inst + 1)
  | .drn => some (224 + 8 * p.inst + 2)
  | .vec => some (224 + 8 * p.inst + 3)
  | .atp => some (224 + 8 * p.inst + 4)
  | .dma => some (224 + 8 * p.inst + 5)
  | .whf => some (224 + 8 * p.inst + 6)
  | .dch => some (224 + 8 * p.inst + 7)
  | k => if k.isView then none else some (p.base / 0x1000)

/-- Where an offset in a function's BAR0 lies in the physical function's BAR0 (R24, R29); none = unassigned there. The towpath and Dravner use the physical function's map. -/
def sourceAddr (isVf : Option Nat) (off : Nat) : Option Nat :=
  match isVf with
  | none => some off
  | some k => if off < 0x10000 then some (0x3000000 + k * 0x10000 + off) else none

end Sys2Proof.Machine
end

