-- ==== Sys2Proof/Machine/State.lean ====
section
/-! DEFINITION. The state of the block as plain data: every piece of state the spec names, its faults and refusals, and the state after reset. -/

namespace Sys2Proof.Machine

/-! ### Matrix arrays (R79 to R103) -/

/-- State of the shadow set of one array (R82). -/
inductive ShadowState where
  | empty | loading | full | draining
  deriving DecidableEq, Repr

/-- State of one accumulator bank (R91). -/
inductive BankState where
  | free | opened | handed | draining
  deriving DecidableEq, Repr

/-- One 32-bit cell register or bank entry with the flags that travel with it. -/
structure AccEntry where
  /-- the 32-bit value (R79, R109, R110); 32 bits; reset 0 (R101) -/
  val : Word := 0
  /-- the SAT flag (R110); 1 bit; reset 0 (R110, R101) -/
  sat : Bool := false
  /-- the NANNEW flag with its cause: 0 = not set, 1 = INVALID, 2 = SCALE_NAN (R111, R123); 2 bits; reset 0 (R101) -/
  nan : BitVec 2 := 0
  /-- identity of operand A of the last command that wrote the entry (R123 OPA); 21 bits; reset 0 (R101) -/
  opa : BitVec 21 := 0
  /-- identity of operand B of that command (R123 OPB); 21 bits; reset 0 (R101) -/
  opb : BitVec 21 := 0
  deriving DecidableEq, Repr

/-- A tile command as `mxq` accepted it (R97). -/
structure MxCmd where
  /-- the 32 command bytes (R97); 256 bits -/
  raw : BitVec 256
  /-- the command's `MXA_CMD_SEQ` (R97); 32 bits -/
  seq : Word
  /-- the copy of drain descriptor DSEL made at acceptance (R114); 512 bits -/
  desc : BitVec 512
  /-- the claim of an attention job instead of a tile command (R92); 1 bit -/
  claim : Bool := false
  deriving DecidableEq, Repr

/-- One matrix array (R79). -/
structure MxArray where
  /-- the form: true = shallow (R79); 1 bit; reset deep (R79) -/
  shallow : Bool := false
  /-- the live set holds a tile (R83, R90); 1 bit; reset 0 (R101) -/
  liveValid : Bool := false
  /-- state of the shadow set (R82); 2 bits; reset EMPTY (R101) -/
  shadow : ShadowState := .empty
  /-- live stationary registers by cell number r*W+n, cells beyond the list hold 0 (R79); 1,024 x 32 bits and flags; reset 0 (R101) -/
  live : List AccEntry := []
  /-- shadow stationary registers by cell number (R79); 1,024 x 32 bits and flags; reset 0 (R101) -/
  shad : List AccEntry := []
  /-- WFMT of the SLOAD that filled the live set (R97); 4 bits; reset 0 (R101) -/
  liveFmt : BitVec 4 := 0
  /-- WFMT of the SLOAD that filled the shadow set (R97); 4 bits; reset 0 (R101) -/
  shadFmt : BitVec 4 := 0
  /-- SRC of the SLOAD that filled the live set (R123 OPB); 21 bits; reset 0 (R101) -/
  liveSrc : BitVec 21 := 0
  /-- SRC of the SLOAD that filled the shadow set (R123 OPB); 21 bits; reset 0 (R101) -/
  shadSrc : BitVec 21 := 0
  /-- rows of the two accumulator banks, row (bank, row) at bank*256+row, an unlisted row holds zeros (R85, R89); 2 x 8,192 entries; reset 0 (R101) -/
  banks : Tbl (List AccEntry) := []
  /-- state of bank 0 (R91); 2 bits; reset FREE (R101) -/
  bank0 : BankState := .free
  /-- state of bank 1 (R91); 2 bits; reset FREE (R101) -/
  bank1 : BankState := .free
  /-- highest row written in bank 0 since it was FREE (R91); 9 bits; reset none (R101) -/
  high0 : Option Nat := none
  /-- highest row written in bank 1 since it was FREE (R91); 9 bits; reset none (R101) -/
  high1 : Option Nat := none
  /-- the previous output-stationary command of the array, for CONT (R87); 256 bits; reset none (R101) -/
  lastOs : Option (BitVec 256) := none
  /-- a SWAP has started and waits to take effect (R83); 1 bit; reset 0 (R101) -/
  swapPend : Bool := false
  /-- the stationary load whose tile the shadow set is taking (R84); one command; reset none (R101) -/
  load : Option MxCmd := none
  /-- the attention pipeline holds the array under a claim (R92); 1 bit; reset 0 (R101) -/
  coupled : Bool := false
  deriving DecidableEq, Repr

/-- A bank or shadow handed over to the drain path (R91, R88). -/
structure DrainItem where
  /-- the array (R89); 2 bits -/
  arr : Fin 4
  /-- the bank; 0 for an output-stationary shadow (R148); 1 bit -/
  bank : Fin 2
  /-- the rows come from an output-stationary shadow (R148); 1 bit -/
  os : Bool
  /-- `MXA_CMD_SEQ` of the command that handed it over (R148); 32 bits -/
  seq : Word
  /-- DSEL of that command (R148); 4 bits -/
  dsel : BitVec 4
  /-- the descriptor copy it uses (R114); 512 bits -/
  desc : BitVec 512
  /-- rows 0 to high leave (R91); 9 bits -/
  high : Nat
  /-- the entries are INT32 accumulators (R116); 1 bit -/
  int : Bool := false
  /-- INT_SAT has been raised for it (R124); 1 bit -/
  satRaised : Bool := false
  /-- the next row to enter the stages (R116); 9 bits -/
  next : Nat := 0
  deriving DecidableEq, Repr

/-! ### Carts and the vector engine (R128 to R154) -/

/-- A cart of the cart queue (R147, R148). -/
structure Cart where
  /-- tag word 0: `MXA_CMD_SEQ` (R148); 32 bits -/
  tag0 : Word
  /-- tag word 1 (R148); 32 bits -/
  tag1 : Word
  /-- the cart's bytes, at most 4,096 (R147) -/
  bytes : List Byte
  deriving DecidableEq, Repr

/-- A vector instruction in the instruction queue (R131). -/
structure VecCmd where
  /-- the 64-bit instruction word (R131) -/
  word : BitVec 64
  /-- s[SX] read at acceptance (R131); 32 bits -/
  sx : Word
  /-- s[SX+1] read at acceptance (R131); 32 bits -/
  sx1 : Word
  /-- the instruction's `VEC_INSN_SEQ` (R131); 32 bits -/
  seq : Word
  deriving DecidableEq, Repr

/-! ### The attention pipeline and the merge unit (R155 to R184) -/

/-- An attention job in the 8-entry job queue (R175). -/
structure AtJob where
  /-- the 64-byte descriptor (R176); 512 bits -/
  raw : BitVec 512
  /-- the job's `ATP_JOB_SEQ` (R175); 32 bits -/
  seq : Word
  deriving DecidableEq, Repr

/-- A partial-state record (R155): m, l and the vector o, each an FP32 word. -/
structure PartialRec where
  /-- running maximum m (R155); 32 bits -/
  m : Word
  /-- running sum l (R155); 32 bits -/
  l : Word
  /-- vector o, HDIM elements held as FP32 (R155, R156) -/
  o : List Word
  deriving DecidableEq, Repr

/-- The attention job running on a core, with the results it writes or sends at its end (R160, R175). -/
structure AtRun where
  /-- the job (R175) -/
  job : AtJob
  /-- its partial records, row-major by head (R156) -/
  recs : List PartialRec
  /-- nonzero score increments: coach handle and amount (R174) -/
  scores : List (Word × Nat)
  deriving DecidableEq, Repr

/-- A contribution on its way to, or stored in, a merge slot (R167). -/
structure Contribution where
  /-- contributing lane of the cluster, core 16c+lane (R168); 4 bits -/
  lane : Fin 16
  /-- the job's descriptor: its fields are the slot configuration (R167); 512 bits -/
  raw : BitVec 512
  /-- `ATP_JOB_SEQ` of the job (R184); 32 bits -/
  seq : Word
  /-- the records (R156) -/
  recs : List PartialRec
  deriving DecidableEq, Repr

/-- An armed merge slot (R167). -/
structure MergeSlot where
  /-- the descriptor of the contribution that armed it: the slot configuration (R167); 512 bits -/
  raw : BitVec 512
  /-- contributions stored, at most one per lane (R167) -/
  got : List Contribution
  deriving DecidableEq, Repr

/-! ### DMA, scoreboard, data cache and the core (chapters 9 and 10) -/

/-- A DMA command in a core's queue (R225). -/
structure DmaCmd where
  /-- the 64-byte descriptor (R225); 512 bits -/
  raw : BitVec 512
  /-- the command's `DMA_CMD_SEQ` (R225); 32 bits -/
  seq : Word
  deriving DecidableEq, Repr

/-- A DMA command that has started and not completed (R225). -/
structure DmaRun where
  /-- the command (R225) -/
  cmd : DmaCmd
  /-- wharf writes it makes at completion: core, offset, bytes (R225, R235) -/
  toWharf : List (Nat × Nat × List Byte)
  /-- DVA writes it makes at completion: address and bytes (R225, R235) -/
  toDva : List (Nat × List Byte)
  /-- elements an ATOMIC combines at completion: address, operand, element number (R222) -/
  atoms : List (Nat × Word × Nat)
  /-- RWRITE barges not yet acknowledged end to end: their RW tags (R293) -/
  unacked : List Nat
  deriving DecidableEq, Repr

/-- The space of a scoreboard range (R236). -/
inductive Space where
  | wharf | dva
  deriving DecidableEq, Repr

/-- One declared range of the core scoreboard, in 64-byte lines (R236). -/
structure ScbRange where
  /-- wharf or DVA space (R236); 1 bit -/
  space : Space
  /-- first line (R236); 42 bits -/
  lo : Nat
  /-- last line (R236); 42 bits -/
  hi : Nat
  /-- marked write (R236); 1 bit -/
  wr : Bool
  deriving DecidableEq, Repr

/-- Which engine's command a scoreboard entry belongs to (R236). -/
inductive ScbOwner where
  | mxa | atp | dma | cyd | vec | drn
  deriving DecidableEq, Repr

/-- One of the 32 entries of a core's scoreboard (R236). -/
structure ScbEntry where
  /-- the engine (R236); 3 bits -/
  owner : ScbOwner
  /-- the command's sequence number (R236); 32 bits -/
  seq : Word
  /-- at most four ranges (R236) -/
  ranges : List ScbRange
  deriving DecidableEq, Repr

/-- A kernel running on a core (R63). -/
structure Kernel where
  /-- the context (R63); 8 bits -/
  ctx : Nat
  /-- index of its launch entry in the body (R59); 16 bits -/
  entry : Nat
  deriving DecidableEq, Repr

/-- A wait of a core's scalar unit (R241, R246). -/
inductive ScalarWait where
  | running
  | syw (counter : Nat) (target : Word) (scope : BitVec 2)
  | fence
  | full
  | conflict
  | queue
  deriving DecidableEq, Repr

/-- One compute core (level 1 of "Dies and hierarchy"). -/
structure Core where
  /-- scalar registers s1 to s31; s0 reads 0 (R131, R63); 31 x 32 bits; reset DESIGN CHOICE 0, log 12 -/
  sregs : Tbl Word := []
  /-- scalar program counter, a DVA (R59, R63); 48 bits; reset DESIGN CHOICE 0, log 12 -/
  pc : BitVec 48 := 0
  /-- the running kernel (R63, R78); reset none (R78) -/
  kernel : Option Kernel := none
  /-- what the scalar unit waits for (R246, R257); reset running (R257) -/
  wait : ScalarWait := .running
  /-- wharf bytes (R223); 2 MiB; reset DESIGN CHOICE 0, log 13 -/
  wharf : List Cell := []
  /-- present length VL (R129); 11 bits; reset 1,024 (R151) -/
  vl : Nat := 1024
  /-- VSTAT (R144); 7 bits; reset 0 (R151) -/
  vstat : BitVec 7 := 0
  /-- vector registers v0 to v31 (R128); 32 x 8,192 bits; reset 0 (R151) -/
  v : Tbl (BitVec 8192) := []
  /-- mask registers m0 to m7 (R130); 8 x 1,024 bits; reset 0 (R151) -/
  m : Tbl (BitVec 1024) := []
  /-- vector instruction queue, oldest first (R131); 32 entries; reset empty (R151) -/
  iq : List VecCmd := []
  /-- cart queue, head first (R147); 16 entries; reset empty (R151) -/
  carts : List Cart := []
  /-- the finished cart the drain path holds (R120, R147); reset none (R125) -/
  heldCart : Option Cart := none
  /-- banks and shadows handed over, oldest first (R89, R91); 12 entries; reset empty (R101) -/
  drainQ : List DrainItem := []
  /-- the sixteen drain descriptors (R114); 16 x 512 bits; reset 0 (R114) -/
  desc : Tbl (BitVec 512) := []
  /-- descriptors loaded by dset (R126 DESC_LOADED); 16 bits; reset 0 (R126) -/
  descLoaded : BitVec 16 := 0
  /-- the four matrix arrays (R79); reset deep and zero (R79, R101) -/
  arrays : Tbl MxArray := []
  /-- matrix command queue, oldest first (R89); 16 entries; reset empty (R101) -/
  mxq : List MxCmd := []
  /-- WSMUL commands with HAND = 1 whose last row is not yet written (R91); reset empty (R101) -/
  handPend : List MxCmd := []
  /-- OSMUL commands with SWAP_OUT = 1 not yet swapped out (R88); reset empty (R101) -/
  osPend : List MxCmd := []
  /-- attention job queue (R175); 8 entries; reset empty (R179) -/
  jobs : List AtJob := []
  /-- the running attention job (R175); reset none (R179) -/
  job : Option AtRun := none
  /-- DMA command queue (R225); 16 entries; reset empty (R101) -/
  dmq : List DmaCmd := []
  /-- DMA commands in flight (R225); 4 entries; reset empty (R101) -/
  dmaRun : List DmaRun := []
  /-- core scoreboard, oldest entry first (R236); 32 entries; reset empty (R258) -/
  scb : List ScbEntry := []
  /-- DVA stores accepted by the memory port and not yet by the basin, as (DPA, bytes within one line), oldest first (R235); reset empty (R258) -/
  port : List (Nat × List Byte) := []
  /-- resident lines of the data cache by DVA line number (R224, R239); 1,024 lines of 512 bits; reset none (R224) -/
  dcache : Tbl (BitVec 512) := []
  deriving DecidableEq, Repr

/-- Who made an increment of a sync counter (R243). -/
structure SyncMark where
  /-- scope recorded (R243); 2 bits -/
  scope : BitVec 2 := 0
  /-- lane of the incrementing core (R243); 4 bits -/
  lane : Nat := 0
  /-- an agent made it (R243); 1 bit -/
  agent : Bool := false
  /-- a wharf delivery to this lane (R243) -/
  delivery : Option Nat := none
  deriving DecidableEq, Repr

/-- One sync counter (R245). -/
structure SyncCnt where
  /-- the value (R245); 32 bits; reset 0 (R245) -/
  value : Word := 0
  /-- the last increment (R243); reset none (R245) -/
  last : Option SyncMark := none
  deriving DecidableEq, Repr

/-- One cluster (level 2 of "Dies and hierarchy"). -/
structure Cluster where
  /-- the context granted in this pound (R61, R78); reset none (R75) -/
  granted : Option Nat := none
  /-- the last context that ran in it (R61, R78 CSQ_OWNER); reset none (R78) -/
  lastOwner : Option Nat := none
  /-- logical number of the cluster in the grant (R61, R63); 5 bits; reset 0 (R78) -/
  logical : Nat := 0
  /-- zeroed at the last edge (R61, R75 ZEROED); 1 bit; reset 0 (R75) -/
  zeroed : Bool := false
  /-- CSQ_STATE.PHASE (R78); 3 bits; reset IDLE (R78) -/
  phase : BitVec 3 := 0
  /-- sync counters 0 to 254 (R245); 255 x 32 bits with their last increment; reset 0 (R245) -/
  sync : Tbl SyncCnt := []
  /-- merge slots 0 to 15 (R167); reset unarmed (R179) -/
  slots : Tbl (Option MergeSlot) := []
  /-- completed slots not yet delivered, by slot number (R169); reset none (R179) -/
  roots : Tbl (Option MergeSlot) := []
  /-- contributions on their way to the merge unit, oldest first (R167); reset empty (R179) -/
  inbox : List Contribution := []
  deriving DecidableEq, Repr

/-! ### Coach yard (R185 to R207) -/

/-- State of a coach-table entry (R187). -/
inductive CoachState where
  | free | pending | live | limbo
  deriving DecidableEq, Repr

/-- One coach-table entry (R188). -/
structure Coach where
  /-- STATE (R187); 2 bits; reset FREE (R204) -/
  st : CoachState := .free
  /-- GEN (R187); 8 bits; reset DESIGN CHOICE 0, log 14 -/
  gen : BitVec 8 := 0
  /-- owning context (R188 CTX); 8 bits; reset 0 (R204) -/
  ctx : Nat := 0
  /-- coach format code (R188 FMT); 4 bits; reset 0 (R204) -/
  fmt : BitVec 4 := 0
  /-- HDIM code (R188); 2 bits; reset 0 (R204) -/
  hdim : BitVec 2 := 0
  /-- committed fill mark (R188 FILL_C); 7 bits; reset 0 (R204) -/
  fillC : Nat := 0
  /-- working fill mark (R188 FILL_W); 7 bits; reset 0 (R204) -/
  fillW : Nat := 0
  /-- references added and not committed (R188 PEND_INC); 8 bits; reset 0 (R204) -/
  pendInc : Nat := 0
  /-- committed reference count (R188 REFS); 16 bits; reset 0 (R204) -/
  refs : Nat := 0
  /-- position of slot 0 (R188 BASE); 32 bits; reset 0 (R204) -/
  base : Word := 0
  /-- key scale (R188 KSCALE); 32 bits; reset 0 (R204) -/
  kscale : Word := 0
  /-- value scale (R188 VSCALE); 32 bits; reset 0 (R204) -/
  vscale : Word := 0
  /-- attention score (R188 SCORE); 32 bits; reset 0 (R204) -/
  score : Nat := 0
  /-- tick at which the entry entered its state (R188 TICK); 48 bits held, [31:0] shown; reset 0 (R204) -/
  tick : Nat := 0
  /-- frame number within the arena (R188 FRAME); 24 bits; reset 0 (R204) -/
  frame : Nat := 0
  deriving DecidableEq, Repr

/-- One berth of the yard, in both views (R189, R190). -/
structure YardBerth where
  /-- open in the committed view (R190); 1 bit; reset 0 (R204) -/
  openC : Bool := false
  /-- open in the working view (R190 OPEN); 1 bit; reset 0 (R204) -/
  openW : Bool := false
  /-- a RELEASE with FROM = 0 is in the journal (R190 RELEASING); 1 bit; reset 0 (R204) -/
  releasing : Bool := false
  /-- owning context (R190 CTX); 8 bits; reset 0 (R204) -/
  ctx : Nat := 0
  /-- layers (R190 LAYERS + 1); 9 bits; reset 0 (R204) -/
  layers : Nat := 0
  /-- groups (R190 GROUPS + 1); 7 bits; reset 0 (R204) -/
  groups : Nat := 0
  /-- BASE0 (R190); 32 bits; reset 0 (R204) -/
  base0 : Word := 0
  /-- committed chains by chain number, coach indices in order (R189); reset empty (R204) -/
  chainC : Tbl (List Nat) := []
  /-- working chains by chain number (R189); reset empty (R204) -/
  chainW : Tbl (List Nat) := []
  deriving DecidableEq, Repr

/-- Who issued a coach-yard command (R191). -/
inductive YardIssuer where
  | core (n : Nat)
  | serving
  deriving DecidableEq, Repr

/-- A coach-yard command waiting in a slice (R191). -/
structure YardCmd where
  /-- the 32-byte command (R192); 256 bits -/
  raw : BitVec 256
  /-- its `CYD_CMD_SEQ` (R191); 32 bits -/
  seq : Word
  /-- its context (R191); 8 bits -/
  ctx : Nat
  /-- its issuer (R191) -/
  issuer : YardIssuer
  deriving DecidableEq, Repr

/-- The journal of a context's pound (R199). -/
structure Journal where
  /-- chain-entry changes so far (R194 JOURNAL_FULL); 19 bits; reset 0 (R204) -/
  changes : Nat := 0
  /-- coach indices removed, once per chain (R199); reset empty (R204) -/
  removals : List Nat := []
  deriving DecidableEq, Repr

/-- The coach yard (R185 to R207). -/
structure Yard where
  /-- the coach table by INDEX (R187); 2^LOG2_ENTRIES entries; reset FREE (R204) -/
  coaches : Tbl Coach := []
  /-- the berths by number (R189); 16,384; reset closed (R204) -/
  berths : Tbl YardBerth := []
  /-- commands waiting in slice 0 to 3, oldest first (R191); reset empty (R204) -/
  slices : Tbl (List YardCmd) := []
  /-- score increments on their way: context, handle and amount, oldest first (R174, R201); reset empty (R204) -/
  scoreQ : List (Nat × Word × Nat) := []
  deriving DecidableEq, Repr

/-! ### Memory (R208 to R232) -/

/-- A cached translation (R213). -/
structure TlbEntry where
  /-- unit: core n, 512 + slice, 516 the host interface, 517 the other agents (R213); 10 bits -/
  unit : Nat
  /-- context (R213); 8 bits -/
  ctx : Nat
  /-- 2 MiB page number, DVA[47:21] (R211); 27 bits -/
  page : Nat
  /-- the level-2 entry (R211); 64 bits -/
  ent : BitVec 64
  deriving DecidableEq, Repr

/-- The memory system behind the bridges (R208 to R221). -/
structure Mem where
  /-- DRAM bytes by DPA, as the plaintext under the key each line was written with (R208, R214); 96 GiB; reset nothing listed: DESIGN CHOICE unlisted bytes read as a free value, log 15 -/
  cells : List Cell := []
  /-- key identity each 64-byte line was last written under, 0 = none (R214); reset none -/
  tags : Tbl Nat := []
  /-- poisoned lines by line number DPA[36:6] (R220); reset none, DESIGN CHOICE log 15 -/
  poison : List Nat := []
  /-- lines most recently poisoned on each M-die, newest first (R229 POISON_LOG); 4 x 16 x 31 bits; reset empty (R229) -/
  poisonLog : Tbl (List Nat) := []
  /-- line accesses made so far: what the basin hit counters are a free function of (R230); the model's own, DESIGN CHOICE 0, log 25 -/
  accesses : Nat := 0
  /-- interleave key (R209); 128 bits; reset a free draw at each reset source (R209) -/
  ikey : BitVec 128 := 0
  /-- cached translations of every unit (R213); reset empty (R213) -/
  tlb : List TlbEntry := []
  /-- contexts whose targeted-refresh triggers lie in the rolling 32 ms, by M-die, oldest first (R217); reset empty (R217) -/
  raa : Tbl (List Nat) := []
  /-- consecutive imbalanced windows by device channel (R218); reset 0 (R218) -/
  imb : Tbl Nat := []
  /-- corrections in the present hour by device channel (R220); reset 0 (R220) -/
  ceHour : Tbl Nat := []
  deriving DecidableEq, Repr

/-! ### The routing engine (R261 to R282) -/

/-- A routing job in the 64-entry queue (R264). -/
structure RteJob where
  /-- the 64-byte descriptor (R265); 512 bits -/
  raw : BitVec 512
  /-- its `RTE_JOB_SEQ` (R264); 32 bits -/
  seq : Word
  /-- the issuing core (R264); 9 bits -/
  core : Nat
  /-- the context (R264); 8 bits -/
  ctx : Nat
  deriving DecidableEq, Repr

/-- A selected job whose landings are still being listed (R271). -/
structure RteOpen where
  /-- its `RTE_JOB_SEQ` (R271); 32 bits -/
  seq : Word
  /-- the context (R271); 8 bits -/
  ctx : Nat
  /-- LANDING of the descriptor (R265); 48 bits -/
  landing : Nat
  /-- CMASK (R265); 32 bits -/
  cmask : Word
  /-- FSYNC (R265); 8 bits -/
  fsync : Nat
  /-- landing entries appended (R271) -/
  landed : Nat
  deriving DecidableEq, Repr

/-- A fetch in flight as requester (R271). -/
structure RteFetch where
  /-- the context (R271); 8 bits -/
  ctx : Nat
  /-- home member asked (R273); 12 bits -/
  member : Nat
  /-- layer (R273); 10 bits -/
  layer : Nat
  /-- expert number (R273); 13 bits -/
  expert : Nat
  /-- cache slot (R262); 12 bits -/
  slot : Nat
  /-- EXCH of the job (R265); 16 bits -/
  exch : Nat
  /-- EXP_BYTES (R265) -/
  bytes : Nat
  /-- tick of the step that scheduled it (R275); 48 bits -/
  tick : Nat
  /-- waiting jobs: `RTE_JOB_SEQ` and dispatch entry (R271) -/
  waiters : List (Word × Nat)
  /-- bytes of its weights that have landed in the slot (R271) -/
  have_ : Nat := 0
  /-- all its weights are in the slot and its landing is due (R271); 1 bit -/
  arrived : Bool := false
  deriving DecidableEq, Repr

/-- One of the 16,384 slot records (R262). -/
structure RteSlot where
  /-- directory index of the expert held (R262); none = free -/
  dir : Option Nat := none
  /-- last-use tick (R262); 48 bits -/
  lastUse : Nat := 0
  /-- LANDING (R262); 1 bit -/
  landing : Bool := false
  /-- a dispatch entry of an unjudged step refers to it (R262); 1 bit -/
  pinned : Bool := false
  deriving DecidableEq, Repr

/-- An exchange of request barges (R273). -/
structure RteExch where
  /-- the context (R273); 8 bits -/
  ctx : Nat
  /-- EXCH (R265); 16 bits -/
  exch : Nat
  /-- the tick (R273); 48 bits -/
  tick : Nat
  /-- members whose request barge has arrived (R273) -/
  got : List Nat
  /-- EXP_BYTES of the member's own job of the exchange, once it has been selected (R265, R274) -/
  bytes : Option Nat := none
  /-- judged FAILED (R305); 1 bit -/
  failed : Bool := false
  deriving DecidableEq, Repr

/-- A weight barge waiting for its turn in the SEQ order of its home (R274). -/
structure RteWeight where
  /-- the context (R274); 8 bits -/
  ctx : Nat
  /-- the home member (R274); 12 bits -/
  member : Nat
  /-- EXCH (R289); 16 bits -/
  exch : Nat
  /-- tick of the request (R289 STEP); 48 bits -/
  tick : Nat
  /-- SEQ (R289); 32 bits -/
  seq : Nat
  /-- REFUSED (R289); 1 bit -/
  refused : Bool
  /-- its bytes -/
  bytes : List Byte
  deriving DecidableEq, Repr

/-- The routing engine (R261 to R282). -/
structure Rte where
  /-- job queue, oldest first (R264); 64 entries; reset empty (R281) -/
  jobs : List RteJob := []
  /-- selected jobs with landings to come (R271); reset empty (R281) -/
  opens : List RteOpen := []
  /-- fetches in flight, oldest first (R281 FETCHING); reset empty (R281) -/
  fetches : List RteFetch := []
  /-- slot records by context*4096+slot (R262); 16,384 in use; reset free (R281) -/
  slots : Tbl RteSlot := []
  /-- exchanges of the present and spilled pounds (R273); reset empty (R281) -/
  exchs : List RteExch := []
  /-- weight barges received and not yet landed (R274); reset empty (R281) -/
  weights : List RteWeight := []
  deriving DecidableEq, Repr

/-! ### Links, ports and the fabric collective engine (R283 to R312) -/

/-- State of a link (R283). -/
inductive LinkState where
  | disabled | down | verifying | up | quarantined
  deriving DecidableEq, Repr

/-- One link (R283, R309). -/
structure Link where
  /-- LNK_STATUS.STATE (R283); 3 bits; reset DOWN (R309) -/
  st : LinkState := .down
  /-- LNK_STATUS.LANES (R309); 4 bits; reset 0 (R309) -/
  lanes : BitVec 4 := 0
  /-- LNK_STATUS.QREASON (R297, R309); 3 bits; reset 0 (R309) -/
  qreason : BitVec 3 := 0
  /-- an IDENTITY TLV has been received (R309 VALID); 1 bit; reset 0 (R309) -/
  peerValid : Bool := false
  /-- LNK_PEER.MEMBER (R309); 12 bits; reset 0 (R309) -/
  peerMember : Nat := 0
  /-- LNK_PEER.LINK (R309); 5 bits; reset 0 (R309) -/
  peerLink : Nat := 0
  /-- LNK_PEER_SERIAL (R309); 64 bits; reset 0 (R309) -/
  peerSerial : BitVec 64 := 0
  /-- LNK_PEER_VER (R309); 16 bits; reset 0 (R309) -/
  peerVer : BitVec 16 := 0
  /-- LLDP periods since the last frame with Gelzan TLVs (R297 row 1); reset 0 -/
  lldpSilent : Nat := 0
  /-- REBIND_BAD has been raised for its present port (R298); 1 bit; reset 0 -/
  rebindBad : Bool := false
  deriving DecidableEq, Repr

/-- A MACsec key of one direction and association number (R343). -/
structure SakKey where
  /-- key (R343, R356 SEC_SAK); 256 bits -/
  key : BitVec 256
  /-- salt of XPN (R356 SEC_SALT); 96 bits -/
  salt : BitVec 96
  /-- SSCI of XPN (R356 SEC_SSCI); 32 bits -/
  ssci : Word
  /-- GCM-AES-XPN-256 (R356 SAK_XPN); 1 bit -/
  xpn : Bool
  deriving DecidableEq, Repr

/-- Where a berth's response frames go (R324, R315). -/
inductive Route where
  | udp (port : Nat) (addr : BitVec 128) (udpPort : BitVec 16)
  | roce (port : Nat) (addr : BitVec 128) (qp : BitVec 24)
  | ring
  deriving DecidableEq, Repr

/-- One logical port (R285). -/
structure Port where
  /-- paused by PFC (R288); 1 bit; reset 0 -/
  paused : Bool := false
  /-- PORT_EMPTY raised for the present emptiness (R285); 1 bit; reset 0 -/
  empty : Bool := true
  /-- frames that wait while PFC pauses the port, oldest first (R288); reset empty -/
  txq : List (Route × List Byte) := []
  /-- installed MACsec keys by direction*4+AN (R343); reset none -/
  saks : Tbl (Option SakKey) := []
  deriving DecidableEq, Repr

/-- A barge: its 32-byte header and its payload (R289). -/
structure Barge where
  /-- header words 0 to 7 (R289); 256 bits -/
  hdr : BitVec 256
  /-- payload (R289), at most 1,048,576 bytes -/
  payload : List Byte
  deriving DecidableEq, Repr

/-- A barge kept in the retransmit buffer (R292). -/
structure TxBarge where
  /-- the barge (R292) -/
  barge : Barge
  /-- logical port it leaves on (R296); 5 bits -/
  port : Nat
  /-- link it was last sent on; none = waiting for buffer room or a link (R286, R292) -/
  link : Option Nat
  /-- retransmissions made (R292); 4 bits -/
  retries : Nat := 0
  deriving DecidableEq, Repr

/-- The receive window of one (FLIGHT, SRC, DST) (R292). -/
structure RxWindow where
  /-- every SEQ below has arrived (R292); 32 bits -/
  low : Nat := 0
  /-- arrived SEQ values at or above low, within 4,096 (R292) -/
  above : List Nat := []
  deriving DecidableEq, Repr

/-- State of a plan slot (R295). -/
inductive PlanState where
  | empty | loaded | armed | stopped
  deriving DecidableEq, Repr

/-- One of the 32 plan slots (R294, R295). -/
structure PlanSlot where
  /-- FCE_PLAN_STATE.STATE (R295); 2 bits; reset EMPTY (R311) -/
  st : PlanState := .empty
  /-- the plan's bytes as loaded (R294); reset empty (R311) -/
  plan : List Byte := []
  /-- a LOAD is running (R295); 1 bit; reset 0 -/
  loading : Bool := false
  /-- an ARM has been accepted and waits for ARM_AT (R295); reset none -/
  armAt : Option Nat := none
  /-- a DISARM waits for step 3 (R295); 1 bit; reset 0 -/
  disarm : Bool := false
  /-- next SEQ by destination member (R289); reset 0 (R295) -/
  txSeq : Tbl Nat := []
  /-- receive windows by source*4096+destination (R292); reset 0 (R295) -/
  rx : Tbl RxWindow := []
  /-- RWRITE barges received out of SEQ order, waiting for their turn (R293) -/
  rwHold : List Barge := []
  /-- members unreachable for the rest of the pound (R292) -/
  unreach : List Nat := []
  /-- LATE notices held: source and tick (R65, R305) -/
  late : List (Nat × Nat) := []
  /-- ABORT notices held: source and tick (R306) -/
  abortN : List (Nat × Nat) := []
  /-- notices already forwarded: kind, source and tick (R296) -/
  seen : List (Nat × Nat × Nat) := []
  /-- tick for which FLIGHT_ABORT was recorded (R305); reset none -/
  abortTick : Option Nat := none
  /-- the flight stops at step 5 until re-armed although ARMED (R53, R68) -/
  stopNext : Bool := false
  deriving DecidableEq, Repr

/-- One instance of a collective (R302). -/
structure CollInst where
  /-- the context (R300); 8 bits -/
  ctx : Nat
  /-- collective number (R300); 16 bits -/
  coll : Nat
  /-- INST (R302); 8 bits -/
  inst : Nat
  /-- tick of its pound (R302); 48 bits -/
  tick : Nat
  /-- the descriptor copy; none until the first local contribution (R300); 512 bits -/
  desc : Option (BitVec 512)
  /-- the member's own contribution (R301); none before it -/
  own : Option (List Byte)
  /-- contributions or device partials received, by member, PHASE, SEQ and bytes (R289, R302, R171) -/
  got : List (Nat × Nat × Nat × List Byte)
  /-- cluster leaves received of a MERGE, by physical cluster (R171) -/
  leaves : List (Nat × List PartialRec)
  /-- identities of the barges it sent, not yet acknowledged: (destination, SEQ) (R302) -/
  unacked : List (Nat × Nat)
  /-- the sends of its algorithm already made: (destination, phase) (R302) -/
  sent : List (Nat × Nat) := []
  /-- the output is written (R302); 1 bit -/
  written : Bool := false
  /-- judged FAILED (R305); 1 bit -/
  failed : Bool := false
  deriving DecidableEq, Repr

/-- A contribution source the FCE has not read yet is read at `fcq`; what remains is the engine (R283 to R312). -/
structure Fce where
  /-- the 32 plan slots (R294); reset EMPTY (R311) -/
  plans : Tbl PlanSlot := []
  /-- instances in progress or judged this pound (R302, R311 INSTANCES); reset empty (R311) -/
  insts : List CollInst := []
  /-- retransmit buffer and waiting barges, oldest first (R292); 16 MiB; reset empty (R311) -/
  retx : List TxBarge := []
  /-- hop acknowledgements pending: link, FLIGHT, SRC, DST, SEQ (R292); reset empty (R311) -/
  acks : List (Nat × Nat × Nat × Nat × Nat) := []
  /-- IEEE 1588 device time at the last edge or message, ns (R299); 64 bits; reset 0, DESIGN CHOICE log 16 -/
  ptpTime : BitVec 64 := 0
  deriving DecidableEq, Repr

/-! ### The serving engine and the sampler (R313 to R332) -/

/-- CTR_DRBG working state (R325). -/
structure Drbg where
  /-- Key (R325); 256 bits -/
  key : BitVec 256 := 0
  /-- V (R325); 128 bits -/
  v : BitVec 128 := 0
  /-- reseed counter (R325); 48 bits -/
  reseed : Nat := 0
  deriving DecidableEq, Repr

/-- State of a berth (R317). -/
inductive BerthState where
  | free | prefill | decode | stretch | closing
  deriving DecidableEq, Repr

/-- One berth of the serving engine (R317 to R328). -/
structure SrvBerth where
  /-- SRV_BERTH_STATE.STATE (R317); 3 bits; reset FREE (R329) -/
  st : BerthState := .free
  /-- context (R329 CTX); 8 bits; reset 0 (R329) -/
  ctx : Nat := 0
  /-- REQ_ID (R313); 64 bits; reset 0 -/
  reqId : BitVec 64 := 0
  /-- the 128-byte parameter block (R316); 1,024 bits; reset 0 -/
  params : BitVec 1024 := 0
  /-- route of its response frames (R324); reset ring -/
  route : Route := .ring
  /-- sequence-split (R322); 1 bit; reset 0 -/
  split : Bool := false
  /-- HOME (R322); 12 bits; reset 0 -/
  home : Nat := 0
  /-- BASE0 of the berth on this member (R318, R322); 32 bits; reset 0 -/
  base0 : Nat := 0
  /-- prompt and generated tokens in order (R318); reset empty -/
  toks : List Word := []
  /-- prompt tokens received (R318); 32 bits; reset 0 -/
  prompt : Nat := 0
  /-- the prompt is complete (R313 LAST); 1 bit; reset 0 -/
  promptDone : Bool := false
  /-- committed prefilled count (R321); 32 bits; reset 0 -/
  prefilled : Nat := 0
  /-- committed position (R329 POSITION); 32 bits; reset 0 (R329) -/
  pos : Nat := 0
  /-- committed count of generated tokens (R324); 32 bits; reset 0 -/
  gen : Nat := 0
  /-- token sampled in the running step (R323); reset none -/
  sampled : Option Word := none
  /-- token frames sent so far: next INDEX never sent (R326 REPLAY); 32 bits; reset 0 -/
  sent : Nat := 0
  /-- tick of the last sample (R320); 48 bits; reset 0 -/
  lastTick : Nat := 0
  /-- a token was sampled in the last committed step (R388 SAMPLED); 1 bit; reset 0 -/
  sampledLast : Bool := false
  /-- order of OPEN arrival (R320); reset 0 -/
  order : Nat := 0
  /-- token-buffer index of each token of `toks` (R318, R319 word 3); reset empty -/
  tokIdx : List Nat := []
  /-- a CANCEL was accepted: tick of the step running then (R69, R327); 48 bits; reset none -/
  cancelled : Option Nat := none
  /-- REASON of the end (R324); 4 bits; reset 0 -/
  reason : BitVec 4 := 0
  /-- the END decision belongs to a committed step (R328); 1 bit; reset 0 -/
  endCommitted : Bool := false
  /-- its RELEASE is in the journal (R328); 1 bit; reset 0 -/
  released : Bool := false
  /-- committed generator state (R325); reset 0 -/
  drbg : Drbg := {}
  /-- generator state of the running step (R325); reset 0 -/
  drbgW : Drbg := {}
  deriving DecidableEq, Repr

/-- One entry of a batch table (R319). -/
structure BatchEntry where
  /-- berth (R319); 14 bits -/
  berth : Nat
  /-- prefill entry (R319); 1 bit -/
  prefill : Bool
  /-- SAMPLE (R319); 1 bit -/
  sample : Bool
  /-- WRITE of a decode entry (R319); 1 bit -/
  write : Bool
  /-- first position (R319); 32 bits -/
  pos : Nat
  /-- positions: 1 for decode, COUNT for prefill (R319) -/
  count : Nat
  deriving DecidableEq, Repr

/-- The batch of one pound (R319). -/
structure Batch where
  /-- tick u (R319); 48 bits -/
  tick : Nat
  /-- its entries (R319) -/
  entries : List BatchEntry
  deriving DecidableEq, Repr

/-- A request in the sampler (R323). -/
structure SampleReq where
  /-- berth (R323); 14 bits -/
  berth : Nat
  /-- context; 8 bits -/
  ctx : Nat
  /-- the logits read, FP32 (R323) -/
  logits : List Word
  deriving DecidableEq, Repr

/-- The serving engine and the sampler (R313 to R332). -/
structure Srv where
  /-- the 16,384 berths (R317); reset FREE (R329) -/
  berths : Tbl SrvBerth := []
  /-- OPEN frames accepted, for arrival order (R320); reset 0 -/
  opens : Nat := 0
  /-- sampler queue, oldest first (R323); reset empty (R331) -/
  smpQ : List SampleReq := []
  /-- requests in the 16 sampler units (R323); reset none (R331) -/
  units : Tbl (Option SampleReq) := []
  deriving DecidableEq, Repr

/-! ### Contexts: manifests, steps, keys and sessions (chapters 3, 14, 15) -/

/-- A launch entry of a manifest body (R59). -/
structure Launch where
  /-- START in 10 ns (R59); 24 bits -/
  start : Nat
  /-- LCLUSTER (R59); 5 bits -/
  lcluster : Nat
  /-- BCAST (R59); 1 bit -/
  bcast : Bool
  /-- CORE_MASK (R59); 16 bits -/
  mask : BitVec 16
  /-- ENTRY (R59); 48 bits -/
  entry : BitVec 48
  /-- ARGS (R59); 48 bits -/
  args : BitVec 48
  /-- cores on which the entry has started (R63) -/
  started : List Nat := []
  /-- of those, the ones on which it had started before the present pound (R66, R78) -/
  before : List Nat := []
  deriving DecidableEq, Repr

/-- An admitted step of a context (R64 to R68). -/
structure Step where
  /-- tick of its admission (R48); 48 bits -/
  tick : Nat
  /-- CLASS of the header (R59); 2 bits -/
  cls : BitVec 2
  /-- FLIGHT_STEP (R59); 1 bit -/
  flight : Bool
  /-- BUDGET in 10 ns (R59); 24 bits -/
  budget : Nat
  /-- PAIRS (R59); 32 bits -/
  pairs : Word
  /-- COACH_NEW still unspent (R203); 16 bits -/
  coachLeft : Nat
  /-- FETCH_SLOTS of the manifest (R275); 16 bits -/
  fetchSlots : Nat
  /-- fetches scheduled (R275) -/
  fetched : Nat := 0
  /-- launch entries in body order (R59) -/
  launches : List Launch
  /-- run start in 10 ns after the edge (R61) -/
  runStart : Nat
  /-- the tag verification still runs: nothing starts (R58); 1 bit -/
  verifying : Bool := false
  /-- the step spills (R66); 1 bit -/
  spilled : Bool := false
  /-- judged LATE at guard open (R64, R65); 1 bit -/
  late : Bool := false
  /-- every entry started and every kernel ended, at this time in 10 ns after run start (R64) -/
  done : Option Nat := none
  deriving DecidableEq, Repr

/-- A manifest slot whose tag verification ends after step 5 (R58). -/
structure Verifying where
  /-- slot words 0 to 15 as read at step 5 (R48) -/
  words : List Word
  /-- DVA of the slot -/
  slotDva : Nat
  /-- the body as read (R58) -/
  body : List Byte
  /-- tick t of the edge (R48) -/
  tick : Nat
  /-- the step-5 skip reason, 0 when granted (R58); 8 bits -/
  reason : Nat
  /-- LKP_CTX_WEIGHT to add to the deficit when the tag verifies (R58, R61) -/
  deficit : Nat
  deriving DecidableEq, Repr

/-- The lock-keeper's pre-read copy of a slot and its body (R58). -/
structure PreRead where
  /-- edge for which it was read (R58) -/
  tick : Nat
  /-- words 0 to 11 read (R58) -/
  words : List Word
  /-- the body fetched (R58) -/
  body : List Byte
  /-- translation fault or poison met while fetching (R48 row 7); 1 bit -/
  fault : Bool
  /-- tag result: none while verification runs (R58) -/
  tagOk : Option Bool
  deriving DecidableEq, Repr

/-- State of a context (R333). -/
inductive CtxState where
  | inactive | activating | active | deactivating
  deriving DecidableEq, Repr

/-- An SPDM session (R338 to R340). -/
structure Session where
  /-- SPDM session ID (R357 SID); 32 bits -/
  sid : Word
  /-- PSK_FINISH has completed (R340); 1 bit -/
  finished : Bool := false
  /-- order of finishing, the newest active (R340) -/
  order : Nat := 0
  /-- k_man, k_req and k_rsp (R340); 3 x 256 bits -/
  kman : BitVec 256 := 0
  kreq : BitVec 256 := 0
  krsp : BitVec 256 := 0
  /-- the handshake used HBEAT_CAP (R338); 1 bit -/
  hbeat : Bool := false
  /-- KEY_UPDATE messages accepted (R338) -/
  updates : Nat := 0
  deriving DecidableEq, Repr

/-- The active application key set (R340). -/
structure KeySet where
  /-- its session (R357 SID); 32 bits -/
  sid : Word
  /-- k_man (R340); 256 bits -/
  kman : BitVec 256
  /-- k_req (R340); 256 bits -/
  kreq : BitVec 256
  /-- k_rsp (R340); 256 bits -/
  krsp : BitVec 256
  deriving DecidableEq, Repr

/-- An error record of the context's scrub that is pending (R366, R391). -/
structure Condemn where
  /-- error code (R391 SCRUB_CODE); 16 bits -/
  code : BitVec 16
  /-- severity (R391 SCRUB_SEV); 2 bits -/
  sev : BitVec 2
  /-- tick of the raise (R391 SCRUB_RAISED); 32 bits -/
  tick : Word
  /-- reporting core or 0xFFFF (R391 SCRUB_CORE); 16 bits -/
  core : BitVec 16
  deriving DecidableEq, Repr

/-- Everything the part holds for one of the 256 contexts. -/
structure Ctx where
  /-- SEC_CTX_STATUS.STATE (R333); 2 bits; reset INACTIVE, context 0 ACTIVE from start-up (R334) -/
  st : CtxState := .inactive
  /-- identity of the key held in the slot; none = empty (R214, R334); 512-bit keys are never readable; reset none (R335) -/
  key : Option Nat := none
  /-- words of the PSK written so far by number; installed once all eight are (R339, R357); 8 x 32 bits; reset none (R357) -/
  psk : Tbl Word := []
  /-- open sessions, at most 2 (R338); reset none (R340) -/
  sessions : List Session := []
  /-- active application keys (R340); reset none (R340) -/
  active : Option KeySet := none
  /-- previous k_req, still accepted for 1 s (R340); 256 bits; reset none -/
  prevReq : Option (BitVec 256) := none
  /-- a switch to the keys of this session waits for step 3 (R340, R357 SWITCH_PENDING); 32 bits; reset none -/
  keySwitch : Option Word := none
  /-- open-mark (R342); 64 bits; reset 0 (R357) -/
  openMark : BitVec 64 := 0
  /-- SEC_CTX_DROPS at the start of the pound (R342); 32 bits; reset 0 -/
  dropsAtEdge : Nat := 0
  /-- DROP_STORM raised in this pound (R342); 1 bit; reset 0 -/
  stormRaised : Bool := false
  /-- the context's step: admitted and not yet judged (R64); reset none (R76) -/
  step : Option Step := none
  /-- LKP_CTX_STEP.LAST_OUTCOME (R76); 3 bits; reset 0 (R76) -/
  lastOutcome : BitVec 3 := 0
  /-- LKP_CTX_STEP.LATE_SENT (R76); 1 bit; reset 0 (R76) -/
  lateSent : Bool := false
  /-- SEQ of the last admitted manifest (R384 word 6); 48 bits; reset 0 (R384) -/
  lastSeq : Nat := 0
  /-- pre-read copy (R58); reset none -/
  preread : Option PreRead := none
  /-- classification waiting for its tag (R58); reset none -/
  verify : Option Verifying := none
  /-- condemned since (R366); reset none (R391) -/
  condemned : Option Condemn := none
  /-- ticks of the scrubs within the last 1,024 ticks (R369); reset empty -/
  scrubTicks : List Nat := []
  /-- tick of the last scrub (R384 word 15); 32 bits; reset 0 -/
  lastScrub : Nat := 0
  /-- NaN report of the context on its way to the X-die is queued in `reports`; yard journal of the pound (R199); reset empty (R204) -/
  journal : Journal := {}
  /-- the batch of the admitted step in SELF-MANIFEST mode (R319); reset none (R329) -/
  batch : Option Batch := none
  /-- the batch written for the next edge (R321); reset none (R329) -/
  nextBatch : Option Batch := none
  /-- its manifest for the present pound was not built at the cut-off (R321 BUILD_LATE); 1 bit; reset 0 -/
  owed : Bool := false
  /-- berths sampled by `spq` in this pound (R323); reset empty -/
  spqd : List Nat := []
  /-- next intake ring entry (R315); 15 bits; reset 0 (R330) -/
  inNext : Nat := 0
  /-- ring responses held while the output ring is full, oldest first (R315); reset empty (R330) -/
  outHeld : List (List Byte) := []
  /-- INST counters of the pound by collective number (R302); reset 0 (R295) -/
  insts : Tbl Nat := []
  /-- exponent of the trace: records of the 128-record window, newest last (R354, R360); 128 x 128 bits; reset empty (R360) -/
  trace : List (BitVec 128) := []
  /-- a GAUGE request awaiting its snapshot or write: FULL and BERTH_PAGE (R380); reset none (R391) -/
  gaugeReq : Option (Bool × BitVec 2) := none
  /-- its snapshot, awaiting the write (R380); reset none (R391) -/
  gaugeRec : Option (List Byte) := none
  /-- energy of the present pound in µJ (R427); reset 0 (R436) -/
  poundEnergy : Nat := 0
  /-- µJ of the context meter below 1 mJ (R427); 10 bits; reset 0 -/
  energyRem : Nat := 0
  deriving DecidableEq, Repr

/-! ### The lock-keeper, errors, security and debug -/

/-- Phase of the pound (R55); stopped when the tick does not run (R73). -/
inductive Phase where
  | stopped | run | guard
  deriving DecidableEq, Repr

/-- The lock-keeper (R51 to R74). -/
structure Lkp where
  /-- the tick number (R51); 48 bits; reset 0 (R75 NOW) -/
  now : Nat := 0
  /-- phase of the pound (R55); reset stopped (R405) -/
  phase : Phase := .stopped
  /-- START accepted, first edge still to come, with its number when the source gives it (R73); reset none -/
  starting : Option Nat := none
  /-- STOP accepted: the next edge is the last (R73); 1 bit; reset 0 -/
  stopping : Bool := false
  /-- clusters zeroed at the last edge (R75); 6 bits; reset 0 -/
  zeroed : Nat := 0
  /-- the tF check of this pound has been made (R305); 1 bit; reset 0 -/
  tfDone : Bool := false
  deriving DecidableEq, Repr

/-- A staged T write or a command that waits for step 3 (R11, R12). -/
inductive Staged where
  | field (addr : Nat) (mask val : Word)
  | activate (k : Nat)
  | deactivate (k : Nat)
  | xlatInv (k : Option Nat)
  | debug (target : BitVec 2)
  deriving DecidableEq, Repr

/-- A produced-NaN report on its way to the X-die (R122). -/
structure Report where
  /-- context (R123); 8 bits -/
  ctx : Nat
  /-- offset of the page in which FIRST_NAN is raised (R122, R184, R222, R303) -/
  page : Nat
  /-- condition FIRST_NAN of that page; FIRST_NAN_HALT is the next one (R127, R232) -/
  cond : Nat
  /-- the 32-byte numeric event record (R123); 256 bits -/
  record : BitVec 256
  deriving DecidableEq, Repr

/-- SPDM connection state of one transport (R338). -/
structure Spdm where
  /-- VERSION fixed by GET_VERSION (R338); 8 bits -/
  version : Option (BitVec 8) := none
  /-- GET_CAPABILITIES answered (R338); 1 bit -/
  caps : Bool := false
  /-- NEGOTIATE_ALGORITHMS answered (R338); 1 bit -/
  algs : Bool := false
  deriving DecidableEq, Repr

/-- A firmware image in a flash copy or running (R344). -/
structure Image where
  /-- header TYPE (R344); 8 bits -/
  typ : BitVec 8
  /-- VERSION (R344); 32 bits -/
  version : Word
  /-- SVN (R344); 16 bits -/
  svn : BitVec 16
  /-- SHA-256 of the payload (R344); 256 bits -/
  hash : BitVec 256
  /-- payload -/
  payload : List Byte
  deriving DecidableEq, Repr

/-- Evidence being signed (R347, R349). -/
structure Signing where
  /-- transport of the request (R349) -/
  via : Transport
  /-- index q (R347); 30 bits -/
  index : Nat
  /-- the 256-byte record (R349) -/
  record : List Byte
  deriving DecidableEq, Repr

/-- The security engine (R333 to R361). -/
structure Sec where
  /-- key identities drawn so far (R334); reset 0 -/
  keyGen : Nat := 0
  /-- sessions finished so far (R340); reset 0 -/
  finishes : Nat := 0
  /-- SEC_STATUS.RNG_OK (R356); 1 bit; reset 0 (R356) -/
  rngOk : Bool := false
  /-- SEC_STATUS.KEYSTORE_READY (R356); 1 bit; reset 0 (R356) -/
  ready : Bool := false
  /-- SPDM connections by transport: context number of the DOE, 256 = MCTP (R338); reset none -/
  spdm : Tbl Spdm := []
  /-- signatures requested in the present second (R348); reset 0 -/
  attSecond : Nat := 0
  /-- evidence being signed or waiting for the signer, oldest first (R347); reset none -/
  signing : List Signing := []
  /-- IDE link stream established (R356); 1 bit; reset 0 (R356) -/
  ideLink : Bool := false
  /-- IDE selective streams established, by number (R343, R356); at most 8; reset none (R356) -/
  ideSel : List Nat := []
  /-- image staged by PLDM (R345); reset none -/
  pldm : Option (List Byte) := none
  /-- the staged image verified (R345); 1 bit; reset 0 -/
  pldmOk : Bool := false
  deriving DecidableEq, Repr

/-- The debug block (R350 to R353). -/
structure Dbg where
  /-- DBG_STATE.STATE (R350); 2 bits; reset SEALED (R350) -/
  st : BitVec 2 := 0
  /-- accepted target waiting for step 3 (R359 PENDING, PEND_VALID); reset none (R359) -/
  pend : Option (BitVec 2) := none
  /-- DBG_NONCE (R351); 128 bits; reset a free draw (R359) -/
  nonce : BitVec 128 := 0
  /-- the token being verified (R351); reset none -/
  token : Option (List Byte) := none
  /-- instruction loaded in the TAP (R353); reset DESIGN CHOICE BYPASS, log 17 -/
  tap : Nat := 0
  deriving DecidableEq, Repr

/-- What triggered the running capture (R377, R378). -/
structure CapTrig where
  /-- CAUSE: 1 HANG, 2 DEVICE, 3 FATAL, 4 COMMAND (R378); 3 bits -/
  cause : Nat
  /-- trigger error code and severity as in `BLK_FIRST` (R378); 32 bits -/
  err : Word
  /-- start tick (R378); 48 bits -/
  tick : Nat
  deriving DecidableEq, Repr

/-- The hang watchdog and the errors block (R362 to R392). -/
structure Hwd where
  /-- MISSED (R374); 8 bits; reset 0 (R389) -/
  missed : Nat := 0
  /-- STAGE of the last hang (R375); 2 bits; reset 0 (R389) -/
  stage : Nat := 0
  /-- tick of the last hang (R375); reset none -/
  lastHang : Option Nat := none
  /-- 50 ms passed without the first beat: the next declaration takes the next stage (R376); 1 bit; reset 0 -/
  nextStage : Bool := false
  /-- RESTARTING (R376); 1 bit; reset 0 (R389) -/
  restarting : Bool := false
  /-- misses are not counted since the restart began (R376); 1 bit; reset 0 -/
  muted : Bool := false
  /-- beats received since the last step 7 (R374): right value seen, wrong value seen -/
  beatOk : Bool := false
  beatWrong : Bool := false
  /-- LAST_BEAT (R389); 32 bits; reset 0 (R389) -/
  lastBeat : Word := 0
  /-- a hang is declared and no beat followed (R372); 1 bit; reset 0 -/
  hangAlert : Bool := false
  /-- a restart waits for the end of the capture (R376); 1 bit; reset 0 -/
  restartPend : Bool := false
  /-- FATAL_STOP (R371); 1 bit; reset 0 -/
  fatal : Bool := false
  /-- DEVICE_STOP (R370); 1 bit; reset 0 -/
  stopped : Bool := false
  /-- the trigger of the running capture (R377); reset none -/
  capturing : Option CapTrig := none
  /-- header and common-register sections of the capture buffer (R377, R378); 276 KiB of its 2 MiB; reset 0, kept by RESET_N under R396 -/
  cap : List Cell := []
  /-- draw number of the held capture plus 1, 0 = none: names the rest of the buffer, whose layout the spec does not give (R378); the model's own, DESIGN CHOICE 0, log 24 -/
  capNo : Nat := 0
  /-- GAUGE requests of the physical function (R380): FULL and BERTH_PAGE -/
  gaugeReq : Option (Bool × BitVec 2) := none
  /-- their snapshot -/
  gaugeRec : Option (List Byte) := none
  /-- GAUGE request of the towpath (R380): FULL and BERTH_PAGE -/
  gaugeTow : Option (Bool × BitVec 2) := none
  /-- its snapshot -/
  gaugeTowRec : Option (List Byte) := none
  /-- GAUGE_SEQ (R383); 32 bits; reset 0 -/
  gaugeSeq : Nat := 0
  /-- ALERT_N asserted (R372); 1 bit; reset 0 -/
  alert : Bool := false
  deriving DecidableEq, Repr

/-! ### Flash, backup domain, reset (chapter 16) -/

/-- The contents of package flash that decide start-up (R347, R400, R404, R433). -/
structure Flash where
  /-- option copy A: 2 KiB header and 4 KiB record block (R400); reset DESIGN CHOICE empty, log 18 -/
  optA : List Byte := []
  /-- option copy B (R400); reset DESIGN CHOICE empty, log 18 -/
  optB : List Byte := []
  /-- active Dravner copy (R404); reset DESIGN CHOICE empty, log 18 -/
  drvActive : List Byte := []
  /-- inactive Dravner copy (R404); reset DESIGN CHOICE empty, log 18 -/
  drvInactive : List Byte := []
  /-- active security-engine copy (R404); reset DESIGN CHOICE empty, log 18 -/
  secActive : List Byte := []
  /-- inactive security-engine copy (R404); reset DESIGN CHOICE empty, log 18 -/
  secInactive : List Byte := []
  /-- attestation reserve log: RESERVE of each valid record, newest last (R347); reset DESIGN CHOICE empty, log 18 -/
  attLog : List Nat := []
  /-- lifetime-log summary copy 0 and 1 (R433); 2 x 4 KiB; reset DESIGN CHOICE empty, log 18 -/
  sum0 : List Byte := []
  sum1 : List Byte := []
  /-- lifetime-log event ring by record number (R433); 16,384 x 64 B; reset DESIGN CHOICE empty, log 18 -/
  ring : Tbl (List Byte) := []
  /-- HSS public key (60 B) and endorsement (1,612 B) (R346, R349); reset DESIGN CHOICE empty, log 18 -/
  hssPub : List Byte := []
  endorse : List Byte := []
  deriving DecidableEq, Repr

/-- Fuses of the part (R344, R345, R351, R356). -/
structure Fuses where
  /-- device serial (R383); 64 bits; DESIGN CHOICE 0, log 18 -/
  serial : BitVec 64 := 0
  /-- lab fuse (R356); 1 bit; DESIGN CHOICE 0, log 18 -/
  lab : Bool := false
  /-- firmware key hashes 0 to 3 (R344); 4 x 256 bits; DESIGN CHOICE 0, log 18 -/
  keyHash : Tbl (BitVec 256) := []
  /-- debug authority key hash (R351); 256 bits; DESIGN CHOICE 0, log 18 -/
  dbgHash : BitVec 256 := 0
  /-- revoked key indices (R356 FW_REVOKE); 4 bits; DESIGN CHOICE 0, log 18 -/
  revoke : BitVec 4 := 0
  /-- SVN thermometers of DRAVNER, OPTION and SECENG (R345, R356); 3 x 64 steps; DESIGN CHOICE 0, log 18 -/
  svnDrv : Nat := 0
  svnOpt : Nat := 0
  svnSec : Nat := 0
  deriving DecidableEq, Repr

/-- The backup domain (R397, R410). -/
structure Bkp where
  /-- BKP_STATUS.VALID (R410); 1 bit; reset held, DESIGN CHOICE 0, log 19 -/
  valid : Bool := false
  /-- the integrity word is right: VBAK has held (R397); 1 bit; reset DESIGN CHOICE 0, log 19 -/
  held : Bool := false
  /-- BKP_STATUS.RESTORED (R410); 1 bit; reset held, log 19 -/
  restored : Bool := false
  /-- LOAD_MARK (R401); 1 bit; reset held, log 19 -/
  loadMark : Bool := false
  /-- checks, copy and VERSION recorded beside LOAD_MARK (R402); reset held, log 19 -/
  markInfo : Option (BitVec 3 × BitVec 3 × BitVec 2 × BitVec 8) := none
  /-- OPT_FAILS (R402, R410); 8 bits; reset held, log 19 -/
  optFails : Nat := 0
  /-- reset counter (R398); 32 bits; reset held, log 19 -/
  resets : Nat := 0
  /-- BKP_LAST_RESET (R410); 32 bits; reset held, log 19 -/
  lastReset : Word := 0
  /-- tamper flags VBAK_LOW, VOLT_GLITCH, CLOCK_GLITCH, ATT_ROLLBACK, OPT_ROLLBACK (R399, R410); 5 bits; reset held, log 19 -/
  tamper : BitVec 5 := 0
  /-- attestation NEXT (R347); 31 bits; reset held, log 19 -/
  attNext : Nat := 0
  /-- option-load history, newest first, at most 8 entries (R397, R410); 8 x 32 bits; reset held, log 19 -/
  hist : List Word := []
  deriving DecidableEq, Repr

/-- The reset controller and option loader (R393 to R411). -/
structure Rst where
  /-- the device is held in reset: before release (R393, R394); 1 bit; reset held -/
  inReset : Bool := true
  /-- RESET_N is asserted (R394); 1 bit; reset 0 -/
  resetN : Bool := false
  /-- PERST_N is low (R395); 1 bit; reset 0 -/
  perst : Bool := false
  /-- RST_STATUS.PHASE (R409); 4 bits; reset BACKUP (R409) -/
  phase : BitVec 4 := 0
  /-- DEVSTATE without the stop states: READY reached (R405); 1 bit; reset 0 -/
  ready : Bool := false
  /-- RST_STATUS.OPT_COPY (R409); 8 bits; reset 0 (R409) -/
  optCopy : BitVec 8 := 0
  /-- FALLBACK (R403, R409); 1 bit; reset 0 (R409) -/
  fallback : Bool := false
  /-- CAP_KEPT (R396, R409); 1 bit; reset 0 (R409) -/
  capKept : Bool := false
  /-- an option load attempt is due 1.0 ms after a failed one (R402); 1 bit; reset 0 -/
  retryDue : Bool := false
  /-- ends of OPTIONS, MEMORY and READY of the running start-up, in µs, as RELEASE gave them (R409); the model's own, reset none -/
  times : List Word := []
  /-- applied option records of the selected copy: TYPE, DIE and payload (R401); reset cleared (R401) -/
  trims : List (BitVec 8 × BitVec 4 × List Byte) := []
  /-- running Dravner image (R404); reset none (R405) -/
  drv : Option Image := none
  /-- running security-engine image (R404); reset none (R405) -/
  sece : Option Image := none
  /-- loaded option image (R401); reset none (R405) -/
  opt : Option Image := none
  /-- straps sampled at release: TOWSEL, SLOT_ID, OPT_MODE (R449); 13 bits; reset DESIGN CHOICE 0, log 20 -/
  straps : BitVec 13 := 0
  deriving DecidableEq, Repr

/-! ### Power, heat and ageing (chapter 17) -/

/-- One power domain (R412). -/
structure PwrDom where
  /-- POINT in force (R413); 4 bits; reset per domain (R435): M 10, X 6, C 0 at start -/
  point : Nat := 0
  /-- MAXPOINT (R413); 4 bits; reset 14 (R435) -/
  maxPoint : Nat := 14
  /-- THERMAL_MAX (R428); 4 bits; reset 14 (R435) -/
  thermMax : Nat := 14
  /-- rail voltage in mV (R413); 10 bits; reset 0 (R435) -/
  volt : Nat := 0
  /-- point planned for the next edge (R415); 4 bits; reset none -/
  planned : Option Nat := none
  /-- applied MARGIN in mV (R430); 8 bits; reset plan -/
  margin : Nat := 100
  /-- planned MARGIN in mV (R430); 8 bits; reset plan -/
  plan : Nat := 100
  /-- droop step in mV (R426); 8 bits; reset 0 (R438) -/
  droop : Nat := 0
  /-- sluices in this pound (R426); reset 0 -/
  sluices : Nat := 0
  /-- consecutive edges with no sluice (R426); reset 0 -/
  calm : Nat := 0
  /-- guard band remaining in mV (R429); 8 bits; reset 0 (R438) -/
  gb : Nat := 0
  /-- mean normalised ring frequency in kHz (R429); 24 bits; reset 0 (R438) -/
  ro : Nat := 0
  /-- edges towards the next rise of the thermal limit (R428); reset 0 -/
  coolEdges : Nat := 0
  /-- THERMAL_WARN holds for the present crossing (R428); 1 bit; reset 0 -/
  warned : Bool := false
  /-- edges since the last VSTEP_FAULT (R439); reset none -/
  vstepAge : Option Nat := none
  /-- AVSBus readbacks in a row more than 15 mV off (R445); reset 0 -/
  avsOff : Nat := 0
  /-- MARGIN_LOW holds (R430); 1 bit; reset 0 -/
  gbLow : Bool := false
  deriving DecidableEq, Repr

/-- One power signature set of a C-die domain (R422), in W as exact rationals. -/
structure PwrSig where
  /-- LEAK in W (R422); reset 140 (R422) -/
  leak : Q := ⟨140, 1⟩
  /-- DYN of IDLE, PREFILL, DECODE, EXPERT in W (R422); reset 5, 56, 50, 50 (R422) -/
  dyn0 : Q := ⟨5, 1⟩
  dyn1 : Q := ⟨56, 1⟩
  dyn2 : Q := ⟨50, 1⟩
  dyn3 : Q := ⟨50, 1⟩
  /-- updates applied (R435 SIG_SAMPLES); 32 bits; reset 0 (R435) -/
  samples : Nat := 0
  deriving DecidableEq, Repr

/-- The power manager (R412 to R427). -/
structure Pwr where
  /-- PWR_STATE.STATE (R423); 2 bits; reset D0-IDLE (R435) -/
  st : BitVec 2 := 1
  /-- a transition in progress to this state (R424); reset none (R435) -/
  pend : Option (BitVec 2) := none
  /-- domains C0, C1, M0 to M3, X (R412); reset as each field -/
  doms : Tbl PwrDom := []
  /-- signatures of C0 and C1 (R422); reset defaults (R422) -/
  sigs : Tbl PwrSig := []
  /-- brake duty in sixteenths (R419); 4 bits; reset 0 (R435) -/
  brake : Nat := 0
  /-- least brake duty imposed by heat (R428); 4 bits; reset 0 -/
  brakeMin : Nat := 0
  /-- measured 1 ms and 1 s averages in W (R418); reset 0 (R435) -/
  avg1ms : Nat := 0
  avg1s : Nat := 0
  /-- 1 ms averages of the M-die and X-die domains in 0.1 W (R422); 16 bits each; reset 0 -/
  m1ms : Nat := 0
  x1ms : Nat := 0
  /-- CAP_EXCEEDED holds for the present breach (R418); 1 bit; reset 0 -/
  capBreach : Bool := false
  /-- the clocks of these clusters are stretched by the sluice (R426); 32 bits; reset 0 -/
  sluiced : BitVec 32 := 0
  /-- caps that govern the 1 ms and the 1 s bound, in 10 W (R417); 9 bits each; reset 300, DESIGN CHOICE log 82: start-up sets them -/
  capMs : Nat := 300
  capS : Nat := 300
  /-- power samples since the last cap took effect, at most 100,000 (R417, R418); reset 100,000, DESIGN CHOICE log 82 -/
  capSamples : Nat := 100000
  /-- µJ of the package meter below 1 mJ (R427, R435 ENERGY); 10 bits; reset 0 -/
  energyRem : Nat := 0
  deriving DecidableEq, Repr

/-- Sensors (R428). -/
structure Thm where
  /-- readings by sensor number in 0.25 degrees, two's complement (R437); 208 x 12 bits; reset DESIGN CHOICE 0, log 21 -/
  reading : Tbl (BitVec 12) := []
  /-- failed sensors (R428); 208 bits; reset none (R437) -/
  failed : List Nat := []
  /-- THERMTRIP_N asserted (R428); 1 bit; reset 0 -/
  trip : Bool := false
  /-- a C-die or M-die logic sensor has reached 105 degrees and all are not back at 100 (R428); 1 bit; reset 0 -/
  throttling : Bool := false
  /-- sensor samples of the present minute, each 100 µs (R428, R433); 600,000; reset 0 -/
  samples : Nat := 0
  /-- stacks at or above 85 degrees since not below 80 (R428); 4 bits; reset 0 -/
  hot : BitVec 4 := 0
  deriving DecidableEq, Repr

/-- Ageing (R429 to R434). -/
structure Age where
  /-- a re-plan is being computed (R438 BUSY); 1 bit; reset 0 (R438) -/
  busy : Bool := false
  /-- eye height and width by lane 4l+i (R438); 72 x 20 bits; reset 0 (R438) -/
  eyes : Tbl (Nat × Nat) := []
  /-- refresh multiplier chosen from the sentinels by M-die, applied at step 6 (R432); 2 bits each; reset 0 (R438) -/
  refresh : Tbl Nat := []
  /-- power-on minutes (R433, R438); 32 bits; reset log, DESIGN CHOICE 0, log 18 -/
  poh : Nat := 0
  /-- package energy total of the log in mJ (R433); 64 bits; reset log -/
  energy : Nat := 0
  /-- temperature histograms by domain*16+bin in minutes (R433); 112 x 32 bits; reset log -/
  histo : Tbl Nat := []
  /-- sticky history: code, severity and count, first seen first, at most 128 (R433); reset log -/
  codes : List (Nat × Nat × Nat) := []
  /-- FIELD entries since manufacture (R359 UNLOCKS); 32 bits; reset log -/
  unlocks : Nat := 0
  /-- ring records written since manufacture (R438 LOG_HEAD); 32 bits; reset log -/
  logHead : Nat := 0
  /-- SEQ of the current summary (R433); 32 bits; reset log -/
  sumSeq : Nat := 0
  /-- events waiting for their ring record: TYPE, tick and payload words (R433, R434); reset empty -/
  events : List (BitVec 8 × Nat × List Word) := []
  deriving DecidableEq, Repr

/-- The towpath (R355, R421, R449). -/
structure Mgt where
  /-- dynamic I3C address (R449); 7 bits; reset none -/
  dynAddr : Option (BitVec 7) := none
  deriving DecidableEq, Repr

/-- The host interface (R24 to R31, R395). -/
structure Pci where
  /-- BARs assigned in configuration space by function 0 (PF) to 255 (R395); reset unassigned -/
  bars : Tbl Bool := []
  deriving DecidableEq, Repr

/-! ### The outside, and the whole state -/

/-- What the part sends outward, in the order it leaves. -/
inductive Out where
  /-- a barge on a link (R289, R292) -/
  | barge (link : Nat) (b : Barge)
  /-- a serving frame on its route (R313, R324) -/
  | frame (route : Route) (bytes : List Byte)
  /-- an LLDP frame with Gelzan TLVs on a link: member serial, link, FLIGHT, member and low 64 bits of the plan hash of each ARMED plan (R297) -/
  | lldp (link : Nat) (tuples : List (Nat × Nat × Nat))
  /-- an IEEE 1588 message on a port (R299) -/
  | ptp (port : Nat) (kind : PtpTx)
  /-- an ARP reply or neighbour advertisement on a port (R288) -/
  | arp (port : Nat) (addr : BitVec 128)
  /-- a TICK_OUT pulse (R52) -/
  | tickOut
  /-- an MSI-X message of a function (R372) -/
  | msix (fn : Nat) (vec : Nat)
  /-- the answer to a configuration request: Request Retry Status or a completion (R406) -/
  | config (fn : Nat) (retry : Bool)
  /-- bytes returned to a BAR2 or ring-window read (R31, R46) -/
  | hostData (bytes : List Byte)
  /-- an SPDM response (R338) -/
  | spdm (t : Transport) (bytes : List Byte)
  /-- an SPDM response that carries a record and its signature (R349) -/
  | evidence (t : Transport) (bytes : List Byte)
  /-- an MCTP response: PLDM or GAUGE (R380, R421) -/
  | mctp (bytes : List Byte)
  deriving DecidableEq, Repr

/-- Why the machine stops with a fault. -/
inductive Fault where
  /-- raised by the scalar unit for bytes that RV32IMC and the custom instructions do not define: the spec gives no effect and no trap; safe -/
  | undefinedInstruction (core : Nat) (bits : Word)
  /-- raised by the scalar unit for ECALL, EBREAK and the CSR instructions, for which the spec describes no environment, trap or register; safe -/
  | environmentCall (core : Nat) (bits : Word)
  deriving DecidableEq, Repr

/-- Why a command has no meaning in the model. -/
inductive Refusal where
  /-- raised by `exec` for a command that is not modelled yet; safe -/
  | notModelled (mnemonic : String)
  deriving DecidableEq, Repr

/-- The whole state of the block: every register, queue, buffer and mode the spec names, and the queue of waiting commands. -/
structure State where
  /-- registers in effect by bank × 2^26 + BAR0 offset; unlisted = the reset value of their table (R24 to R36); reset all at their reset values (R9) -/
  regs : Tbl Word := []
  /-- latched HI halves by the address of the HI register (R75, R102); reset none -/
  latch : Tbl Word := []
  /-- staged T writes and step-3 commands in acceptance order (R11, R12); reset empty (R9) -/
  staged : List Staged := []
  /-- pages running a single-block reset, by BAR0 offset (R42, R407); reset none -/
  resetting : List Nat := []
  /-- commands that reached those pages and wait for the end of the reset, oldest first (R408); reset empty -/
  held : List Instr := []
  /-- what the last register read returned; 32 bits; reset DESIGN CHOICE 0, log 22 -/
  reply : Word := 0
  /-- what has been sent outward, oldest first; the model's record of outputs, DESIGN CHOICE empty, log 23 -/
  out : List Out := []
  /-- numeric reports on their way to the X-die, oldest first (R122, R124); reset empty -/
  reports : List Report := []
  /-- the model's own counter of free values drawn, DESIGN CHOICE 0, log 2 -/
  freeCtr : Nat := 0
  /-- cores 0 to 511 (R16); reset as each field -/
  cores : Tbl Core := []
  /-- clusters 0 to 31 (R16); reset as each field -/
  clusters : Tbl Cluster := []
  /-- contexts 0 to 255 (R333); reset as each field -/
  ctxs : Tbl Ctx := []
  /-- links 0 to 17 (R283); reset as each field -/
  links : Tbl Link := []
  /-- logical ports 0 to 17 (R285); reset as each field -/
  ports : Tbl Port := []
  /-- the coach yard (R185); reset as each field -/
  yard : Yard := {}
  /-- the memory system (R208); reset as each field -/
  mem : Mem := {}
  /-- the routing engine (R261); reset as each field -/
  rte : Rte := {}
  /-- the fabric collective engine (R283); reset as each field -/
  fce : Fce := {}
  /-- the serving engine and sampler (R313); reset as each field -/
  srv : Srv := {}
  /-- the lock-keeper (R51); reset as each field -/
  lkp : Lkp := {}
  /-- the security engine (R333); reset as each field -/
  sec : Sec := {}
  /-- the debug block (R350); reset as each field -/
  dbg : Dbg := {}
  /-- the hang watchdog (R374); reset as each field -/
  hwd : Hwd := {}
  /-- package flash (R400); kept through resets -/
  flash : Flash := {}
  /-- fuses (R344); kept through resets -/
  fuses : Fuses := {}
  /-- the backup domain (R397); kept through resets -/
  bkp : Bkp := {}
  /-- the reset controller (R393); reset as each field -/
  rst : Rst := {}
  /-- the power manager (R412); reset as each field -/
  pwr : Pwr := {}
  /-- the sensors (R428); reset as each field -/
  thm : Thm := {}
  /-- ageing and the lifetime log (R429); reset as each field -/
  age : Age := {}
  /-- the towpath (R449); reset as each field -/
  mgt : Mgt := {}
  /-- the host interface (R395); reset as each field -/
  pci : Pci := {}
  /-- the commands that are waiting, first in, first out; the model's own, reset empty -/
  pending : List Instr := []
  deriving DecidableEq, Repr

/-- The part right after a power-on reset source, before its release (R393). -/
def State.reset : State := {}

end Sys2Proof.Machine
end

