-- ==== Sys2Proof/Machine/Access.lean ====
section
/-! DEFINITION. Named reads and writes of the state: units by number, registers by page and offset, bit fields, counters and free values. -/

namespace Sys2Proof.Machine

/-- Field [lo + w − 1 : lo] of a number. -/
def bitsAt (x lo w : Nat) : Nat := (x >>> lo) % 2 ^ w

/-- Bit `i` of a number. -/
def bitAt (x i : Nat) : Bool := x.testBit i

/-- `x` with field [lo + w − 1 : lo] replaced by the low bits of `v`. -/
def setBits (x lo w v : Nat) : Nat := x - (bitsAt x lo w <<< lo) + ((v % 2 ^ w) <<< lo)

/-- 1 for true, 0 for false. -/
def b2n (b : Bool) : Nat := if b then 1 else 0

/-- The signed value of the low `w` bits (two's complement). -/
def sext (x w : Nat) : Int := if bitAt x (w - 1) then (x % 2 ^ w : Nat) - (2 ^ w : Nat) else ((x % 2 ^ w : Nat) : Int)

/-- An integer as a `w`-bit two's complement number. -/
def toBits (w : Nat) (i : Int) : Nat := (i % (2 ^ w : Nat)).toNat

/-- Little-endian bytes as a number (R3). -/
def ofBytes : List Byte → Nat
  | [] => 0
  | b :: bs => b.toNat + 256 * ofBytes bs

/-- The low `n` bytes of a number, least significant first (R3). -/
def toBytes : Nat → Nat → List Byte
  | 0, _ => []
  | n + 1, x => BitVec.ofNat 8 x :: toBytes n (x / 256)

/-- The little-endian words of a byte list; a short last word is filled with zeros. -/
def wordsOf (n : Nat) (bs : List Byte) : List Nat := (List.range n).map fun i => ofBytes ((bs.drop (4 * i)).take 4)

/-- `xs` padded with `d` or cut to `n` elements. -/
def fit (n : Nat) (d : α) (xs : List α) : List α := xs.take n ++ List.replicate (n - xs.length) d

/-- Insertion into an ordered list. -/
def insertBy (le : α → α → Bool) (x : α) : List α → List α
  | [] => [x]
  | y :: ys => if le x y then x :: y :: ys else y :: insertBy le x ys

/-- Insertion sort. -/
def sortBy (le : α → α → Bool) (xs : List α) : List α := xs.foldr (insertBy le) []

/-! ### Units by number -/

/-- Core `n` (R16). -/
def State.core (s : State) (n : Nat) : Core := Tbl.get s.cores n {}

/-- Core `n` becomes `c`. -/
def State.setCore (s : State) (n : Nat) (c : Core) : State := { s with cores := Tbl.put s.cores n c }

/-- Core `n` changed by `f`. -/
def State.modCore (s : State) (n : Nat) (f : Core → Core) : State := s.setCore n (f (s.core n))

/-- Cluster `n` (R16). -/
def State.cluster (s : State) (n : Nat) : Cluster := Tbl.get s.clusters n {}

/-- Cluster `n` becomes `c`. -/
def State.setCluster (s : State) (n : Nat) (c : Cluster) : State := { s with clusters := Tbl.put s.clusters n c }

/-- Cluster `n` changed by `f`. -/
def State.modCluster (s : State) (n : Nat) (f : Cluster → Cluster) : State := s.setCluster n (f (s.cluster n))

/-- Context `k` (R333). -/
def State.ctx (s : State) (k : Nat) : Ctx := Tbl.get s.ctxs k {}

/-- Context `k` becomes `c`. -/
def State.setCtx (s : State) (k : Nat) (c : Ctx) : State := { s with ctxs := Tbl.put s.ctxs k c }

/-- Context `k` changed by `f`. -/
def State.modCtx (s : State) (k : Nat) (f : Ctx → Ctx) : State := s.setCtx k (f (s.ctx k))

/-- Link `l` (R283). -/
def State.link (s : State) (l : Nat) : Link := Tbl.get s.links l {}

/-- Link `l` changed by `f`. -/
def State.modLink (s : State) (l : Nat) (f : Link → Link) : State := { s with links := Tbl.put s.links l (f (s.link l)) }

/-- Logical port `p` (R285). -/
def State.port (s : State) (p : Nat) : Port := Tbl.get s.ports p {}

/-- Logical port `p` changed by `f`. -/
def State.modPort (s : State) (p : Nat) (f : Port → Port) : State := { s with ports := Tbl.put s.ports p (f (s.port p)) }

/-- Plan slot `i` (R295). -/
def State.plan (s : State) (i : Nat) : PlanSlot := Tbl.get s.fce.plans i {}

/-- Plan slot `i` changed by `f`. -/
def State.modPlan (s : State) (i : Nat) (f : PlanSlot → PlanSlot) : State :=
  { s with fce := { s.fce with plans := Tbl.put s.fce.plans i (f (s.plan i)) } }

/-- Power domain `d`: 0 = C0, 1 = C1, 2 to 5 = M0 to M3, 6 = X (R412). -/
def State.dom (s : State) (d : Nat) : PwrDom := Tbl.get s.pwr.doms d {}

/-- Power domain `d` changed by `f`. -/
def State.modDom (s : State) (d : Nat) (f : PwrDom → PwrDom) : State :=
  { s with pwr := { s.pwr with doms := Tbl.put s.pwr.doms d (f (s.dom d)) } }

/-- Berth `b` of the serving engine (R317). -/
def State.berth (s : State) (b : Nat) : SrvBerth := Tbl.get s.srv.berths b {}

/-- Berth `b` of the serving engine changed by `f`. -/
def State.modBerth (s : State) (b : Nat) (f : SrvBerth → SrvBerth) : State :=
  { s with srv := { s.srv with berths := Tbl.put s.srv.berths b (f (s.berth b)) } }

/-- The yard changed by `f`. -/
def State.modYard (s : State) (f : Yard → Yard) : State := { s with yard := f s.yard }

/-- The memory system changed by `f`. -/
def State.modMem (s : State) (f : Mem → Mem) : State := { s with mem := f s.mem }

/-- Something leaves the part. -/
def State.emit (s : State) (o : Out) : State := { s with out := s.out ++ [o] }

/-! ### Free values -/

/-- The next free-value number, and the state that has drawn it. -/
def State.draw (s : State) : Nat × State := (s.freeCtr, { s with freeCtr := s.freeCtr + 1 })

/-! ### Registers -/

/-- The page is running a single-block reset (R42). -/
def State.isResetting (s : State) (p : PageRef) : Bool := s.resetting.contains p.base

/-- Where a register's value in effect is kept. -/
def regKey (k : PageKind) (i off bank : Nat) : Nat := bank * 2 ^ 26 + (⟨k, i⟩ : PageRef).base + off

/-- A register's value in effect. -/
def State.rd (s : State) (k : PageKind) (i off : Nat) (bank : Nat := 0) : Word :=
  Tbl.get s.regs (regKey k i off bank) (resetOf k off)

/-- A register's value in effect becomes `v`. -/
def State.wr (s : State) (k : PageKind) (i off : Nat) (v : Word) (bank : Nat := 0) : State :=
  { s with regs := Tbl.put s.regs (regKey k i off bank) v }

/-- Field [lo + w − 1 : lo] of a register in effect. -/
def State.fld (s : State) (k : PageKind) (i off lo w : Nat) (bank : Nat := 0) : Nat :=
  bitsAt (s.rd k i off bank).toNat lo w

/-- Field [lo + w − 1 : lo] of a register in effect becomes `v`. -/
def State.setFld (s : State) (k : PageKind) (i off lo w v : Nat) (bank : Nat := 0) : State :=
  s.wr k i off (BitVec.ofNat 32 (setBits (s.rd k i off bank).toNat lo w v)) bank

/-- A 64-bit quantity in two registers, low word first (R7). -/
def State.rd64 (s : State) (k : PageKind) (i off : Nat) (bank : Nat := 0) : Nat :=
  (s.rd k i off bank).toNat + 2 ^ 32 * (s.rd k i (off + 4) bank).toNat

/-- Both words of a 64-bit quantity. -/
def State.wr64 (s : State) (k : PageKind) (i off v : Nat) (bank : Nat := 0) : State :=
  (s.wr k i off (BitVec.ofNat 32 v) bank).wr k i (off + 4) (BitVec.ofNat 32 (v / 2 ^ 32)) bank

/-- A counter that saturates at 0xFFFF_FFFF rises by `n`. -/
def State.count (s : State) (k : PageKind) (i off : Nat) (n : Nat := 1) (bank : Nat := 0) : State :=
  if n = 0 then s else s.wr k i off (BitVec.ofNat 32 (min 0xFFFFFFFF ((s.rd k i off bank).toNat + n))) bank

/-- A wrapping 32-bit counter rises by 1; its new value is the sequence number given out. -/
def State.nextSeq (s : State) (k : PageKind) (i off : Nat) : Word × State :=
  let v := s.rd k i off + 1
  (v, s.wr k i off v)

/-- A 64-bit counter in two registers rises by `n`. -/
def State.count64 (s : State) (k : PageKind) (i off n : Nat) (bank : Nat := 0) : State :=
  if n = 0 then s else s.wr64 k i off (s.rd64 k i off bank + n) bank

/-- A high-water field rises to `v`. -/
def State.highWater (s : State) (k : PageKind) (i off lo w v : Nat) : State :=
  if s.fld k i off lo w < v then s.setFld k i off lo w v else s

/-- Repeat a state change over a list. -/
def State.forAll (s : State) (xs : List α) (f : State → α → State) : State := xs.foldl f s

end Sys2Proof.Machine
end

