-- ==== Sys2Proof/Machine/Fp.lean ====
section
/-! DEFINITION. Number formats and exact rounding (R104 to R106, R112, R117): every float operation computes an exact dyadic and rounds it once. -/

namespace Sys2Proof.Machine

/-- How a float format uses its top exponent (R105): as IEEE 754, as E4M3 (one NaN, no infinity), or for finite values only. -/
inductive TopExp where
  | ieee | e4m3 | finite
  deriving DecidableEq, Repr

/-- A float format: exponent and mantissa widths, bias, and the use of the top exponent (R105). -/
structure Fmt where
  eb : Nat
  mb : Nat
  bias : Int
  top : TopExp
  deriving DecidableEq, Repr

/-- FP32 (R105). -/
def fp32 : Fmt := ⟨8, 23, 127, .ieee⟩
/-- BF16 (R105). -/
def bf16 : Fmt := ⟨8, 7, 127, .ieee⟩
/-- FP16 (R105). -/
def fp16 : Fmt := ⟨5, 10, 15, .ieee⟩
/-- FP8 E4M3 (R105). -/
def e4m3 : Fmt := ⟨4, 3, 7, .e4m3⟩
/-- FP8 E5M2 (R105). -/
def e5m2 : Fmt := ⟨5, 2, 15, .ieee⟩
/-- MXFP6 E3M2 (R105). -/
def e3m2 : Fmt := ⟨3, 2, 3, .finite⟩
/-- MXFP6 E2M3 (R105). -/
def e2m3 : Fmt := ⟨2, 3, 1, .finite⟩
/-- MXFP4 E2M1 (R105). -/
def e2m1 : Fmt := ⟨2, 1, 1, .finite⟩

/-- A decoded value: NaN, an infinity, or ± m × 2^e with the sign of zero kept. -/
inductive Fv where
  | nan
  | inf (neg : Bool)
  | fin (neg : Bool) (m : Nat) (e : Int)
  deriving DecidableEq, Repr

/-- Width of a format in bits. -/
def Fmt.width (f : Fmt) : Nat := 1 + f.eb + f.mb

/-- Value of a code (R105). -/
def Fmt.decode (f : Fmt) (x : Nat) : Fv :=
  let neg := bitAt x (f.eb + f.mb)
  let e := bitsAt x f.mb f.eb
  let m := bitsAt x 0 f.mb
  if e = 2 ^ f.eb - 1 ∧ f.top = .ieee then (if m = 0 then .inf neg else .nan)
  else if e = 2 ^ f.eb - 1 ∧ f.top = .e4m3 ∧ m = 2 ^ f.mb - 1 then .nan
  else if e = 0 then .fin neg m (1 - f.bias - f.mb)
  else .fin neg (m + 2 ^ f.mb) (e - f.bias - f.mb)

/-- The value is a zero. -/
def Fv.isZero : Fv → Bool
  | .fin _ 0 _ => true
  | _ => false

/-- The value is NaN. -/
def Fv.isNan : Fv → Bool
  | .nan => true
  | _ => false

/-- The value is infinite. -/
def Fv.isInf : Fv → Bool
  | .inf _ => true
  | _ => false

/-- Sign of a value; NaN counts as positive. -/
def Fv.neg : Fv → Bool
  | .nan => false
  | .inf s => s
  | .fin s _ _ => s

/-- The value with its sign inverted. -/
def Fv.flip : Fv → Fv
  | .nan => .nan
  | .inf s => .inf (!s)
  | .fin s m e => .fin (!s) m e

/-- `m × 2^e` rounded to nearest, ties to even, at `mb + 1` significant bits with no bit below `2^qmin`; the result is `r × 2^q`. -/
def roundNear (mb : Nat) (qmin : Int) (m : Nat) (e : Int) : Nat × Int :=
  if m = 0 then (0, qmin)
  else
    let q := max (e + (Nat.log2 m : Int) - mb) qmin
    if q ≤ e then (m <<< (e - q).toNat, q)
    else
      let sh := (q - e).toNat
      let r := m >>> sh
      let rem := m % 2 ^ sh
      let half := 2 ^ (sh - 1)
      (if half < rem ∨ (rem = half ∧ r % 2 = 1) then r + 1 else r, q)

/-- Largest finite magnitude code (R105). -/
def Fmt.maxCode (f : Fmt) : Nat :=
  match f.top with
  | .ieee => (2 ^ f.eb - 1) * 2 ^ f.mb - 1
  | .e4m3 => 2 ^ (f.eb + f.mb) - 2
  | .finite => 2 ^ (f.eb + f.mb) - 1

/-- Magnitude code of a rounded finite magnitude, which may exceed the largest finite code. -/
def Fmt.magCode (f : Fmt) (m : Nat) (e : Int) : Nat :=
  let (r, q) := roundNear f.mb (1 - f.bias - f.mb) m e
  if r < 2 ^ f.mb then r
  else if r = 2 ^ (f.mb + 1) then (q + 1 + f.mb + f.bias).toNat * 2 ^ f.mb
  else (q + f.mb + f.bias).toNat * 2 ^ f.mb + (r - 2 ^ f.mb)

/-- The sign bit of a format. -/
def Fmt.signBit (f : Fmt) (neg : Bool) : Nat := if neg then 2 ^ (f.eb + f.mb) else 0

/-- Code of an infinity, where the format has one. -/
def Fmt.infCode (f : Fmt) (neg : Bool) : Nat := f.signBit neg + (2 ^ f.eb - 1) * 2 ^ f.mb

/-- The default NaN code of a format (R117, R134). -/
def Fmt.nanCode (f : Fmt) : Nat :=
  match f.top with
  | .ieee => (2 ^ f.eb - 1) * 2 ^ f.mb + 2 ^ (f.mb - 1)
  | _ => 2 ^ (f.eb + f.mb) - 1

/-! ### Exact arithmetic -/

/-- Exact sum of two finite values as a signed integer times a power of two. -/
def alignAdd (m1 : Int) (e1 : Int) (m2 : Int) (e2 : Int) : Int × Int :=
  let e := min e1 e2
  (m1 * 2 ^ (e1 - e).toNat + m2 * 2 ^ (e2 - e).toNat, e)

/-- Signed mantissa. -/
def signed (neg : Bool) (m : Nat) : Int := if neg then -(m : Int) else m

/-- A result: its value, and whether a NaN was produced from operands none of which is NaN (R121). -/
structure Exact where
  v : Fv
  inv : Bool := false
  deriving DecidableEq, Repr

/-- Exact sum (R134): ∞ − ∞ is invalid; an exact zero sum of unlike signs is +0. -/
def Fv.add (a b : Fv) : Exact :=
  match a, b with
  | .nan, _ | _, .nan => ⟨.nan, false⟩
  | .inf s, .inf t => if s = t then ⟨.inf s, false⟩ else ⟨.nan, true⟩
  | .inf s, _ => ⟨.inf s, false⟩
  | _, .inf s => ⟨.inf s, false⟩
  | .fin s m e, .fin t n f =>
    let (x, g) := alignAdd (signed s m) e (signed t n) f
    if x = 0 then ⟨.fin (s && t) 0 g, false⟩ else ⟨.fin (decide (x < 0)) x.natAbs g, false⟩

/-- Exact product (R134): 0 × ∞ is invalid. -/
def Fv.mul (a b : Fv) : Exact :=
  match a, b with
  | .nan, _ | _, .nan => ⟨.nan, false⟩
  | .inf s, .inf t => ⟨.inf (s != t), false⟩
  | .inf s, .fin t n _ => if n = 0 then ⟨.nan, true⟩ else ⟨.inf (s != t), false⟩
  | .fin s m _, .inf t => if m = 0 then ⟨.nan, true⟩ else ⟨.inf (s != t), false⟩
  | .fin s m e, .fin t n f => ⟨.fin (s != t) (m * n) (e + f), false⟩

/-- Exact a × b + c (R134). -/
def Fv.fma (a b c : Fv) : Exact :=
  let p := a.mul b
  if p.inv then (if c.isNan then ⟨.nan, false⟩ else p)
  else p.v.add c

/-- The quotient of two finite values to 64 bits beyond any rounding point, with a sticky bit; a zero divisor gives an infinity, 0 / 0 and ∞ / ∞ are invalid. -/
def Fv.div (a b : Fv) : Exact :=
  match a, b with
  | .nan, _ | _, .nan => ⟨.nan, false⟩
  | .inf _, .inf _ => ⟨.nan, true⟩
  | .inf s, .fin t _ _ => ⟨.inf (s != t), false⟩
  | .fin s _ _, .inf t => ⟨.fin (s != t) 0 0, false⟩
  | .fin s m e, .fin t n f =>
    if n = 0 then (if m = 0 then ⟨.nan, true⟩ else ⟨.inf (s != t), false⟩)
    else
      let k := 64 + Nat.log2 n
      let q := (m <<< k) / n
      let r := (m <<< k) % n
      ⟨.fin (s != t) (2 * q + b2n (decide (r ≠ 0))) (e - f - k - 1), false⟩

/-- Order of two values that are not NaN: less, as extended reals. -/
def Fv.lt (a b : Fv) : Bool :=
  match a, b with
  | .nan, _ | _, .nan => false
  | .inf s, .inf t => s && !t
  | .inf s, .fin _ _ _ => s
  | .fin _ _ _, .inf t => !t
  | .fin s m e, .fin t n f =>
    let g := min e f
    decide (signed s m * 2 ^ (e - g).toNat < signed t n * 2 ^ (f - g).toNat)

/-- Equality of two values that are not NaN; −0 equals +0. -/
def Fv.eq (a b : Fv) : Bool := !a.isNan && !b.isNan && !a.lt b && !b.lt a

/-! ### FP32 operations under a subnormal mode (R112) -/

/-- A rounded result: code, whether a NaN was produced, the result overflowed, an FP32 subnormal was flushed, or a nonzero value rounded to zero. -/
structure FpRes where
  v : Nat
  inv : Bool := false
  ovf : Bool := false
  flush : Bool := false
  under : Bool := false
  deriving DecidableEq, Repr

/-- An FP32 operand under a subnormal mode (R112): in FLUSH32 a subnormal reads as zero of its sign. -/
def read32 (fl : Bool) (x : Nat) : Fv :=
  if fl && bitsAt x 23 8 == 0 then .fin (bitAt x 31) 0 0 else fp32.decode x

/-- Round an exact value to a format, overflow to infinity where it has one; the default NaN for NaN. -/
def Fmt.round (f : Fmt) (x : Exact) : FpRes :=
  match x.v with
  | .nan => { v := f.nanCode, inv := x.inv }
  | .inf s => { v := if f.top = .ieee then f.infCode s else f.signBit s + f.maxCode }
  | .fin s m e =>
    let c := f.magCode m e
    if f.maxCode < c then { v := if f.top = .ieee then f.infCode s else f.signBit s + f.maxCode, ovf := true }
    else { v := f.signBit s + c, under := decide (m ≠ 0 ∧ c = 0) }

/-- Round to FP32 and apply the subnormal mode to the rounded result (R112). -/
def round32 (fl : Bool) (x : Exact) : FpRes :=
  let r := fp32.round x
  if fl && bitsAt r.v 23 8 == 0 && bitsAt r.v 0 23 != 0 then { r with v := bitsAt r.v 31 1 * 2 ^ 31, flush := true } else r

/-- FP32 addition (R134). -/
def add32 (fl : Bool) (a b : Nat) : FpRes := round32 fl ((read32 fl a).add (read32 fl b))

/-- FP32 multiplication (R134). -/
def mul32 (fl : Bool) (a b : Nat) : FpRes := round32 fl ((read32 fl a).mul (read32 fl b))

/-- FP32 fused multiply-add (R134). -/
def fma32 (fl : Bool) (a b c : Nat) : FpRes := round32 fl ((read32 fl a).fma (read32 fl b) (read32 fl c))

/-- FP32 division, rounded once. -/
def div32 (fl : Bool) (a b : Nat) : FpRes := round32 fl ((read32 fl a).div (read32 fl b))

/-- An integer rounded to FP32 (R116). -/
def int32ToFp (i : Int) : Nat := (fp32.round ⟨.fin (decide (i < 0)) i.natAbs 0, false⟩).v

/-- The FP32 code is a NaN. -/
def isNan32 (x : Nat) : Bool := bitsAt x 23 8 == 255 && bitsAt x 0 23 != 0

/-- FP32 +0. -/
def fzero : Nat := 0
/-- FP32 1.0. -/
def fone : Nat := 0x3F800000
/-- FP32 −∞. -/
def fninf : Nat := 0xFF800000
/-- FP32 +∞. -/
def fpinf : Nat := 0x7F800000

/-- Larger of two FP32 values; the NaN operand when either is NaN, +0 over −0 (R116, R134). -/
def max32 (a b : Nat) : Nat :=
  if isNan32 a then a else if isNan32 b then b
  else if (fp32.decode a).lt (fp32.decode b) then b
  else if (fp32.decode b).lt (fp32.decode a) then a
  else if bitAt a 31 then b else a

/-- Smaller of two FP32 values; the NaN operand when either is NaN, −0 under +0 (R116, R134). -/
def min32 (a b : Nat) : Nat :=
  if isNan32 a then a else if isNan32 b then b
  else if (fp32.decode a).lt (fp32.decode b) then a
  else if (fp32.decode b).lt (fp32.decode a) then b
  else if bitAt a 31 then a else b

/-! ### Integers -/

/-- An integer clamped to `w` bits two's complement, and whether it was clamped. -/
def satInt (w : Nat) (i : Int) : Int × Bool :=
  let lo : Int := -(2 ^ (w - 1) : Nat)
  let hi : Int := (2 ^ (w - 1) : Nat) - 1
  if i < lo then (lo, true) else if hi < i then (hi, true) else (i, false)

/-- A finite value rounded to an integer, to nearest with ties to even. -/
def roundInt (neg : Bool) (m : Nat) (e : Int) : Int :=
  if 0 ≤ e then signed neg (m <<< e.toNat)
  else
    let sh := (-e).toNat
    let r := m >>> sh
    let rem := m % 2 ^ sh
    let half := 2 ^ (sh - 1)
    signed neg (if half < rem ∨ (rem = half ∧ r % 2 = 1) then r + 1 else r)

/-! ### Conversion (R117, R118) -/

/-- Convert a value that is not NaN to a plain float format (R117): the code written, and whether it counts as a clamp; the default NaN for NaN. OVF chooses infinity on overflow. -/
def toFloatV (f : Fmt) (ovf : Bool) : Fv → Nat × Bool
  | .nan => (f.nanCode, false)
  | .inf s => if f.top = .ieee then (f.infCode s, false) else (f.signBit s + f.maxCode, true)
  | .fin s m e =>
    let c := f.magCode m e
    if f.maxCode < c then
      (if ovf ∧ f.top = .ieee then (f.infCode s, false) else (f.signBit s + f.maxCode, true))
    else (f.signBit s + c, false)

/-- Convert an FP32 code to a plain float format (R117). -/
def toFloat (f : Fmt) (ovf : Bool) (x : Nat) : Nat × Bool := toFloatV f ovf (fp32.decode x)

/-- Convert a value to a `w`-bit integer (R117): saturated, NaN to 0; and whether it counts as a clamp. -/
def toIntV (w : Nat) : Fv → Int × Bool
  | .nan => (0, true)
  | .inf s => ((if s then -(2 ^ (w - 1) : Nat) else (2 ^ (w - 1) : Nat) - 1), true)
  | .fin s m e => satInt w (roundInt s m e)

/-- Convert an FP32 code to a `w`-bit integer (R117). -/
def toInt (w : Nat) (x : Nat) : Int × Bool := toIntV w (fp32.decode x)

/-- A block format: its element format, or none for MXINT8, and emax of R118. -/
def blockOf : Nat → Option (Option Fmt × Int)
  | 0x5 => some (some e4m3, 8)
  | 0x6 => some (some e5m2, 15)
  | 0x7 => some (some e3m2, 4)
  | 0x8 => some (some e2m3, 2)
  | 0x9 => some (some e2m1, 2)
  | 0xA => some (none, 0)
  | _ => none

/-- A finite value divided by a power of two, as an element code of a block format, saturated to the largest finite magnitude (R118). -/
def blockElem (f : Option Fmt) (c : Int) (v : Fv) : Nat :=
  match f, v with
  | _, .nan => 0
  | some f, .inf s => if f = e5m2 then f.infCode s else f.signBit s + f.maxCode
  | some f, .fin s m e => f.signBit s + min f.maxCode (f.magCode m (e - (c - 127)))
  | none, .inf s => toBits 8 (if s then -127 else 127)
  | none, .fin s m e =>
    let i := roundInt s m (e - (c - 127) + 6)
    toBits 8 (max (-127) (min 127 i))

/-- Exponent of the leading bit of a finite nonzero magnitude. -/
def leadExp (m : Nat) (e : Int) : Int := e + (Nat.log2 m : Int)

/-- ⌊log2 amax⌋ over the finite nonzero entries of a block, if there are any. -/
def blockTop : List Fv → Option Int
  | [] => none
  | .fin _ m e :: vs =>
    if m = 0 then blockTop vs
    else match blockTop vs with
      | none => some (leadExp m e)
      | some t => some (max t (leadExp m e))
  | _ :: vs => blockTop vs

/-- The element code decodes to zero. -/
def elemZero (f : Option Fmt) (code : Nat) : Bool :=
  match f with
  | some f => code % 2 ^ (f.eb + f.mb) == 0
  | none => code == 0

/-- Convert one block of FP32 codes (R118): scale code, element codes, and the number of crushed entries. -/
def toBlock (f : Option Fmt) (emax : Int) (xs : List Nat) : Nat × List Nat × Nat :=
  let vs := xs.map fp32.decode
  if vs.any Fv.isNan then (0xFF, xs.map fun _ => 0, 0)
  else if vs.all Fv.isZero then
    (0, vs.map fun v => match f with
      | some f => f.signBit v.neg
      | none => 0, 0)
  else
    let c : Int := match blockTop vs with
      | none => 254
      | some t => max 0 (min 254 (t - emax + 127))
    let es := vs.map (blockElem f c)
    let crushed := (vs.zip es).filter fun p => match p.1 with
      | .fin _ m _ => m != 0 && elemZero f p.2
      | _ => false
    (c.toNat, es, crushed.length)

end Sys2Proof.Machine
end

