-- ==== Sys2Proof/Machine/Off.lean ====
section
/-! DEFINITION. Register offsets by the names of the spec. -/

namespace Sys2Proof.Machine.Off

/-- `BLK_ID` of the `common` page (R36). -/
abbrev blkId : Nat := 0x000
/-- `BLK_VER` of the `common` page (R36). -/
abbrev blkVer : Nat := 0x004
/-- `BLK_CTRL` of the `common` page (R36). -/
abbrev blkCtrl : Nat := 0x008
/-- `BLK_STATUS` of the `common` page (R36). -/
abbrev blkStatus : Nat := 0x00C
/-- `BLK_STICKY` of the `common` page (R36). -/
abbrev blkSticky : Nat := 0x010
/-- `BLK_STICKY_EN` of the `common` page (R36). -/
abbrev blkStickyEn : Nat := 0x014
/-- `BLK_FIRST` of the `common` page (R36). -/
abbrev blkFirst : Nat := 0x018
/-- `BLK_FIRST_TICK` of the `common` page (R36). -/
abbrev blkFirstTick : Nat := 0x01C
/-- `BLK_FIRST_CTX` of the `common` page (R36). -/
abbrev blkFirstCtx : Nat := 0x020
/-- `BLK_ERRCNT` of the `common` page (R36). -/
abbrev blkErrcnt : Nat := 0x024
/-- `BLK_SECOND` of the `common` page (R36). -/
abbrev blkSecond : Nat := 0x028
/-- `LKP_TICK_CFG` of the `lkp` page (R75). -/
abbrev lkpTickCfg : Nat := 0x100
/-- `LKP_TICK_CMD` of the `lkp` page (R75). -/
abbrev lkpTickCmd : Nat := 0x104
/-- `LKP_TICK_PERIOD` of the `lkp` page (R75). -/
abbrev lkpTickPeriod : Nat := 0x108
/-- `LKP_GUARD` of the `lkp` page (R75). -/
abbrev lkpGuard : Nat := 0x10C
/-- `LKP_SWITCH_AT_LO` of the `lkp` page (R75). -/
abbrev lkpSwitchAtLo : Nat := 0x110
/-- `LKP_SWITCH_AT_HI` of the `lkp` page (R75). -/
abbrev lkpSwitchAtHi : Nat := 0x114
/-- `LKP_TICK_NOW_LO` of the `lkp` page (R75). -/
abbrev lkpTickNowLo : Nat := 0x118
/-- `LKP_TICK_NOW_HI` of the `lkp` page (R75). -/
abbrev lkpTickNowHi : Nat := 0x11C
/-- `LKP_TICK_LOAD_LO` of the `lkp` page (R75). -/
abbrev lkpTickLoadLo : Nat := 0x120
/-- `LKP_TICK_LOAD_HI` of the `lkp` page (R75). -/
abbrev lkpTickLoadHi : Nat := 0x124
/-- `LKP_EPOCH_LO` of the `lkp` page (R75). -/
abbrev lkpEpochLo : Nat := 0x128
/-- `LKP_EPOCH_HI` of the `lkp` page (R75). -/
abbrev lkpEpochHi : Nat := 0x12C
/-- `LKP_PIN_CFG` of the `lkp` page (R75). -/
abbrev lkpPinCfg : Nat := 0x130
/-- `LKP_SYNC_STATUS` of the `lkp` page (R75). -/
abbrev lkpSyncStatus : Nat := 0x134
/-- `LKP_HOLDOVER_LIMIT` of the `lkp` page (R75). -/
abbrev lkpHoldoverLimit : Nat := 0x138
/-- `LKP_EDGE_TIME` of the `lkp` page (R75). -/
abbrev lkpEdgeTime : Nat := 0x13C
/-- `LKP_MISSED_EDGES` of the `lkp` page (R75). -/
abbrev lkpMissedEdges : Nat := 0x140
/-- `LKP_OVERRUNS` of the `lkp` page (R75). -/
abbrev lkpOverruns : Nat := 0x144
/-- `LKP_CLUSTER_GRANTED` of the `lkp` page (R75). -/
abbrev lkpClusterGranted : Nat := 0x148
/-- `LKP_CLUSTER_OWNER` of the `lkp` page (R75). -/
abbrev lkpClusterOwner : Nat := 0x14C
/-- `LKP_GRANTS` of the `lkp` page (R75). -/
abbrev lkpGrants : Nat := 0x16C
/-- `LKP_CTX_RING_BASE_LO` of the `vlkp` page (R76). -/
abbrev lkpCtxRingBaseLo : Nat := 0x100
/-- `LKP_CTX_RING_BASE_HI` of the `vlkp` page (R76). -/
abbrev lkpCtxRingBaseHi : Nat := 0x104
/-- `LKP_CTX_RING_CFG` of the `vlkp` page (R76). -/
abbrev lkpCtxRingCfg : Nat := 0x108
/-- `LKP_CTX_ADMITTED` of the `vlkp` page (R76). -/
abbrev lkpCtxAdmitted : Nat := 0x10C
/-- `LKP_CTX_SKIPPED` of the `vlkp` page (R76). -/
abbrev lkpCtxSkipped : Nat := 0x110
/-- `LKP_CTX_AHEAD` of the `vlkp` page (R76). -/
abbrev lkpCtxAhead : Nat := 0x114
/-- `LKP_CTX_SKIP_LAST` of the `vlkp` page (R76). -/
abbrev lkpCtxSkipLast : Nat := 0x118
/-- `LKP_CTX_CTRL` of the `vlkp` page (R76). -/
abbrev lkpCtxCtrl : Nat := 0x11C
/-- `LKP_CTX_WEIGHT` of the `vlkp` page (R76). -/
abbrev lkpCtxWeight : Nat := 0x120
/-- `LKP_CTX_DEFICIT` of the `vlkp` page (R76). -/
abbrev lkpCtxDeficit : Nat := 0x124
/-- `LKP_CTX_GRANT` of the `vlkp` page (R76). -/
abbrev lkpCtxGrant : Nat := 0x128
/-- `LKP_CTX_RUN_START` of the `vlkp` page (R76). -/
abbrev lkpCtxRunStart : Nat := 0x12C
/-- `LKP_CTX_LAST_DONE` of the `vlkp` page (R76). -/
abbrev lkpCtxLastDone : Nat := 0x130
/-- `LKP_CTX_STEP` of the `vlkp` page (R76). -/
abbrev lkpCtxStep : Nat := 0x134
/-- `LKP_CTX_SPILLS` of the `vlkp` page (R76). -/
abbrev lkpCtxSpills : Nat := 0x138
/-- `LKP_CTX_ABORTS` of the `vlkp` page (R76). -/
abbrev lkpCtxAborts : Nat := 0x13C
/-- `CSQ_OWNER` of the `csq` page (R78). -/
abbrev csqOwner : Nat := 0x100
/-- `CSQ_STATE` of the `csq` page (R78). -/
abbrev csqState : Nat := 0x104
/-- `CSQ_LAUNCHED` of the `csq` page (R78). -/
abbrev csqLaunched : Nat := 0x108
/-- `CSQ_CORE_BUSY` of the `csq` page (R78). -/
abbrev csqCoreBusy : Nat := 0x10C
/-- `CSQ_HANDOVERS` of the `csq` page (R78). -/
abbrev csqHandovers : Nat := 0x110
/-- `CSQ_SLIP` of the `csq` page (R78). -/
abbrev csqSlip : Nat := 0x114
/-- `CSQ_SLIP_ALERT` of the `csq` page (R78). -/
abbrev csqSlipAlert : Nat := 0x118
/-- `MXA_CFG` of the `mxa` page (R102). -/
abbrev mxaCfg : Nat := 0x100
/-- `MXA_STATE` of the `mxa` page (R102). -/
abbrev mxaState : Nat := 0x104
/-- `MXA_QUEUE` of the `mxa` page (R102). -/
abbrev mxaQueue : Nat := 0x108
/-- `MXA_CMD_SEQ` of the `mxa` page (R102). -/
abbrev mxaCmdSeq : Nat := 0x10C
/-- `MXA_REJECT` of the `mxa` page (R102). -/
abbrev mxaReject : Nat := 0x110
/-- `MXA_MACS_LO` of the `mxa` page (R102). -/
abbrev mxaMacsLo : Nat := 0x114
/-- `MXA_MACS_HI` of the `mxa` page (R102). -/
abbrev mxaMacsHi : Nat := 0x118
/-- `MXA_BUSY_CLKS_LO` of the `mxa` page (R102). -/
abbrev mxaBusyClksLo : Nat := 0x11C
/-- `MXA_BUSY_CLKS_HI` of the `mxa` page (R102). -/
abbrev mxaBusyClksHi : Nat := 0x120
/-- `MXA_STALL_SWAP` of the `mxa` page (R102). -/
abbrev mxaStallSwap : Nat := 0x124
/-- `MXA_STALL_BANK` of the `mxa` page (R102). -/
abbrev mxaStallBank : Nat := 0x128
/-- `MXA_STALL_PORT` of the `mxa` page (R102). -/
abbrev mxaStallPort : Nat := 0x12C
/-- `DRN_STATE` of the `drn` page (R126). -/
abbrev drnState : Nat := 0x100
/-- `DRN_ROWS_LO` of the `drn` page (R126). -/
abbrev drnRowsLo : Nat := 0x104
/-- `DRN_ROWS_HI` of the `drn` page (R126). -/
abbrev drnRowsHi : Nat := 0x108
/-- `DRN_STALL_CART` of the `drn` page (R126). -/
abbrev drnStallCart : Nat := 0x10C
/-- `DRN_CTX_SEL` of the `drn` page (R126). -/
abbrev drnCtxSel : Nat := 0x110
/-- `DRN_CTX_CRUSH` of the `drn` page (R126). -/
abbrev drnCtxCrush : Nat := 0x114
/-- `DRN_CTX_SATCNT` of the `drn` page (R126). -/
abbrev drnCtxSatcnt : Nat := 0x118
/-- `DRN_CTX_CLAMP` of the `drn` page (R126). -/
abbrev drnCtxClamp : Nat := 0x11C
/-- `DRN_CTX_FLUSH` of the `drn` page (R126). -/
abbrev drnCtxFlush : Nat := 0x120
/-- `DRN_CTX_NANCNT` of the `drn` page (R126). -/
abbrev drnCtxNancnt : Nat := 0x124
/-- `DRN_NAN_REC0` of the `drn` page (R126). -/
abbrev drnNanRec0 : Nat := 0x130
/-- `DRN_NAN_REC1` of the `drn` page (R126). -/
abbrev drnNanRec1 : Nat := 0x134
/-- `DRN_SAT_REC0` of the `drn` page (R126). -/
abbrev drnSatRec0 : Nat := 0x150
/-- `DRN_SAT_REC1` of the `drn` page (R126). -/
abbrev drnSatRec1 : Nat := 0x154
/-- `DRN_CTX_MODE` of the `drn` page (R126). -/
abbrev drnCtxMode : Nat := 0x180
/-- `VEC_STATE` of the `vec` page (R153). -/
abbrev vecState : Nat := 0x100
/-- `VEC_QUEUE` of the `vec` page (R153). -/
abbrev vecQueue : Nat := 0x104
/-- `VEC_INSN_SEQ` of the `vec` page (R153). -/
abbrev vecInsnSeq : Nat := 0x108
/-- `VEC_REJECT` of the `vec` page (R153). -/
abbrev vecReject : Nat := 0x10C
/-- `VEC_REJECT_SEQ` of the `vec` page (R153). -/
abbrev vecRejectSeq : Nat := 0x110
/-- `VEC_OPS_LO` of the `vec` page (R153). -/
abbrev vecOpsLo : Nat := 0x114
/-- `VEC_OPS_HI` of the `vec` page (R153). -/
abbrev vecOpsHi : Nat := 0x118
/-- `VEC_BUSY_CLKS_LO` of the `vec` page (R153). -/
abbrev vecBusyClksLo : Nat := 0x11C
/-- `VEC_BUSY_CLKS_HI` of the `vec` page (R153). -/
abbrev vecBusyClksHi : Nat := 0x120
/-- `VEC_STALL_CART` of the `vec` page (R153). -/
abbrev vecStallCart : Nat := 0x124
/-- `VEC_STALL_WHARF` of the `vec` page (R153). -/
abbrev vecStallWharf : Nat := 0x128
/-- `VEC_STALL_DCH` of the `vec` page (R153). -/
abbrev vecStallDch : Nat := 0x12C
/-- `VEC_CARTS_POPPED` of the `vec` page (R153). -/
abbrev vecCartsPopped : Nat := 0x130
/-- `VEC_CTX_SEL` of the `vec` page (R153). -/
abbrev vecCtxSel : Nat := 0x134
/-- `VEC_CTX_RANGE` of the `vec` page (R153). -/
abbrev vecCtxRange : Nat := 0x138
/-- `VEC_CTX_EMPTY` of the `vec` page (R153). -/
abbrev vecCtxEmpty : Nat := 0x13C
/-- `VEC_CTX_ORPHAN` of the `vec` page (R153). -/
abbrev vecCtxOrphan : Nat := 0x140
/-- `VEC_CTX_FLUSH` of the `vec` page (R153). -/
abbrev vecCtxFlush : Nat := 0x144
/-- `VEC_CTX_NANCNT` of the `vec` page (R153). -/
abbrev vecCtxNancnt : Nat := 0x148
/-- `VEC_CTX_CLAMP` of the `vec` page (R153). -/
abbrev vecCtxClamp : Nat := 0x14C
/-- `VEC_CTX_CRUSH` of the `vec` page (R153). -/
abbrev vecCtxCrush : Nat := 0x150
/-- `ATP_STATE` of the `atp` page (R180). -/
abbrev atpState : Nat := 0x100
/-- `ATP_JOB_SEQ` of the `atp` page (R180). -/
abbrev atpJobSeq : Nat := 0x104
/-- `ATP_REJECT` of the `atp` page (R180). -/
abbrev atpReject : Nat := 0x108
/-- `ATP_POS_LO` of the `atp` page (R180). -/
abbrev atpPosLo : Nat := 0x10C
/-- `ATP_POS_HI` of the `atp` page (R180). -/
abbrev atpPosHi : Nat := 0x110
/-- `ATP_BUSY_CLKS_LO` of the `atp` page (R180). -/
abbrev atpBusyClksLo : Nat := 0x114
/-- `ATP_BUSY_CLKS_HI` of the `atp` page (R180). -/
abbrev atpBusyClksHi : Nat := 0x118
/-- `ATP_COACHES` of the `atp` page (R180). -/
abbrev atpCoaches : Nat := 0x11C
/-- `ATP_STALL_COACH` of the `atp` page (R180). -/
abbrev atpStallCoach : Nat := 0x120
/-- `ATP_STALL_CLAIM` of the `atp` page (R180). -/
abbrev atpStallClaim : Nat := 0x124
/-- `ATP_CTX_SEL` of the `atp` page (R180). -/
abbrev atpCtxSel : Nat := 0x128
/-- `ATP_CTX_EMPTY` of the `atp` page (R180). -/
abbrev atpCtxEmpty : Nat := 0x12C
/-- `ATP_CTX_NANCNT` of the `atp` page (R180). -/
abbrev atpCtxNancnt : Nat := 0x130
/-- `ATP_CTX_FLUSH` of the `atp` page (R180). -/
abbrev atpCtxFlush : Nat := 0x134
/-- `ATP_CTX_CLAMP` of the `atp` page (R180). -/
abbrev atpCtxClamp : Nat := 0x138
/-- `MRG_STATE` of the `mrg` page (R182). -/
abbrev mrgState : Nat := 0x100
/-- `MRG_BUF` of the `mrg` page (R182). -/
abbrev mrgBuf : Nat := 0x104
/-- `MRG_SLOT_SEL` of the `mrg` page (R182). -/
abbrev mrgSlotSel : Nat := 0x108
/-- `MRG_SLOT_CFG` of the `mrg` page (R182). -/
abbrev mrgSlotCfg : Nat := 0x10C
/-- `MRG_SLOT_GOT` of the `mrg` page (R182). -/
abbrev mrgSlotGot : Nat := 0x110
/-- `MRG_MERGES_LO` of the `mrg` page (R182). -/
abbrev mrgMergesLo : Nat := 0x114
/-- `MRG_MERGES_HI` of the `mrg` page (R182). -/
abbrev mrgMergesHi : Nat := 0x118
/-- `MRG_COMPLETED` of the `mrg` page (R182). -/
abbrev mrgCompleted : Nat := 0x11C
/-- `MRG_NANCNT` of the `mrg` page (R182). -/
abbrev mrgNancnt : Nat := 0x120
/-- `CYD_TABLE_LO` of the `cyd` page (R205). -/
abbrev cydTableLo : Nat := 0x100
/-- `CYD_TABLE_HI` of the `cyd` page (R205). -/
abbrev cydTableHi : Nat := 0x104
/-- `CYD_TABLE_SIZE` of the `cyd` page (R205). -/
abbrev cydTableSize : Nat := 0x108
/-- `CYD_STATE` of the `cyd` page (R205). -/
abbrev cydState : Nat := 0x10C
/-- `CYD_ENTRIES_FREE` of the `cyd` page (R205). -/
abbrev cydEntriesFree : Nat := 0x110
/-- `CYD_LIMBO` of the `cyd` page (R205). -/
abbrev cydLimbo : Nat := 0x114
/-- `CYD_CMDS` of the `cyd` page (R205). -/
abbrev cydCmds : Nat := 0x118
/-- `CYD_COPIES` of the `cyd` page (R205). -/
abbrev cydCopies : Nat := 0x11C
/-- `CYD_RECLAIMED` of the `cyd` page (R205). -/
abbrev cydReclaimed : Nat := 0x120
/-- `CYD_EVICTED` of the `cyd` page (R205). -/
abbrev cydEvicted : Nat := 0x124
/-- `CYD_COPY_BYTES_LO` of the `cyd` page (R205). -/
abbrev cydCopyBytesLo : Nat := 0x128
/-- `CYD_COPY_BYTES_HI` of the `cyd` page (R205). -/
abbrev cydCopyBytesHi : Nat := 0x12C
/-- `CYD_EDGE_TIME` of the `cyd` page (R205). -/
abbrev cydEdgeTime : Nat := 0x130
/-- `CYD_CTX_ARENA_LO` of the `vcyd` page (R206). -/
abbrev cydCtxArenaLo : Nat := 0x100
/-- `CYD_CTX_ARENA_HI` of the `vcyd` page (R206). -/
abbrev cydCtxArenaHi : Nat := 0x104
/-- `CYD_CTX_FRAME` of the `vcyd` page (R206). -/
abbrev cydCtxFrame : Nat := 0x108
/-- `CYD_CTX_QUOTA` of the `vcyd` page (R206). -/
abbrev cydCtxQuota : Nat := 0x10C
/-- `CYD_CTX_MARK` of the `vcyd` page (R206). -/
abbrev cydCtxMark : Nat := 0x110
/-- `CYD_CTX_BERTHS` of the `vcyd` page (R206). -/
abbrev cydCtxBerths : Nat := 0x114
/-- `CYD_CTX_KEEP` of the `vcyd` page (R206). -/
abbrev cydCtxKeep : Nat := 0x118
/-- `CYD_CTX_USED` of the `vcyd` page (R206). -/
abbrev cydCtxUsed : Nat := 0x11C
/-- `CYD_CTX_LIMBO` of the `vcyd` page (R206). -/
abbrev cydCtxLimbo : Nat := 0x120
/-- `CYD_CTX_RESERVED` of the `vcyd` page (R206). -/
abbrev cydCtxReserved : Nat := 0x124
/-- `CYD_CMD_SEQ` of the `vcyd` page (R206). -/
abbrev cydCmdSeq : Nat := 0x128
/-- `CYD_CTX_COPIES` of the `vcyd` page (R206). -/
abbrev cydCtxCopies : Nat := 0x12C
/-- `CYD_CTX_EVICTIONS` of the `vcyd` page (R206). -/
abbrev cydCtxEvictions : Nat := 0x130
/-- `CYD_CTX_REFUSED` of the `vcyd` page (R206). -/
abbrev cydCtxRefused : Nat := 0x134
/-- `CYD_CTX_BLOCKED` of the `vcyd` page (R206). -/
abbrev cydCtxBlocked : Nat := 0x138
/-- `MEM_PTDIR_LO` of the `mem` page (R229). -/
abbrev memPtdirLo : Nat := 0x100
/-- `MEM_PTDIR_HI` of the `mem` page (R229). -/
abbrev memPtdirHi : Nat := 0x104
/-- `MEM_XLAT_INV` of the `mem` page (R229). -/
abbrev memXlatInv : Nat := 0x108
/-- `MEM_RAA_LIMIT` of the `mem` page (R229). -/
abbrev memRaaLimit : Nat := 0x10C
/-- `MEM_SCRUB` of the `mem` page (R229). -/
abbrev memScrub : Nat := 0x110
/-- `MEM_IMB` of the `mem` page (R229). -/
abbrev memImb : Nat := 0x114
/-- `MEM_CTX0_SHARE` of the `mem` page (R229). -/
abbrev memCtx0Share : Nat := 0x118
/-- `MEM_CE_LIMIT` of the `mem` page (R229). -/
abbrev memCeLimit : Nat := 0x11C
/-- `MEM_CE_COUNT` of the `mem` page (R229). -/
abbrev memCeCount : Nat := 0x120
/-- `MEM_UE_COUNT` of the `mem` page (R229). -/
abbrev memUeCount : Nat := 0x124
/-- `MEM_TREFRESH` of the `mem` page (R229). -/
abbrev memTrefresh : Nat := 0x128
/-- `MEM_RAA_TOP` of the `mem` page (R229). -/
abbrev memRaaTop : Nat := 0x12C
/-- `MEM_IMB_LAST` of the `mem` page (R229). -/
abbrev memImbLast : Nat := 0x130
/-- `MEM_POISON_SEL` of the `mem` page (R229). -/
abbrev memPoisonSel : Nat := 0x134
/-- `MEM_POISON_LOG` of the `mem` page (R229). -/
abbrev memPoisonLog : Nat := 0x138
/-- `MEM_CH_BUSY` of the `memch` page (R229). -/
abbrev memChBusy : Nat := 0x100
/-- `MEM_CH_CE` of the `memch` page (R229). -/
abbrev memChCe : Nat := 0x104
/-- `MEM_CH_TREF` of the `memch` page (R229). -/
abbrev memChTref : Nat := 0x108
/-- `MEM_CH_OCC` of the `memch` page (R229). -/
abbrev memChOcc : Nat := 0x10C
/-- `BSN_WAYMASK` of the `bsn` page (R230). -/
abbrev bsnWaymask : Nat := 0x100
/-- `BSN_CTX_PART` of the `bsn` page (R230). -/
abbrev bsnCtxPart : Nat := 0x110
/-- `BSN_HITS_LO` of the `bsn` page (R230). -/
abbrev bsnHitsLo : Nat := 0x150
/-- `BSN_HITS_HI` of the `bsn` page (R230). -/
abbrev bsnHitsHi : Nat := 0x154
/-- `BSN_MISSES_LO` of the `bsn` page (R230). -/
abbrev bsnMissesLo : Nat := 0x158
/-- `BSN_MISSES_HI` of the `bsn` page (R230). -/
abbrev bsnMissesHi : Nat := 0x15C
/-- `BSN_ATOMICS_LO` of the `bsn` page (R230). -/
abbrev bsnAtomicsLo : Nat := 0x160
/-- `BSN_ATOMICS_HI` of the `bsn` page (R230). -/
abbrev bsnAtomicsHi : Nat := 0x164
/-- `WHF_CE` of the `whf` page (R231). -/
abbrev whfCe : Nat := 0x100
/-- `WHF_CONFLICT` of the `whf` page (R231). -/
abbrev whfConflict : Nat := 0x104
/-- `WHF_ZEROED` of the `whf` page (R231). -/
abbrev whfZeroed : Nat := 0x108
/-- `DCH_HITS` of the `dch` page (R231). -/
abbrev dchHits : Nat := 0x100
/-- `DCH_MISSES` of the `dch` page (R231). -/
abbrev dchMisses : Nat := 0x104
/-- `DCH_INVAL` of the `dch` page (R231). -/
abbrev dchInval : Nat := 0x108
/-- `DMA_STATE` of the `dma` page (R231). -/
abbrev dmaState : Nat := 0x100
/-- `DMA_CMD_SEQ` of the `dma` page (R231). -/
abbrev dmaCmdSeq : Nat := 0x104
/-- `DMA_REJECT` of the `dma` page (R231). -/
abbrev dmaReject : Nat := 0x108
/-- `DMA_BYTES_LO` of the `dma` page (R231). -/
abbrev dmaBytesLo : Nat := 0x10C
/-- `DMA_BYTES_HI` of the `dma` page (R231). -/
abbrev dmaBytesHi : Nat := 0x110
/-- `SCB_STATE` of the `scb` page (R257). -/
abbrev scbState : Nat := 0x100
/-- `SCB_STALL_FULL` of the `scb` page (R257). -/
abbrev scbStallFull : Nat := 0x104
/-- `SCB_STALL_CONFLICT` of the `scb` page (R257). -/
abbrev scbStallConflict : Nat := 0x108
/-- `SCB_FENCE_CLKS` of the `scb` page (R257). -/
abbrev scbFenceClks : Nat := 0x10C
/-- `SCB_FENCES` of the `scb` page (R257). -/
abbrev scbFences : Nat := 0x110
/-- `SCB_FENCE_MAX` of the `scb` page (R257). -/
abbrev scbFenceMax : Nat := 0x114
/-- `SYC_STATE` of the `syc` page (R259). -/
abbrev sycState : Nat := 0x100
/-- `SYC_INCS` of the `syc` page (R259). -/
abbrev sycIncs : Nat := 0x104
/-- `SYC_WAIT_CLKS` of the `syc` page (R259). -/
abbrev sycWaitClks : Nat := 0x108
/-- `SYC_MISMATCH` of the `syc` page (R259). -/
abbrev sycMismatch : Nat := 0x10C
/-- `SYC_CNT` of the `syc` page (R259). -/
abbrev sycCnt : Nat := 0x400
/-- `RTE_CFG` of the `rte` page (R281). -/
abbrev rteCfg : Nat := 0x100
/-- `RTE_STATE` of the `rte` page (R281). -/
abbrev rteState : Nat := 0x104
/-- `RTE_POOL_FREE` of the `rte` page (R281). -/
abbrev rtePoolFree : Nat := 0x108
/-- `RTE_JOB_SEQ` of the `rte` page (R281). -/
abbrev rteJobSeq : Nat := 0x10C
/-- `RTE_REJECT` of the `rte` page (R281). -/
abbrev rteReject : Nat := 0x110
/-- `RTE_FETCH_BYTES_LO` of the `rte` page (R281). -/
abbrev rteFetchBytesLo : Nat := 0x114
/-- `RTE_FETCH_BYTES_HI` of the `rte` page (R281). -/
abbrev rteFetchBytesHi : Nat := 0x118
/-- `RTE_SERVE_BYTES_LO` of the `rte` page (R281). -/
abbrev rteServeBytesLo : Nat := 0x11C
/-- `RTE_SERVE_BYTES_HI` of the `rte` page (R281). -/
abbrev rteServeBytesHi : Nat := 0x120
/-- `RTE_SLOTS_USED` of the `rte` page (R281). -/
abbrev rteSlotsUsed : Nat := 0x124
/-- `RTE_CTX_SEL` of the `rte` page (R281). -/
abbrev rteCtxSel : Nat := 0x128
/-- `RTE_CTX_DIR_LO` of the `rte` page (R281). -/
abbrev rteCtxDirLo : Nat := 0x12C
/-- `RTE_CTX_DIR_HI` of the `rte` page (R281). -/
abbrev rteCtxDirHi : Nat := 0x130
/-- `RTE_CTX_CACHE_LO` of the `rte` page (R281). -/
abbrev rteCtxCacheLo : Nat := 0x134
/-- `RTE_CTX_CACHE_HI` of the `rte` page (R281). -/
abbrev rteCtxCacheHi : Nat := 0x138
/-- `RTE_CTX_CACHE_CFG` of the `rte` page (R281). -/
abbrev rteCtxCacheCfg : Nat := 0x13C
/-- `RTE_CTX_LAYOUT` of the `rte` page (R281). -/
abbrev rteCtxLayout : Nat := 0x140
/-- `RTE_CTX_JOBS` of the `rte` page (R281). -/
abbrev rteCtxJobs : Nat := 0x144
/-- `RTE_CTX_HITS` of the `rte` page (R281). -/
abbrev rteCtxHits : Nat := 0x148
/-- `RTE_CTX_FETCHES` of the `rte` page (R281). -/
abbrev rteCtxFetches : Nat := 0x14C
/-- `RTE_CTX_SERVED` of the `rte` page (R281). -/
abbrev rteCtxServed : Nat := 0x150
/-- `RTE_CTX_DROPPED` of the `rte` page (R281). -/
abbrev rteCtxDropped : Nat := 0x154
/-- `RTE_CTX_SPILLED` of the `rte` page (R281). -/
abbrev rteCtxSpilled : Nat := 0x158
/-- `RTE_CTX_RENORMED` of the `rte` page (R281). -/
abbrev rteCtxRenormed : Nat := 0x15C
/-- `RTE_CTX_UNFETCH` of the `rte` page (R281). -/
abbrev rteCtxUnfetch : Nat := 0x160
/-- `RTE_CTX_SKIPPED` of the `rte` page (R281). -/
abbrev rteCtxSkipped : Nat := 0x164
/-- `RTE_CTX_REFUSED` of the `rte` page (R281). -/
abbrev rteCtxRefused : Nat := 0x168
/-- `LNK_CFG` of the `lnk` page (R309). -/
abbrev lnkCfg : Nat := 0x100
/-- `LNK_LLDP_CFG` of the `lnk` page (R309). -/
abbrev lnkLldpCfg : Nat := 0x104
/-- `LNK_STATUS` of the `lnk` page (R309). -/
abbrev lnkStatus : Nat := 0x108
/-- `LNK_PEER` of the `lnk` page (R309). -/
abbrev lnkPeer : Nat := 0x10C
/-- `LNK_PEER_SERIAL_LO` of the `lnk` page (R309). -/
abbrev lnkPeerSerialLo : Nat := 0x110
/-- `LNK_PEER_SERIAL_HI` of the `lnk` page (R309). -/
abbrev lnkPeerSerialHi : Nat := 0x114
/-- `LNK_PEER_VER` of the `lnk` page (R309). -/
abbrev lnkPeerVer : Nat := 0x118
/-- `LNK_FEC_CW_LO` of the `lnk` page (R309). -/
abbrev lnkFecCwLo : Nat := 0x11C
/-- `LNK_FEC_CW_HI` of the `lnk` page (R309). -/
abbrev lnkFecCwHi : Nat := 0x120
/-- `LNK_FEC_SYM` of the `lnk` page (R309). -/
abbrev lnkFecSym : Nat := 0x124
/-- `LNK_FEC_UNCORR` of the `lnk` page (R309). -/
abbrev lnkFecUncorr : Nat := 0x128
/-- `LNK_DOWNS` of the `lnk` page (R309). -/
abbrev lnkDowns : Nat := 0x12C
/-- `LNK_LAST_DOWN` of the `lnk` page (R309). -/
abbrev lnkLastDown : Nat := 0x130
/-- `LNK_RETX` of the `lnk` page (R309). -/
abbrev lnkRetx : Nat := 0x134
/-- `LPT_CFG` of the `lpt` page (R310). -/
abbrev lptCfg : Nat := 0x100
/-- `LPT_LINKS` of the `lpt` page (R310). -/
abbrev lptLinks : Nat := 0x104
/-- `LPT_ACTIVE` of the `lpt` page (R310). -/
abbrev lptActive : Nat := 0x108
/-- `LPT_MAC_LO` of the `lpt` page (R310). -/
abbrev lptMacLo : Nat := 0x10C
/-- `LPT_MAC_HI` of the `lpt` page (R310). -/
abbrev lptMacHi : Nat := 0x110
/-- `LPT_IP` of the `lpt` page (R310). -/
abbrev lptIp : Nat := 0x114
/-- `LPT_GW_MAC_LO` of the `lpt` page (R310). -/
abbrev lptGwMacLo : Nat := 0x124
/-- `LPT_GW_MAC_HI` of the `lpt` page (R310). -/
abbrev lptGwMacHi : Nat := 0x128
/-- `LPT_UDP` of the `lpt` page (R310). -/
abbrev lptUdp : Nat := 0x12C
/-- `LPT_TX_BYTES_LO` of the `lpt` page (R310). -/
abbrev lptTxBytesLo : Nat := 0x130
/-- `LPT_TX_BYTES_HI` of the `lpt` page (R310). -/
abbrev lptTxBytesHi : Nat := 0x134
/-- `LPT_RX_BYTES_LO` of the `lpt` page (R310). -/
abbrev lptRxBytesLo : Nat := 0x138
/-- `LPT_RX_BYTES_HI` of the `lpt` page (R310). -/
abbrev lptRxBytesHi : Nat := 0x13C
/-- `LPT_DROPS` of the `lpt` page (R310). -/
abbrev lptDrops : Nat := 0x140
/-- `LPT_MACSEC` of the `lpt` page (R310). -/
abbrev lptMacsec : Nat := 0x144
/-- `LPT_SWITCH_AT_LO` of the `lpt` page (R310). -/
abbrev lptSwitchAtLo : Nat := 0x148
/-- `LPT_SWITCH_AT_HI` of the `lpt` page (R310). -/
abbrev lptSwitchAtHi : Nat := 0x14C
/-- `FCE_CFG` of the `fce` page (R311). -/
abbrev fceCfg : Nat := 0x100
/-- `FCE_STATE` of the `fce` page (R311). -/
abbrev fceState : Nat := 0x104
/-- `FCE_OUI` of the `fce` page (R311). -/
abbrev fceOui : Nat := 0x108
/-- `FCE_PLAN_SEL` of the `fce` page (R311). -/
abbrev fcePlanSel : Nat := 0x10C
/-- `FCE_PLAN_ADDR_LO` of the `fce` page (R311). -/
abbrev fcePlanAddrLo : Nat := 0x110
/-- `FCE_PLAN_ADDR_HI` of the `fce` page (R311). -/
abbrev fcePlanAddrHi : Nat := 0x114
/-- `FCE_PLAN_CMD` of the `fce` page (R311). -/
abbrev fcePlanCmd : Nat := 0x118
/-- `FCE_PLAN_ARM_AT_LO` of the `fce` page (R311). -/
abbrev fcePlanArmAtLo : Nat := 0x11C
/-- `FCE_PLAN_ARM_AT_HI` of the `fce` page (R311). -/
abbrev fcePlanArmAtHi : Nat := 0x120
/-- `FCE_PLAN_STATE` of the `fce` page (R311). -/
abbrev fcePlanState : Nat := 0x124
/-- `FCE_PLAN_ERR` of the `fce` page (R311). -/
abbrev fcePlanErr : Nat := 0x128
/-- `FCE_PLAN_HASH` of the `fce` page (R311). -/
abbrev fcePlanHash : Nat := 0x12C
/-- `FCE_ABORT_REC0` of the `fce` page (R311). -/
abbrev fceAbortRec0 : Nat := 0x14C
/-- `FCE_ABORT_REC1` of the `fce` page (R311). -/
abbrev fceAbortRec1 : Nat := 0x150
/-- `FCE_ABORT_REC2` of the `fce` page (R311). -/
abbrev fceAbortRec2 : Nat := 0x154
/-- `FCE_ABORT_REC3` of the `fce` page (R311). -/
abbrev fceAbortRec3 : Nat := 0x158
/-- `FCE_CTX_SEL` of the `fce` page (R311). -/
abbrev fceCtxSel : Nat := 0x15C
/-- `FCE_CTX_PLAN` of the `fce` page (R311). -/
abbrev fceCtxPlan : Nat := 0x160
/-- `FCE_CTX_CTAB_LO` of the `fce` page (R311). -/
abbrev fceCtxCtabLo : Nat := 0x164
/-- `FCE_CTX_CTAB_HI` of the `fce` page (R311). -/
abbrev fceCtxCtabHi : Nat := 0x168
/-- `FCE_CTX_CTAB_LOG2` of the `fce` page (R311). -/
abbrev fceCtxCtabLog2 : Nat := 0x16C
/-- `FCE_CTX_COLLS` of the `fce` page (R311). -/
abbrev fceCtxColls : Nat := 0x170
/-- `FCE_CTX_FAILED` of the `fce` page (R311). -/
abbrev fceCtxFailed : Nat := 0x174
/-- `FCE_CTX_DUP` of the `fce` page (R311). -/
abbrev fceCtxDup : Nat := 0x178
/-- `FCE_CTX_RETX` of the `fce` page (R311). -/
abbrev fceCtxRetx : Nat := 0x17C
/-- `FCE_CTX_RWRITES` of the `fce` page (R311). -/
abbrev fceCtxRwrites : Nat := 0x180
/-- `FCE_CTX_STRAY` of the `fce` page (R311). -/
abbrev fceCtxStray : Nat := 0x184
/-- `SRV_CFG` of the `srv` page (R329). -/
abbrev srvCfg : Nat := 0x100
/-- `SRV_OPEN` of the `srv` page (R329). -/
abbrev srvOpen : Nat := 0x104
/-- `SRV_FRAMES_IN` of the `srv` page (R329). -/
abbrev srvFramesIn : Nat := 0x108
/-- `SRV_FRAMES_OUT` of the `srv` page (R329). -/
abbrev srvFramesOut : Nat := 0x10C
/-- `SRV_DROPS` of the `srv` page (R329). -/
abbrev srvDrops : Nat := 0x110
/-- `SRV_BERTH_SEL` of the `srv` page (R329). -/
abbrev srvBerthSel : Nat := 0x114
/-- `SRV_BERTH_STATE` of the `srv` page (R329). -/
abbrev srvBerthState : Nat := 0x118
/-- `SRV_BERTH_POSITION` of the `srv` page (R329). -/
abbrev srvBerthPosition : Nat := 0x11C
/-- `SRV_CTX_TEMPLATE_LO` of the `vsrv` page (R330). -/
abbrev srvCtxTemplateLo : Nat := 0x100
/-- `SRV_CTX_TEMPLATE_HI` of the `vsrv` page (R330). -/
abbrev srvCtxTemplateHi : Nat := 0x104
/-- `SRV_CTX_BATCH_LO` of the `vsrv` page (R330). -/
abbrev srvCtxBatchLo : Nat := 0x108
/-- `SRV_CTX_BATCH_HI` of the `vsrv` page (R330). -/
abbrev srvCtxBatchHi : Nat := 0x10C
/-- `SRV_CTX_BATCH_LOG2` of the `vsrv` page (R330). -/
abbrev srvCtxBatchLog2 : Nat := 0x110
/-- `SRV_CTX_TOKBUF_LO` of the `vsrv` page (R330). -/
abbrev srvCtxTokbufLo : Nat := 0x114
/-- `SRV_CTX_TOKBUF_HI` of the `vsrv` page (R330). -/
abbrev srvCtxTokbufHi : Nat := 0x118
/-- `SRV_CTX_TOK_LOG2` of the `vsrv` page (R330). -/
abbrev srvCtxTokLog2 : Nat := 0x11C
/-- `SRV_CTX_INRING_LO` of the `vsrv` page (R330). -/
abbrev srvCtxInringLo : Nat := 0x120
/-- `SRV_CTX_INRING_HI` of the `vsrv` page (R330). -/
abbrev srvCtxInringHi : Nat := 0x124
/-- `SRV_CTX_OUTRING_LO` of the `vsrv` page (R330). -/
abbrev srvCtxOutringLo : Nat := 0x128
/-- `SRV_CTX_OUTRING_HI` of the `vsrv` page (R330). -/
abbrev srvCtxOutringHi : Nat := 0x12C
/-- `SRV_CTX_RING_LOG2` of the `vsrv` page (R330). -/
abbrev srvCtxRingLog2 : Nat := 0x130
/-- `SRV_CTX_OUT_HEAD` of the `vsrv` page (R330). -/
abbrev srvCtxOutHead : Nat := 0x134
/-- `SRV_CTX_LIMITS` of the `vsrv` page (R330). -/
abbrev srvCtxLimits : Nat := 0x138
/-- `SRV_CTX_CHUNK` of the `vsrv` page (R330). -/
abbrev srvCtxChunk : Nat := 0x13C
/-- `SRV_CTX_MODEL` of the `vsrv` page (R330). -/
abbrev srvCtxModel : Nat := 0x140
/-- `SRV_CTX_KSCALE` of the `vsrv` page (R330). -/
abbrev srvCtxKscale : Nat := 0x144
/-- `SRV_CTX_VSCALE` of the `vsrv` page (R330). -/
abbrev srvCtxVscale : Nat := 0x148
/-- `SRV_CTX_OPENED` of the `vsrv` page (R330). -/
abbrev srvCtxOpened : Nat := 0x14C
/-- `SRV_CTX_ENDED` of the `vsrv` page (R330). -/
abbrev srvCtxEnded : Nat := 0x150
/-- `SRV_CTX_CANCELLED` of the `vsrv` page (R330). -/
abbrev srvCtxCancelled : Nat := 0x154
/-- `SRV_CTX_REJECTED` of the `vsrv` page (R330). -/
abbrev srvCtxRejected : Nat := 0x158
/-- `SRV_CTX_REPLAYS` of the `vsrv` page (R330). -/
abbrev srvCtxReplays : Nat := 0x15C
/-- `SRV_CTX_OUT_FULL` of the `vsrv` page (R330). -/
abbrev srvCtxOutFull : Nat := 0x160
/-- `SRV_CTX_BUILD_LATE` of the `vsrv` page (R330). -/
abbrev srvCtxBuildLate : Nat := 0x164
/-- `SRV_CTX_OUT_TAIL` of the `vsrv` page (R330). -/
abbrev srvCtxOutTail : Nat := 0x168
/-- `SMP_BUSY` of the `smp` page (R331). -/
abbrev smpBusy : Nat := 0x100
/-- `SMP_SAMPLES_LO` of the `smp` page (R331). -/
abbrev smpSamplesLo : Nat := 0x104
/-- `SMP_SAMPLES_HI` of the `smp` page (R331). -/
abbrev smpSamplesHi : Nat := 0x108
/-- `SMP_NAN_LOGITS` of the `smp` page (R331). -/
abbrev smpNanLogits : Nat := 0x10C
/-- `SMP_INSTANTIATED` of the `smp` page (R331). -/
abbrev smpInstantiated : Nat := 0x110
/-- `SEC_STATUS` of the `sec` page (R356). -/
abbrev secStatus : Nat := 0x100
/-- `SEC_CTX_SEL` of the `sec` page (R356). -/
abbrev secCtxSel : Nat := 0x104
/-- `SEC_CTX_CMD` of the `sec` page (R356). -/
abbrev secCtxCmd : Nat := 0x108
/-- `SEC_CTX_STATUS` of the `sec` page (R356). -/
abbrev secCtxStatus : Nat := 0x10C
/-- `SEC_SVN` of the `sec` page (R356). -/
abbrev secSvn : Nat := 0x110
/-- `SEC_FW_REVOKE` of the `sec` page (R356). -/
abbrev secFwRevoke : Nat := 0x114
/-- `SEC_ATT_NEXT` of the `sec` page (R356). -/
abbrev secAttNext : Nat := 0x118
/-- `SEC_ATT_RESERVE` of the `sec` page (R356). -/
abbrev secAttReserve : Nat := 0x11C
/-- `SEC_ATT_RATE` of the `sec` page (R356). -/
abbrev secAttRate : Nat := 0x120
/-- `SEC_ATT_SIGS` of the `sec` page (R356). -/
abbrev secAttSigs : Nat := 0x124
/-- `SEC_SAK_CTRL` of the `sec` page (R356). -/
abbrev secSakCtrl : Nat := 0x128
/-- `SEC_SAK` of the `sec` page (R356). -/
abbrev secSak : Nat := 0x12C
/-- `SEC_SALT` of the `sec` page (R356). -/
abbrev secSalt : Nat := 0x14C
/-- `SEC_SSCI` of the `sec` page (R356). -/
abbrev secSsci : Nat := 0x158
/-- `SEC_IDE` of the `sec` page (R356). -/
abbrev secIde : Nat := 0x15C
/-- `SEC_FW_COMMIT` of the `sec` page (R356). -/
abbrev secFwCommit : Nat := 0x160
/-- `SEC_CTX_SESSION` of the `vsec` page (R357). -/
abbrev secCtxSession : Nat := 0x100
/-- `SEC_CTX_SID` of the `vsec` page (R357). -/
abbrev secCtxSid : Nat := 0x104
/-- `SEC_CTX_PSK` of the `vsec` page (R357). -/
abbrev secCtxPsk : Nat := 0x108
/-- `SEC_CTX_PSK_SET` of the `vsec` page (R357). -/
abbrev secCtxPskSet : Nat := 0x128
/-- `SEC_CTX_DROPS` of the `vsec` page (R357). -/
abbrev secCtxDrops : Nat := 0x12C
/-- `SEC_CTX_DROP_LIMIT` of the `vsec` page (R357). -/
abbrev secCtxDropLimit : Nat := 0x130
/-- `SEC_CTX_OPEN_MARK_LO` of the `vsec` page (R357). -/
abbrev secCtxOpenMarkLo : Nat := 0x134
/-- `SEC_CTX_OPEN_MARK_HI` of the `vsec` page (R357). -/
abbrev secCtxOpenMarkHi : Nat := 0x138
/-- `SEC_CTX_STATE` of the `vsec` page (R357). -/
abbrev secCtxState : Nat := 0x13C
/-- `DBG_STATE` of the `dbg` page (R359). -/
abbrev dbgState : Nat := 0x100
/-- `DBG_REQ` of the `dbg` page (R359). -/
abbrev dbgReq : Nat := 0x104
/-- `DBG_TOKEN_ADDR_LO` of the `dbg` page (R359). -/
abbrev dbgTokenAddrLo : Nat := 0x108
/-- `DBG_TOKEN_ADDR_HI` of the `dbg` page (R359). -/
abbrev dbgTokenAddrHi : Nat := 0x10C
/-- `DBG_NONCE` of the `dbg` page (R359). -/
abbrev dbgNonce : Nat := 0x110
/-- `DBG_RESULT` of the `dbg` page (R359). -/
abbrev dbgResult : Nat := 0x120
/-- `DBG_UNLOCKS` of the `dbg` page (R359). -/
abbrev dbgUnlocks : Nat := 0x124
/-- `DBG_CTX_TRACE` of the `vdbg` page (R360). -/
abbrev dbgCtxTrace : Nat := 0x100
/-- `DBG_CTX_BASE_LO` of the `vdbg` page (R360). -/
abbrev dbgCtxBaseLo : Nat := 0x104
/-- `DBG_CTX_BASE_HI` of the `vdbg` page (R360). -/
abbrev dbgCtxBaseHi : Nat := 0x108
/-- `DBG_CTX_HEAD` of the `vdbg` page (R360). -/
abbrev dbgCtxHead : Nat := 0x10C
/-- `DBG_CTX_DROPS` of the `vdbg` page (R360). -/
abbrev dbgCtxDrops : Nat := 0x110
/-- `DBG_CTX_WINDOW` of the `vdbg` page (R360). -/
abbrev dbgCtxWindow : Nat := 0x800
/-- `HWD_CFG` of the `hwd` page (R389). -/
abbrev hwdCfg : Nat := 0x100
/-- `HWD_BEAT` of the `hwd` page (R389). -/
abbrev hwdBeat : Nat := 0x104
/-- `HWD_STATUS` of the `hwd` page (R389). -/
abbrev hwdStatus : Nat := 0x108
/-- `HWD_LAST_BEAT` of the `hwd` page (R389). -/
abbrev hwdLastBeat : Nat := 0x10C
/-- `HWD_FW_CTX` of the `hwd` page (R389). -/
abbrev hwdFwCtx : Nat := 0x110
/-- `HWD_CTRL` of the `hwd` page (R389). -/
abbrev hwdCtrl : Nat := 0x114
/-- `HWD_CAP_STATUS` of the `hwd` page (R389). -/
abbrev hwdCapStatus : Nat := 0x118
/-- `HWD_CAP_TICK` of the `hwd` page (R389). -/
abbrev hwdCapTick : Nat := 0x11C
/-- `HWD_CAP_LOST` of the `hwd` page (R389). -/
abbrev hwdCapLost : Nat := 0x120
/-- `HWD_CAP_WIN` of the `hwd` page (R389). -/
abbrev hwdCapWin : Nat := 0x124
/-- `HWD_GAUGE_ADDR_LO` of the `hwd` page (R389). -/
abbrev hwdGaugeAddrLo : Nat := 0x128
/-- `HWD_GAUGE_ADDR_HI` of the `hwd` page (R389). -/
abbrev hwdGaugeAddrHi : Nat := 0x12C
/-- `HWD_GAUGE_CMD` of the `hwd` page (R389). -/
abbrev hwdGaugeCmd : Nat := 0x130
/-- `HWD_GAUGE_STATUS` of the `hwd` page (R389). -/
abbrev hwdGaugeStatus : Nat := 0x134
/-- `HWD_HANGS` of the `hwd` page (R389). -/
abbrev hwdHangs : Nat := 0x138
/-- `HWD_RESTARTS` of the `hwd` page (R389). -/
abbrev hwdRestarts : Nat := 0x13C
/-- `HWD_SCRUBS` of the `hwd` page (R389). -/
abbrev hwdScrubs : Nat := 0x140
/-- `HWD_CAP_DATA` of the `hwd` page (R389). -/
abbrev hwdCapData : Nat := 0x800
/-- `HWD_SUM_TOP` of the `hwdsum` page (R390). -/
abbrev hwdSumTop : Nat := 0x100
/-- `HWD_SUM_XDIE` of the `hwdsum` page (R390). -/
abbrev hwdSumXdie : Nat := 0x104
/-- `HWD_SUM_LNK` of the `hwdsum` page (R390). -/
abbrev hwdSumLnk : Nat := 0x108
/-- `HWD_SUM_LPT` of the `hwdsum` page (R390). -/
abbrev hwdSumLpt : Nat := 0x10C
/-- `HWD_SUM_MDIE` of the `hwdsum` page (R390). -/
abbrev hwdSumMdie : Nat := 0x110
/-- `HWD_SUM_CLUSTER` of the `hwdsum` page (R390). -/
abbrev hwdSumCluster : Nat := 0x120
/-- `HWD_SUM_COREGRP` of the `hwdsum` page (R390). -/
abbrev hwdSumCoregrp : Nat := 0x124
/-- `HWD_SUM_CORE` of the `hwdsum` page (R390). -/
abbrev hwdSumCore : Nat := 0x128
/-- `HWD_ALERT_CFG` of the `hwdsum` page (R390). -/
abbrev hwdAlertCfg : Nat := 0x168
/-- `HWD_CTX_SUM` of the `vhwd` page (R391). -/
abbrev hwdCtxSum : Nat := 0x100
/-- `HWD_CTX_SCRUB0` of the `vhwd` page (R391). -/
abbrev hwdCtxScrub0 : Nat := 0x104
/-- `HWD_CTX_SCRUB_RAISED` of the `vhwd` page (R391). -/
abbrev hwdCtxScrubRaised : Nat := 0x108
/-- `HWD_CTX_SCRUB_EDGE` of the `vhwd` page (R391). -/
abbrev hwdCtxScrubEdge : Nat := 0x10C
/-- `HWD_CTX_SCRUB_CORE` of the `vhwd` page (R391). -/
abbrev hwdCtxScrubCore : Nat := 0x110
/-- `HWD_CTX_SCRUBS` of the `vhwd` page (R391). -/
abbrev hwdCtxScrubs : Nat := 0x114
/-- `HWD_CTX_SCRUB_LIMIT` of the `vhwd` page (R391). -/
abbrev hwdCtxScrubLimit : Nat := 0x118
/-- `HWD_CTX_NAN0` of the `vhwd` page (R391). -/
abbrev hwdCtxNan0 : Nat := 0x120
/-- `HWD_CTX_NAN1` of the `vhwd` page (R391). -/
abbrev hwdCtxNan1 : Nat := 0x124
/-- `HWD_CTX_SAT0` of the `vhwd` page (R391). -/
abbrev hwdCtxSat0 : Nat := 0x140
/-- `HWD_CTX_SAT1` of the `vhwd` page (R391). -/
abbrev hwdCtxSat1 : Nat := 0x144
/-- `HWD_CTX_CRUSH` of the `vhwd` page (R391). -/
abbrev hwdCtxCrush : Nat := 0x160
/-- `HWD_CTX_SATCNT` of the `vhwd` page (R391). -/
abbrev hwdCtxSatcnt : Nat := 0x164
/-- `HWD_CTX_CLAMP` of the `vhwd` page (R391). -/
abbrev hwdCtxClamp : Nat := 0x168
/-- `HWD_CTX_FLUSH` of the `vhwd` page (R391). -/
abbrev hwdCtxFlush : Nat := 0x16C
/-- `HWD_CTX_NANCNT` of the `vhwd` page (R391). -/
abbrev hwdCtxNancnt : Nat := 0x170
/-- `HWD_CTX_GAUGE_ADDR_LO` of the `vhwd` page (R391). -/
abbrev hwdCtxGaugeAddrLo : Nat := 0x174
/-- `HWD_CTX_GAUGE_ADDR_HI` of the `vhwd` page (R391). -/
abbrev hwdCtxGaugeAddrHi : Nat := 0x178
/-- `HWD_CTX_GAUGE_CMD` of the `vhwd` page (R391). -/
abbrev hwdCtxGaugeCmd : Nat := 0x17C
/-- `HWD_CTX_GAUGE_STATUS` of the `vhwd` page (R391). -/
abbrev hwdCtxGaugeStatus : Nat := 0x180
/-- `RST_STATUS` of the `rst` page (R409). -/
abbrev rstStatus : Nat := 0x100
/-- `RST_OPT_RESULT` of the `rst` page (R409). -/
abbrev rstOptResult : Nat := 0x104
/-- `RST_OPT_VERSION` of the `rst` page (R409). -/
abbrev rstOptVersion : Nat := 0x108
/-- `RST_VER_A` of the `rst` page (R409). -/
abbrev rstVerA : Nat := 0x10C
/-- `RST_VER_B` of the `rst` page (R409). -/
abbrev rstVerB : Nat := 0x110
/-- `RST_OPT_CTRL` of the `rst` page (R409). -/
abbrev rstOptCtrl : Nat := 0x114
/-- `RST_T_OPTIONS` of the `rst` page (R409). -/
abbrev rstTOptions : Nat := 0x118
/-- `RST_T_MEMORY` of the `rst` page (R409). -/
abbrev rstTMemory : Nat := 0x11C
/-- `RST_T_READY` of the `rst` page (R409). -/
abbrev rstTReady : Nat := 0x120
/-- `BKP_STATUS` of the `bkp` page (R410). -/
abbrev bkpStatus : Nat := 0x100
/-- `BKP_RESETS` of the `bkp` page (R410). -/
abbrev bkpResets : Nat := 0x104
/-- `BKP_LAST_RESET` of the `bkp` page (R410). -/
abbrev bkpLastReset : Nat := 0x108
/-- `BKP_TAMPER` of the `bkp` page (R410). -/
abbrev bkpTamper : Nat := 0x10C
/-- `BKP_ATT_NEXT` of the `bkp` page (R410). -/
abbrev bkpAttNext : Nat := 0x110
/-- `BKP_HIST_SEL` of the `bkp` page (R410). -/
abbrev bkpHistSel : Nat := 0x114
/-- `BKP_HIST` of the `bkp` page (R410). -/
abbrev bkpHist : Nat := 0x118
/-- `PWR_CAP` of the `pwr` page (R435). -/
abbrev pwrCap : Nat := 0x100
/-- `PWR_PKG_MAX` of the `pwr` page (R435). -/
abbrev pwrPkgMax : Nat := 0x104
/-- `PWR_STATE_REQ` of the `pwr` page (R435). -/
abbrev pwrStateReq : Nat := 0x108
/-- `PWR_STATE` of the `pwr` page (R435). -/
abbrev pwrState : Nat := 0x10C
/-- `PWR_IDLE_AFTER` of the `pwr` page (R435). -/
abbrev pwrIdleAfter : Nat := 0x110
/-- `PWR_AVG` of the `pwr` page (R435). -/
abbrev pwrAvg : Nat := 0x114
/-- `PWR_DOM_SEL` of the `pwr` page (R435). -/
abbrev pwrDomSel : Nat := 0x118
/-- `PWR_DOM_STATE` of the `pwr` page (R435). -/
abbrev pwrDomState : Nat := 0x11C
/-- `PWR_DOM_CTRL` of the `pwr` page (R435). -/
abbrev pwrDomCtrl : Nat := 0x120
/-- `PWR_DOM_POWER` of the `pwr` page (R435). -/
abbrev pwrDomPower : Nat := 0x124
/-- `PWR_BRAKE` of the `pwr` page (R435). -/
abbrev pwrBrake : Nat := 0x128
/-- `PWR_BRAKE_CLKS` of the `pwr` page (R435). -/
abbrev pwrBrakeClks : Nat := 0x12C
/-- `PWR_CTRL` of the `pwr` page (R435). -/
abbrev pwrCtrl : Nat := 0x130
/-- `PWR_SIG_SEL` of the `pwr` page (R435). -/
abbrev pwrSigSel : Nat := 0x134
/-- `PWR_SIG_LEAK` of the `pwr` page (R435). -/
abbrev pwrSigLeak : Nat := 0x138
/-- `PWR_SIG_DYN` of the `pwr` page (R435). -/
abbrev pwrSigDyn : Nat := 0x13C
/-- `PWR_SIG_SAMPLES` of the `pwr` page (R435). -/
abbrev pwrSigSamples : Nat := 0x140
/-- `PWR_SIG_RESET` of the `pwr` page (R435). -/
abbrev pwrSigReset : Nat := 0x144
/-- `PWR_SLUICE_CFG` of the `pwr` page (R435). -/
abbrev pwrSluiceCfg : Nat := 0x148
/-- `PWR_SLUICES` of the `pwr` page (R435). -/
abbrev pwrSluices : Nat := 0x14C
/-- `PWR_ENERGY_LO` of the `pwr` page (R435). -/
abbrev pwrEnergyLo : Nat := 0x150
/-- `PWR_ENERGY_HI` of the `pwr` page (R435). -/
abbrev pwrEnergyHi : Nat := 0x154
/-- `PWR_CTX_SHARE` of the `vpwr` page (R436). -/
abbrev pwrCtxShare : Nat := 0x100
/-- `PWR_CTX_FLOOR` of the `vpwr` page (R436). -/
abbrev pwrCtxFloor : Nat := 0x104
/-- `PWR_CTX_ENERGY_LO` of the `vpwr` page (R436). -/
abbrev pwrCtxEnergyLo : Nat := 0x108
/-- `PWR_CTX_ENERGY_HI` of the `vpwr` page (R436). -/
abbrev pwrCtxEnergyHi : Nat := 0x10C
/-- `PWR_CTX_LAST_POUND` of the `vpwr` page (R436). -/
abbrev pwrCtxLastPound : Nat := 0x110
/-- `PWR_CTX_FORCED` of the `vpwr` page (R436). -/
abbrev pwrCtxForced : Nat := 0x114
/-- `THM_SENSOR_SEL` of the `thm` page (R437). -/
abbrev thmSensorSel : Nat := 0x100
/-- `THM_SENSOR` of the `thm` page (R437). -/
abbrev thmSensor : Nat := 0x104
/-- `THM_DOM_MAX` of the `thm` page (R437). -/
abbrev thmDomMax : Nat := 0x108
/-- `THM_STACK_MAX` of the `thm` page (R437). -/
abbrev thmStackMax : Nat := 0x124
/-- `THM_WARN` of the `thm` page (R437). -/
abbrev thmWarn : Nat := 0x128
/-- `THM_THROTTLE_EDGES` of the `thm` page (R437). -/
abbrev thmThrottleEdges : Nat := 0x12C
/-- `AGE_CMD` of the `age` page (R438). -/
abbrev ageCmd : Nat := 0x100
/-- `AGE_STATUS` of the `age` page (R438). -/
abbrev ageStatus : Nat := 0x104
/-- `AGE_DOM_SEL` of the `age` page (R438). -/
abbrev ageDomSel : Nat := 0x108
/-- `AGE_DOM` of the `age` page (R438). -/
abbrev ageDom : Nat := 0x10C
/-- `AGE_GB` of the `age` page (R438). -/
abbrev ageGb : Nat := 0x110
/-- `AGE_RO` of the `age` page (R438). -/
abbrev ageRo : Nat := 0x114
/-- `AGE_RETENTION` of the `age` page (R438). -/
abbrev ageRetention : Nat := 0x118
/-- `AGE_EYE_SEL` of the `age` page (R438). -/
abbrev ageEyeSel : Nat := 0x128
/-- `AGE_EYE` of the `age` page (R438). -/
abbrev ageEye : Nat := 0x12C
/-- `AGE_EYE_MIN` of the `age` page (R438). -/
abbrev ageEyeMin : Nat := 0x130
/-- `AGE_POH_MIN` of the `age` page (R438). -/
abbrev agePohMin : Nat := 0x134
/-- `AGE_LOG_WIN` of the `age` page (R438). -/
abbrev ageLogWin : Nat := 0x138
/-- `AGE_LOG_HEAD` of the `age` page (R438). -/
abbrev ageLogHead : Nat := 0x13C
/-- `AGE_LOG_DATA` of the `age` page (R438). -/
abbrev ageLogData : Nat := 0x800
/-- `PCI_CTX_APERTURE_BASE_HI` of the `vpci` page (R31). -/
abbrev pciCtxApertureBaseHi : Nat := 0x100

end Sys2Proof.Machine.Off
end

