-- ==== Sys2Proof/Machine/Siphash.lean ====
section
/-! DEFINITION. SipHash-2-4 of an 8-byte message and the keyed channel interleave (R208, R209). -/

namespace Sys2Proof.Machine

/-- The four 64-bit words of a SipHash state. -/
structure SipState where
  v0 : BitVec 64
  v1 : BitVec 64
  v2 : BitVec 64
  v3 : BitVec 64
  deriving DecidableEq, Repr

/-- One SipRound. -/
def sipRound (s : SipState) : SipState :=
  let v0 := s.v0 + s.v1
  let v1 := s.v1.rotateLeft 13 ^^^ v0
  let v0 := v0.rotateLeft 32
  let v2 := s.v2 + s.v3
  let v3 := s.v3.rotateLeft 16 ^^^ v2
  let v0 := v0 + v3
  let v3 := v3.rotateLeft 21 ^^^ v0
  let v2 := v2 + v1
  let v1 := v1.rotateLeft 17 ^^^ v2
  let v2 := v2.rotateLeft 32
  ⟨v0, v1, v2, v3⟩

/-- Two compression rounds on one 8-byte block. -/
def sipBlock (m : BitVec 64) (s : SipState) : SipState :=
  let t := sipRound (sipRound { s with v3 := s.v3 ^^^ m })
  { t with v0 := t.v0 ^^^ m }

/-- siphash24(k, x) of R209: x as an 8-byte little-endian message under a 128-bit little-endian key. -/
def siphash24 (k : BitVec 128) (x : Nat) : Nat :=
  let k0 : BitVec 64 := k.extractLsb' 0 64
  let k1 : BitVec 64 := k.extractLsb' 64 64
  let s : SipState := ⟨k0 ^^^ 0x736f6d6570736575, k1 ^^^ 0x646f72616e646f6d, k0 ^^^ 0x6c7967656e657261, k1 ^^^ 0x7465646279746573⟩
  let s := sipBlock (BitVec.ofNat 64 x) s
  let s := sipBlock 0x0800000000000000 s
  let s := { s with v2 := s.v2 ^^^ 0xff }
  let s := sipRound (sipRound (sipRound (sipRound s)))
  (s.v0 ^^^ s.v1 ^^^ s.v2 ^^^ s.v3).toNat

/-- Entry `i` of a list and entry `j` exchanged. -/
def swapAt (xs : List Nat) (i j : Nat) : List Nat :=
  let a := xs.getD i 0
  let b := xs.getD j 0
  (xs.set i b).set j a

/-- The Fisher–Yates shuffle of R209, from entry `i` down to 1. -/
def shuffle (k : BitVec 128) : Nat → List Nat → List Nat
  | 0, xs => xs
  | i + 1, xs => shuffle k i (swapAt xs (i + 1) (siphash24 k (2 ^ 32 + (i + 1)) % (i + 2)))

/-- perm of R209. -/
def channelPerm (k : BitVec 128) : List Nat := shuffle k 255 (List.range 256)

/-- The device channel of a DPA (R209). -/
def channelOf (k : BitVec 128) (dpa : Nat) : Nat :=
  let g := dpa / 4096
  (channelPerm k).getD ((g % 256) ^^^ (siphash24 k (g / 256) % 256)) 0

/-- The M-die that holds a DPA (R208). -/
def dieOf (k : BitVec 128) (dpa : Nat) : Nat := channelOf k dpa / 64

end Sys2Proof.Machine
end

