-- ==== Sys2Proof/Machine/Dram.lean ====
section
/-! DEFINITION. DRAM behind the encryption engines, and device virtual addresses (R208, R211 to R214, R220). -/

namespace Sys2Proof.Machine

/-- First DPA beyond the 96 GiB of DRAM (R208). -/
def dramEnd : Nat := 96 * 2 ^ 30

/-- The memory's canonical form: addresses and line numbers strictly rising. An unlisted byte reads as a value nothing constrains, which no listed byte can be said to equal. -/
def Mem.wf (m : Mem) : Bool := Tbl.wf m.cells && Tbl.wf m.tags

/-- A byte of DRAM read under key `g` (R214): what was written under that key, else a decryption nothing constrains. -/
def Mem.readByte (m : Mem) (g dpa : Nat) : Byte :=
  let tag := Tbl.get m.tags (dpa / 64) 0
  if tag = g then (Tbl.find dpa m.cells).getD (Config.undecrypted g 0 dpa) else Config.undecrypted g tag dpa

/-- The line is written under key `g` from now on; bytes kept under another key are gone (R214). -/
def Mem.retag (m : Mem) (g line : Nat) : Mem :=
  if Tbl.get m.tags line 0 = g then m
  else { m with tags := Tbl.put m.tags line g, cells := m.cells.filter fun c => decide (c.1 / 64 ≠ line) }

/-- A byte of DRAM written under key `g`. -/
def Mem.writeByte (m : Mem) (g dpa : Nat) (b : Byte) : Mem :=
  let m := m.retag g (dpa / 64)
  { m with cells := Tbl.put m.cells dpa b }

/-- `n` bytes from a DPA under key `g`. -/
def Mem.readBytes (m : Mem) (g : Nat) : Nat → Nat → List Byte
  | _, 0 => []
  | dpa, n + 1 => m.readByte g dpa :: Mem.readBytes m g (dpa + 1) n

/-- Bytes written from a DPA on under key `g`. -/
def Mem.writeBytes (m : Mem) (g : Nat) : Nat → List Byte → Mem
  | _, [] => m
  | dpa, b :: bs => Mem.writeBytes (m.writeByte g dpa b) g (dpa + 1) bs

/-- The line is poisoned (R220). -/
def Mem.poisoned (m : Mem) (line : Nat) : Bool := m.poison.contains line

/-- The key of a context's slot; none = empty (R214, R334). -/
def State.keyOf (s : State) (ctx : Nat) : Option Nat := (s.ctx ctx).key

/-- What an access is for (R212). -/
inductive AccKind where
  | read | write | fetch
  deriving DecidableEq, Repr

/-- Why a memory access is not served: a translation fault (R212), a poisoned table entry (R212), or a poisoned line (R220). -/
inductive MemErr where
  | xlate | table | poison
  deriving DecidableEq, Repr

/-- The key under which tables are read: context 0's (R211). -/
def State.tableKey (s : State) : Nat := ((s.ctx 0).key).getD 0

/-- A table entry at a DPA: its 8 bytes, or an error when its line is poisoned (R211, R212). -/
def State.tableEntry (s : State) (dpa : Nat) : Except MemErr Nat :=
  if s.mem.poisoned (dpa / 64) then .error .table else .ok (ofBytes (s.mem.readBytes s.tableKey dpa 8))

/-- DPA of the root directory (R211, R229): the register of M-die 0, bits [11:0] ignored. -/
def State.ptDir (s : State) : Nat := s.rd64 .mem 0 Off.memPtdirLo / 4096 * 4096

/-- The table an entry names whose reserved bits below NEXT are [11:lo]; a fault where V = 0, a reserved bit is set, or NEXT lies beyond DRAM (R212). The root directory reserves [11:1]; levels 0 and 1 reserve [11:3], W and X being leaf only (R211). -/
def nextTable (lo e : Nat) : Except MemErr Nat :=
  if bitAt e 0 && bitsAt e lo (12 - lo) == 0 && bitsAt e 37 27 == 0 && decide (bitsAt e 12 25 * 4096 < dramEnd) then
    .ok (bitsAt e 12 25 * 4096)
  else .error .xlate

/-- The entry names a page: V = 1, no reserved bit, PAGE within DRAM (R211, R212). -/
def leafOk (e : Nat) : Bool :=
  bitAt e 0 && bitsAt e 3 18 == 0 && bitsAt e 37 27 == 0 && decide (bitsAt e 21 16 * 2 ^ 21 < dramEnd)

/-- The level-2 entry of a DVA by the walk of R211. -/
def State.walk (s : State) (ctx dva : Nat) : Except MemErr Nat := do
  if 2 ^ 48 ≤ dva then throw .xlate
  let root ← s.tableEntry (s.ptDir + 8 * ctx)
  let t0 ← nextTable 1 root
  let e0 ← s.tableEntry (t0 + 8 * bitsAt dva 39 9)
  let t1 ← nextTable 3 e0
  let e1 ← s.tableEntry (t1 + 8 * bitsAt dva 30 9)
  let t2 ← nextTable 3 e1
  let e2 ← s.tableEntry (t2 + 8 * bitsAt dva 21 9)
  if leafOk e2 then pure e2 else throw .xlate

/-- The root directory entry of context 0 has been written and is valid; until then context 0's addresses are DPAs (DESIGN CHOICE, log 4). -/
def State.rootWritten (s : State) : Bool :=
  decide (Tbl.get s.mem.tags (s.ptDir / 64) 0 = s.tableKey) && (Tbl.find s.ptDir s.mem.cells).isSome &&
    bitAt (s.mem.readByte s.tableKey s.ptDir).toNat 0

/-- The leaf entry an access of a context uses without any cache: the walk, or for context 0 before its directory is written the identity with all permissions (log 4). -/
def State.leaf (s : State) (ctx dva : Nat) : Except MemErr Nat :=
  if ctx = 0 ∧ s.rootWritten = false then
    if dva < dramEnd then .ok (dva / 2 ^ 21 * 2 ^ 21 + 7) else .error .xlate
  else s.walk ctx dva

/-- The DPA under a leaf entry, or a fault where the entry forbids the access (R212). -/
def leafAddr (e dva : Nat) (k : AccKind) : Except MemErr Nat :=
  match k with
  | .read => .ok (bitsAt e 21 16 * 2 ^ 21 + dva % 2 ^ 21)
  | .write => if bitAt e 1 then .ok (bitsAt e 21 16 * 2 ^ 21 + dva % 2 ^ 21) else .error .xlate
  | .fetch => if bitAt e 2 then .ok (bitsAt e 21 16 * 2 ^ 21 + dva % 2 ^ 21) else .error .xlate

/-- Units that cache translations (R213): core n, 512 + yard slice, 516 the host interface. Unit 517 stands for the agents of the X-die, which cache none. -/
def cachingUnit (unit : Nat) : Bool := decide (unit < 517)

/-- The cached translation of a unit, if it holds one. -/
def Mem.cached (m : Mem) (unit ctx page : Nat) : Option (BitVec 64) :=
  (m.tlb.find? fun e => e.unit == unit && e.ctx == ctx && e.page == page).map (·.ent)

/-- The unit caches a translation, in place of the one it held. -/
def Mem.fill (m : Mem) (unit ctx page : Nat) (ent : BitVec 64) : Mem :=
  { m with tlb := ⟨unit, ctx, page, ent⟩ :: m.tlb.filter fun e => !(e.unit == unit && e.ctx == ctx && e.page == page) }

/-- Translate an access of a unit (R211 to R213). Where the unit's cached entry differs from the tables, either may be used until the next step 3: a free choice. -/
def State.xlate (s : State) (unit ctx dva : Nat) (k : AccKind) : State × Except MemErr Nat :=
  let page := dva / 2 ^ 21
  if cachingUnit unit then
    match s.mem.cached unit ctx page with
    | some old =>
      match s.leaf ctx dva with
      | .ok new =>
        if new = old.toNat then (s, leafAddr new dva k)
        else
          let (n, s) := s.draw
          if Config.freeBit n then (s, leafAddr old.toNat dva k)
          else (s.modMem fun m => m.fill unit ctx page (BitVec.ofNat 64 new), leafAddr new dva k)
      | .error e =>
        let (n, s) := s.draw
        if Config.freeBit n then (s, leafAddr old.toNat dva k) else (s, .error e)
    | none =>
      match s.leaf ctx dva with
      | .ok new => (s.modMem fun m => m.fill unit ctx page (BitVec.ofNat 64 new), leafAddr new dva k)
      | .error e => (s, .error e)
  else
    match s.leaf ctx dva with
    | .ok new => (s, leafAddr new dva k)
    | .error e => (s, .error e)

/-- A byte range cut at 64-byte line boundaries: (offset in the range, address, length) of each piece, with fuel for the number of pieces. -/
def linePieces : Nat → Nat → Nat → Nat → List (Nat × Nat × Nat)
  | 0, _, _, _ => []
  | fuel + 1, off, a, n =>
    if n = 0 then [] else
    let k := min n (64 - a % 64)
    (off, a, k) :: linePieces fuel (off + k) (a + k) (n - k)

/-- The pieces of a byte range, each within one line. -/
def piecesOf (a n : Nat) : List (Nat × Nat × Nat) := linePieces (n / 64 + 2) 0 a n

end Sys2Proof.Machine
end

