-- ==== Sys2Proof/Machine/Crypto.lean ====
section
/-! DEFINITION. The standard functions the spec names: CRC-32C, SHA-256, HMAC and HKDF-Expand over it, AES-256, AES-256-GCM, CTR_DRBG with AES-256 and a derivation function (R295, R325, R340, R342, R400). -/

namespace Sys2Proof.Machine

/-! ### Big-endian bytes -/

/-- Big-endian bytes as a number. -/
def ofBytesBE (bs : List Byte) : Nat := bs.foldl (fun a b => a * 256 + b.toNat) 0

/-- The low `n` bytes of a number, most significant first. -/
def toBytesBE (n x : Nat) : List Byte := (toBytes n x).reverse

/-- Lists of `n` elements, the last one possibly shorter. -/
def chunks (n : Nat) (xs : List α) : List (List α) :=
  (List.range ((xs.length + n - 1) / n)).map fun i => (xs.drop (n * i)).take n

/-! ### CRC-32C -/

/-- One byte into a reflected CRC-32C register. -/
def crcByte (c : Nat) (b : Byte) : Nat :=
  (List.range 8).foldl (fun c _ => if c % 2 = 1 then (c / 2) ^^^ 0x82F63B78 else c / 2) (c ^^^ b.toNat)

/-- CRC-32C of bytes. -/
def crc32c (bs : List Byte) : Nat := (bs.foldl crcByte 0xFFFFFFFF) ^^^ 0xFFFFFFFF

/-! ### SHA-256 (FIPS 180-4) -/

/-- The 64 round constants, constant i at bits [32i + 31:32i]. -/
def shaK : Nat := 0xc67178f2bef9a3f7a4506ceb90befffa8cc7020884c8781478a5636f748f82ee682e6ff35b9cca4f4ed8aa4a391c0cb334b0bcb52748774c1e376c0819a4c116106aa070f40e3585d6990624d192e819c76c51a3c24b8b70a81a664ba2bfe8a192722c8581c2c92e766a0abb650a735453380d134d2c6dfc2e1b213827b70a851429296706ca6351d5a79147c6e00bf3bf597fc7b00327c8a831c66d983e515276f988da5cb0a9dc4a7484aa2de92c6f240ca1cc0fc19dc6efbe4786e49b69c1c19bf1749bdc06a780deb1fe72be5d74550c7dc3243185be12835b01d807aa98ab1c5ed5923f82a459f111f13956c25be9b5dba5b5c0fbcf71374491428a2f98

/-- The initial hash value, H0 first. -/
def shaH0 : List Word := [0x6a09e667, 0xbb67ae85, 0x3c6ef372, 0xa54ff53a, 0x510e527f, 0x9b05688c, 0x1f83d9ab, 0x5be0cd19]

/-- The message schedule: `n` more words after the 16 of the block; the list is kept newest first. -/
def shaSchedule : Nat → List Word → List Word
  | 0, ws => ws
  | n + 1, ws =>
    let w := fun i => ws.getD i 0
    let s0 := (w 14).rotateRight 7 ^^^ (w 14).rotateRight 18 ^^^ (w 14) >>> 3
    let s1 := (w 1).rotateRight 17 ^^^ (w 1).rotateRight 19 ^^^ (w 1) >>> 10
    shaSchedule n ((w 15 + s0 + w 6 + s1) :: ws)

/-- One compression round on the eight working variables. -/
def shaRound (v : List Word) (kw : Word) : List Word :=
  match v with
  | [a, b, c, d, e, f, g, h] =>
    let t1 := h + (e.rotateRight 6 ^^^ e.rotateRight 11 ^^^ e.rotateRight 25) + ((e &&& f) ^^^ (~~~e &&& g)) + kw
    let t2 := (a.rotateRight 2 ^^^ a.rotateRight 13 ^^^ a.rotateRight 22) + ((a &&& b) ^^^ (a &&& c) ^^^ (b &&& c))
    [t1 + t2, a, b, c, d + t1, e, f, g]
  | _ => v

/-- One 64-byte block into the hash value. -/
def shaBlock (h : List Word) (block : List Byte) : List Word :=
  let ws := (chunks 4 block).map fun b => BitVec.ofNat 32 (ofBytesBE b)
  let sched := (shaSchedule 48 ws.reverse).reverse
  let v := (List.zip (List.range 64) sched).foldl (fun v (i, w) => shaRound v (BitVec.ofNat 32 (bitsAt shaK (32 * i) 32) + w)) h
  List.zipWith (· + ·) h v

/-- SHA-256 of bytes, 32 bytes. -/
def sha256 (m : List Byte) : List Byte :=
  let pad := m ++ [0x80] ++ List.replicate ((119 - m.length % 64) % 64) 0 ++ toBytesBE 8 (8 * m.length)
  ((chunks 64 pad).foldl shaBlock shaH0).flatMap fun w => toBytesBE 4 w.toNat

/-- HMAC-SHA-256 (FIPS 198-1). -/
def hmac (key m : List Byte) : List Byte :=
  let k := fit 64 0 (if key.length > 64 then sha256 key else key)
  sha256 (k.map (· ^^^ 0x5C) ++ sha256 (k.map (· ^^^ 0x36) ++ m))

/-- First `n` bytes, at most 32, of HKDF-Expand (RFC 5869). -/
def hkdfExpand (prk info : List Byte) (n : Nat) : List Byte := (hmac prk (info ++ [1])).take n

/-! ### AES-256 (FIPS 197) -/

/-- The substitution table, entry i at bits [8i + 7:8i]. -/
def aesSbox : Nat := 0x16bb54b00f2d99416842e6bf0d89a18cdf2855cee9871e9b948ed9691198f8e19e1dc186b95735610ef6034866b53e708a8bbd4b1f74dde8c6b4a61c2e2578ba08ae7a65eaf4566ca94ed58d6d37c8e779e4959162acd3c25c2406490a3a32e0db0b5ede14b8ee4688902a22dc4f816073195d643d7ea7c41744975fec130ccdd2f3ff1021dab6bcf5389d928f40a351a89f3c507f02f94585334d43fbaaefd0cf584c4a39becb6a5bb1fc20ed00d153842fe329b3d63b52a05a6e1b1a2c830975b227ebe28012079a059618c323c7041531d871f1e5a534ccf73f362693fdb7c072a49cafa2d4adf04759fa7dc982ca76abd7fe2b670130c56f6bf27b777c63

/-- One substituted byte. -/
def aesSub (b : Byte) : Byte := BitVec.ofNat 8 (bitsAt aesSbox (8 * b.toNat) 8)

/-- Multiplication by x in the AES field. -/
def aesX (b : Byte) : Byte := (b <<< 1) ^^^ (if b.msb then 0x1B else 0)

/-- XOR of byte lists. -/
def xorBytes (a b : List Byte) : List Byte := List.zipWith (· ^^^ ·) a b

/-- Round constant i, from 1. -/
def aesRcon (i : Nat) : Byte := (List.range (i - 1)).foldl (fun b _ => aesX b) 1

/-- `n` more four-byte words of the key schedule; the list is kept newest first and `i` is the next word's number. -/
def aesExpand : Nat → Nat → List (List Byte) → List (List Byte)
  | 0, _, ws => ws
  | n + 1, i, ws =>
    let t := ws.getD 0 []
    let t := if i % 8 = 0 then xorBytes (((t.drop 1) ++ t.take 1).map aesSub) [aesRcon (i / 8), 0, 0, 0]
      else if i % 8 = 4 then t.map aesSub
      else t
    aesExpand n (i + 1) (xorBytes (ws.getD 7 []) t :: ws)

/-- The fifteen round keys of a 32-byte key. -/
def aesRoundKeys (key : List Byte) : List (List Byte) :=
  chunks 16 ((aesExpand 52 8 (chunks 4 key).reverse).reverse.flatten)

/-- One column mixed. -/
def aesMix (c : List Byte) : List Byte :=
  match c with
  | [a, b, d, e] =>
    let all := a ^^^ b ^^^ d ^^^ e
    [a ^^^ all ^^^ aesX (a ^^^ b), b ^^^ all ^^^ aesX (b ^^^ d), d ^^^ all ^^^ aesX (d ^^^ e), e ^^^ all ^^^ aesX (e ^^^ a)]
  | _ => c

/-- Substitution and row shift. -/
def aesShiftSub (s : List Byte) : List Byte :=
  (List.range 16).map fun i => aesSub (s.getD ((i + 4 * (i % 4)) % 16) 0)

/-- One middle round. -/
def aesRound (s k : List Byte) : List Byte := xorBytes ((chunks 4 (aesShiftSub s)).map aesMix).flatten k

/-- One block under the round keys. -/
def aesEncrypt (ks : List (List Byte)) (block : List Byte) : List Byte :=
  let s := xorBytes block (ks.getD 0 [])
  let s := ((ks.drop 1).take 13).foldl aesRound s
  xorBytes (aesShiftSub s) (ks.getD 14 [])

/-! ### AES-256-GCM (SP 800-38D) -/

/-- Product in the GCM field, bit 127 of a number the first bit of a block: `n` steps from the first bit of `x`. -/
def gcmMulSteps (x : Nat) : Nat → Nat → Nat → Nat
  | 0, _, z => z
  | n + 1, v, z =>
    let z := if bitAt x n then z ^^^ v else z
    gcmMulSteps x n (if v % 2 = 1 then (v / 2) ^^^ (0xE1 <<< 120) else v / 2) z

/-- Product in the GCM field. -/
def gcmMul (x y : Nat) : Nat := gcmMulSteps x 128 y 0

/-- GHASH of blocks. -/
def ghash (h : Nat) (bs : List Byte) : Nat :=
  (chunks 16 bs).foldl (fun y b => gcmMul (y ^^^ ofBytesBE (fit 16 0 b)) h) 0

/-- Padding with zeros to whole blocks. -/
def padBlock (bs : List Byte) : List Byte := bs ++ List.replicate ((16 - bs.length % 16) % 16) 0

/-- The tag of AES-256-GCM over additional data and a ciphertext, with a 96-bit nonce. -/
def gcmTag (key nonce aad ct : List Byte) : List Byte :=
  let ks := aesRoundKeys key
  let h := ofBytesBE (aesEncrypt ks (List.replicate 16 0))
  let s := ghash h (padBlock aad ++ padBlock ct ++ toBytesBE 8 (8 * aad.length) ++ toBytesBE 8 (8 * ct.length))
  xorBytes (toBytesBE 16 s) (aesEncrypt ks (nonce ++ [0, 0, 0, 1]))

/-- Encryption or decryption in counter mode from counter 2, as AES-256-GCM does. -/
def gcmCrypt (key nonce text : List Byte) : List Byte :=
  let ks := aesRoundKeys key
  ((List.zip (List.range ((text.length + 15) / 16)) (chunks 16 text)).map fun (i, b) =>
    xorBytes b (aesEncrypt ks (nonce ++ toBytesBE 4 (i + 2)))).flatten

/-! ### CTR_DRBG with AES-256 (SP 800-90A) -/

/-- `n` output blocks of the counter, and the counter after them. -/
def drbgBlocks (ks : List (List Byte)) : Nat → Nat → List Byte → List Byte × Nat
  | 0, v, acc => (acc, v)
  | n + 1, v, acc =>
    let v := (v + 1) % 2 ^ 128
    drbgBlocks ks n v (acc ++ aesEncrypt ks (toBytesBE 16 v))

/-- CTR_DRBG_Update with 48 bytes of data. -/
def drbgUpdate (g : Drbg) (data : List Byte) : Drbg :=
  let (t, _) := drbgBlocks (aesRoundKeys (toBytesBE 32 g.key.toNat)) 3 g.v.toNat []
  let t := xorBytes t data
  { g with key := BitVec.ofNat 256 (ofBytesBE (t.take 32)), v := BitVec.ofNat 128 (ofBytesBE (t.drop 32)) }

/-- BCC of blocks under a key. -/
def drbgBcc (ks : List (List Byte)) (data : List Byte) : List Byte :=
  (chunks 16 data).foldl (fun c b => aesEncrypt ks (xorBytes c b)) (List.replicate 16 0)

/-- Block_Cipher_df of an input to 48 bytes. -/
def drbgDf (input : List Byte) : List Byte :=
  let s := toBytesBE 4 input.length ++ toBytesBE 4 48 ++ input ++ [0x80]
  let s := padBlock s
  let ks := aesRoundKeys ((List.range 32).map fun i => BitVec.ofNat 8 i)
  let t := ((List.range 3).map fun i => drbgBcc ks (toBytesBE 4 i ++ List.replicate 12 0 ++ s)).flatten
  let k2 := aesRoundKeys (t.take 32)
  let x1 := aesEncrypt k2 (t.drop 32)
  let x2 := aesEncrypt k2 x1
  x1 ++ x2 ++ aesEncrypt k2 x2

/-- Instantiation with entropy, nonce and personalisation in one input. -/
def drbgInstantiate (input : List Byte) : Drbg :=
  { drbgUpdate {} (drbgDf input) with reseed := 1 }

/-- `n` bytes with no additional input, and the state after them. -/
def drbgGenerate (g : Drbg) (n : Nat) : List Byte × Drbg :=
  let (out, v) := drbgBlocks (aesRoundKeys (toBytesBE 32 g.key.toNat)) ((n + 15) / 16) g.v.toNat []
  (out.take n, { drbgUpdate { g with v := BitVec.ofNat 128 v } (List.replicate 48 0) with reseed := g.reseed + 1 })

/-! ### LMS with SHA-256, 32 bytes, height 15, Winternitz width 8 (RFC 8554, SP 800-208) -/

/-- One Winternitz chain from position `j` for `n` more steps. -/
def lmChain (i q : List Byte) (chain : Nat) : Nat → Nat → List Byte → List Byte
  | 0, _, x => x
  | n + 1, j, x => lmChain i q chain n (j + 1) (sha256 (i ++ q ++ toBytesBE 2 chain ++ toBytesBE 1 j ++ x))

/-- The one-time public key candidate of a one-time signature (type, C and 34 chain values). -/
def lmOtsKey (i q sig msg : List Byte) : List Byte :=
  let h := sha256 (i ++ q ++ toBytesBE 2 0x8181 ++ (sig.drop 4).take 32 ++ msg)
  let digits := h.map (·.toNat)
  let digits := digits ++ (toBytesBE 2 (digits.foldl (fun a d => a + (255 - d)) 0)).map (·.toNat)
  let z := (digits.zipIdx.map fun d => lmChain i q d.2 (255 - d.1) d.1 ((sig.drop (36 + 32 * d.2)).take 32)).flatten
  sha256 (i ++ q ++ toBytesBE 2 0x8080 ++ z)

/-- From a leaf up its path: node number, path and value. -/
def lmPath (i : List Byte) : List (List Byte) → Nat → List Byte → List Byte
  | [], _, x => x
  | p :: ps, node, x =>
    lmPath i ps (node / 2) (sha256 (i ++ toBytesBE 4 (node / 2) ++ toBytesBE 2 0x8383 ++ (if node % 2 = 1 then p ++ x else x ++ p)))

/-- The public key's two type words are those of LMS_SHA256_M32_H15 and LMOTS_SHA256_N32_W8 (R344). -/
def lmTypes (pub : List Byte) : Bool := pub.take 8 == toBytesBE 4 7 ++ toBytesBE 4 4

/-- A 1,612-byte LMS signature of a message verifies under a 56-byte public key (R344, RFC 8554). -/
def lmsVerify (pub sig msg : List Byte) : Bool :=
  let i := (pub.drop 8).take 16
  let q := sig.take 4
  let path := chunks 32 (sig.drop 1132)
  let kc := lmOtsKey i q (sig.drop 4) msg
  let node := 2 ^ 15 + ofBytesBE q
  let leaf := sha256 (i ++ toBytesBE 4 node ++ toBytesBE 2 0x8282 ++ kc)
  pub.length == 56 && sig.length == 1612 && lmTypes pub && (sig.drop 4).take 4 == toBytesBE 4 4 &&
    (sig.drop 1128).take 4 == toBytesBE 4 7 && decide (ofBytesBE q < 2 ^ 15) && lmPath i path node leaf == (pub.drop 24).take 32

end Sys2Proof.Machine
end

