-- ==== Sys2Proof/Machine/Image.lean ====
section
/-! DEFINITION. Firmware and option images: header, verification, and the flash copies (R344, R404). -/

namespace Sys2Proof.Machine

/-! ### Images (R344) -/

/-- Header word `i` of an image. -/
def imgWord (b : List Byte) (i : Nat) : Nat := ofBytes ((b.drop (4 * i)).take 4)

/-- Payload of an image. -/
def imgPayload (b : List Byte) : List Byte := (b.drop 2048).take (imgWord b 3)

/-- What an image's header says of it (R344). -/
def imageOf (b : List Byte) : Image :=
  { typ := BitVec.ofNat 8 (imgWord b 0), version := BitVec.ofNat 32 (imgWord b 1), svn := BitVec.ofNat 16 (imgWord b 2),
    hash := BitVec.ofNat 256 (ofBytes ((b.drop 16).take 32)), payload := imgPayload b }

/-- The fuse SVN of a TYPE (R344). -/
def Fuses.svn (f : Fuses) (typ : Nat) : Nat := if typ = 1 then f.svnDrv else if typ = 2 then f.svnOpt else f.svnSec

/-- The checks of R344 in order, for an image of a TYPE: 0 accepted, 1 refused with FW_VERIFY, 2 with FW_ROLLBACK. -/
def State.imageCheck (s : State) (typ : Nat) (b : List Byte) : Nat :=
  let key := bitsAt (imgWord b 0) 8 4
  let pub := (b.drop 1740).take 56
  if b.length < 2048 ∨ imgWord b 0 % 256 ≠ typ ∨ 3 < key then 1
  else if sha256 pub ≠ toBytes 32 (Tbl.get s.fuses.keyHash key 0).toNat ∨ s.fuses.revoke.getLsbD key then 1
  else if !lmTypes pub then 1
  else if !lmsVerify pub ((b.drop 128).take 1612) (b.take 128) then 1
  else if (imgPayload b).length ≠ imgWord b 3 ∨ sha256 (imgPayload b) ≠ (b.drop 16).take 32 then 1
  else if (imageOf b).svn.toNat < s.fuses.svn typ then 2
  else 0

/-- Flash copies of a TYPE: active and inactive (R404). -/
def Flash.copies (f : Flash) (typ : Nat) : List Byte × List Byte :=
  if typ = 1 then (f.drvActive, f.drvInactive) else (f.secActive, f.secInactive)

/-- Both copies of a TYPE replaced. -/
def Flash.setCopies (f : Flash) (typ : Nat) (c : List Byte × List Byte) : Flash :=
  if typ = 1 then { f with drvActive := c.1, drvInactive := c.2 } else { f with secActive := c.1, secInactive := c.2 }

/-- The image of a TYPE runs. -/
def State.runImage (s : State) (typ : Nat) (i : Option Image) : State :=
  if typ = 1 then { s with rst := { s.rst with drv := i } } else { s with rst := { s.rst with sece := i } }

end Sys2Proof.Machine
end

