-- ==== Sys2Proof/Machine/Ops.lean ====
section
/-! DEFINITION. What every block does with an error (R36 to R38, R362 to R372), the trace (R354), alerts and interrupts, captures and firmware restarts. -/

namespace Sys2Proof.Machine

/-! ### Who is alive -/

/-- The part is out of reset and not frozen: its X-die works (R371, R393). -/
def State.xdieOn (s : State) : Bool := !s.rst.inReset

/-- The C-dies and M-dies are clocked: out of reset, start-up done, not frozen (R371), not in D3-RETAIN (R35). -/
def State.diesOn (s : State) : Bool := !s.rst.inReset && s.rst.ready && !s.hwd.fatal && s.pwr.st != 2

/-- A DEVICE or FATAL stop is in force (R370, R371). -/
def State.isStopped (s : State) : Bool := s.hwd.stopped || s.hwd.fatal

/-- The context is condemned: its scrub is pending (R366). -/
def State.isCondemned (s : State) (k : Nat) : Bool := (s.ctx k).condemned.isSome

/-- The tick runs (R73). -/
def State.ticking (s : State) : Bool := s.lkp.phase != .stopped

/-! ### Raw writes by the X-die -/

/-- Bytes written into a context's memory with no report of a fault: pieces that do not translate are dropped. -/
def State.quietWrite (s : State) (ctx dva : Nat) (bs : List Byte) : State :=
  match s.keyOf ctx with
  | none => s
  | some g =>
    (piecesOf dva bs.length).foldl (fun s p =>
      match (s.leaf ctx p.2.1).bind fun e => leafAddr e p.2.1 .write with
      | .ok a => s.modMem fun m => m.writeBytes g a ((bs.drop p.1).take p.2.2)
      | .error _ => s) s

/-! ### The trace of a context (R354) -/

/-- Record a trace event of a context: in TENANT, with EN = 1 (R354). `core` 0x3FF stands for none; the time field is not modelled by a clock and is free (log 5). -/
def State.trace (s : State) (k ev : Nat) (core : Nat := 0x3FF) (arg arg2 : Nat := 0) : State :=
  if s.dbg.st = 1 ∧ s.fld .vdbg k Off.dbgCtxTrace 0 1 = 1 then
    let (n, s) := s.draw
    let w0 := ev % 256 + (core % 1024) * 2 ^ 8 + (arg % 2 ^ 14) * 2 ^ 18
    let w2 := (Config.freeWord n).toNat % 2 ^ 24
    let r : Nat := w0 + (arg2 % 2 ^ 32) * 2 ^ 32 + w2 * 2 ^ 64 + (s.lkp.now % 2 ^ 32) * 2 ^ 96
    let head := (s.rd .vdbg k Off.dbgCtxHead).toNat
    let s := s.modCtx k fun c => { c with trace := (c.trace ++ [BitVec.ofNat 128 r]).drop (c.trace.length + 1 - 128) }
    let s := s.wr .vdbg k Off.dbgCtxHead (BitVec.ofNat 32 (head + 1))
    if s.fld .vdbg k Off.dbgCtxTrace 1 1 = 1 then
      s.quietWrite k (s.rd64 .vdbg k Off.dbgCtxBaseLo + 16 * (head % 2 ^ s.fld .vdbg k Off.dbgCtxTrace 2 5)) (toBytes 16 r)
    else s
  else s

/-! ### Recording an error in a page (R37, R38, R364) -/

/-- An error: the block page that raises it, condition, severity (0 CORRECTED, 1 CONTAINED, 2 DEVICE, 3 FATAL), the context it is attributed to, the reporting core (0xFFFF none), and the block type where it is not the page's (R43, R362). -/
structure Err where
  page : PageRef
  cond : Nat
  sev : Nat := 0
  ctx : Option Nat := none
  core : Nat := 0xFFFF
  type : Option Nat := none
  injected : Bool := false
  deriving DecidableEq, Repr

/-- The 16-bit error code (R43). -/
def Err.code (e : Err) : Nat := (e.type.getD e.page.kind.type) * 256 + e.cond

/-- The BLK_STICKY bit of a condition in a page (R36, R77, R127, R232); conditions without a bit have none. Some LKP bits exist in context views only (R77), UNMAPPED and BAD_ACCESS in PCI pages only, POWERED_DOWN in the block PCI page only (R36). -/
def stickyBit (k : PageKind) (type : Option Nat) (cond : Nat) : Option Nat :=
  if type.isSome then none
  else if cond = 0 then none
  else if cond ≤ 3 then some (cond - 1)
  else if cond = 4 ∨ cond = 6 then (if k = .pci ∨ k = .vpci then some (cond - 1) else none)
  else if cond = 5 then (if k = .pci then some 4 else none)
  else if cond < 0x10 then none
  else match k with
  | .lkp | .vlkp =>
    match cond with
    | 0x50 => some 8
    | 0x51 => some 9
    | 0x52 => some 10
    | 0x53 => some 11
    | 0x54 => some 12
    | 0x55 => if k = .vlkp then some 13 else none
    | 0x56 => if k = .vlkp then some 14 else none
    | 0x59 => if k = .vlkp then some 15 else none
    | _ => none
  | .drn =>
    match cond with
    | 0x10 | 0x11 => some 8
    | 0x12 => some 9
    | 0x13 => some 10
    | 0x14 => some 11
    | _ => none
  | _ => if cond < 0x28 then some (8 + (cond - 0x10)) else none

/-- `BLK_STATUS.ERR` of a page (R36): a bit set in both `BLK_STICKY` and `BLK_STICKY_EN`. -/
def State.pageErr (s : State) (p : PageRef) : Bool :=
  s.rd p.kind p.inst Off.blkSticky &&& s.rd p.kind p.inst Off.blkStickyEn != 0

/-- One page counts an error, sets its sticky bit and offers it to the first and second captures (R37, R38, R364). -/
def State.recordIn (s : State) (p : PageRef) (e : Err) : State :=
  let k := p.kind
  let i := p.inst
  let s := match stickyBit k e.type e.cond with
    | some b => s.wr k i Off.blkSticky (s.rd k i Off.blkSticky ||| BitVec.ofNat 32 (2 ^ b))
    | none => s
  let s := s.count k i Off.blkErrcnt
  let w := BitVec.ofNat 32 (e.code + e.sev * 2 ^ 16 + b2n e.injected * 2 ^ 18 + 2 ^ 31)
  let first := (s.rd k i Off.blkFirst).toNat
  let second := (s.rd k i Off.blkSecond).toNat
  if bitAt first 31 = false then
    let s := s.wr k i Off.blkFirst w
    let s := s.wr k i Off.blkFirstTick (BitVec.ofNat 32 s.lkp.now)
    s.wr k i Off.blkFirstCtx (match e.ctx with
      | some c => BitVec.ofNat 32 (c + 256)
      | none => 0)
  else if bitsAt first 16 2 < e.sev ∧ (bitAt second 31 = false ∨ bitsAt second 16 2 < e.sev) then
    s.wr k i Off.blkSecond w
  else s

/-- Record an error in its block page and, when it is attributed to a context whose view has a page of the block type, in that page too; the virtual function is told when its summary gains a bit (R36, R372). -/
def State.record (s : State) (e : Err) : State :=
  let s := s.recordIn e.page e
  match e.ctx, e.page.kind.view with
  | some c, some v =>
    let before := s.pageErr ⟨v, c⟩
    let s := s.recordIn ⟨v, c⟩ e
    if !before && s.pageErr ⟨v, c⟩ && c != 0 then s.emit (.msix c 0) else s
  | _, _ => s

/-! ### Alerts (R372, R390) -/

/-- Severity of a held capture register. -/
def heldSev (w : Word) : Option Nat := if bitAt w.toNat 31 then some (bitsAt w.toNat 16 2) else none

/-- The larger of two held severities. -/
def worse : Option Nat → Option Nat → Option Nat
  | none, b => b
  | a, none => a
  | some a, some b => some (max a b)

/-- Most severe severity held in any block page's `BLK_FIRST` or `BLK_SECOND` (R390). -/
def State.worst (s : State) : Option Nat :=
  s.regs.foldl (fun a c => if c.1 < 0x3000000 ∧ (c.1 % 0x1000 = 0x18 ∨ c.1 % 0x1000 = 0x28) then worse a (heldSev c.2) else a) none

/-- ALERT_N must be asserted (R372). -/
def State.alertNow (s : State) : Bool :=
  (match s.worst with
    | some w => decide (s.fld .hwdsum 0 Off.hwdAlertCfg 0 2 ≤ w)
    | none => false)
  || (s.hwd.hangAlert && s.fld .hwdsum 0 Off.hwdAlertCfg 2 1 == 1)

/-- ALERT_N follows its conditions; the physical function is told when it becomes asserted (R372). -/
def State.updAlert (s : State) : State :=
  let a := s.alertNow
  let t := { s with hwd := { s.hwd with alert := a } }
  if a && !s.hwd.alert then t.emit (.msix 0 0) else t

/-! ### Captures and firmware restarts (R376, R377) -/

/-- FW_VERIFY or FW_ROLLBACK, CORRECTED and of no context, for a refused image (R344). -/
def State.imageRefused (s : State) (code : Nat) : State := (s.record { page := ⟨.sec, 0⟩, cond := if code = 2 then 0x16 else 0x15 }).updAlert

/-- The active copy is verified and, when it fails, the inactive one, which then becomes active (R404). -/
def State.pickImage (s : State) (typ : Nat) : State :=
  let (a, b) := s.flash.copies typ
  let ca := s.imageCheck typ a
  if ca = 0 then s.runImage typ (some (imageOf a))
  else
    let s := s.imageRefused ca
    let cb := s.imageCheck typ b
    if cb = 0 then State.runImage { s with flash := s.flash.setCopies typ (b, a) } typ (some (imageOf b))
    else (s.imageRefused cb).runImage typ none

/-- A trigger of the capture buffer: a capture starts, or is counted as lost (R377). -/
def State.trigCapture (s : State) (cause : Nat) (err : Word) : State :=
  if s.fld .hwd 0 Off.hwdCapStatus 0 1 = 0 ∧ s.hwd.capturing = none then
    { s with hwd := { s.hwd with capturing := some ⟨cause, err, s.lkp.now⟩ } }
  else
    (s.count .hwd 0 Off.hwdCapLost).record { page := ⟨.hwd, 0⟩, cond := 0x14 }

/-- A context is condemned at once; one that already is keeps its record (R365, R366). -/
def State.condemn (s : State) (k code sev core : Nat) : State :=
  if s.isCondemned k then s
  else s.modCtx k fun c => { c with condemned := some ⟨BitVec.ofNat 16 code, BitVec.ofNat 2 sev, BitVec.ofNat 32 s.lkp.now, BitVec.ofNat 16 core⟩ }

/-- A firmware restart begins (R376): Dravner is loaded again and verified, misses are not counted, context 0's own work is removed at the next edge. -/
def State.fwRestart (s : State) : State :=
  if s.isStopped then s
  else
    let s := (s.count .hwd 0 Off.hwdRestarts).pickImage 1
    let s := { s with hwd := { s.hwd with restarting := true, muted := true, missed := 0, restartPend := false, beatOk := false, beatWrong := false } }
    if (s.ctx 0).step.isSome then s.condemn 0 0 1 0xFFFF else s

/-- A firmware restart requested while a capture runs begins at its end (R376). -/
def State.askRestart (s : State) : State :=
  if s.isStopped then s
  else if s.hwd.capturing.isSome then { s with hwd := { s.hwd with restartPend := true, restarting := true, muted := true } }
  else s.fwRestart

/-- A DEVICE stop (R370): every context that is not INACTIVE is condemned, pending restarts are cancelled. -/
def State.deviceStop (s : State) (e : Err) : State :=
  let s := { s with hwd := { s.hwd with stopped := true, restartPend := false } }
  let cond : Condemn := ⟨BitVec.ofNat 16 e.code, BitVec.ofNat 2 e.sev, BitVec.ofNat 32 s.lkp.now, BitVec.ofNat 16 e.core⟩
  { s with ctxs := s.ctxs.map fun c => (c.1, if c.2.st = .inactive then c.2 else { c.2 with condemned := some cond }) }

/-- A link that loses alignment or whose transmitter is turned off is DOWN, unless it is DISABLED; the entry raises LINK_DOWN (R283, R284, R371). -/
def State.dropLink (s : State) (l : Nat) : State :=
  let k := s.link l
  if k.st = .disabled ∨ k.st = .down then s
  else
    let s := s.modLink l fun k => { k with st := .down, qreason := 0, lanes := 0 }
    let s := s.count .lnk l Off.lnkDowns
    let s := s.wr .lnk l Off.lnkLastDown (BitVec.ofNat 32 s.lkp.now)
    s.record { page := ⟨.lnk, l⟩, cond := 0x10 }

/-- A FATAL stop (R371): C-dies, M-dies and the tick freeze, the links' transmitters go off, DRAM contents are lost. -/
def State.fatalStop (s : State) : State :=
  let s := { s with
    hwd := { s.hwd with fatal := true, restartPend := false },
    lkp := { s.lkp with phase := .stopped, starting := none, stopping := false } }
  let s := s.modMem fun m => { m with cells := [], tags := [], tlb := [] }
  (List.range 18).foldl State.dropLink s

/-- The action of a raised error by its severity (R362, R363, R365, R377). -/
def State.act (s : State) (e : Err) : State :=
  let asDevice (s : State) : State :=
    if s.hwd.fatal then s
    else
      let first := !s.hwd.stopped
      let s := if first then s.deviceStop e else s
      s.trigCapture 2 (BitVec.ofNat 32 (e.code + e.sev * 2 ^ 16 + 2 ^ 31))
  match e.sev with
  | 0 => s
  | 1 =>
    match e.ctx with
    | none => asDevice s
    | some 0 => (s.condemn 0 e.code e.sev e.core).askRestart
    | some k => s.condemn k e.code e.sev e.core
  | 2 => asDevice s
  | _ =>
    if s.hwd.fatal then s
    else (s.fatalStop).trigCapture 3 (BitVec.ofNat 32 (e.code + e.sev * 2 ^ 16 + 2 ^ 31))

/-- An event for the lifetime log's ring waits for its record (R433, R434). -/
def State.logEvent (s : State) (typ : BitVec 8) (ws : List Nat) : State :=
  { s with age := { s.age with events := s.age.events ++ [(typ, s.lkp.now, ws.map (BitVec.ofNat 32))] } }

/-- The sticky history counts a code of severity CONTAINED or worse, first seen first, 128 codes (R433). -/
def stickyCount (code sev : Nat) (cs : List (Nat × Nat × Nat)) : List (Nat × Nat × Nat) :=
  if cs.any fun c => c.1 == code then cs.map fun c => if c.1 = code then (c.1, max c.2.1 sev, min (c.2.2 + 1) (2 ^ 32 - 1)) else c
  else if cs.length < 128 then cs ++ [(code, sev, 1)] else cs

/-- What an error leaves in the lifetime log (R433). -/
def State.logError (s : State) (e : Err) : State :=
  let s := if e.sev = 0 then s else { s with age := { s.age with codes := stickyCount e.code e.sev s.age.codes } }
  if e.sev < 2 then s else s.logEvent 0x04 [e.code, e.sev]

/-- Raise an error: recorded, traced, logged, acted on, and ALERT_N brought up to date (R38, R362, R372). -/
def State.raise (s : State) (e : Err) : State :=
  let s := s.record e
  let s := match e.ctx with
    | some k => s.trace k 0x07 (if e.core < 512 then e.core else 0x3FF) 0 (e.sev * 2 ^ 16 + e.code)
    | none => s
  ((s.logError e).act e).updAlert

/-- Raise an error of a page by condition and severity, attributed to a context. -/
def State.raiseCtx (s : State) (k : PageKind) (i cond sev ctx : Nat) (core : Nat := 0xFFFF) : State :=
  s.raise { page := ⟨k, i⟩, cond := cond, sev := sev, ctx := some ctx, core := core }

/-- Raise an error of a page that belongs to no context. -/
def State.raisePage (s : State) (k : PageKind) (i cond sev : Nat) : State :=
  s.raise { page := ⟨k, i⟩, cond := cond, sev := sev }

end Sys2Proof.Machine
end

