-- ==== Sys2Proof/Machine/Memory.lean ====
section
/-! DEFINITION. Memory as the engines use it: DVA reads and writes with their faults, the wharf, and the data cache (R212, R214, R220, R223, R224, R239). -/

namespace Sys2Proof.Machine

/-- Raise the memory-side error of a failed access (R212, R220): a poisoned table entry, or a poisoned line at a DPA; a translation fault is the engine's own to report. -/
def State.memFault (s : State) (ctx : Nat) (e : MemErr) (dpa : Nat) : State :=
  match e with
  | .xlate => s
  | .table => s.raiseCtx .mem 0 0x13 1 ctx
  | .poison => s.raiseCtx .mem (dieOf s.mem.ikey dpa) 0x11 1 ctx

/-- Read the pieces of a range in order, until one fails. -/
def State.readPieces (s : State) (unit ctx g : Nat) (k : AccKind) : List (Nat × Nat × Nat) → List Byte → State × Except MemErr (List Byte)
  | [], acc => (s, .ok acc)
  | p :: ps, acc =>
    match s.xlate unit ctx p.2.1 k with
    | (s, .error e) => (s.memFault ctx e 0, .error e)
    | (s, .ok a) =>
      let s := s.modMem fun m => { m with accesses := m.accesses + 1 }
      if s.mem.poisoned (a / 64) then (s.memFault ctx .poison a, .error .poison)
      else State.readPieces s unit ctx g k ps (acc ++ s.mem.readBytes g a p.2.2)

/-- Read `n` bytes at a DVA of a context for a unit. With an empty key slot KEY_ABSENT is raised once and zeros are read (R214). -/
def State.memRead (s : State) (unit ctx dva n : Nat) (k : AccKind := .read) : State × Except MemErr (List Byte) :=
  match s.keyOf ctx with
  | none => (s.raiseCtx .mem 0 0x12 1 ctx, .ok (List.replicate n 0))
  | some g => s.readPieces unit ctx g k (piecesOf dva n) []

/-- Write the pieces of a range in order, until one fails; a full-line write clears poison, a partial write to a poisoned line is discarded (R220). -/
def State.writePieces (s : State) (unit ctx g : Nat) (bs : List Byte) : List (Nat × Nat × Nat) → State × Except MemErr Unit
  | [] => (s, .ok ())
  | p :: ps =>
    match s.xlate unit ctx p.2.1 .write with
    | (s, .error e) => (s.memFault ctx e 0, .error e)
    | (s, .ok a) =>
      let s := s.modMem fun m => { m with accesses := m.accesses + 1 }
      if s.mem.poisoned (a / 64) ∧ p.2.2 ≠ 64 then (s.memFault ctx .poison a, .error .poison)
      else
        let s := s.modMem fun m => { m with poison := m.poison.filter (· != a / 64) }
        State.writePieces (s.modMem fun m => m.writeBytes g a ((bs.drop p.1).take p.2.2)) unit ctx g bs ps

/-- Write bytes at a DVA of a context for a unit. With an empty key slot KEY_ABSENT is raised once and the write is discarded (R214). -/
def State.memWrite (s : State) (unit ctx dva : Nat) (bs : List Byte) : State × Except MemErr Unit :=
  match s.keyOf ctx with
  | none => (s.raiseCtx .mem 0 0x12 1 ctx, .ok ())
  | some g => s.writePieces unit ctx g bs (piecesOf dva bs.length)

/-- Whether every page of a range is mapped for an access, without making it (R48 row 6). -/
def State.mapped (s : State) (ctx dva n : Nat) (k : AccKind) : Bool :=
  (List.range ((dva % 2 ^ 21 + n + 2 ^ 21 - 1) / 2 ^ 21)).all fun i =>
    match (s.leaf ctx (dva / 2 ^ 21 * 2 ^ 21 + i * 2 ^ 21)).bind fun e => leafAddr e dva k with
    | .ok _ => true
    | .error _ => false

/-! ### The wharf (R223) -/

/-- Bytes of a wharf (R223): 2 MiB. -/
def wharfSize : Nat := 2 ^ 21

/-- `n` bytes of the wharf from an offset. -/
def Core.wharfRead (c : Core) : Nat → Nat → List Byte
  | _, 0 => []
  | off, n + 1 => Tbl.get c.wharf off 0 :: Core.wharfRead c (off + 1) n

/-- Bytes written into the wharf from an offset on. -/
def Core.wharfWrite (c : Core) : Nat → List Byte → Core
  | _, [] => c
  | off, b :: bs => Core.wharfWrite { c with wharf := Tbl.set c.wharf off b 0 } (off + 1) bs

/-- The range lies in the wharf. -/
def inWharf (off n : Nat) : Bool := decide (off + n ≤ wharfSize)

/-- `n` bytes of core `c`'s wharf. -/
def State.wharfRead (s : State) (c off n : Nat) : List Byte := (s.core c).wharfRead off n

/-- Bytes written into core `c`'s wharf. -/
def State.wharfWrite (s : State) (c off : Nat) (bs : List Byte) : State := s.modCore c fun k => k.wharfWrite off bs

/-! ### Scalar registers -/

/-- A scalar register; s0 reads 0 (R131). -/
def Core.sreg (c : Core) (r : Nat) : Word := if r = 0 then 0 else Tbl.get c.sregs r 0

/-- A scalar register written; a write of s0 is discarded. -/
def Core.setSreg (c : Core) (r : Nat) (v : Word) : Core := if r = 0 then c else { c with sregs := Tbl.put c.sregs r v }

/-- Context for which a core works: that of its kernel, or, for commands that outlive their kernel, the context its cluster is granted to (R61). -/
def State.coreCtx (s : State) (n : Nat) : Option Nat :=
  match (s.core n).kernel with
  | some k => some k.ctx
  | none => (s.cluster (n / 16)).granted

/-! ### The data cache (R224, R239) -/

/-- Load one piece through the data cache. A resident line may have been evicted, so hit or refetch is a free choice; a hit returns the resident copy (R239). -/
def State.dcachePiece (s : State) (core ctx g dva n : Nat) : State × Except MemErr (List Byte) :=
  let line := dva / 64
  let hit : Option (BitVec 512) × State :=
    match Tbl.find line (s.core core).dcache with
    | some l =>
      let (i, s) := s.draw
      if Config.freeBit i then (some l, s) else (none, s)
    | none => (none, s)
  match hit with
  | (some l, s) => (s.count .dch core Off.dchHits, .ok (((toBytes 64 l.toNat).drop (dva % 64)).take n))
  | (none, s) =>
    let s := s.count .dch core Off.dchMisses
    match s.readPieces core ctx g .read [(0, line * 64, 64)] [] with
    | (s, .error e) => (s, .error e)
    | (s, .ok bs) =>
      (s.modCore core fun c => { c with dcache := Tbl.put c.dcache line (BitVec.ofNat 512 (ofBytes bs)) },
        .ok ((bs.drop (dva % 64)).take n))

/-- Load pieces through the data cache until one fails. -/
def State.dcachePieces (s : State) (core ctx g : Nat) : List (Nat × Nat × Nat) → List Byte → State × Except MemErr (List Byte)
  | [], acc => (s, .ok acc)
  | p :: ps, acc =>
    match s.dcachePiece core ctx g p.2.1 p.2.2 with
    | (s, .error e) => (s, .error e)
    | (s, .ok bs) => State.dcachePieces s core ctx g ps (acc ++ bs)

/-- A load of a DVA through a core's data cache (R224). -/
def State.dcacheRead (s : State) (core ctx dva n : Nat) : State × Except MemErr (List Byte) :=
  match s.keyOf ctx with
  | none => (s.raiseCtx .mem 0 0x12 1 ctx, .ok (List.replicate n 0))
  | some g => s.dcachePieces core ctx g (piecesOf dva n) []

/-- A resident line updated by a store to some of its bytes (R224). -/
def Core.dcacheUpdate (c : Core) (dva : Nat) (bs : List Byte) : Core :=
  match Tbl.find (dva / 64) c.dcache with
  | none => c
  | some l =>
    let old := toBytes 64 l.toNat
    let new := old.take (dva % 64) ++ bs ++ old.drop (dva % 64 + bs.length)
    { c with dcache := Tbl.put c.dcache (dva / 64) (BitVec.ofNat 512 (ofBytes new)) }

/-- The data cache invalidated whole (R224). -/
def State.dcacheInval (s : State) (core : Nat) : State :=
  (s.modCore core fun c => { c with dcache := [] }).count .dch core Off.dchInval

end Sys2Proof.Machine
end

