-- ==== Sys2Proof/Machine/Flags.lean ====
section
/-! DEFINITION. Numeric flags and events: subnormal mode and NaN action of a context (R112, R113, R122), the numeric event record (R123) and its reports (R121, R122, R124). -/

namespace Sys2Proof.Machine

/-- Bit `b` (0 = FLUSH32, 1 = NAN_HALT) of a context's DRN_CTX_MODE pair; the registers of all 512 cores are one (R113, R126). -/
def State.modeBit (s : State) (ctx b : Nat) : Bool :=
  bitAt (s.rd .drn 0 (Off.drnCtxMode + 4 * (ctx / 16))).toNat (2 * (ctx % 16) + b)

/-- The context runs in subnormal mode FLUSH32 (R112). -/
def State.flush32 (s : State) (ctx : Nat) : Bool := s.modeBit ctx 0

/-- The context's NaN action is HALT (R122). -/
def State.nanHalt (s : State) (ctx : Nat) : Bool := s.modeBit ctx 1

/-- What a numeric event record names (R123). -/
structure NumEvent where
  engine : Nat
  cause : Nat
  core : Nat
  unit : Nat
  seq : Nat
  opa : Nat
  opb : Nat
  row : Nat
  col : Nat
  deriving DecidableEq, Repr

/-- The 32-byte numeric event record, VALID set (R123). -/
def NumEvent.record (v : NumEvent) (ctx tick : Nat) : BitVec 256 :=
  let w0 := v.engine % 256 + (v.cause % 256) * 2 ^ 8 + (ctx % 256) * 2 ^ 16 + 2 ^ 31
  let w1 := v.core % 2 ^ 16 + (v.unit % 2 ^ 16) * 2 ^ 16
  let w7 := v.row % 2 ^ 16 + (v.col % 2 ^ 16) * 2 ^ 16
  BitVec.ofNat 256 (w0 + w1 * 2 ^ 32 + (v.seq % 2 ^ 32) * 2 ^ 64 + (tick % 2 ^ 48) * 2 ^ 96
    + (v.opa % 2 ^ 32) * 2 ^ 160 + (v.opb % 2 ^ 32) * 2 ^ 192 + w7 * 2 ^ 224)

/-- A numeric event record fills an eight-word register group unless it holds one (R122, R124, R126). -/
def State.fillRec (s : State) (k : PageKind) (i off : Nat) (r : BitVec 256) : State :=
  if s.fld k i off 31 1 = 1 then s
  else (List.range 8).foldl (fun s j => s.wr k i (off + 4 * j) (r.extractLsb' (32 * j) 32)) s

/-- A NaN produced by an engine of a core is reported: the core's own record, and a report to the X-die (R121, R122, R126). -/
def State.reportCore (s : State) (core ctx : Nat) (v : NumEvent) : State :=
  let r := v.record ctx s.lkp.now
  let s := s.fillRec .drn core Off.drnNanRec0 r
  { s with reports := s.reports ++ [⟨ctx, (⟨.drn, core⟩ : PageRef).base, 0x10, r⟩] }

/-- A NaN produced outside a core is reported to the X-die (R121, R122). -/
def State.reportUnit (s : State) (p : PageRef) (cond ctx : Nat) (v : NumEvent) : State :=
  { s with reports := s.reports ++ [⟨ctx, p.base, cond, v.record ctx s.lkp.now⟩] }

/-- NAN_REPORT: the oldest report reaches the X-die; an armed record is filled and FIRST_NAN or FIRST_NAN_HALT raised (R122). -/
def State.nanArrive (s : State) : State :=
  match s.reports with
  | [] => s
  | r :: rest =>
    let s := { s with reports := rest }
    if s.fld .vhwd r.ctx Off.hwdCtxNan0 31 1 = 1 then s
    else
      let s := s.fillRec .vhwd r.ctx Off.hwdCtxNan0 r.record
      match pageOf r.page with
      | none => s
      | some p =>
        let core := bitsAt r.record.toNat 32 16
        if s.nanHalt r.ctx then s.raise { page := p, cond := r.cond + 1, sev := 1, ctx := some r.ctx, core := core }
        else s.raise { page := p, cond := r.cond, sev := 0, ctx := some r.ctx, core := core }

/-- NAN_REPORT (R122). -/
def execNanReport (s : State) : Host.Outcome State Fault Refusal := .next s.nanArrive

end Sys2Proof.Machine
end

