-- ==== Sys2Proof/Machine/Operands.lean ====
section
/-! DEFINITION. Operand forms: elements by format code (R104, R105, R107), scale codes (R106), accepted pairs (R108), and descriptors read from the wharf. -/

namespace Sys2Proof.Machine

/-- Bits an element occupies in the wharf (R107): an MXFP6 element takes a byte. -/
def elemBits : Nat → Nat
  | 0x0 => 32
  | 0x1 | 0x2 => 16
  | 0x9 | 0xC => 4
  | 0xD | 0xE => 2
  | 0xF => 1
  | _ => 8

/-- The format is block-scaled (R106). -/
def isBlock (fmt : Nat) : Bool := decide (5 ≤ fmt ∧ fmt ≤ 0xA)

/-- A two's complement integer as an exact value. -/
def intFv (i : Int) (e : Int) : Fv := .fin (decide (i < 0)) i.natAbs e

/-- Value of an element code, before any scale (R105). -/
def elemValue (fmt x : Nat) : Fv :=
  match fmt with
  | 0x0 => fp32.decode x
  | 0x1 => bf16.decode x
  | 0x2 => fp16.decode x
  | 0x3 | 0x5 => e4m3.decode x
  | 0x4 | 0x6 => e5m2.decode x
  | 0x7 => e3m2.decode (x % 64)
  | 0x8 => e2m3.decode (x % 64)
  | 0x9 => e2m1.decode (x % 16)
  | 0xA => intFv (sext x 8) (-6)
  | 0xB => intFv (sext x 8) 0
  | 0xC => intFv (sext x 4) 0
  | 0xD => intFv (sext x 2) 0
  | 0xE => if x % 4 = 1 then .fin false 1 0 else if x % 4 = 3 then .fin true 1 0 else .fin false 0 0
  | _ => .fin (x % 2 == 0) 1 0

/-- Value of an E8M0 scale code (R106). -/
def scaleValue (c : Nat) : Fv := if c = 255 then .nan else .fin false 1 ((c : Int) - 127)

/-- Element `i` of a packed byte list (R107): lower-indexed elements in less significant bits. -/
def elemAt (fmt : Nat) (bs : List Byte) (i : Nat) : Nat :=
  let w := elemBits fmt
  if 8 ≤ w then ofBytes ((bs.drop (i * (w / 8))).take (w / 8))
  else bitsAt (bs.getD (i * w / 8) 0).toNat (i * w % 8) w

/-- Pack element codes of one format into bytes (R107). -/
def packElems (fmt : Nat) (xs : List Nat) : List Byte :=
  let w := elemBits fmt
  if 8 ≤ w then xs.flatMap (toBytes (w / 8))
  else
    let per := 8 / w
    (List.range ((xs.length + per - 1) / per)).map fun b =>
      BitVec.ofNat 8 (((xs.drop (b * per)).take per).zipIdx.foldl (fun a p => a + p.1 % 2 ^ w * 2 ^ (w * p.2)) 0)

/-- Rate classes (R80). -/
inductive RateClass where
  | h | b | n | q
  deriving DecidableEq, Repr

/-- g: reduction elements a cell consumes per step (R80). -/
def RateClass.g : RateClass → Nat
  | .n => 2
  | .q => 4
  | _ => 1

/-- The format is one of the six FP8 and MXFP8 and MXFP6 codes of class B (R108). -/
def isSix (fmt : Nat) : Bool := decide (3 ≤ fmt ∧ fmt ≤ 8)

/-- Class of an accepted pair and whether it accumulates in INT32; none = refused (R108). `ws` = weight-stationary. -/
def pairClass (ws : Bool) (a b : Nat) : Option (RateClass × Bool) :=
  if a = 1 ∧ b = 1 ∨ a = 2 ∧ b = 2 then some (.h, false)
  else if isSix a ∧ isSix b then some (.b, false)
  else if a = 0xB ∧ b = 0xB then some (.b, true)
  else if a = 0xA ∧ b = 0xA then some (.b, false)
  else if ws ∧ a = 9 ∧ b = 9 then some (.n, false)
  else if ws ∧ a = 0xC ∧ b = 0xC then some (.n, true)
  else if ws ∧ (a = 0xD ∨ a = 0xE ∨ a = 0xF) ∧ b = 0xB then some (.q, true)
  else if ws ∧ (a = 0xD ∨ a = 0xE ∨ a = 0xF) ∧ (b = 3 ∨ b = 4 ∨ b = 5 ∨ b = 6 ∨ b = 0xA) then some (.q, false)
  else none

/-- Class a weight format loads under (R80): it fixes the layout of the tile. -/
def weightClass (fmt : Nat) : RateClass :=
  if fmt = 1 ∨ fmt = 2 then .h else if fmt = 9 ∨ fmt = 0xC then .n else if 0xD ≤ fmt then .q else .b

/-- Bit `j` of word `w` of a descriptor held as one number. -/
def descWord (raw : Nat) (w : Nat) : Nat := bitsAt raw (32 * w) 32

/-- Field [lo + n − 1 : lo] of word `w` of a descriptor. -/
def descFld (raw w lo n : Nat) : Nat := bitsAt raw (32 * w + lo) n

/-- A 48-bit address in words `w` and `w + 1` of a descriptor. -/
def descAddr (raw w : Nat) : Nat := bitsAt raw (32 * w) 48

/-- `n` bytes of a descriptor at a wharf offset, as a number; none when the offset is misaligned or the range leaves the wharf. -/
def State.readDesc (s : State) (core off n align : Nat) : Option Nat :=
  if off % align = 0 ∧ off + n ≤ wharfSize then some (ofBytes (s.wharfRead core off n)) else none

/-- Scalar register `r` of a core as a number. -/
def State.sreg (s : State) (core : Nat) (r : BitVec 5) : Nat := ((s.core core).sreg r.toNat).toNat

/-- The scalar unit stands in a `syw` (R246). -/
def ScalarWait.inSyw : ScalarWait → Bool
  | .syw _ _ _ => true
  | _ => false

/-- A core executes scalar instructions: it has a kernel, does not stand in a `syw`, and its die is clocked. An instruction that stalled is presented again (log 3). -/
def State.scalarRuns (s : State) (core : Nat) : Bool :=
  s.diesOn && (s.core core).kernel.isSome && !(s.core core).wait.inSyw

/-- The scalar program counter moves past an instruction of `n` bytes. -/
def State.advance (s : State) (core n : Nat) : State := s.modCore core fun c => { c with pc := c.pc + BitVec.ofNat 48 n }

end Sys2Proof.Machine
end

