-- ==== Sys2Proof/Machine/Scoreboard.lean ====
section
/-! DEFINITION. The core scoreboard (R236 to R238) and the memory port (R235). -/

namespace Sys2Proof.Machine

/-- The lines of `n` bytes of the wharf from an offset; nothing for an empty range. -/
def wharfRange (off n : Nat) (wr : Bool) : List ScbRange :=
  if n = 0 then [] else [⟨.wharf, off / 64, (off + n - 1) / 64, wr⟩]

/-- The lines of `n` bytes of DVA space from an address; a span longer than 1 GiB is the whole space (R236). -/
def dvaRange (a n : Nat) (wr : Bool) : List ScbRange :=
  if n = 0 then []
  else if 2 ^ 30 < n then [⟨.dva, 0, 2 ^ 42 - 1, wr⟩]
  else [⟨.dva, a / 64, (a + n - 1) / 64, wr⟩]

/-- Two ranges conflict: same space, overlapping lines, at least one a write (R237). -/
def ScbRange.conflicts (a b : ScbRange) : Bool :=
  a.space == b.space && (a.wr || b.wr) && decide (a.lo ≤ b.hi ∧ b.lo ≤ a.hi)

/-- Some entry conflicts with one of the ranges. -/
def anyConflict (es : List ScbEntry) (rs : List ScbRange) : Bool :=
  es.any fun e => e.ranges.any fun a => rs.any a.conflicts

/-- The entries before that of command (owner, seq). -/
def scbBefore (es : List ScbEntry) (o : ScbOwner) (seq : Word) : List ScbEntry :=
  es.takeWhile fun e => !(e.owner == o && e.seq == seq)

/-- The entry of a command. -/
def scbFind (es : List ScbEntry) (o : ScbOwner) (seq : Word) : Option ScbEntry :=
  es.find? fun e => e.owner == o && e.seq == seq

/-- A queued command waits under R237: an earlier entry conflicts with its ranges. -/
def Core.scbBlocked (c : Core) (o : ScbOwner) (seq : Word) : Bool :=
  match scbFind c.scb o seq with
  | none => false
  | some e => anyConflict (scbBefore c.scb o seq) e.ranges

/-- No entry is free (R236). -/
def Core.scbFull (c : Core) : Bool := decide (32 ≤ c.scb.length)

/-- A command enters the scoreboard. -/
def State.scbAdd (s : State) (core : Nat) (o : ScbOwner) (seq : Word) (rs : List ScbRange) : State :=
  let s := s.modCore core fun c => { c with scb := c.scb ++ [⟨o, seq, rs⟩] }
  s.highWater .scb core Off.scbState 8 6 (s.core core).scb.length

/-- A command's entry is released (R237). -/
def State.scbRelease (s : State) (core : Nat) (o : ScbOwner) (seq : Word) : State :=
  s.modCore core fun c => { c with scb := c.scb.filter fun e => !(e.owner == o && e.seq == seq) }

/-- The scalar unit waits; the instruction has had no effect and is presented again (log 3). -/
def State.stall (s : State) (core : Nat) (w : ScalarWait) : State := s.modCore core fun c => { c with wait := w }

/-- A scalar instruction of 4 bytes has executed. -/
def State.retire (s : State) (core : Nat) (n : Nat := 4) : State :=
  s.modCore core fun c => { c with wait := .running, pc := c.pc + BitVec.ofNat 48 n }

/-- A scalar access has to wait for earlier commands of the core (R237). -/
def State.scalarBlocked (s : State) (core : Nat) (rs : List ScbRange) : Bool := anyConflict (s.core core).scb rs

/-! ### The memory port -/

/-- Line of a store held by the port. -/
def portLine (p : Nat × List Byte) : Nat := p.1 / 64

/-- A store of the port accepted by the basin. -/
def State.basinAccept (s : State) (g : Nat) (p : Nat × List Byte) : State :=
  s.modMem fun m => { m.writeBytes g p.1 p.2 with poison := if p.2.length = 64 then m.poison.filter (· != p.1 / 64) else m.poison }

/-- Key of the context a core runs. -/
def State.coreKey (s : State) (core : Nat) : Nat :=
  match s.coreCtx core with
  | some k => (s.keyOf k).getD 0
  | none => 0

/-- Every store of the port that satisfies a test reaches the basin, in order. -/
def State.portFlush (s : State) (core : Nat) (f : Nat → Bool) : State :=
  let g := s.coreKey core
  let ps := (s.core core).port
  let s := s.modCore core fun c => { c with port := c.port.filter fun p => !f (portLine p) }
  (ps.filter fun p => f (portLine p)).foldl (fun s p => s.basinAccept g p) s

/-- Every store of the port reaches the basin. -/
def State.portFlushAll (s : State) (core : Nat) : State := s.portFlush core fun _ => true

/-- Stores of the port that may reach the basin now do so by free choice, those of one line in order (R235, R254). -/
def State.portDrain (s : State) (core : Nat) : State :=
  let g := s.coreKey core
  let ps := (s.core core).port
  let s := s.modCore core fun c => { c with port := [] }
  ps.foldl (fun s p =>
    let (n, s) := s.draw
    if Config.freeBit n && !((s.core core).port.any fun q => portLine q == portLine p) then s.basinAccept g p
    else s.modCore core fun c => { c with port := c.port ++ [p] }) s

/-- DPA lines behind a range of the context's DVA lines, as the tables stand; none = too many to name. -/
def State.dpaLines (s : State) (ctx : Nat) (r : ScbRange) : Option (List Nat) :=
  if r.space = .wharf then some []
  else if 2 ^ 20 < r.hi - r.lo then none
  else some ((List.range (r.hi - r.lo + 1)).filterMap fun i =>
    match (s.leaf ctx ((r.lo + i) * 64)).bind fun e => leafAddr e ((r.lo + i) * 64) .read with
    | .ok a => some (a / 64)
    | .error _ => none)

/-- Before an access of the core to some ranges: its earlier stores to those lines are at the basin, others may be (R235, R249). -/
def State.portBefore (s : State) (core ctx : Nat) (rs : List ScbRange) : State :=
  if (s.core core).port.isEmpty then s
  else
    let s := s.portDrain core
    rs.foldl (fun s r => match s.dpaLines ctx r with
      | some ls => s.portFlush core fun l => ls.contains l
      | none => s.portFlushAll core) s

/-- Translate the pieces of a store and check them for poison, without writing (R212, R220). -/
def State.storePieces (s : State) (unit ctx : Nat) (bs : List Byte) :
    List (Nat × Nat × Nat) → List (Nat × List Byte) → State × Except MemErr (List (Nat × List Byte))
  | [], acc => (s, .ok acc)
  | p :: ps, acc =>
    match s.xlate unit ctx p.2.1 .write with
    | (s, .error e) => (s.memFault ctx e 0, .error e)
    | (s, .ok a) =>
      if s.mem.poisoned (a / 64) ∧ p.2.2 ≠ 64 then (s.memFault ctx .poison a, .error .poison)
      else State.storePieces s unit ctx bs ps (acc ++ [(a, (bs.drop p.1).take p.2.2)])

/-- Translate and check several stores, without writing: each run is an address and its bytes. -/
def State.storeRuns (s : State) (unit ctx : Nat) : List (Nat × List Byte) → List (Nat × List Byte) → State × Except MemErr (List (Nat × List Byte))
  | [], acc => (s, .ok acc)
  | r :: rs, acc =>
    match s.storePieces unit ctx r.2 (piecesOf r.1 r.2.length) acc with
    | (s, .error e) => (s, .error e)
    | (s, .ok acc) => State.storeRuns s unit ctx rs acc

/-- Scalar or vector stores to DVAs: all checked first, then written into resident data-cache lines and accepted by the memory port (R143, R224, R235). -/
def State.portStore (s : State) (core ctx : Nat) (runs : List (Nat × List Byte)) : State × Except MemErr Unit :=
  match s.keyOf ctx with
  | none => (s.raiseCtx .mem 0 0x12 1 ctx, .ok ())
  | some _ =>
    match s.storeRuns core ctx runs [] with
    | (s, .error e) => (s, .error e)
    | (s, .ok ps) =>
      let s := s.modMem fun m => { m with accesses := m.accesses + ps.length }
      (s.modCore core fun c =>
        { (runs.flatMap fun r => (piecesOf r.1 r.2.length).map fun p => (p.2.1, (r.2.drop p.1).take p.2.2)).foldl
            (fun c p => c.dcacheUpdate p.1 p.2) c with port := c.port ++ ps }, .ok ())

end Sys2Proof.Machine
end

