-- ==== Sys2Proof/Machine/MxaArith.lean ====
section
/-! DEFINITION. Arithmetic of the matrix arrays: operand layouts (R94 to R96), products and accumulation (R109 to R111), one tile of each dataflow (R82, R86). -/

namespace Sys2Proof.Machine

/-- Rows of a form (R79). -/
def rowsOf (shallow : Bool) : Nat := if shallow then 8 else 32
/-- Columns of a form (R79). -/
def colsOf (shallow : Bool) : Nat := if shallow then 128 else 32
/-- Rows of an accumulator bank (R85). -/
def bankRows (shallow : Bool) : Nat := if shallow then 64 else 256

/-- Bytes of a cell of a stored weight tile (R95). -/
def RateClass.sb : RateClass → Nat
  | .h => 2
  | _ => 1

/-- Bytes of a feed lane (R80, R94). -/
def RateClass.lane : RateClass → Nat
  | .h => 2
  | .q => 4
  | _ => 1

/-- Bytes from one feed line to the next (R94). -/
def pitchOf (c : RateClass) (d : Nat) : Nat := max 32 ((d * c.lane + 31) / 32 * 32)

/-- Offset of an element's lane in a skewed operand (R94). -/
def skewOff (c : RateClass) (d base s r : Nat) : Nat := base + (s + r) * pitchOf c d + r * c.lane

/-- Lines of a skewed operand (R94). -/
def skewBytes (c : RateClass) (d s : Nat) : Nat := (s + d - 1) * pitchOf c d

/-- Element `u` of a feed lane whose bytes are the number `x` (R80, R94). -/
def laneElem (c : RateClass) (x u : Nat) : Nat :=
  match c with
  | .h => x % 65536
  | .b => x % 256
  | .n => bitsAt x (4 * u) 4
  | .q => bitsAt x (8 * u) 8

/-- Weight `u` of a cell's live register (R80). -/
def cellWeight (c : RateClass) (fmt reg u : Nat) : Nat :=
  match c with
  | .h => bitsAt reg 0 16
  | .b => bitsAt reg 0 8
  | .n => bitsAt reg (4 * u) 4
  | .q => if fmt = 0xF then bitsAt reg u 1 else bitsAt reg (2 * u) 2

/-- An exact product under a scale code of each operand (R108, R109): the step rounds once, only outside the FP32 normal range. -/
def scaledProduct (fl : Bool) (a b sa sb : Fv) : Exact × Bool × Bool :=
  let p := a.mul b
  let scaleNan := sa.isNan || sb.isNan
  if scaleNan then (⟨.nan, false⟩, false, true)
  else
    match p.v, sa, sb with
    | .fin s m e, .fin _ _ ea, .fin _ _ eb =>
      let e' := e + ea + eb
      let top := e' + (Nat.log2 m : Int)
      if m = 0 ∨ (ea = 0 ∧ eb = 0) ∨ (-126 ≤ top ∧ top ≤ 126) then (⟨.fin s m e', false⟩, false, false)
      else
        let x : Exact := ⟨.fin s m e', false⟩
        if -126 ≤ top ∧ (Fv.fin false m e').lt (.fin false (2 ^ 24) 104) ∧ !((Fv.fin false (2 ^ 24 - 1) 104).lt (.fin false m e')) then (x, false, false)
        else
          let r := round32 fl x
          (⟨fp32.decode r.v, false⟩, r.flush, false)
    | _, _, _ => (p, false, false)

/-- An accumulator and the FLUSH32 flushes made so far. -/
structure AccSt where
  e : AccEntry
  flushes : Nat := 0
  deriving DecidableEq, Repr

/-- A produced NaN marks the entry with its cause, the first cause staying (R111, R123). -/
def AccEntry.mark (e : AccEntry) (inv scaleNan : Bool) : AccEntry :=
  if e.nan ≠ 0 then e
  else if scaleNan then { e with nan := 2 }
  else if inv then { e with nan := 1 }
  else e

/-- One FP32 addition into an accumulator (R109, R112). -/
def AccSt.addExact (fl : Bool) (a : AccSt) (x : Exact) (scaleNan : Bool) : AccSt :=
  let s := (read32 fl a.e.val.toNat).add x.v
  let r := round32 fl s
  ⟨({ a.e with val := BitVec.ofNat 32 r.v }).mark (s.inv || x.inv) scaleNan, a.flushes + b2n r.flush⟩

/-- One saturating INT32 addition into an accumulator (R110). -/
def AccSt.addInt (a : AccSt) (x : Int) : AccSt :=
  let (v, c) := satInt 32 (a.e.val.toInt + x)
  { a with e := { a.e with val := BitVec.ofInt 32 v, sat := a.e.sat || c } }

/-- Integer value of an element of an integer format. -/
def elemInt (fmt x : Nat) : Int :=
  match elemValue fmt x with
  | .fin s m e => signed s (if 0 ≤ e then m <<< e.toNat else m)
  | _ => 0

/-- One step of a cell: the g products of a live register and a feed lane join an accumulator (R82, R109, R110). -/
def cellStep (fl : Bool) (c : RateClass) (int : Bool) (wf af reg lane : Nat) (sw sa : Fv) (a : AccSt) : AccSt :=
  let us := List.range c.g
  if int then a.addInt (us.foldl (fun t u => t + elemInt wf (cellWeight c wf reg u) * elemInt af (laneElem c lane u)) 0)
  else
    let ps := us.map fun u => scaledProduct fl (elemValue wf (cellWeight c wf reg u)) (elemValue af (laneElem c lane u)) sw sa
    let fl1 := (ps.filter fun p => p.2.1).length
    let sn := ps.any fun p => p.2.2
    match c with
    | .n | .q =>
      let t := ps.foldl (fun (t : Exact) p => let q := t.v.add p.1.v; ⟨q.v, t.inv || q.inv || p.1.inv⟩) ⟨.fin false 0 0, false⟩
      let r := round32 fl t
      let a := a.addExact fl ⟨fp32.decode r.v, t.inv⟩ sn
      { a with flushes := a.flushes + fl1 + b2n r.flush }
    | _ =>
      match ps with
      | p :: _ => let a := a.addExact fl p.1 sn; { a with flushes := a.flushes + fl1 }
      | [] => a

/-- The scale value of a code, or 1 for a format that is not block-scaled (R106, R108). -/
def scaleFor (fmt code : Nat) : Fv := if isBlock fmt then scaleValue code else .fin false 1 0

/-- One tile of weight-stationary work on one array: geometry, formats and the bytes of its feeds (R82, R94, R96). -/
structure WsTile where
  shallow : Bool
  cls : RateClass
  int : Bool
  wf : Nat
  af : Nat
  m : Nat
  act : List Byte
  scale : List Byte
  live : List AccEntry
  deriving DecidableEq, Repr

/-- The number in `n` bytes at an offset of a byte list. -/
def numAt (bs : List Byte) (off n : Nat) : Nat := ofBytes ((bs.drop off).take n)

/-- Column sum of row `m`, column `n` (R82): cells in row order from zero. -/
def WsTile.column (t : WsTile) (fl : Bool) (m n : Nat) : AccSt :=
  let d := rowsOf t.shallow
  (List.range d).foldl (fun a r =>
    let reg := (t.live.getD (r * colsOf t.shallow + n) {}).val.toNat
    let lane := numAt t.act (skewOff t.cls d 0 m r) t.cls.lane
    let code := numAt t.scale ((m + r) * 32 + r) 1
    cellStep fl t.cls t.int t.wf t.af reg lane (scaleFor t.wf (bitsAt reg 24 8)) (scaleFor t.af code) a) ⟨{}, 0⟩

/-- A column sum joins a bank entry: written, or added (R82 step 4, R109, R110). -/
def joinEntry (fl int accum : Bool) (old : AccEntry) (x : AccSt) : AccSt :=
  if accum then
    if int then
      let r := (⟨old, x.flushes⟩ : AccSt).addInt x.e.val.toInt
      { r with e := { r.e with sat := r.e.sat || x.e.sat } }
    else
      let r := (⟨old, x.flushes⟩ : AccSt).addExact fl ⟨read32 fl x.e.val.toNat, false⟩ false
      { r with e := if r.e.nan ≠ 0 then r.e else { r.e with nan := x.e.nan } }
  else x

/-- One output row of a multiply, its entries named by their operands (R82, R123). -/
def WsTile.row (t : WsTile) (fl accum : Bool) (opa opb : BitVec 21) (old : List AccEntry) (m : Nat) : List AccEntry × Nat :=
  let xs := (List.range (colsOf t.shallow)).map fun n => joinEntry fl t.int accum (old.getD n {}) (t.column fl m n)
  (xs.map fun x => { x.e with opa := opa, opb := opb }, xs.foldl (fun k x => k + x.flushes) 0)

/-- Value of output cell (i, j) of an output-stationary tile of `l` steps (R86, R109). -/
def osCell (fl : Bool) (c : RateClass) (int : Bool) (af bf l : Nat) (a b : List Byte) (start : AccEntry) (i j : Nat) : AccSt :=
  (List.range l).foldl (fun acc k =>
    let x := numAt a (skewOff c 32 0 k i) c.lane
    let y := numAt b (skewOff c 32 0 k j) c.lane
    let fin1 : Fv := .fin false 1 0
    if int then acc.addInt (elemInt af (laneElem c x 0) * elemInt bf (laneElem c y 0))
    else
      let p := scaledProduct fl (elemValue af (laneElem c x 0)) (elemValue bf (laneElem c y 0)) fin1 fin1
      acc.addExact fl p.1 false) ⟨start, 0⟩

end Sys2Proof.Machine
end

