-- ==== Sys2Proof/Machine/Mxa.lean ====
section
/-! DEFINITION. The matrix arrays: tile commands, their checks, their start and what follows it (R79 to R101). -/

namespace Sys2Proof.Machine

/-- Array `a` of a core (R79). -/
def Core.array (c : Core) (a : Nat) : MxArray := Tbl.get c.arrays a {}

/-- Array `a` of a core changed by `f`. -/
def Core.modArray (c : Core) (a : Nat) (f : MxArray → MxArray) : Core := { c with arrays := Tbl.put c.arrays a (f (c.array a)) }

/-- State of bank `b` of an array (R91). -/
def MxArray.bank (x : MxArray) (b : Nat) : BankState := if b = 0 then x.bank0 else x.bank1

/-- Bank `b` of an array enters a state (R91). -/
def MxArray.setBank (x : MxArray) (b : Nat) (st : BankState) : MxArray := if b = 0 then { x with bank0 := st } else { x with bank1 := st }

/-- Highest row written in bank `b` since it was FREE (R91). -/
def MxArray.high (x : MxArray) (b : Nat) : Option Nat := if b = 0 then x.high0 else x.high1

/-- The highest row written in bank `b` becomes `h`. -/
def MxArray.setHigh (x : MxArray) (b : Nat) (h : Option Nat) : MxArray := if b = 0 then { x with high0 := h } else { x with high1 := h }

/-- Rows of a bank return to zeros and the bank to FREE (R91). -/
def MxArray.freeBank (x : MxArray) (b : Nat) : MxArray :=
  ({ x with banks := x.banks.filter fun r => decide (r.1 / 256 ≠ b) }.setBank b .free).setHigh b none

/-! ### Fields of a tile command (R97) -/

/-- OP of a tile command. -/
def MxCmd.op (c : MxCmd) : Nat := descFld c.raw.toNat 0 0 4
/-- Field of a tile command. -/
def MxCmd.fld (c : MxCmd) (w lo n : Nat) : Nat := descFld c.raw.toNat w lo n
/-- The arrays a tile command or claim names (R92, R97). -/
def MxCmd.arrs (c : MxCmd) : List Nat :=
  if c.claim then [2, 3] else (List.range 4).filter fun a => bitAt (c.fld 0 4 4) a
/-- The command names array `a`. -/
def MxCmd.names (c : MxCmd) (a : Nat) : Bool := c.arrs.contains a
/-- The two commands name a common array. -/
def MxCmd.meets (c d : MxCmd) : Bool := c.arrs.any d.names
/-- FORM of the command: true = shallow. -/
def MxCmd.form (c : MxCmd) : Bool := c.fld 0 8 1 == 1
/-- Kinds of command. -/
def MxCmd.isSload (c : MxCmd) : Bool := !c.claim && c.op == 1
/-- A SWAP. -/
def MxCmd.isSwap (c : MxCmd) : Bool := !c.claim && c.op == 2
/-- A WSMUL. -/
def MxCmd.isWsmul (c : MxCmd) : Bool := !c.claim && c.op == 3
/-- An OSMUL. -/
def MxCmd.isOsmul (c : MxCmd) : Bool := !c.claim && c.op == 4
/-- A FORM. -/
def MxCmd.isForm (c : MxCmd) : Bool := !c.claim && c.op == 5
/-- SWAP_FIRST of a WSMUL. -/
def MxCmd.swapFirst (c : MxCmd) : Bool := c.isWsmul && c.fld 4 19 1 == 1
/-- HAND of a WSMUL. -/
def MxCmd.hand (c : MxCmd) : Bool := c.isWsmul && c.fld 4 20 1 == 1
/-- SWAP_OUT of an OSMUL. -/
def MxCmd.swapOut (c : MxCmd) : Bool := c.isOsmul && c.fld 5 13 1 == 1
/-- DSEL of a WSMUL or OSMUL. -/
def MxCmd.dsel (c : MxCmd) : Nat := if c.op = 3 then c.fld 4 21 4 else c.fld 5 14 4

/-- The command accumulates in INT32: the activations, or operand A, are INT8 or INT4 (R108). -/
def MxCmd.int (c : MxCmd) : Bool := c.fld 1 21 4 == 0xB || c.fld 1 21 4 == 0xC

/-! ### What an array will hold when the queued commands have started -/

/-- The part of an array's state that later commands are checked against. -/
structure Projected where
  shallow : Bool
  liveValid : Bool
  liveFmt : Nat
  shadFmt : Nat
  lastOs : Option (BitVec 256)
  high0 : Option Nat
  high1 : Option Nat
  deriving DecidableEq, Repr

/-- The array as it stands, hand-overs under way counted as made. -/
def Core.projected0 (k : Core) (a : Nat) : Projected :=
  let x := k.array a
  let handed (b : Nat) : Bool := k.handPend.any fun c => c.names a && c.fld 4 17 1 == b
  let high (b : Nat) : Option Nat := if x.bank b = .opened ∧ handed b = false then x.high b else none
  { shallow := x.shallow
    liveValid := x.liveValid || x.swapPend
    liveFmt := if x.swapPend then x.shadFmt.toNat else x.liveFmt.toNat
    shadFmt := x.shadFmt.toNat
    lastOs := x.lastOs
    high0 := high 0
    high1 := high 1 }

/-- The larger of a mark and a row. -/
def raiseHigh (h : Option Nat) (r : Nat) : Option Nat := some (match h with
  | none => r
  | some x => max x r)

/-- What a queued command changes. -/
def Projected.after (p : Projected) (c : MxCmd) : Projected :=
  let p := if c.isSwap || c.swapFirst then { p with liveValid := true, liveFmt := p.shadFmt, lastOs := none } else p
  if c.claim then { p with liveValid := false, lastOs := none }
  else match c.op with
    | 1 => { p with shadFmt := c.fld 1 21 4 }
    | 3 =>
      let top := c.fld 4 9 8 + c.fld 4 0 9 - 1
      if c.fld 4 17 1 = 0 then { p with high0 := if c.hand then none else raiseHigh p.high0 top }
      else { p with high1 := if c.hand then none else raiseHigh p.high1 top }
    | 4 => { p with liveValid := false, lastOs := some c.raw }
    | 5 => { p with shallow := c.form, liveValid := false, lastOs := none }
    | _ => p

/-- Array `a` when every queued command that names it has started. -/
def Core.projected (k : Core) (a : Nat) : Projected :=
  (k.mxq.filter (·.names a)).foldl Projected.after (k.projected0 a)

/-! ### Checks of R98 -/

/-- Reserved bits of a command of its OP are 0 (R97). -/
def MxCmd.reservedOk (c : MxCmd) : Bool :=
  let z (w lo n : Nat) : Bool := c.fld w lo n == 0
  let w0 := z 0 9 23
  match c.op with
  | 1 => w0 && z 1 25 7 && z 2 21 11 && z 3 0 160
  | 3 => w0 && z 1 25 7 && z 2 21 11 && z 3 21 11 && z 4 25 7 && z 5 0 96
  | 4 => w0 && z 1 25 7 && z 2 25 7 && z 3 21 11 && z 4 21 11 && z 5 19 13 && z 6 0 64
  | _ => w0 && z 1 0 224

/-- M, L and DEST in range, formats defined, and the pair of an OSMUL accepted (R98 BAD_CMD). -/
def MxCmd.fieldsOk (c : MxCmd) : Bool :=
  match c.op with
  | 1 => c.fld 1 21 4 != 0
  | 3 => c.fld 1 21 4 != 0 && decide (1 ≤ c.fld 4 0 9 ∧ c.fld 4 0 9 ≤ 256)
  | 4 => c.fld 1 21 4 != 0 && c.fld 2 21 4 != 0 && c.fld 5 0 12 != 0 && c.fld 5 18 1 == 0 &&
      (pairClass false (c.fld 1 21 4) (c.fld 2 21 4)).isSome
  | _ => true

/-- CONT = 1 has the predecessor R87 asks for on every named array. -/
def Core.contOk (k : Core) (c : MxCmd) : Bool :=
  !(c.op == 4 && c.fld 5 12 1 == 1) || c.arrs.all fun a =>
    match (k.projected a).lastOs with
    | some r => descFld r.toNat 0 4 4 == c.fld 0 4 4 && descFld r.toNat 5 13 1 == 0
    | none => false

/-- Forms agree (R98 FORM_MISMATCH). -/
def Core.formOk (k : Core) (c : MxCmd) : Bool :=
  let forms := c.arrs.map fun a => (k.projected a).shallow
  if c.op = 5 then true
  else forms.all (· == c.form) && !(c.op == 4 && c.form)

/-- Class under which a multiply's activations are laid out: that of the projected pair, else the activation format's own. -/
def Core.actClass (k : Core) (c : MxCmd) : RateClass :=
  let af := c.fld 1 21 4
  match c.arrs with
  | a :: _ =>
    let p := k.projected a
    let wf := if c.swapFirst then p.shadFmt else p.liveFmt
    match pairClass true wf af with
    | some (cls, _) => cls
    | none => weightClass af
  | [] => weightClass af

/-- Wharf ranges a command reads, as (offset, bytes), one group a field (R94 to R96). -/
def Core.mxReads (k : Core) (c : MxCmd) : List (List (Nat × Nat)) :=
  let d := rowsOf c.form
  match c.op with
  | 1 =>
    let cls := weightClass (c.fld 1 21 4)
    [[(c.fld 1 0 21, 1024 * cls.sb)],
     if isBlock (c.fld 1 21 4) then [(c.fld 2 0 21, max 1 (d * cls.g / 32) * colsOf c.form)] else []]
  | 3 =>
    let m := c.fld 4 0 9
    [c.arrs.map fun a => (c.fld 1 0 21 + a * c.fld 2 0 21, skewBytes (k.actClass c) d m),
     if isBlock (c.fld 1 21 4) then c.arrs.map fun a => (c.fld 3 0 21 + a * ((m + d - 1) * 32), (m + d - 1) * 32) else []]
  | 4 =>
    let cls := match pairClass false (c.fld 1 21 4) (c.fld 2 21 4) with
      | some (x, _) => x
      | none => .b
    let n := skewBytes cls 32 (c.fld 5 0 12)
    [c.arrs.map fun a => (c.fld 1 0 21 + a * c.fld 3 0 21, n),
     c.arrs.map fun a => (c.fld 2 0 21 + a * c.fld 4 0 21, n)]
  | _ => []

/-- Offsets are aligned and ranges lie in the wharf (R98 WHARF_RANGE). -/
def Core.rangesOk (k : Core) (c : MxCmd) : Bool :=
  (match c.op with
    | 1 => c.fld 1 0 5 == 0
    | 3 => c.fld 1 0 5 == 0 && c.fld 2 0 5 == 0
    | 4 => c.fld 3 0 5 == 0 && c.fld 4 0 5 == 0
    | _ => true)
  && (k.mxReads c).flatten.all fun r => decide (r.1 + r.2 ≤ wharfSize)

/-- The rows lie in the bank (R98 ACC_RANGE). -/
def MxCmd.rowsOk (c : MxCmd) : Bool := c.op != 3 || decide (c.fld 4 9 8 + c.fld 4 0 9 ≤ bankRows c.form)

/-- First failing check of R98 in the table's order, if any. -/
def State.mxRefusal (s : State) (core : Nat) (c : MxCmd) : Option Nat :=
  let k := s.core core
  let op := c.op
  if op = 0 ∨ 5 < op then some 0x10
  else if !(c.reservedOk && c.fld 0 4 4 != 0 && c.fieldsOk && k.contOk c) then some 0x10
  else if !k.formOk c then some 0x11
  else if op = 3 ∧ c.swapFirst = false ∧ (c.arrs.all fun a => (k.projected a).liveValid) = false then some 0x12
  else if !k.rangesOk c then some 0x13
  else if !c.rowsOk then some 0x14
  else if (c.arrs.all fun a => s.fld .mxa core Off.mxaCfg a 1 == 1) = false then some 0x15
  else none

/-- A command is discarded (R98): the condition is raised against the running context, and MXA_REJECT names it when it fills BLK_FIRST (R102). -/
def State.mxReject (s : State) (core cond op arr : Nat) (seq : Word) : State :=
  let s := if s.fld .mxa core Off.blkFirst 31 1 = 1 then s
    else s.wr .mxa core Off.mxaReject (BitVec.ofNat 32 (op + arr * 16 + cond * 256 + (seq.toNat % 65536) * 65536))
  match s.coreCtx core with
  | some ctx => s.raiseCtx .mxa core cond 1 ctx core
  | none => s

/-! ### Drain rows declared by a hand-over (R119, R236) -/

/-- Row size RB of an output format (R119). -/
def rowBytes (ofmt : Nat) (shallow : Bool) : Nat :=
  let w := colsOf shallow
  let n := if ofmt = 0 then 4 * w else w * elemBits ofmt / 8 + (if isBlock ofmt then w / 32 else 0)
  (n + 3) / 4 * 4

/-- Range of wharf rows 0 to `h` under a descriptor with DEST = 1 (R119). -/
def destRange (desc h : Nat) (shallow : Bool) : List ScbRange :=
  if descFld desc 0 4 1 = 1 then
    wharfRange (descFld desc 7 0 21) (h * descFld desc 8 0 16 + rowBytes (descFld desc 0 0 4) shallow) true
  else []

/-- Rows a command hands over at most: over its arrays, those written since the bank was FREE (R91, R119). -/
def Core.handRows (k : Core) (c : MxCmd) : Nat :=
  if c.op = 4 then 31
  else
    let top := c.fld 4 9 8 + c.fld 4 0 9 - 1
    c.arrs.foldl (fun h a =>
      let p := k.projected a
      match (if c.fld 4 17 1 = 0 then p.high0 else p.high1) with
      | some x => max h x
      | none => h) top

/-- The span of several ranges. -/
def spanOf : List (Nat × Nat) → Option (Nat × Nat)
  | [] => none
  | (o, n) :: rs => match spanOf rs with
    | none => some (o, o + n)
    | some (lo, hi) => some (min o lo, max (o + n) hi)

/-- Ranges a tile command declares (R97, R119, R236). -/
def Core.mxRanges (k : Core) (c : MxCmd) : List ScbRange :=
  ((k.mxReads c).flatMap fun g => match spanOf g with
    | some (lo, hi) => wharfRange lo (hi - lo) false
    | none => [])
  ++ (if c.hand || c.swapOut then destRange c.desc.toNat (k.handRows c) c.form else [])

/-! ### mxq (R97) -/

/-- Entries of the command queue (R89). -/
def mxQueueSize : Nat := 16

/-- `mxq` with the command at s[rs], where its OP is that of the row or, for a row that shares it, one with no row (R97, R98). -/
def State.mxqOp (s : State) (core : Nat) (rs : BitVec 5) (op : Nat) : State :=
  if !s.scalarRuns core then s else
  if s.isResetting ⟨.mxa, core⟩ then s.stall core .queue else
  let off := s.sreg core rs
  match s.readDesc core off 32 32 with
  | none =>
    (s.mxReject core 0x13 0 0 (s.rd .mxa core Off.mxaCmdSeq + 1)).retire core
  | some raw =>
    let o := descFld raw 0 0 4
    if o ≠ op ∧ 1 ≤ o ∧ o ≤ 5 then s
    else
      let k := s.core core
      let cmd : MxCmd := ⟨BitVec.ofNat 256 raw, s.rd .mxa core Off.mxaCmdSeq + 1, 0, false⟩
      let cmd := { cmd with desc := if cmd.op = 3 ∨ cmd.op = 4 then Tbl.get k.desc cmd.dsel 0 else 0 }
      match s.mxRefusal core cmd with
      | some cond =>
        (s.mxReject core cond cmd.op (cmd.fld 0 4 4) cmd.seq).retire core
      | none =>
        if mxQueueSize ≤ k.mxq.length then s.stall core .queue
        else if k.scbFull then s.stall core .full
        else
          let (_, s) := s.nextSeq .mxa core Off.mxaCmdSeq
          let s := s.scbAdd core .mxa cmd.seq (k.mxRanges cmd)
          let s := s.modCore core fun c => { c with mxq := c.mxq ++ [cmd] }
          (s.highWater .mxa core Off.mxaQueue 8 5 (s.core core).mxq.length).retire core

/-- MXQ_SLOAD (R97). -/
def execMxqSload (core : Fin 512) (rs : BitVec 5) (s : State) : Host.Outcome State Fault Refusal := .next (s.mxqOp core rs 1)
/-- MXQ_SWAP (R83). -/
def execMxqSwap (core : Fin 512) (rs : BitVec 5) (s : State) : Host.Outcome State Fault Refusal := .next (s.mxqOp core rs 2)
/-- MXQ_WSMUL (R82). -/
def execMxqWsmul (core : Fin 512) (rs : BitVec 5) (s : State) : Host.Outcome State Fault Refusal := .next (s.mxqOp core rs 3)
/-- MXQ_OSMUL (R86). -/
def execMxqOsmul (core : Fin 512) (rs : BitVec 5) (s : State) : Host.Outcome State Fault Refusal := .next (s.mxqOp core rs 4)
/-- MXQ_FORM (R93). -/
def execMxqForm (core : Fin 512) (rs : BitVec 5) (s : State) : Host.Outcome State Fault Refusal := .next (s.mxqOp core rs 5)

/-! ### Start of a command (R83, R87, R90 to R93) -/

/-- A command that names array `a` is waiting to hand over a bank, to swap out, to swap, or to fill the shadow set. -/
def Core.busyOn (k : Core) (a : Nat) : Bool :=
  let x := k.array a
  x.swapPend || x.load.isSome || k.handPend.any (·.names a) || k.osPend.any (·.names a)

/-- A tile of array `a` is still on its way: MXA_STATE.BUSY (R102). -/
def Core.tileBusy (k : Core) (a : Nat) : Bool := k.handPend.any (·.names a) || k.osPend.any (·.names a)

/-- Live and shadow exchange; the shadow set then holds nothing usable (R83). -/
def MxArray.swap (x : MxArray) : MxArray :=
  { x with live := x.shad, shad := x.live, liveFmt := x.shadFmt, liveSrc := x.shadSrc, liveValid := true, shadow := .empty, swapPend := false, lastOs := none }

/-- The swap of R83 may take effect: the shadow set is FULL, and no multiply still uses the live set. -/
def Core.swapReady (k : Core) (a : Nat) : Bool := (k.array a).shadow == .full && !(k.osPend.any (·.names a))

/-- The wait conditions of R90 to R92 hold for a command. -/
def Core.startOk (k : Core) (c : MxCmd) : Bool :=
  let free (a : Nat) : Bool := !(k.array a).coupled && !(k.array a).swapPend
  c.arrs.all free &&
  if c.claim then
    c.arrs.all fun a => !k.busyOn a && (k.array a).bank0 == .free && (k.array a).bank1 == .free
  else match c.op with
    | 1 => (List.range 4).all (fun a => (k.array a).load.isNone) && c.arrs.all fun a => (k.array a).shadow == .empty && !(k.osPend.any (·.names a))
    | 2 => c.arrs.all k.swapReady
    | 3 =>
      let b := c.fld 4 17 1
      c.arrs.all fun a =>
        (if c.swapFirst then k.swapReady a else (k.array a).liveValid)
        && ((k.array a).bank b == .free || (k.array a).bank b == .opened)
        && !(k.handPend.any fun h => h.names a && h.fld 4 17 1 == b)
    | 4 => c.arrs.all fun a => !k.busyOn a
    | 5 => c.arrs.all fun a => !k.busyOn a && (k.array a).bank0 == .free && (k.array a).bank1 == .free && (k.array a).shadow == .empty
    | _ => true

/-- The command at a queue position may start (R89, R90, R237). -/
def Core.mxStartable (k : Core) (i : Nat) (c : MxCmd) : Bool :=
  let before := k.mxq.take i
  !(before.any c.meets) && !(c.isSload && before.any (·.isSload)) && !(!c.claim && k.scbBlocked .mxa c.seq) && k.startOk c

/-- Cells of a tile as the shadow registers take them (R80, R95). -/
def loadCells (shallow : Bool) (cls : RateClass) (block : Bool) (tile scales : List Byte) : List AccEntry :=
  let w := colsOf shallow
  (List.range 1024).map fun i =>
    let x := numAt tile (i * cls.sb) cls.sb
    let code := if block ∧ (cls = .b ∨ cls = .n) then numAt scales (cls.g * (i / w) / 32 * w + i % w) 1 else 0
    { val := BitVec.ofNat 32 (x + code * 2 ^ 24) }

/-- SLOAD starts: the shadow sets take the tile and are LOADING (R82, R95). -/
def State.startSload (s : State) (core : Nat) (c : MxCmd) : State :=
  let fmt := c.fld 1 21 4
  let cls := weightClass fmt
  let tile := s.wharfRead core (c.fld 1 0 21) (1024 * cls.sb)
  let scales := if isBlock fmt then s.wharfRead core (c.fld 2 0 21) (max 1 (rowsOf c.form * cls.g / 32) * colsOf c.form) else []
  let cells := loadCells c.form cls (isBlock fmt) tile scales
  s.modCore core fun k => c.arrs.foldl (fun k a => k.modArray a fun x =>
    { x with shad := cells, shadow := .loading, shadFmt := BitVec.ofNat 4 fmt, shadSrc := BitVec.ofNat 21 (c.fld 1 0 21), load := some c }) k

/-- MACs counted in MXA_MACS (R102). -/
def State.countMacs (s : State) (core n : Nat) : State := s.count64 .mxa core Off.mxaMacsLo n

/-- Flushes of the arrays and the drain path count for the context (R124). -/
def State.countDrn (s : State) (core off n : Nat) : State :=
  match s.coreCtx core with
  | some ctx => s.count .drn core off n ctx
  | none => s

/-- One array computes a multiply: rows ROW0 to ROW0 + M − 1 of the bank (R82, R109 to R111). -/
def State.wsArray (s : State) (core ctx : Nat) (c : MxCmd) (cls : RateClass) (int : Bool) (a : Nat) : State :=
  let x := (s.core core).array a
  let d := rowsOf x.shallow
  let m := c.fld 4 0 9
  let b := c.fld 4 17 1
  let row0 := c.fld 4 9 8
  let af := c.fld 1 21 4
  let t : WsTile :=
    { shallow := x.shallow, cls := cls, int := int, wf := x.liveFmt.toNat, af := af, m := m
      act := s.wharfRead core (c.fld 1 0 21 + a * c.fld 2 0 21) (skewBytes cls d m)
      scale := if isBlock af then s.wharfRead core (c.fld 3 0 21 + a * ((m + d - 1) * 32)) ((m + d - 1) * 32) else []
      live := x.live }
  let fl := s.flush32 ctx
  let opa := BitVec.ofNat 21 (c.fld 1 0 21)
  let (banks, flushes) := (List.range m).foldl (fun (p : Tbl (List AccEntry) × Nat) i =>
    let key := b * 256 + row0 + i
    let (es, n) := t.row fl (c.fld 4 18 1 == 1) opa x.liveSrc (Tbl.get p.1 key []) i
    (Tbl.put p.1 key es, p.2 + n)) (x.banks, 0)
  let s := s.modCore core fun k => k.modArray a fun x =>
    ({ x with banks := banks }.setBank b .opened).setHigh b (raiseHigh (x.high b) (row0 + m - 1))
  (s.countDrn core Off.drnCtxFlush flushes).countMacs core (m * 1024 * cls.g)

/-- WSMUL starts (R82, R90, R97): the pair is checked, the swap of SWAP_FIRST takes effect, and the tile is computed. -/
def State.startWsmul (s : State) (core ctx : Nat) (c : MxCmd) : State :=
  let s := if c.swapFirst then s.modCore core fun k => c.arrs.foldl (fun k a => k.modArray a MxArray.swap) k else s
  let k := s.core core
  let pairs := c.arrs.map fun a => pairClass true (k.array a).liveFmt.toNat (c.fld 1 21 4)
  if pairs.any (·.isNone) then
    (s.mxReject core 0x10 c.op (c.fld 0 4 4) c.seq).scbRelease core .mxa c.seq
  else
    let s := (c.arrs.zip pairs).foldl (fun s p => match p.2 with
      | some (cls, int) => s.wsArray core ctx c cls int p.1
      | none => s) s
    if c.hand then s.modCore core fun k => { k with handPend := k.handPend ++ [c] }
    else s.scbRelease core .mxa c.seq

/-- One array computes an output-stationary tile into its live accumulators (R86, R87). -/
def State.osArray (s : State) (core ctx : Nat) (c : MxCmd) (cls : RateClass) (int : Bool) (a : Nat) : State :=
  let l := c.fld 5 0 12
  let af := c.fld 1 21 4
  let bf := c.fld 2 21 4
  let ab := s.wharfRead core (c.fld 1 0 21 + a * c.fld 3 0 21) (skewBytes cls 32 l)
  let bb := s.wharfRead core (c.fld 2 0 21 + a * c.fld 4 0 21) (skewBytes cls 32 l)
  let fl := s.flush32 ctx
  let x := (s.core core).array a
  let cont := c.fld 5 12 1 == 1
  let cells := (List.range 1024).map fun i =>
    osCell fl cls int af bf l ab bb (if cont then x.live.getD i {} else {}) (i / 32) (i % 32)
  let es := cells.map fun z => { z.e with opa := BitVec.ofNat 21 (c.fld 1 0 21), opb := BitVec.ofNat 21 (c.fld 2 0 21) }
  let s := s.modCore core fun k => k.modArray a fun x => { x with live := es, liveValid := false, lastOs := some c.raw }
  (s.countDrn core Off.drnCtxFlush (cells.foldl (fun n z => n + z.flushes) 0)).countMacs core (1024 * l)

/-- OSMUL starts (R86 to R88). -/
def State.startOsmul (s : State) (core ctx : Nat) (c : MxCmd) : State :=
  match pairClass false (c.fld 1 21 4) (c.fld 2 21 4) with
  | none => s
  | some (cls, int) =>
    let s := c.arrs.foldl (fun s a => s.osArray core ctx c cls int a) s
    if c.swapOut then s.modCore core fun k => { k with osPend := k.osPend ++ [c] }
    else s.scbRelease core .mxa c.seq

/-- FORM takes effect on an array (R93). -/
def MxArray.reform (x : MxArray) (shallow : Bool) : MxArray :=
  { x with shallow := shallow, liveValid := false, shadow := .empty, live := [], shad := [], lastOs := none }

/-- An attention job is discarded or stopped (R177): ATP_REJECT names it when it fills BLK_FIRST (R180). -/
def State.atReject (s : State) (core cond op : Nat) (seq : Word) : State :=
  let s := if s.fld .atp core Off.blkFirst 31 1 = 1 then s
    else s.wr .atp core Off.atpReject (BitVec.ofNat 32 (op + cond * 256 + (seq.toNat % 65536) * 65536))
  match s.coreCtx core with
  | some ctx => s.raiseCtx .atp core cond 1 ctx core
  | none => s

/-- A claim starts: both arrays belong to the attention pipeline, or FORM_MISMATCH refuses it (R92). -/
def State.startClaim (s : State) (core : Nat) (c : MxCmd) : State :=
  if c.arrs.any fun a => ((s.core core).array a).shallow then
    let s := s.modCore core fun k => { k with jobs := k.jobs.filter fun j => j.seq != c.seq }
    ((s.mxReject core 0x11 0 0xC c.seq).atReject core 0x16 1 c.seq).scbRelease core .atp c.seq
  else s.modCore core fun k => c.arrs.foldl (fun k a => k.modArray a fun x => { x with coupled := true, liveValid := false, lastOs := none }) k

/-- MXA_CMD_START (R89, R90): the command at queue position `idx` starts if nothing makes it wait. -/
def State.mxaStart (s : State) (core idx : Nat) : State :=
  let k := s.core core
  match k.mxq[idx]?, s.coreCtx core with
  | some c, some ctx =>
    if !(s.diesOn && k.mxStartable idx c) then s
    else
      let s := s.modCore core fun k => { k with mxq := k.mxq.eraseIdx idx }
      if c.claim then s.startClaim core c
      else match c.op with
        | 1 => s.startSload core c
        | 2 => s.modCore core fun k => c.arrs.foldl (fun k a => k.modArray a fun x => { x with swapPend := true }) k
        | 3 => s.startWsmul core ctx c
        | 4 => s.startOsmul core ctx c
        | _ => (s.modCore core fun k => c.arrs.foldl (fun k a => k.modArray a (·.reform c.form)) k).scbRelease core .mxa c.seq
  | _, _ => s

/-- MXA_CMD_START (R90). -/
def execMxaCmdStart (core : Fin 512) (idx : Fin 16) (s : State) : Host.Outcome State Fault Refusal := .next (s.mxaStart core idx)

/-! ### What follows a start -/

/-- SHADOW_FULL (R84): the load of an array finishes in every shadow set it names, and the command is complete. -/
def State.mxaShadowFull (s : State) (core arr : Nat) : State :=
  match ((s.core core).array arr).load with
  | none => s
  | some c =>
    if !s.diesOn then s else
    (s.modCore core fun k => c.arrs.foldl (fun k a => k.modArray a fun x => { x with shadow := .full, load := none }) k).scbRelease core .mxa c.seq

/-- SHADOW_FULL (R84). -/
def execShadowFull (core : Fin 512) (arr : Fin 4) (s : State) : Host.Outcome State Fault Refusal := .next (s.mxaShadowFull core arr)

/-- SWAP_EFFECT (R83): a swap that has started takes effect on every array of the core that waits for it together with `arr`. -/
def State.mxaSwapEffect (s : State) (core arr : Nat) : State :=
  if s.diesOn && ((s.core core).array arr).swapPend then
    let done := (s.core core).scb.filter fun e => e.owner == .mxa && e.ranges.isEmpty
    let s := s.modCore core fun k => (List.range 4).foldl (fun k a => if (k.array a).swapPend then k.modArray a MxArray.swap else k) k
    done.foldl (fun s e => if (s.core core).mxq.any (·.seq == e.seq) then s else s.scbRelease core .mxa e.seq) s
  else s

/-- SWAP_EFFECT (R83). -/
def execSwapEffect (core : Fin 512) (arr : Fin 4) (s : State) : Host.Outcome State Fault Refusal := .next (s.mxaSwapEffect core arr)

/-- One bank joins the drain queue (R91). -/
def Core.handBank (k : Core) (c : MxCmd) (b a : Nat) : Core :=
  let x := k.array a
  let k := k.modArray a (·.setBank b .handed)
  { k with drainQ := k.drainQ ++ [
      { arr := Fin.ofNat 4 a, bank := Fin.ofNat 2 b, os := false, seq := c.seq, dsel := BitVec.ofNat 4 c.dsel, desc := c.desc, high := (x.high b).getD 0, int := c.int }] }

/-- BANK_HANDOVER (R91): the oldest multiply with HAND writes its last row, and its banks are handed over in ascending array number (R120). -/
def State.mxaHandover (s : State) (core : Nat) : State :=
  match (s.core core).handPend with
  | [] => s
  | c :: rest =>
    if !s.diesOn then s else
    let s := s.modCore core fun k => c.arrs.foldl (fun k a => k.handBank c (c.fld 4 17 1) a) { k with handPend := rest }
    if descFld c.desc.toNat 0 4 1 = 1 then s else s.scbRelease core .mxa c.seq

/-- BANK_HANDOVER (R91). -/
def execBankHandover (core : Fin 512) (s : State) : Host.Outcome State Fault Refusal := .next (s.mxaHandover core)

/-- One array swaps its finished outputs out (R88). -/
def Core.osSwap (k : Core) (c : MxCmd) (a : Nat) : Core :=
  let k := k.modArray a fun x => { x with shad := x.live, live := [], shadow := .draining, lastOs := none }
  { k with drainQ := k.drainQ ++ [
      { arr := Fin.ofNat 4 a, bank := 0, os := true, seq := c.seq, dsel := BitVec.ofNat 4 c.dsel, desc := c.desc, high := 31, int := c.int }] }

/-- OS_SWAP_OUT (R88): the oldest finished tile whose shadow sets are all EMPTY swaps out. -/
def State.mxaOsSwapOut (s : State) (core : Nat) : State :=
  match (s.core core).osPend with
  | [] => s
  | c :: rest =>
    if !(s.diesOn && c.arrs.all fun a => ((s.core core).array a).shadow == .empty) then s else
    let s := s.modCore core fun k => c.arrs.foldl (fun k a => k.osSwap c a) { k with osPend := rest }
    if descFld c.desc.toNat 0 4 1 = 1 then s else s.scbRelease core .mxa c.seq

/-- OS_SWAP_OUT (R88). -/
def execOsSwapOut (core : Fin 512) (s : State) : Host.Outcome State Fault Refusal := .next (s.mxaOsSwapOut core)

/-- The matrix arrays and the command queue of a core are cleared (R101). -/
def Core.clearMxa (k : Core) : Core :=
  { k with arrays := [], mxq := [], handPend := [], osPend := [], scb := k.scb.filter fun e => e.owner != .mxa }

end Sys2Proof.Machine
end

