-- ==== Sys2Proof/Machine/Real.lean ====
section
/-! DEFINITION. Real functions to 256 fractional bits, and results within an accuracy bound of them (R116, R137): far more precise than any bound, so what the bound admits is decided by them. -/

namespace Sys2Proof.Machine

/-- Fractional bits of a fixed-point real. -/
def fxK : Nat := 256

/-- 1 in fixed point. -/
def fxOne : Int := 2 ^ 256

/-- ln 2 in fixed point. -/
def fxLn2 : Int := 0xb17217f7d1cf79abc9e3b39803f2f6af40f343267298b62d8a0d175b8baafa2b

/-- π with 640 fractional bits. -/
def piWide : Int := 0x3243f6a8885a308d313198a2e03707344a4093822299f31d0082efa98ec4e6c89452821e638d01377be5466cf34e90c6cc0ac29b7c97c50dd3f84d5b5b54709179216d5d98979fb1bd1310ba698dfb5ac

/-- π in fixed point. -/
def fxPi : Int := piWide / 2 ^ 384

/-- 2 / √π in fixed point. -/
def fxTwoRtPi : Int := 0x120dd750429b6d11ae3a914fed7fd8688281341d7587cea2e7342b06199cc4161

/-- √(2 / π) in fixed point. -/
def fxRt2Pi : Int := 0xcc42299ea1b284687e59e2805d5c717fa7053e60a24e0db1808e369004c73a5d

/-- 1 / √2 in fixed point. -/
def fxRsqrt2 : Int := 0xb504f333f9de6484597d89b3754abe9f1d6f60ba893ba84ced17ac8583339915

/-- Fixed-point product. -/
def fxMul (a b : Int) : Int := a * b / 2 ^ 256

/-- Fixed-point quotient. -/
def fxDiv (a b : Int) : Int := if b = 0 then 0 else a * 2 ^ 256 / b

/-- A finite value in fixed point. -/
def fxOf (neg : Bool) (m : Nat) (e : Int) : Int :=
  let s := e + 256
  let v : Int := if 0 ≤ s then (m <<< s.toNat : Nat) else (m >>> (-s).toNat : Nat)
  if neg then -v else v

/-- Terms x^i / i! from term `t` with index `i`. -/
def expTerms (x : Int) : Nat → Nat → Int → Int
  | 0, _, _ => 0
  | n + 1, i, t => t + expTerms x n (i + 1) (fxMul t x / (i + 1 : Nat))

/-- e^x; beyond |x| = 1024 it is cut off, which no format reaches. -/
def fxExp (x : Int) : Int :=
  if x < -(1024 * fxOne) then 0
  else
    let x := min x (1024 * fxOne)
    let n := (x + fxLn2 / 2) / fxLn2
    let r := x - n * fxLn2
    let v := expTerms r 70 0 fxOne
    if 0 ≤ n then v * 2 ^ n.toNat else v / 2 ^ (-n).toNat

/-- 2^x. -/
def fxExp2 (x : Int) : Int :=
  let n := x / fxOne
  let r := x - n * fxOne
  let v := expTerms (fxMul r fxLn2) 70 0 fxOne
  if n < -600 then 0 else
  if 0 ≤ n then v * 2 ^ (min n 2000).toNat else v / 2 ^ (-n).toNat

/-- Odd terms z^(2i+1) / (2i+1). -/
def atanhTerms (z2 : Int) : Nat → Nat → Int → Int
  | 0, _, _ => 0
  | n + 1, i, t => t / (2 * i + 1 : Nat) + atanhTerms z2 n (i + 1) (fxMul t z2)

/-- ln of m × 2^e, m not 0. -/
def fxLn (m : Nat) (e : Int) : Int :=
  let k := Nat.log2 m
  let y : Int := (m : Int) * 2 ^ 256 / 2 ^ k
  let z := fxDiv (y - fxOne) (y + fxOne)
  2 * atanhTerms (fxMul z z) 90 0 z + (e + k) * fxLn2

/-- Integer square root by bits, from bit `n − 1` down. -/
def isqrtBits (x : Nat) : Nat → Nat → Nat
  | 0, r => r
  | n + 1, r => let t := r + 2 ^ n; if t * t ≤ x then isqrtBits x n t else isqrtBits x n r

/-- Largest integer whose square is at most x. -/
def isqrt (x : Nat) : Nat := isqrtBits x (Nat.log2 x / 2 + 1) 0

/-- √(m × 2^e) in fixed point with 256 fractional bits beyond the leading bit. -/
def fxSqrtVal (m : Nat) (e : Int) : Nat × Int :=
  let e' := e - 400
  let m' := m * 2 ^ 400
  let (m', e') := if e' % 2 = 0 then (m', e') else (m' * 2, e' - 1)
  (isqrt m', e' / 2)

/-- tanh x. -/
def fxTanh (x : Int) : Int :=
  if 100 * fxOne < x then fxOne else if x < -(100 * fxOne) then -fxOne else
  let t := fxExp (2 * x)
  fxDiv (t - fxOne) (t + fxOne)

/-- 1 / (1 + e^−x). -/
def fxSigmoid (x : Int) : Int :=
  if 0 ≤ x then fxDiv fxOne (fxOne + fxExp (-x)) else let t := fxExp x; fxDiv t (fxOne + t)

/-- Terms (−1)^i x^(2i+1) / (i! (2i+1)) from i with t = (−1)^i x^(2i+1) / i!. -/
def erfTerms (x2 : Int) : Nat → Nat → Int → Int
  | 0, _, _ => 0
  | n + 1, i, t => t / (2 * i + 1 : Nat) + erfTerms x2 n (i + 1) (-(fxMul t x2) / (i + 1 : Nat))

/-- erf x; beyond |x| = 7 it differs from ±1 by less than 2^−70. -/
def fxErf (x : Int) : Int :=
  if 7 * fxOne < x then fxOne else if x < -(7 * fxOne) then -fxOne else
  fxMul fxTwoRtPi (erfTerms (fxMul x x) 300 0 x)

/-- Terms (−1)^i x^(2i+s) / (2i+s)! from t. -/
def sinTerms (x2 : Int) : Nat → Nat → Int → Int
  | 0, _, _ => 0
  | n + 1, k, t => t + sinTerms x2 n (k + 2) (-(fxMul t x2) / ((k + 1) * (k + 2) : Nat))

/-- sin or cos (`q0` = 0 or 1) of an exact value, by quadrants of π / 2. -/
def fxTrig (q0 : Int) (neg : Bool) (m : Nat) (e : Int) : Int :=
  let s := e + 640
  let x : Int := signed neg (if 0 ≤ s then m <<< s.toNat else m >>> (-s).toNat)
  let h := piWide / 2
  let q := (x + h / 2) / h
  let r := (x - q * h) / 2 ^ 384
  let r2 := fxMul r r
  let sn := sinTerms r2 40 1 r
  let cs := sinTerms r2 40 0 fxOne
  match ((q + q0) % 4).toNat with
  | 0 => sn
  | 1 => cs
  | 2 => -sn
  | _ => -cs

/-! ### Results within a bound -/

/-- FP32 rounding of a fixed-point real. -/
def fxRound (x : Int) : FpRes := fp32.round ⟨.fin (decide (x < 0)) x.natAbs (-256), false⟩

/-- The candidate lies within 2 ulp of the exact result for magnitudes of at least 2^−126, and within 2^−126 below that (R116, R137). -/
def withinBound (cand : Nat) (x : Int) : Bool :=
  match fp32.decode cand with
  | .fin s m e =>
    let d := (fxOf s m e - x).natAbs
    if 2 ^ (256 - 126) ≤ x.natAbs then decide (d ≤ 2 * 2 ^ (Nat.log2 x.natAbs - 23)) else decide (d ≤ 2 ^ (256 - 126))
  | _ => false

/-- A transcendental result (R116, R137): the part's own value where that is within the bound, else the nearest FP32 value; a result beyond the largest finite value is an infinity. -/
def bounded (op : Nat) (arg : Nat) (x : Int) : FpRes :=
  let near := fxRound x
  let cand := (Config.transcend op (BitVec.ofNat 32 arg)).toNat
  if !near.ovf && withinBound cand x then { v := cand } else near

/-- Numbers of the transcendental functions (GRP 0x4 of R132, then the activations of R115 and the LSE of R141). -/
inductive Fn where
  | exp | exp2 | ln | log2 | rcp | rsqrt | sqrt | tanh | sigmoid | erf | sin | cos
  | geluTanh | geluErf | silu | expDiff | lnSum
  deriving DecidableEq, Repr

/-- Number under which the part's own choice of result is named. -/
def Fn.no : Fn → Nat
  | .exp => 0
  | .exp2 => 1
  | .ln => 2
  | .log2 => 3
  | .rcp => 4
  | .rsqrt => 5
  | .sqrt => 6
  | .tanh => 7
  | .sigmoid => 8
  | .erf => 9
  | .sin => 10
  | .cos => 11
  | .geluTanh => 12
  | .geluErf => 13
  | .silu => 14
  | .expDiff => 15
  | .lnSum => 16

/-- A transcendental result: FP32 code and what it reports (R137). -/
structure TrRes where
  r : FpRes
  divz : Bool := false
  deriving DecidableEq, Repr

/-- The default NaN, produced. -/
def trInvalid : TrRes := { r := { v := fp32.nanCode, inv := true } }

/-- A constant result. -/
def trConst (v : Nat) : TrRes := { r := { v := v } }

/-- SiLU of a fixed-point value. -/
def fxSilu (x : Int) : Int := fxMul x (fxSigmoid x)

/-- GELU by tanh of a fixed-point value (R115). -/
def fxGeluTanh (x : Int) : Int :=
  let x := max (-(64 * fxOne)) x
  if 64 * fxOne < x then x else
  let x3 := fxMul (fxMul x x) x
  let inner := fxMul fxRt2Pi (x + x3 * 44715 / 1000000)
  -- 0.5 (1 + tanh t) = sigmoid (2 t)
  fxMul x (fxSigmoid (2 * inner))

/-- GELU by erf of a fixed-point value (R115). -/
def fxGeluErf (x : Int) : Int :=
  if 64 * fxOne < x then x else if x < -(64 * fxOne) then 0 else
  fxMul x (fxOne + fxErf (fxMul x fxRsqrt2)) / 2

/-- A function of an FP32 value by R137's special operands and bound, before the subnormal mode: `v` is the operand read, `a` its code. -/
def evalFn (f : Fn) (v : Fv) (a : Nat) : TrRes :=
  match f, v with
  | _, .nan => trConst (if isNan32 a then a else fp32.nanCode)
  | .exp, .inf s | .exp2, .inf s => trConst (if s then 0 else fpinf)
  | .exp, .fin s m e => { r := bounded 0 a (fxExp (fxOf s m e)) }
  | .exp2, .fin s m e => { r := bounded 1 a (fxExp2 (fxOf s m e)) }
  | .ln, .inf s | .log2, .inf s => if s then trInvalid else trConst fpinf
  | .ln, .fin s m e =>
    if m = 0 then { r := { v := fninf }, divz := true } else if s then trInvalid else { r := bounded 2 a (fxLn m e) }
  | .log2, .fin s m e =>
    if m = 0 then { r := { v := fninf }, divz := true } else if s then trInvalid
    else { r := bounded 3 a (fxDiv (fxLn m e) fxLn2) }
  | .rcp, .inf s => trConst (if s then 2 ^ 31 else 0)
  | .rcp, .fin s m e =>
    if m = 0 then { r := { v := fp32.infCode s }, divz := true }
    else
      let near := fp32.round ((Fv.fin false 1 0).div (.fin s m e))
      let cand := (Config.transcend 4 (BitVec.ofNat 32 a)).toNat
      let q := fxDiv fxOne (fxOf s m e)
      if !near.ovf && decide (m * 2 ^ 0 ≠ 0) && decide (fxOf s m e ≠ 0) && withinBound cand q then { r := { v := cand } } else { r := near }
  | .rsqrt, .inf s => if s then trInvalid else trConst 0
  | .rsqrt, .fin s m e =>
    if m = 0 then { r := { v := fp32.infCode s }, divz := true } else if s then trInvalid
    else
      let (q, h) := fxSqrtVal m e
      { r := bounded 5 a (fxDiv fxOne (fxOf false q h)) }
  | .sqrt, .inf s => if s then trInvalid else trConst fpinf
  | .sqrt, .fin s m e =>
    if m = 0 then trConst (fp32.signBit s) else if s then trInvalid
    else
      let (q, h) := fxSqrtVal m e
      { r := bounded 6 a (fxOf false q h) }
  | .tanh, .inf s => trConst (if s then 0xBF800000 else fone)
  | .tanh, .fin s m e => if m = 0 then trConst (fp32.signBit s) else { r := bounded 7 a (fxTanh (fxOf s m e)) }
  | .sigmoid, .inf s => trConst (if s then 0 else fone)
  | .sigmoid, .fin s m e => { r := bounded 8 a (fxSigmoid (fxOf s m e)) }
  | .erf, .inf s => trConst (if s then 0xBF800000 else fone)
  | .erf, .fin s m e => if m = 0 then trConst (fp32.signBit s) else { r := bounded 9 a (fxErf (fxOf s m e)) }
  | .sin, .inf _ | .cos, .inf _ => trInvalid
  | .sin, .fin s m e => if m = 0 then trConst (fp32.signBit s) else trigOf 10 0 s m e a
  | .cos, .fin s m e => trigOf 11 1 s m e a
  | .geluTanh, .inf s | .geluErf, .inf s | .silu, .inf s => trConst (if s then 2 ^ 31 else fpinf)
  | .geluTanh, .fin s m e => if m = 0 then trConst (fp32.signBit s) else { r := bounded 12 a (fxGeluTanh (fxOf s m e)) }
  | .geluErf, .fin s m e => if m = 0 then trConst (fp32.signBit s) else { r := bounded 13 a (fxGeluErf (fxOf s m e)) }
  | .silu, .fin s m e => if m = 0 then trConst (fp32.signBit s) else { r := bounded 14 a (fxSilu (fxOf s m e)) }
  | .expDiff, .inf s => trConst (if s then 0 else fpinf)
  | .expDiff, .fin s m e => { r := bounded 15 a (fxExp (fxOf s m e)) }
  | .lnSum, .inf s => if s then trInvalid else trConst fpinf
  | .lnSum, .fin s m e =>
    if m = 0 then { r := { v := fninf }, divz := true } else if s then trInvalid else { r := bounded 16 a (fxLn m e) }
where
  /-- SIN or COS of a finite value: bounded up to |x| = 2^16, beyond it any value in [−1, 1] (R137). -/
  trigOf (op : Nat) (q : Int) (s : Bool) (m : Nat) (e : Int) (a : Nat) : TrRes :=
    if (Fv.fin false (2 ^ 16) 0).lt (.fin false m e) then
      let c := (Config.trigFar op (BitVec.ofNat 32 a)).toNat
      match fp32.decode c with
      | .fin t n g => if (Fv.fin false 1 0).lt (.fin false n g) then trConst (fp32.signBit t + fone) else trConst c
      | _ => trConst 0
    else { r := bounded op a (fxTrig q s m e) }

/-- A transcendental FP32 operation under a subnormal mode (R112, R137). -/
def trans32 (fl : Bool) (f : Fn) (a : Nat) : TrRes :=
  let t := evalFn f (read32 fl a) a
  if fl && bitsAt t.r.v 23 8 == 0 && bitsAt t.r.v 0 23 != 0 then
    { t with r := { t.r with v := bitsAt t.r.v 31 1 * 2 ^ 31, flush := true } }
  else t

end Sys2Proof.Machine
end

