-- ==== Sys2Proof/Machine/Partial.lean ====
section
/-! DEFINITION. Partial states: the factor function, merging, normalisation and records (R155 to R159, R168). -/

namespace Sys2Proof.Machine

/-- Flushes, produced NaNs and clamps of a computation, and where its first NaN was produced (R123, R184). -/
structure Tally where
  flush : Nat := 0
  nan : Nat := 0
  clamp : Nat := 0
  first : Option (Nat × Nat × Nat × Nat) := none
  deriving DecidableEq, Repr

/-- An operation's result at a place joins the tally. -/
def Tally.op (t : Tally) (loc : Nat × Nat × Nat × Nat) (r : FpRes) : Tally :=
  { t with flush := t.flush + b2n r.flush, nan := t.nan + b2n r.inv, first := if t.first.isNone && r.inv then some loc else t.first }

/-- e^y rounded once to FP32 under the subnormal mode (R157). -/
def expExact (fl : Bool) (y : Nat) : FpRes :=
  match read32 fl y with
  | .nan => { v := fp32.nanCode }
  | .inf s => { v := if s then 0 else fpinf }
  | .fin s m e =>
    let r := fxRound (fxExp (fxOf s m e))
    if fl && bitsAt r.v 23 8 == 0 && bitsAt r.v 0 23 != 0 then { r with v := 0, flush := true } else r

/-- FP32 subtraction. -/
def sub32 (fl : Bool) (a b : Nat) : FpRes := round32 fl ((read32 fl a).add (read32 fl b).flip)

/-- The factor function f(x, m) (R157). -/
def factor (fl : Bool) (x m : Nat) : FpRes :=
  if x = fninf then { v := 0 }
  else if (read32 fl x).eq (read32 fl m) then { v := fone }
  else
    let d := sub32 fl x m
    let e := expExact fl d.v
    { e with inv := d.inv, flush := d.flush || e.flush }

/-- The identity partial of a vector length (R155). -/
def identityRec (n : Nat) : PartialRec := ⟨BitVec.ofNat 32 fninf, 0, List.replicate n 0⟩

/-- An FP32 operation's code as a word, with its tally. -/
def tallied (loc : Nat × Nat × Nat × Nat) (r : FpRes) (t : Tally) : Word × Tally := (BitVec.ofNat 32 r.v, t.op loc r)

/-- One element of a merged vector: fma(oa, fa, round(ob × fb)) (R158). -/
def mergeElem (fl : Bool) (fa fb : Nat) (loc : Nat × Nat × Nat × Nat) (a b : Word) (t : Tally) : Word × Tally :=
  let p := mul32 fl b.toNat fb
  let r := fma32 fl a.toNat fa p.v
  tallied loc { r with inv := r.inv || p.inv, flush := r.flush } (t.op loc { p with inv := false })

/-- Elements of a merged vector with their tally; `i` is the element number. -/
def mergeVec (fl : Bool) (fa fb : Nat) (loc : Nat × Nat × Nat × Nat) : Nat → List Word → List Word → Tally → List Word × Tally
  | i, a :: as, b :: bs, t =>
    let (x, t) := mergeElem fl fa fb (loc.1, loc.2.1, loc.2.2.1, i) a b t
    let (xs, t) := mergeVec fl fa fb loc (i + 1) as bs t
    (x :: xs, t)
  | _, _, _, t => ([], t)

/-- The merge of partial `a` with partial `b`, `a` the lower-ranked (R158). -/
def mergeRec (fl : Bool) (loc : Nat × Nat × Nat × Nat) (a b : PartialRec) (t : Tally) : PartialRec × Tally :=
  let m := max32 a.m.toNat b.m.toNat
  let fa := factor fl a.m.toNat m
  let fb := factor fl b.m.toNat m
  let t := (t.op loc fa).op loc fb
  let (l, t) := mergeElem fl fa.v fb.v loc a.l b.l t
  let (o, t) := mergeVec fl fa.v fb.v loc 0 a.o b.o t
  (⟨BitVec.ofNat 32 m, l, o⟩, t)

/-- One element converted to BF16 and held as FP32 (R156). -/
def toBf16 (x : Word) : Word × Bool :=
  let (c, k) := toFloat bf16 false x.toNat
  (BitVec.ofNat 32 (c * 65536), k)

/-- A record as its writer holds it in a partial-vector format: BF16 elements converted once (R156). -/
def PartialRec.inFormat (r : PartialRec) (bf : Bool) (t : Tally) : PartialRec × Tally :=
  if bf then
    let xs := r.o.map toBf16
    ({ r with o := xs.map (·.1) }, { t with clamp := t.clamp + (xs.filter (·.2)).length })
  else (r, t)

/-- Records of several partials in a format. -/
def recsInFormat (bf : Bool) : List PartialRec → Tally → List PartialRec × Tally
  | [], t => ([], t)
  | r :: rs, t =>
    let (x, t) := r.inFormat bf t
    let (xs, t) := recsInFormat bf rs t
    (x :: xs, t)

/-- Bytes of a record whose vector is already in its format (R156). -/
def PartialRec.bytes (r : PartialRec) (bf : Bool) : List Byte :=
  toBytes 4 r.m.toNat ++ toBytes 4 r.l.toNat ++ r.o.flatMap fun x => if bf then toBytes 2 (x.toNat / 65536) else toBytes 4 x.toNat

/-- RS (R156). -/
def recBytes (hdim : Nat) (bf : Bool) : Nat := 8 + (if bf then 2 else 4) * hdim

/-- A record read back from its bytes, BF16 widened (R156, R173). -/
def recOfBytes (hdim : Nat) (bf : Bool) (bs : List Byte) : PartialRec :=
  ⟨BitVec.ofNat 32 (ofBytes (bs.take 4)), BitVec.ofNat 32 (ofBytes ((bs.drop 4).take 4)),
    (List.range hdim).map fun j => BitVec.ofNat 32
      (if bf then ofBytes ((bs.drop (8 + 2 * j)).take 2) * 65536 else ofBytes ((bs.drop (8 + 4 * j)).take 4))⟩

/-- Bytes of an element of a normalised output (R159, R176). -/
def outElemBytes (ofmt : Nat) : Nat := if ofmt = 0 then 4 else elemBits ofmt / 8

/-- The output format of a plain float code, FP32 for 0. -/
def outFmt (ofmt : Nat) : Fmt :=
  match ofmt with
  | 1 => bf16
  | 2 => fp16
  | 3 => e4m3
  | 4 => e5m2
  | _ => fp32

/-- Normalised vector of a record in OFMT (R159): its codes, its tally, and whether the row was empty. -/
def normalise (fl : Bool) (ofmt : Nat) (loc : Nat × Nat × Nat × Nat) (r : PartialRec) (t : Tally) : List Nat × Tally × Bool :=
  if r.l = 0 then (r.o.map fun _ => 0, t, true)
  else
    let (xs, t, _) := r.o.foldl (fun (p : List Nat × Tally × Nat) x =>
      let q := div32 fl x.toNat r.l.toNat
      let (c, k) := if ofmt = 0 then (if isNan32 q.v then fp32.nanCode else q.v, false) else toFloat (outFmt ofmt) false q.v
      let t := p.2.1.op (loc.1, loc.2.1, loc.2.2.1, p.2.2) q
      (p.1 ++ [c], { t with clamp := t.clamp + b2n k }, p.2.2 + 1)) ([], t, 0)
    (xs, t, false)

/-- Bytes of the normalised vectors of records, their tally, and the number of empty rows. -/
def normBytes (fl : Bool) (ofmt : Nat) (loc : Nat × Nat × Nat × Nat) (rs : List PartialRec) (t : Tally) : List Byte × Tally × Nat :=
  let (bs, t, n, _) := rs.foldl (fun (p : List Byte × Tally × Nat × Nat) r =>
    let (xs, t, e) := normalise fl ofmt (loc.1, loc.2.1, p.2.2.2, loc.2.2.2) r p.2.1
    (p.1 ++ xs.flatMap (toBytes (outElemBytes ofmt)), t, p.2.2.1 + b2n e, p.2.2.2 + 1)) ([], t, 0, 0)
  (bs, t, n)

/-! ### Fixed trees (R168) -/

/-- A leaf of a merge tree: what identifies it in a numeric record, and its records. -/
structure Leaf where
  id : Nat
  seq : Nat
  recs : List PartialRec
  deriving DecidableEq, Repr

/-- Records of two leaves merged one by one; the record number is the row. -/
def mergeRecs (fl : Bool) (a b : Nat × Nat) : Nat → List PartialRec → List PartialRec → Tally → List PartialRec × Tally
  | i, x :: xs, y :: ys, t =>
    let (r, t) := mergeRec fl (a.2, a.1 + b.1 * 65536, i, 0) x y t
    let (rs, t) := mergeRecs fl a b (i + 1) xs ys t
    (r :: rs, t)
  | _, _, _, t => ([], t)

/-- One level of the tree: neighbours merged, an unpaired last leaf passed up (R168). -/
def mergeLevel (fl : Bool) : List Leaf → Tally → List Leaf × Tally
  | a :: b :: ls, t =>
    let (rs, t) := mergeRecs fl (a.id, a.seq) (b.id, b.seq) 0 a.recs b.recs t
    let (up, t) := mergeLevel fl ls t
    (⟨a.id, a.seq, rs⟩ :: up, t)
  | ls, t => (ls, t)

/-- The root of a tree of at most 2^n leaves (R168). -/
def mergeTree (fl : Bool) : Nat → List Leaf → Tally → List PartialRec × Tally
  | 0, ls, t => (match ls with
    | l :: _ => l.recs
    | [] => [], t)
  | n + 1, ls, t =>
    match ls with
    | [l] => (l.recs, t)
    | _ => let (up, t) := mergeLevel fl ls t; mergeTree fl n up t

end Sys2Proof.Machine
end

