-- ==== Sys2Proof/Machine/Yard.lean ====
section
/-! DEFINITION. The coach yard: commands, coaches, chains, copies, scores and the work of step 4 (R185 to R204). -/

namespace Sys2Proof.Machine

/-! ### Coaches -/

/-- Coach-table entry `i` (R187). -/
def Yard.coach (y : Yard) (i : Nat) : Coach := Tbl.get y.coaches i {}

/-- Entry `i` becomes `c`. -/
def Yard.setCoach (y : Yard) (i : Nat) (c : Coach) : Yard := { y with coaches := Tbl.put y.coaches i c }

/-- Berth `b` (R189). -/
def Yard.berth (y : Yard) (b : Nat) : YardBerth := Tbl.get y.berths b {}

/-- Berth `b` becomes `x`. -/
def Yard.setBerth (y : Yard) (b : Nat) (x : YardBerth) : Yard := { y with berths := Tbl.put y.berths b x }

/-- Commands waiting in slice `m`. -/
def Yard.slice (y : Yard) (m : Nat) : List YardCmd := Tbl.get y.slices m []

/-- Handle of entry `i` (R187). -/
def Yard.handle (y : Yard) (i : Nat) : Nat := i + (y.coach i).gen.toNat * 2 ^ 24

/-- The entry a handle names in a context: allocated to it, with a matching generation (R187). -/
def Yard.named (y : Yard) (ctx h : Nat) : Option (Nat × Coach) :=
  let i := h % 2 ^ 24
  let c := y.coach i
  if i ≠ 0 ∧ c.st ≠ .free ∧ c.ctx = ctx ∧ c.gen.toNat = h / 2 ^ 24 % 256 then some (i, c) else none

/-- The format is a key format (R164, R185). -/
def keyFormat (f : Nat) : Bool := f == 1 || f == 2 || f == 3 || f == 4 || f == 0xB || f == 0xC

/-- HDIM by its code (R188). -/
def hdimOf (c : Nat) : Nat := 64 <<< c

/-- Bytes of one key or one value (R185). -/
def slotBytes (fmt hdim : Nat) : Nat := hdimOf hdim * elemBits fmt / 8

/-- Bytes of a coach's data (R185). -/
def coachBytes (fmt hdim : Nat) : Nat := 128 * slotBytes fmt hdim

/-- Frame size of a context (R206). -/
def State.frameSize (s : State) (ctx : Nat) : Nat := 4096 <<< s.fld .vcyd ctx Off.cydCtxFrame 0 3

/-- Chain capacity of a context (R206). -/
def State.chainCap (s : State) (ctx : Nat) : Nat := 2 ^ s.fld .vcyd ctx Off.cydCtxFrame 3 5

/-- DVA of frame `j` of a context (R186). -/
def State.frameDva (s : State) (ctx j : Nat) : Nat :=
  s.rd64 .vcyd ctx Off.cydCtxArenaLo / 65536 * 65536 % 2 ^ 48 + j * s.frameSize ctx

/-- DVA of the key of slot `i` of a coach; values start 64 slots further (R185). -/
def State.keyDva (s : State) (c : Coach) (i : Nat) : Nat := s.frameDva c.ctx c.frame + i * slotBytes c.fmt.toNat c.hdim.toNat

/-- DVA of the value of slot `i` of a coach (R185). -/
def State.valueDva (s : State) (c : Coach) (i : Nat) : Nat := s.keyDva c (64 + i)

/-- WREFS (R188). -/
def Coach.wrefs (c : Coach) : Nat := c.refs + c.pendInc

/-- USED: coaches of a context that are PENDING, LIVE or in LIMBO (R203). -/
def Yard.used (y : Yard) (ctx : Nat) : Nat := (y.coaches.filter fun e => e.2.st != .free && e.2.ctx == ctx).length

/-- QUOTA of a context (R206). -/
def State.quota (s : State) (ctx : Nat) : Nat := s.fld .vcyd ctx Off.cydCtxQuota 0 24

/-- Entries of the coach table (R205). -/
def State.tableSize (s : State) : Nat := 2 ^ s.fld .cyd 0 Off.cydTableSize 0 5

/-- FREE entries of the table, index 0 excluded (R187). -/
def State.entriesFree (s : State) : Nat := s.tableSize - 1 - (s.yard.coaches.filter fun e => e.2.st != .free).length

/-- First number from `i` on, cyclically within [lo, n), that satisfies `ok`. -/
def probe (ok : Nat → Bool) (lo n : Nat) : Nat → Nat → Nat
  | 0, i => i
  | fuel + 1, i => if ok i then i else probe ok lo n fuel (if n ≤ i + 1 then lo else i + 1)

/-- A free table index: which of them is taken, the spec does not say. -/
def State.drawIndex (s : State) : Nat × State :=
  let (k, s) := s.draw
  let n := s.tableSize
  (probe (fun i => (s.yard.coach i).st == .free) 1 n (s.yard.coaches.length + 2) (1 + Config.freeNat k % (n - 1)), s)

/-- A free frame of a context's arena: which of them is taken, the spec does not say. -/
def State.drawFrame (s : State) (ctx : Nat) : Nat × State :=
  let (k, s) := s.draw
  let used := (s.yard.coaches.filter fun e => e.2.st != .free && e.2.ctx == ctx).map (·.2.frame)
  let n := max 1 (s.quota ctx)
  (probe (fun j => !used.contains j) 0 n (used.length + 2) (Config.freeNat k % n), s)

/-! ### Berths and chains -/

/-- Working chain `c` of a berth. -/
def YardBerth.work (b : YardBerth) (c : Nat) : List Nat := Tbl.get b.chainW c []

/-- Committed chain `c` of a berth. -/
def YardBerth.comm (b : YardBerth) (c : Nat) : List Nat := Tbl.get b.chainC c []

/-- Working chain `c` becomes `xs`. -/
def YardBerth.setWork (b : YardBerth) (c : Nat) (xs : List Nat) : YardBerth := { b with chainW := Tbl.set b.chainW c xs [] }

/-- Positions of a chain from BASE0 to its end, by one of the fill marks (R190, R193). -/
def Yard.chainLen (y : Yard) (b : YardBerth) (chain : List Nat) (fill : Coach → Nat) : Nat :=
  match chain.getLast? with
  | none => 0
  | some i => let c := y.coach i; (c.base.toNat + fill c) - b.base0.toNat

/-- The berth is one of the context's (R189). -/
def State.ownsBerth (s : State) (ctx b : Nat) : Bool :=
  let base := s.fld .vcyd ctx Off.cydCtxBerths 0 14
  let n := s.fld .vcyd ctx Off.cydCtxBerths 16 15
  decide (base ≤ b ∧ b < base + n)

/-! ### Fields of a command (R192) -/

/-- Field of a yard command. -/
def YardCmd.fld (c : YardCmd) (w lo n : Nat) : Nat := descFld c.raw.toNat w lo n
/-- OP. -/
def YardCmd.op (c : YardCmd) : Nat := c.fld 0 0 4
/-- BERTH. -/
def YardCmd.berth (c : YardCmd) : Nat := c.fld 1 0 14
/-- ARG. -/
def YardCmd.arg (c : YardCmd) : Nat := c.fld 3 0 32
/-- RES. -/
def YardCmd.res (c : YardCmd) : Nat := c.fld 7 0 21
/-- ALLG. -/
def YardCmd.allg (c : YardCmd) : Bool := c.fld 0 4 1 == 1
/-- ALLL. -/
def YardCmd.alll (c : YardCmd) : Bool := c.fld 0 5 1 == 1

/-- The slice of a command (R185 heading): its berth's, or its handle's. -/
def YardCmd.slice (c : YardCmd) : Nat := if c.op = 6 ∨ c.op = 8 then c.arg % 4 else c.berth % 4

/-- Malformed whatever the state (R195). -/
def YardCmd.malformed (c : YardCmd) : Bool :=
  let op := c.op
  op == 0 || decide (9 < op) || c.fld 0 6 2 != 0 || c.fld 0 22 10 != 0 || c.fld 1 14 18 != 0 || c.fld 2 14 18 != 0
  || (op != 4 && c.fld 2 0 14 != 0) || c.fld 4 22 10 != 0 || c.fld 4 6 2 != 0 || c.fld 7 21 11 != 0
  || (op ≤ 2 && c.fld 4 4 2 == 3) || c.res % 8 != 0 || (op == 7 && decide (4096 < c.fld 5 0 32))

/-- Chains a command selects on a berth, ascending (R192, R193). -/
def YardCmd.chains (c : YardCmd) (b : YardBerth) : List Nat :=
  let ls := if c.alll then List.range b.layers else [c.fld 0 8 8]
  let gs := if c.allg then List.range b.groups else [c.fld 0 16 6]
  ls.flatMap fun l => gs.map fun g => l * b.groups + g

/-- LAYER and GROUP lie within the berth, for the operations that use them (R193, R195). -/
def YardCmd.inBerth (c : YardCmd) (b : YardBerth) : Bool :=
  !(c.op == 2 || c.op == 3 || c.op == 7) ||
    ((c.alll || decide (c.fld 0 8 8 < b.layers)) && (c.allg || decide (c.fld 0 16 6 < b.groups)))

/-- Bytes of a successful result (R191, R193). -/
def YardCmd.resBytes (c : YardCmd) (b : YardBerth) : Nat :=
  match c.op with
  | 2 | 3 => 8 + 4 * (if c.alll || c.allg then (c.chains b).length else 1)
  | 7 => 8 + 4 * c.fld 5 0 32
  | 8 => 40
  | 9 => 24
  | _ => 8

/-! ### Issue (R191) -/

/-- A yard command reaches its slice. -/
def Yard.submit (y : Yard) (c : YardCmd) : Yard := { y with slices := Tbl.put y.slices c.slice (y.slice c.slice ++ [c]) }

/-- An error of the yard in a context (R207): in the slice's page and in the context's view. -/
def State.yardErr (s : State) (slice ctx cond sev : Nat) (core : Nat := 0xFFFF) : State := s.raiseCtx .cyd slice cond sev ctx core

/-- Commands of a core that wait in the slices: its 8-entry yard queue (R191). -/
def Yard.queued (y : Yard) (core : Nat) : Nat :=
  (y.slices.flatMap (·.2)).foldl (fun n c => if c.issuer = .core core then n + 1 else n) 0

/-- `cyq` with the command at s[rs] (R191, R195). A reserved OP has no row of its own and is refused by any. -/
def State.cyqOp (s : State) (core : Nat) (rs : BitVec 5) (op : Nat) : State :=
  if !s.scalarRuns core then s else
  match s.coreCtx core with
  | none => s
  | some ctx =>
    match s.readDesc core (s.sreg core rs) 32 32 with
    | none =>
      let (_, s) := s.nextSeq .vcyd ctx Off.cydCmdSeq
      (s.yardErr 0 ctx 0x10 1 core).retire core
    | some raw =>
      let c : YardCmd := ⟨BitVec.ofNat 256 raw, s.rd .vcyd ctx Off.cydCmdSeq + 1, ctx, .core core⟩
      if c.op ≠ op ∧ 1 ≤ c.op ∧ c.op ≤ 9 then s
      else if s.isResetting ⟨.cyd, c.slice⟩ then s.stall core .queue
      else if c.malformed then
        let (_, s) := s.nextSeq .vcyd ctx Off.cydCmdSeq
        (s.yardErr c.slice ctx 0x10 1 core).retire core
      else if 8 ≤ s.yard.queued core then s.stall core .queue
      else if (s.core core).scbFull then s.stall core .full
      else
        let (_, s) := s.nextSeq .vcyd ctx Off.cydCmdSeq
        let s := s.scbAdd core .cyd c.seq (wharfRange c.res (c.resBytes (s.yard.berth c.berth)) true)
        (s.modYard fun y => y.submit c).retire core

/-- CYQ_OPEN (R193). -/
def execCyqOpen (core : Fin 512) (rs : BitVec 5) (s : State) : Host.Outcome State Fault Refusal := .next (s.cyqOp core rs 1)
/-- CYQ_APPEND (R193). -/
def execCyqAppend (core : Fin 512) (rs : BitVec 5) (s : State) : Host.Outcome State Fault Refusal := .next (s.cyqOp core rs 2)
/-- CYQ_CLAIM (R198). -/
def execCyqClaim (core : Fin 512) (rs : BitVec 5) (s : State) : Host.Outcome State Fault Refusal := .next (s.cyqOp core rs 3)
/-- CYQ_FORK (R193). -/
def execCyqFork (core : Fin 512) (rs : BitVec 5) (s : State) : Host.Outcome State Fault Refusal := .next (s.cyqOp core rs 4)
/-- CYQ_RELEASE (R193). -/
def execCyqRelease (core : Fin 512) (rs : BitVec 5) (s : State) : Host.Outcome State Fault Refusal := .next (s.cyqOp core rs 5)
/-- CYQ_EVICT (R193). -/
def execCyqEvict (core : Fin 512) (rs : BitVec 5) (s : State) : Host.Outcome State Fault Refusal := .next (s.cyqOp core rs 6)
/-- CYQ_LIST (R193). -/
def execCyqList (core : Fin 512) (rs : BitVec 5) (s : State) : Host.Outcome State Fault Refusal := .next (s.cyqOp core rs 7)
/-- CYQ_INFO (R188). -/
def execCyqInfo (core : Fin 512) (rs : BitVec 5) (s : State) : Host.Outcome State Fault Refusal := .next (s.cyqOp core rs 8)
/-- CYQ_BINFO (R190). -/
def execCyqBinfo (core : Fin 512) (rs : BitVec 5) (s : State) : Host.Outcome State Fault Refusal := .next (s.cyqOp core rs 9)

/-! ### What a command would do (R193, R194, R198) -/

/-- One coach to create: its source when it is a copy, with the slots copied, and its fields. -/
structure NewCoach where
  copyOf : Option Nat
  slots : Nat
  proto : Coach
  deriving DecidableEq, Repr

/-- One change to a working chain: keep a coach by index, share it, or put a new one. -/
inductive ChainItem where
  | keep (i : Nat)
  | share (i : Nat)
  | new (c : NewCoach)
  deriving DecidableEq, Repr

/-- What a command does if no status stops it: items of each working chain it rewrites, removals for the journal, and handles to return. -/
structure YardPlan where
  berth : Nat
  chains : List (Nat × List ChainItem)
  removals : List Nat := []
  changes : Nat := 0
  returns : Bool := false
  deriving DecidableEq, Repr

/-- New coaches of a plan. -/
def YardPlan.news (p : YardPlan) : Nat :=
  p.chains.foldl (fun n c => n + (c.2.filter fun i => match i with
    | .new _ => true
    | _ => false).length) 0

/-- Coaches a plan shares. -/
def YardPlan.shares (p : YardPlan) : List Nat :=
  p.chains.flatMap fun c => c.2.filterMap fun i => match i with
    | .share j => some j
    | _ => none

/-- A PENDING coach of the context with its first reference pending (R187, R188, R193). -/
def freshCoach (ctx : Nat) (fmt : BitVec 4) (hdim : BitVec 2) (fill : Nat) (base ks vs : Word) (tick : Nat) : Coach :=
  { st := .pending, ctx := ctx, fmt := fmt, hdim := hdim, fillC := fill, fillW := fill, pendInc := 1, base := base, kscale := ks, vscale := vs, tick := tick }

/-- APPEND (R193). -/
def State.planAppend (s : State) (c : YardCmd) (b : YardBerth) : YardPlan :=
  let cs := c.chains b
  { berth := c.berth, returns := true, changes := cs.length
    chains := cs.map fun ch =>
      let w := b.work ch
      let base := match w.getLast? with
        | some i => (s.yard.coach i).base + 64
        | none => b.base0
      (ch, w.map ChainItem.keep ++ [ChainItem.new ⟨none, 0, freshCoach c.ctx (BitVec.ofNat 4 (c.fld 4 0 4)) (BitVec.ofNat 2 (c.fld 4 4 2)) 0 base
        (BitVec.ofNat 32 (c.fld 5 0 32)) (BitVec.ofNat 32 (c.fld 6 0 32)) s.lkp.now⟩]) }

/-- A copy of coach `i` with its first `n` slots (R193, R198). -/
def State.copyCoach (s : State) (i n : Nat) : NewCoach :=
  let t := s.yard.coach i
  ⟨some i, n, freshCoach t.ctx t.fmt t.hdim n t.base t.kscale t.vscale s.lkp.now⟩

/-- CLAIM (R198). -/
def State.planClaim (s : State) (c : YardCmd) (b : YardBerth) : YardPlan :=
  let cs := (c.chains b).map fun ch =>
    let w := b.work ch
    match w.getLast? with
    | none => (ch, [], none)
    | some i =>
      if (s.yard.coach i).wrefs = 1 then (ch, w.map ChainItem.keep, none)
      else (ch, (w.dropLast).map ChainItem.keep ++ [ChainItem.new (s.copyCoach i (s.yard.coach i).fillC)], some i)
  let rem := cs.filterMap (·.2.2)
  { berth := c.berth, returns := true, changes := 2 * rem.length, removals := rem, chains := cs.map fun x => (x.1, x.2.1) }

/-- FORK (R193). -/
def State.planFork (s : State) (c : YardCmd) (b : YardBerth) : YardPlan :=
  let limit := b.base0.toNat + c.arg
  let cs := (List.range (b.layers * b.groups)).map fun ch =>
    (ch, (b.work ch).filterMap fun i =>
      let t := s.yard.coach i
      if limit ≤ t.base.toNat then none
      else if t.base.toNat + 64 ≤ limit then some (ChainItem.share i)
      else
        let n := limit - t.base.toNat
        if t.fillW = n then some (.share i) else some (.new (s.copyCoach i n)))
  { berth := c.fld 2 0 14, chains := cs, changes := cs.foldl (fun n x => n + x.2.length) 0 }

/-- RELEASE (R193). -/
def State.planRelease (s : State) (c : YardCmd) (b : YardBerth) : YardPlan :=
  let from_ := b.base0.toNat + c.arg
  let cs := (List.range (b.layers * b.groups)).map fun ch =>
    let w := b.work ch
    (ch, w.filter (fun i => (s.yard.coach i).base.toNat < from_), w.filter fun i => from_ ≤ (s.yard.coach i).base.toNat)
  let rem := cs.flatMap (·.2.2)
  { berth := c.berth, chains := cs.map fun x => (x.1, x.2.1.map .keep), removals := rem, changes := rem.length }

/-- Berths and chains of a context whose committed and working chains both hold a coach (R193 EVICT). -/
def Yard.holders (y : Yard) (ctx i : Nat) : List (Nat × Nat) :=
  y.berths.flatMap fun e =>
    if e.2.ctx = ctx then (e.2.chainC.filter fun c => c.2.contains i && (e.2.work c.1).contains i).map fun c => (e.1, c.1) else []

/-- First status a command meets, in the order of R194; 0 = none. -/
def State.yardStatus (s : State) (c : YardCmd) (b : YardBerth) (p : YardPlan) (evictions : Nat) : Nat :=
  let y := s.yard
  let op := c.op
  let notOpen := (op == 2 || op == 3 || op == 4 || op == 5 || op == 7) && (!b.openW || b.releasing)
  let notEmpty := (op == 1 && b.openW) || (op == 4 && (y.berth (c.fld 2 0 14)).openW)
  let range := (op == 4 && decide (y.chainLen b (b.work 0) (·.fillW) < c.arg)) || (op == 5 && c.arg % 64 != 0)
    || (op == 7 && decide (s.chainCap c.ctx ≤ c.arg))
  let fmt := c.fld 4 0 4
  let badFormat := (op == 1 || op == 2) && (!keyFormat fmt || decide (s.frameSize c.ctx < coachBytes fmt (c.fld 4 4 2)))
  let notWritable := op == 3 && (c.chains b).any fun ch => match (b.work ch).getLast? with
    | none => true
    | some i => (y.coach i).fillW == 64
  let chainFull := (op == 2 || op == 4) && p.chains.any fun x => decide (s.chainCap c.ctx < x.2.length)
  let refsFull := p.shares.any fun i => decide (65535 < (y.coach i).wrefs + 1) || decide (255 < (y.coach i).pendInc + 1)
  let journalFull := decide (262144 < (s.ctx c.ctx).journal.changes + p.changes + evictions)
  let tableFull := decide (s.entriesFree < p.news)
  let step := (s.ctx c.ctx).step
  let noReserve := match step with
    | some st => decide (st.coachLeft < p.news)
    | none => false
  let quota := step.isNone && decide (s.quota c.ctx - y.used c.ctx < p.news)
  if notOpen then 8 else if notEmpty then 9 else if range then 0xA else if badFormat then 0xC else if notWritable then 7
  else if chainFull then 4 else if refsFull then 5 else if journalFull then 6 else if tableFull then 0xB
  else if noReserve then 2 else if quota then 3 else 0

/-! ### Carrying a plan out -/

/-- Bytes `n` copied between two places of a context's memory by a slice (R198). -/
def State.yardCopyBytes (s : State) (slice ctx src dst n : Nat) : State × Bool :=
  if n = 0 then (s, true) else
  match s.memRead (512 + slice) ctx src n with
  | (s, .error e) => (if e = .xlate then s.yardErr slice ctx 0x17 1 else s, false)
  | (s, .ok bs) =>
    match s.memWrite (512 + slice) ctx dst bs with
    | (s, .error e) => (if e = .xlate then s.yardErr slice ctx 0x17 1 else s, false)
    | (s, .ok ()) => (s, true)

/-- The keys and values of the copied slots (R185, R198). -/
def State.yardCopy (s : State) (slice : Nat) (src dst : Coach) (slots : Nat) : State × Bool :=
  let n := slots * slotBytes src.fmt.toNat src.hdim.toNat
  match s.yardCopyBytes slice src.ctx (s.keyDva src 0) (s.keyDva dst 0) n with
  | (s, false) => (s, false)
  | (s, true) => s.yardCopyBytes slice src.ctx (s.valueDva src 0) (s.valueDva dst 0) n

/-- A new coach takes an entry and a frame, and its copy is made; false when the arena faulted. Reported: its index, and the bytes copied. -/
def State.makeCoach (s : State) (slice : Nat) (n : NewCoach) : State × Bool × Nat × Nat :=
  let (i, s) := s.drawIndex
  let (j, s) := s.drawFrame n.proto.ctx
  let c := { n.proto with gen := (s.yard.coach i).gen, frame := j }
  let s := s.modYard fun y => y.setCoach i c
  match n.copyOf with
  | none => (s, true, i, 0)
  | some t =>
    let (s, ok) := s.yardCopy slice (s.yard.coach t) c n.slots
    (s, ok, i, 2 * n.slots * slotBytes c.fmt.toNat c.hdim.toNat)

/-- State of carrying a plan out: machine, whether the arena held, indices of the chain being built, and copies made with their bytes. -/
structure YardRun where
  s : State
  ok : Bool
  chain : List Nat
  copies : Nat
  bytes : Nat
  deriving DecidableEq, Repr

/-- One item of a chain. -/
def YardRun.item (r : YardRun) (slice : Nat) (it : ChainItem) : YardRun :=
  match it with
  | .keep i => { r with chain := r.chain ++ [i] }
  | .share i => { r with s := r.s.modYard fun y => y.setCoach i { y.coach i with pendInc := (y.coach i).pendInc + 1 }, chain := r.chain ++ [i] }
  | .new n =>
    if !r.ok then r else
    let (s, ok, i, b) := r.s.makeCoach slice n
    ⟨s, ok, r.chain ++ [i], r.copies + b2n n.copyOf.isSome, r.bytes + b⟩

/-- One chain of a plan, and the berth's working chain replaced. -/
def YardRun.chainOf (r : YardRun) (slice berth : Nat) (c : Nat × List ChainItem) : YardRun :=
  let r := c.2.foldl (fun r it => r.item slice it) { r with chain := [] }
  { r with s := r.s.modYard fun y => y.setBerth berth ((y.berth berth).setWork c.1 r.chain) }

/-- Carry a plan out; none when the arena faulted, and then only the error remains. -/
def State.yardApply (s : State) (slice : Nat) (ctx : Nat) (p : YardPlan) : State × Option (Nat × Nat) :=
  let r := p.chains.foldl (fun r c => r.chainOf slice p.berth c) (⟨s, true, [], 0, 0⟩ : YardRun)
  if r.ok then
    let s := r.s.modCtx ctx fun k =>
      { k with
        journal := { changes := k.journal.changes + p.changes, removals := k.journal.removals ++ p.removals }
        step := k.step.map fun st => { st with coachLeft := st.coachLeft - p.news } }
    let s := s.count .cyd slice Off.cydCopies r.copies
    let s := s.count64 .cyd slice Off.cydCopyBytesLo r.bytes
    (s.count .vcyd ctx Off.cydCtxCopies r.copies, some (r.copies, r.bytes))
  else ({ r.s with yard := s.yard }, none)

/-! ### Results and execution -/

/-- The result record at RES (R191, R194); the serving engine keeps none in a wharf. -/
def State.yardResult (s : State) (c : YardCmd) (status : Nat) (data : List Byte) : State :=
  match c.issuer with
  | .core n => s.wharfWrite n c.res (toBytes 4 status ++ toBytes 4 c.seq.toNat ++ data)
  | .serving => s

/-- A command leaves the slice: its scoreboard entry is released (R237). -/
def State.yardRetire (s : State) (c : YardCmd) : State :=
  match c.issuer with
  | .core n => s.scbRelease n .cyd c.seq
  | .serving => s

/-- A refused command (R194). -/
def State.yardRefuse (s : State) (c : YardCmd) (status : Nat) : State :=
  ((s.yardResult c status []).count .vcyd c.ctx Off.cydCtxRefused).yardErr c.slice c.ctx 0x15 0

/-- A coach-table entry as INFO returns it (R188). -/
def Coach.info (c : Coach) : List Byte :=
  let st : Nat := match c.st with
    | .free => 0
    | .pending => 1
    | .live => 2
    | .limbo => 3
  toBytes 4 (st + c.ctx * 2 ^ 8 + c.fmt.toNat * 2 ^ 16 + c.hdim.toNat * 2 ^ 20 + c.fillC * 2 ^ 22)
  ++ toBytes 4 (c.fillW + c.pendInc * 2 ^ 8 + c.refs * 2 ^ 16) ++ toBytes 4 c.base.toNat ++ toBytes 4 c.kscale.toNat
  ++ toBytes 4 c.vscale.toNat ++ toBytes 4 c.score ++ toBytes 4 c.tick ++ toBytes 4 c.frame

/-- A berth entry as BINFO returns it (R190). -/
def Yard.binfo (y : Yard) (b : YardBerth) : List Byte :=
  let chain := if b.openC then b.comm 0 else []
  toBytes 4 (b2n b.openW + 2 * b2n b.releasing + b.ctx * 2 ^ 8 + (b.groups - 1) * 2 ^ 16 + (b.layers - 1) * 2 ^ 24)
  ++ toBytes 4 b.base0.toNat ++ toBytes 4 (y.chainLen b chain (·.fillC)) ++ toBytes 4 chain.length

/-- OPEN's effect (R193). -/
def Yard.open (y : Yard) (b : Nat) (ctx layers groups : Nat) (base0 : Word) : Yard :=
  y.setBerth b { openW := true, ctx := ctx, layers := layers, groups := groups, base0 := base0 }

/-- EVICT's effect: the coach leaves every working chain it is removed from (R193). -/
def Yard.evictFrom (y : Yard) (hs : List (Nat × Nat)) (i : Nat) : Yard :=
  hs.foldl (fun y h => y.setBerth h.1 ((y.berth h.1).setWork h.2 (((y.berth h.1).work h.2).filter (· != i)))) y

/-- Handles at the tails of the selected working chains (R193). -/
def Yard.tailHandles (y : Yard) (c : YardCmd) : List Byte :=
  let b := y.berth c.berth
  (c.chains b).flatMap fun ch => toBytes 4 (match (b.work ch).getLast? with
    | some i => y.handle i
    | none => 0)

/-- A command of a slice is carried out on an accepted berth or handle (R193, R194). -/
def State.yardDo (s : State) (c : YardCmd) (b : YardBerth) : State :=
  let none_ : YardPlan := { berth := c.berth, chains := [] }
  let plan := match c.op with
    | 2 => s.planAppend c b
    | 3 => s.planClaim c b
    | 4 => s.planFork c b
    | 5 => s.planRelease c b
    | _ => none_
  let ev := if c.op = 6 then s.yard.holders c.ctx (c.arg % 2 ^ 24) else []
  match s.yardStatus c b plan ev.length with
  | 0 =>
    match c.op with
    | 1 => (s.modYard fun y => y.open c.berth c.ctx (c.fld 4 8 8 + 1) (c.fld 4 16 6 + 1) (BitVec.ofNat 32 c.arg)).yardResult c 0 []
    | 6 =>
      let i := c.arg % 2 ^ 24
      let s := s.modYard fun y => y.evictFrom ev i
      (s.modCtx c.ctx fun k => { k with journal := { changes := k.journal.changes + ev.length, removals := k.journal.removals ++ ev.map fun _ => i } }).yardResult c 0 []
    | 7 =>
      let w := match c.chains b with
        | ch :: _ => b.work ch
        | [] => []
      s.yardResult c 0 ((List.range (c.fld 5 0 32)).flatMap fun k => toBytes 4 (match w[c.arg + k]? with
        | some i => s.yard.handle i
        | none => 0))
    | 8 => s.yardResult c 0 (s.yard.coach (c.arg % 2 ^ 24)).info
    | 9 => s.yardResult c 0 (s.yard.binfo b)
    | _ =>
      let s0 := if c.op = 4 then s.modYard fun y => y.open (c.fld 2 0 14) c.ctx b.layers b.groups b.base0 else s
      match s0.yardApply c.slice c.ctx plan with
      | (t, none) => { t with yard := s.yard }
      | (t, some (copies, _)) =>
        let t := if c.op = 5 ∧ c.arg = 0 then t.modYard fun y => y.setBerth c.berth { y.berth c.berth with releasing := true } else t
        t.yardResult c (if copies = 0 then 0 else 1) (if plan.returns then t.yard.tailHandles c else [])
  | st => s.yardRefuse c st

/-- CYD_RESULT_WRITTEN (R191): slice `m` executes its oldest command and writes its result. -/
def State.yardExec (s : State) (m : Nat) : State :=
  match s.yard.slice m with
  | [] => s
  | c :: rest =>
    if !s.diesOn then s else
    let s := s.modYard fun y => { y with slices := Tbl.put y.slices m rest }
    let s := s.count .cyd m Off.cydCmds
    let core := match c.issuer with
      | .core n => n
      | .serving => 0xFFFF
    let s :=
      if c.op = 6 ∨ c.op = 8 then
        match s.yard.named c.ctx c.arg with
        | none => s.yardErr m c.ctx 0x12 1 core
        | some _ => if wharfSize < c.res + c.resBytes {} then s.yardErr m c.ctx 0x10 1 core else s.yardDo c {}
      else if !s.ownsBerth c.ctx c.berth || (c.op == 4 && !s.ownsBerth c.ctx (c.fld 2 0 14)) then s.yardErr m c.ctx 0x11 1 core
      else
        let b := s.yard.berth c.berth
        if (b.openW && !c.inBerth b) || decide (wharfSize < c.res + c.resBytes b) then s.yardErr m c.ctx 0x10 1 core
        else s.yardDo c b
    s.yardRetire c

/-- CYD_RESULT_WRITTEN (R191). -/
def execCydResultWritten (slice : Fin 4) (s : State) : Host.Outcome State Fault Refusal := .next (s.yardExec slice)

/-! ### Writes by handle (R197) and scores (R201) -/

/-- A write of slots to a coach: its entry, or the condition that refuses it (R197). -/
def Yard.writable (y : Yard) (ctx h first n : Nat) : Except Nat (Nat × Coach) :=
  match y.named ctx h with
  | none => .error 0x12
  | some (i, c) =>
    if c.st = .limbo then .error 0x12
    else if c.wrefs ≠ 1 then .error 0x13
    else if c.fillC ≤ first ∧ first ≤ c.fillW ∧ first + n ≤ 64 then .ok (i, c)
    else .error 0x14

/-- A completed coach write moves the working fill mark (R197). -/
def Yard.filled (y : Yard) (i first n : Nat) : Yard :=
  let c := y.coach i
  y.setCoach i { c with fillW := max c.fillW (first + n) }

/-- SCORE_INCREMENT (R201): the oldest increment on its way is added, saturating; for a coach that is not LIVE or PENDING it is dropped. -/
def State.scoreArrive (s : State) : State :=
  match s.yard.scoreQ with
  | [] => s
  | (ctx, h, n) :: rest =>
    if !s.diesOn then s else
    s.modYard fun y =>
      let y := { y with scoreQ := rest }
      match y.named ctx h.toNat with
      | some (i, c) =>
        if c.st = .live ∨ c.st = .pending then y.setCoach i { c with score := min 0xFFFFFFFF (c.score + n) } else y
      | none => y

/-- SCORE_INCREMENT (R201). -/
def execScoreIncrement (s : State) : Host.Outcome State Fault Refusal := .next s.scoreArrive

/-! ### Step 4 (R199 to R202) -/

/-- What step 4 does with a context's journal. -/
inductive Verdict where
  | commit | discard | undecided
  deriving DecidableEq, Repr

/-- Increments and fill marks of a decided journal (R199 item 2). -/
def Coach.decide1 (c : Coach) (v : Verdict) (t : Nat) : Coach :=
  if c.st = .free then c
  else match v with
  | .undecided => c
  | .commit =>
    { c with refs := c.refs + c.pendInc, pendInc := 0, fillC := c.fillW, st := if c.st = .pending then .live else c.st,
             tick := if c.st = .pending then t else c.tick }
  | .discard =>
    { c with pendInc := 0, fillW := c.fillC, st := if c.st = .pending then .limbo else c.st, tick := if c.st = .pending then t else c.tick }

/-- A berth at the decision of its context's journal (R190, R199). -/
def YardBerth.decide1 (b : YardBerth) (v : Verdict) : YardBerth :=
  match v with
  | .undecided => b
  | .commit => if b.releasing then {} else { b with openC := b.openW, chainC := b.chainW }
  | .discard => if b.openC then { b with openW := true, releasing := false, chainW := b.chainC } else {}

/-- One reference removed (R199). -/
def Yard.dropRef (y : Yard) (i : Nat) : Yard := let c := y.coach i; y.setCoach i { c with refs := c.refs - 1 }

/-- LIVE coaches without references enter LIMBO (R199 item 3). -/
def Coach.limbo1 (c : Coach) (t : Nat) : Coach := if c.st = .live ∧ c.refs = 0 then { c with st := .limbo, tick := t } else c

/-- A coach in LIMBO for two edges is reclaimed (R199 item 4): its entry keeps only the next generation. -/
def Coach.reclaim1 (c : Coach) (t : Nat) : Coach := if c.st = .limbo ∧ c.tick + 2 ≤ t then { gen := c.gen + 1, tick := t } else c

/-- Items 1 to 4 of step 4 at edge `t`. -/
def State.yardDecide (s : State) (v : Nat → Verdict) (t : Nat) : State :=
  let removals := (s.ctxs.filter fun k => v k.1 == Verdict.commit).flatMap fun k => k.2.journal.removals
  let y := s.yard
  let y : Yard := { y with coaches := y.coaches.map fun e => (e.1, e.2.decide1 (v e.2.ctx) t), berths := y.berths.map fun e => (e.1, e.2.decide1 (v e.2.ctx)) }
  let y : Yard := removals.foldl Yard.dropRef y
  let y : Yard := { y with coaches := y.coaches.map fun e => (e.1, e.2.limbo1 t) }
  let gone := y.coaches.filter fun e => decide (e.2.st = .limbo ∧ e.2.tick + 2 ≤ t)
  let y : Yard := { y with coaches := y.coaches.map fun e => (e.1, e.2.reclaim1 t) }
  let s := { s with yard := y, ctxs := s.ctxs.map fun k => (k.1, if v k.1 = .undecided then k.2 else { k.2 with journal := {} }) }
  gone.foldl (fun s e => s.count .cyd (e.1 % 4) Off.cydReclaimed) s

/-- Coach `i` is eligible for eviction (R202). -/
def Yard.eligible (y : Yard) (ctx sink recent i : Nat) : Bool :=
  y.berths.all fun e => e.2.ctx != ctx || e.2.chainC.all fun c =>
    match c.2.findIdx? (· == i) with
    | none => true
    | some p => decide (sink ≤ p ∧ p + recent < c.2.length)

/-- Order of removal (R202). -/
def evictBefore (a b : Nat × Coach) : Bool :=
  decide (a.2.score < b.2.score) || (a.2.score == b.2.score &&
    (decide (a.2.base.toNat < b.2.base.toNat) || (a.2.base == b.2.base && decide (a.1 ≤ b.1))))

/-- A coach evicted: out of every chain, into LIMBO (R202). -/
def Yard.evict (y : Yard) (ctx i t : Nat) : Yard :=
  let drop (cs : Tbl (List Nat)) : Tbl (List Nat) := (cs.map fun c => (c.1, c.2.filter (· != i))).filter fun c => !c.2.isEmpty
  let y : Yard := { y with berths := y.berths.map fun e => (e.1, if e.2.ctx = ctx then { e.2 with chainC := drop e.2.chainC, chainW := drop e.2.chainW } else e.2) }
  y.setCoach i { y.coach i with refs := 0, st := .limbo, tick := t }

/-- Score decay and eviction of one context (R201, R202). -/
def State.yardTrim (s : State) (v : Nat → Verdict) (t ctx : Nat) : State :=
  let keep (lo w : Nat) : Nat := s.fld .vcyd ctx Off.cydCtxKeep lo w
  let decay := keep 16 4
  let s := if decay = 0 then s else s.modYard fun y =>
    { y with coaches := y.coaches.map fun e => (e.1, if e.2.st = .live ∧ e.2.ctx = ctx then { e.2 with score := e.2.score - e.2.score >>> decay } else e.2) }
  let mark := min (s.fld .vcyd ctx Off.cydCtxMark 0 24) (s.quota ctx)
  let used := s.yard.used ctx
  if used ≤ mark ∨ v ctx = .undecided then s
  else
    let es := sortBy evictBefore (s.yard.coaches.filter fun e => e.2.st == .live && e.2.ctx == ctx && s.yard.eligible ctx (keep 0 8) (keep 8 8) e.1)
    let want := min (used - mark) (keep 20 10)
    let out := es.take want
    let s := out.foldl (fun s e => (s.modYard fun y => y.evict ctx e.1 t).count .cyd (e.1 % 4) Off.cydEvicted) s
    let s := s.count .vcyd ctx Off.cydCtxEvictions out.length
    if out.length < want then (s.count .vcyd ctx Off.cydCtxBlocked).yardErr 0 ctx 0x16 0 else s

/-- Step 4 of edge `t` (R56, R199). -/
def State.yardEdge (s : State) (v : Nat → Verdict) (t : Nat) : State :=
  let s := s.yardDecide v t
  let ctxs := (s.yard.coaches.filter (·.2.st != .free)).map (·.2.ctx)
  ((List.range 256).filter fun k => ctxs.contains k).foldl (fun s k => s.yardTrim v t k) s

/-- Queued commands of a context discarded without results (R367). -/
def State.yardDrop (s : State) (ctx : Nat) : State :=
  s.modYard fun y => { y with slices := y.slices.map fun q => (q.1, q.2.filter fun c => c.ctx != ctx) }

end Sys2Proof.Machine
end

