-- ==== Sys2Proof/Machine/Atp.lean ====
section
/-! DEFINITION. The attention pipeline: jobs, decode and prefill arithmetic, coach scores (R160 to R166, R174 to R181). -/

namespace Sys2Proof.Machine

/-! ### The job descriptor (R176) -/

/-- OP: 0 = decode, 1 = prefill. -/
def atOp (raw : Nat) : Nat := descFld raw 0 0 2
/-- QFMT. -/
def atQfmt (raw : Nat) : Nat := descFld raw 0 2 4
/-- KFMT. -/
def atKfmt (raw : Nat) : Nat := descFld raw 0 6 4
/-- HEADS. -/
def atHeads (raw : Nat) : Nat := descFld raw 0 10 5
/-- HDIM in elements. -/
def atHdim (raw : Nat) : Nat := hdimOf (descFld raw 0 15 2)
/-- DEST. -/
def atDest (raw : Nat) : Nat := descFld raw 0 19 2
/-- VFMT is BF16. -/
def atBf (raw : Nat) : Bool := descFld raw 0 21 1 == 1
/-- OFMT. -/
def atOfmt (raw : Nat) : Nat := descFld raw 0 22 4
/-- Query blocks of 32 rows of a prefill job. -/
def atBlocks (raw : Nat) : Nat := descFld raw 0 26 3 + 1
/-- Query rows of a job (R160, R162). -/
def atRows (raw : Nat) : Nat := if atOp raw = 1 then 32 * atBlocks raw else 1
/-- Records of a job (R156). -/
def atRecs (raw : Nat) : Nat := atHeads raw * atRows raw
/-- Coach handles in the list. -/
def atCount (raw : Nat) : Nat := descFld raw 4 0 16
/-- MSLOT. -/
def atSlot (raw : Nat) : Nat := descFld raw 8 0 4
/-- EXPECT. -/
def atExpect (raw : Nat) : Nat := descFld raw 8 4 16
/-- TARGET. -/
def atTarget (raw : Nat) : Nat := descFld raw 8 20 1
/-- TCORE. -/
def atTcore (raw : Nat) : Nat := descFld raw 8 21 4
/-- MNORM. -/
def atNorm (raw : Nat) : Bool := descFld raw 8 25 1 == 1

/-- The allowed-pairs table (R164). -/
def allowedPair (c : Nat) : Bool := [0x11, 0x13, 0x14, 0x1B, 0x1C, 0x22, 0x23, 0x24, 0x33, 0x34, 0x43, 0x44].contains c

/-- The pair code of a job (R164). -/
def atPair (raw : Nat) : Nat := atQfmt raw * 16 + atKfmt raw

/-- Rate class of a prefill job's pair (R164). -/
def atClass (raw : Nat) : RateClass := if atQfmt raw ≤ 2 then .h else .b

/-- PFMT (R162). -/
def atPfmt (raw : Nat) : Nat := if atQfmt raw ≤ 2 then atQfmt raw else 3

/-- Bytes of the queries (R162, R176). -/
def atQBytes (raw : Nat) : Nat :=
  if atOp raw = 1 then atBlocks raw * atHeads raw * (atHdim raw + 31) * pitchOf (atClass raw) 32
  else atHeads raw * atHdim raw * elemBits (atQfmt raw) / 8

/-- Bytes of records written as partials or normalised (R156, R159). -/
def atOutBytes (raw : Nat) (norm : Bool) : Nat :=
  if norm then atRecs raw * atHdim raw * outElemBytes (atOfmt raw) else atRecs raw * recBytes (atHdim raw) (atBf raw)

/-- The first rule of R177 a descriptor breaks on core lane `lane`, as far as `atq` judges; `declared` = the pair is among the manifest's PAIRS. HEADS above 16 and COUNT above 4,096 are outside their fields' ranges and count as BAD_JOB. -/
def atRefusal (raw lane : Nat) (declared : Bool) : Option Nat :=
  let op := atOp raw
  let d2 := atDest raw == 2
  let reserved := descFld raw 0 29 3 != 0 || descFld raw 1 21 11 != 0 || descFld raw 2 21 11 != 0 || descFld raw 3 21 11 != 0
    || descFld raw 4 16 16 != 0 || bitsAt raw (32 * 11) 160 != 0
    || (d2 && (descFld raw 8 26 6 != 0 || descFld raw 9 21 11 != 0 || descFld raw 10 8 8 != 0))
  if decide (1 < op) || descFld raw 0 15 2 == 3 || atDest raw == 3 || reserved
    || atHeads raw == 0 || decide (16 < atHeads raw) || (op == 0 && descFld raw 0 26 3 != 0) || decide (4 < atOfmt raw)
    || !allowedPair (atPair raw) || (d2 && !bitAt (atExpect raw) lane) || decide (4096 < atCount raw)
    || (op == 1 && decide (262144 < atHeads raw * 32 * atHdim raw * 4))
    || (descFld raw 0 18 1 == 1 && (op == 1 || decide (1024 < atCount raw))) then some 0x10
  else if !declared then some 0x11
  else
    let q := descFld raw 1 0 21
    let out := descFld raw 2 0 21
    let list := descFld raw 3 0 21
    let mdst := descFld raw 9 0 21
    let bad := q % (if op = 1 then 32 else 64) != 0 || !inWharf q (atQBytes raw)
      || list % 4 != 0 || !inWharf list (4 * atCount raw)
      || (!d2 && (out % 8 != 0 || !inWharf out (atOutBytes raw (atDest raw == 1))))
      || (d2 && atTarget raw == 0 && (mdst % 8 != 0 || !inWharf mdst (atOutBytes raw (atNorm raw))))
    if bad then some 0x14 else none

/-- Ranges an accepted job declares (R175). -/
def atRanges (raw : Nat) : List ScbRange :=
  wharfRange (descFld raw 1 0 21) (atQBytes raw) false ++ wharfRange (descFld raw 3 0 21) (4 * atCount raw) false
  ++ (if atDest raw < 2 then wharfRange (descFld raw 2 0 21) (atOutBytes raw (atDest raw == 1)) true else [])

/-! ### atq (R175) -/

/-- The running context's step declared a pair (R59, R165). -/
def State.pairDeclared (s : State) (ctx pair : Nat) : Bool :=
  match (s.ctx ctx).step with
  | some t => (List.range 4).any fun i => bitsAt t.pairs.toNat (8 * i) 8 == pair
  | none => false

/-- `atq` with the descriptor at s[rs], where its OP is that of the row, or reserved (R175, R177). -/
def State.atqOp (s : State) (core : Nat) (rs : BitVec 5) (op : Nat) : State :=
  if !s.scalarRuns core then s else
  if s.isResetting ⟨.atp, core⟩ then s.stall core .queue else
  let seq := s.rd .atp core Off.atpJobSeq + 1
  match s.readDesc core (s.sreg core rs) 64 64 with
  | none => (s.atReject core 0x14 0 seq).retire core
  | some raw =>
    if atOp raw ≠ op ∧ atOp raw ≤ 1 then s
    else
      match atRefusal raw (core % 16) (s.pairDeclared ((s.coreCtx core).getD 0) (atPair raw)) with
      | some cond => (s.atReject core cond (atOp raw) seq).retire core
      | none =>
        let k := s.core core
        if 8 ≤ k.jobs.length ∨ (op = 1 ∧ mxQueueSize ≤ k.mxq.length) then s.stall core .queue
        else if k.scbFull then s.stall core .full
        else
          let (seq, s) := s.nextSeq .atp core Off.atpJobSeq
          let s := s.scbAdd core .atp seq (atRanges raw)
          let s := s.modCore core fun c =>
            { c with jobs := c.jobs ++ [⟨BitVec.ofNat 512 raw, seq⟩]
                     mxq := if op = 1 then c.mxq ++ [⟨0, seq, 0, true⟩] else c.mxq }
          let s := if op = 1 then s.highWater .mxa core Off.mxaQueue 8 5 (s.core core).mxq.length else s
          s.retire core

/-- ATQ_DECODE (R161, R175). -/
def execAtqDecode (core : Fin 512) (rs : BitVec 5) (s : State) : Host.Outcome State Fault Refusal := .next (s.atqOp core rs 0)
/-- ATQ_PREFILL (R162, R175). -/
def execAtqPrefill (core : Fin 512) (rs : BitVec 5) (s : State) : Host.Outcome State Fault Refusal := .next (s.atqOp core rs 1)

/-! ### Arithmetic (R161, R162, R174) -/

/-- Map with a tally. -/
def mapT (f : α → Tally → β × Tally) : List α → Tally → List β × Tally
  | [], t => ([], t)
  | a :: as, t =>
    let (b, t) := f a t
    let (bs, t) := mapT f as t
    (b :: bs, t)

/-- Neighbours combined. -/
def pairUp (f : α → α → Tally → Nat × Tally) : List α → Tally → List Nat × Tally
  | a :: b :: r, t =>
    let (x, t) := f a b t
    let (xs, t) := pairUp f r t
    (x :: xs, t)
  | _, t => ([], t)

/-- An FP32 result with its tally. -/
def opT (loc : Nat × Nat × Nat × Nat) (r : FpRes) (t : Tally) : Nat × Tally := (r.v, t.op loc r)

/-- The levels of a pairwise tree above its first (R161). -/
def dotTree (fl : Bool) (loc : Nat × Nat × Nat × Nat) : Nat → List Nat → Tally → Nat × Tally
  | 0, xs, t => (xs.headD 0, t)
  | n + 1, xs, t =>
    match xs with
    | [x] => (x, t)
    | _ =>
      let (ys, t) := pairUp (fun a b t => opT loc (add32 fl a b) t) xs t
      dotTree fl loc n ys t

/-- dot(): exact products summed in a fixed pairwise tree, each node rounded to FP32 (R161). -/
def dotProduct (fl : Bool) (loc : Nat × Nat × Nat × Nat) (q k : List Fv) (t : Tally) : Nat × Tally :=
  let (xs, t) := pairUp (fun (a b : Exact) t =>
    let x := a.v.add b.v
    opT loc (round32 fl ⟨x.v, x.inv || a.inv || b.inv⟩) t) (List.zipWith Fv.mul q k) t
  dotTree fl loc 8 xs t

/-- A chain of products accumulated in FP32 from +0: an array cell (R109), or the value unit with its fma (R161). -/
def macChain (fl : Bool) (loc : Nat × Nat × Nat × Nat) (xs : List (Fv × Fv)) (t : Tally) : Nat × Tally :=
  xs.foldl (fun p x => opT loc (round32 fl (x.1.fma x.2 (read32 fl p.1))) p.2) (0, t)

/-- A coach as a job resolved it and read it (R160): scales, and the elements of its slots by slot number. -/
structure AtCoach where
  handle : Nat
  base : Nat
  fill : Nat
  kscale : Nat
  vscale : Nat
  keys : Tbl (List Nat)
  vals : Tbl (List Nat)
  deriving DecidableEq, Repr

/-- Position `p` is admitted for query row `r` (R160). -/
def atAdmits (raw r p : Nat) : Bool :=
  let q := descFld raw 5 0 32 + r
  let w := descFld raw 6 0 32
  (descFld raw 0 17 1 == 0 || decide (p ≤ q)) && (w == 0 || decide (q < p + w))

/-- Slots of a coach admitted for row `r`, ascending. -/
def AtCoach.slots (c : AtCoach) (raw r : Nat) : List Nat := (List.range c.fill).filter fun i => atAdmits raw r (c.base + i)

/-- Key of a slot as values (R164). -/
def AtCoach.key (c : AtCoach) (kf i : Nat) : List Fv := (Tbl.get c.keys i []).map (elemValue kf)
/-- Value vector of a slot. -/
def AtCoach.val (c : AtCoach) (kf i : Nat) : List Fv := (Tbl.get c.vals i []).map (elemValue kf)

/-- Maximum of FP32 codes, from −∞. -/
def maxOf (xs : List Nat) : Nat := xs.foldl max32 fninf

/-- m, g, the exponentials and the new l of one soft-maximum step (R161). -/
structure SoftStep where
  m2 : Nat
  g : Nat
  e : List Nat
  l : Nat
  deriving DecidableEq, Repr

/-- One soft-maximum step over scores by column (R161, R162). -/
def softStep (fl : Bool) (loc : Nat → Nat × Nat × Nat × Nat) (r : PartialRec) (ss : List (Nat × Nat)) (t : Tally) : SoftStep × Tally :=
  let c0 := loc ((ss.headD (0, 0)).1)
  let m2 := max32 r.m.toNat (maxOf (ss.map (·.2)))
  let (g, t) := opT c0 (factor fl r.m.toNat m2) t
  let (e, t) := mapT (fun (x : Nat × Nat) t => opT (loc x.1) (factor fl x.2 m2) t) ss t
  let (sum, t) := e.foldl (fun (p : Nat × Tally) x => opT c0 (add32 fl p.1 x) p.2) (0, t)
  let (l, t) := opT c0 (fma32 fl r.l.toNat g sum) t
  (⟨m2, g, e, l⟩, t)

/-- Local maximum and sum of a coach for one head (R174). -/
def localScore (fl : Bool) (loc : Nat × Nat × Nat × Nat) (ss : List Nat) (t : Tally) : (Nat × Nat) × Tally :=
  let mc := maxOf ss
  let (l, t) := ss.foldl (fun (p : Nat × Tally) x =>
    let (f, t) := opT loc (factor fl x mc) p.2
    opT loc (add32 fl p.1 f) t) (0, t)
  ((mc, l), t)

/-- One coach and one head of a decode job (R161): the new partial, and the local maximum and sum when scores are wanted. -/
def decodeHead (fl score : Bool) (raw : Nat) (c : AtCoach) (h : Nat) (q : List Fv) (r : PartialRec) (t : Tally) : (PartialRec × Nat × Nat) × Tally :=
  let kf := atKfmt raw
  let slots := c.slots raw 0
  let loc (i : Nat) : Nat × Nat × Nat × Nat := (h, c.handle, 0, i)
  let c0 := loc (slots.headD 0)
  let (sc, t) := opT c0 (mul32 fl (descFld raw 7 0 32) c.kscale) t
  let (ss, t) := mapT (fun i t =>
    let (d, t) := dotProduct fl (loc i) q (c.key kf i) t
    let (x, t) := opT (loc i) (mul32 fl sc d) t
    ((i, x), t)) slots t
  let (k, t) := softStep fl loc r ss t
  let es := k.e.zip slots
  let (o, t) := mapT (fun (p : Word × Nat) t =>
    let (w, t) := macChain fl c0 (es.map fun x => (read32 fl x.1, (c.val kf x.2).getD p.2 (.fin false 0 0))) t
    let (w, t) := opT c0 (mul32 fl c.vscale w) t
    let (y, t) := opT c0 (fma32 fl p.1.toNat k.g w) t
    (BitVec.ofNat 32 y, t)) r.o.zipIdx t
  let (ms, t) := if score then localScore fl c0 (ss.map (·.2)) t else ((0, 0), t)
  ((⟨BitVec.ofNat 32 k.m2, BitVec.ofNat 32 k.l, o⟩, ms.1, ms.2), t)

/-- One coach of a decode job over all heads; nothing where no slot is admitted (R161). -/
def decodeCoach (fl : Bool) (raw : Nat) (qs : List (List Fv)) (c : AtCoach) (rs : List PartialRec) (t : Tally) :
    (List PartialRec × Option (List (Nat × Nat))) × Tally :=
  if (c.slots raw 0).isEmpty then ((rs, none), t)
  else
    let score := descFld raw 0 18 1 == 1
    let (xs, t) := mapT (fun (p : (PartialRec × List Fv) × Nat) t => decodeHead fl score raw c p.2 p.1.2 p.1.1 t) (rs.zip qs).zipIdx t
    ((xs.map (·.1), some (xs.map (·.2))), t)

/-- Every coach of a decode job in list order: the partials, and each coach's local scores (R161, R174). -/
def decodeCoaches (fl : Bool) (raw : Nat) (qs : List (List Fv)) : List AtCoach → List PartialRec → Tally →
    (List PartialRec × List (Nat × List (Nat × Nat))) × Tally
  | [], rs, t => ((rs, []), t)
  | c :: cs, rs, t =>
    let ((rs, loc), t) := decodeCoach fl raw qs c rs t
    let ((rs, ls), t) := decodeCoaches fl raw qs cs rs t
    ((rs, match loc with
      | some l => (c.handle, l) :: ls
      | none => ls), t)

/-- Sum over heads of round(lc × f(mc, m)) / l (R174). -/
def scoreSum (fl : Bool) (ls : List ((Nat × Nat) × PartialRec)) : Nat :=
  ls.foldl (fun a x =>
    if x.2.l = 0 then a
    else (add32 fl a (div32 fl (mul32 fl x.1.2 (factor fl x.1.1 x.2.m.toNat).v).v x.2.l.toNat).v).v) 0

/-- A coach's increment (R174); none where the sum is NaN, for which the spec states no value. -/
def scoreInc (sum : Nat) : Option Nat :=
  match fp32.decode sum with
  | .nan => none
  | .inf n => some (if n then 0 else 2 ^ 20 - 1)
  | .fin n m e => some (if n then 0 else min (2 ^ 20 - 1) (if 0 ≤ e then 4096 * m <<< e.toNat else 4096 * m / 2 ^ (-e).toNat))

/-- Query element `k` of row `i` in a skewed block at byte `base` of the queries (R94, R162). -/
def prefillQ (raw : Nat) (q : List Byte) (base i k : Nat) : Fv :=
  let c := atClass raw
  elemValue (atQfmt raw) (numAt q (skewOff c 32 base k i) c.lane)

/-- A key column of a prefill block: its coach and slot, where one exists below the fill mark. -/
def prefillCols (cs : List AtCoach) : List (Nat × Option (AtCoach × Nat)) :=
  (List.range 128).map fun j => (j, match cs[j / 64]? with
    | some c => if j % 64 < c.fill then some (c, j % 64) else none
    | none => none)

/-- The column is admitted for row `r`. -/
def colAdmitted (raw r : Nat) (x : Nat × Option (AtCoach × Nat)) : Bool :=
  match x.2 with
  | some (c, i) => atAdmits raw r (c.base + i)
  | none => false

/-- One row, one head and one key block of a prefill job (R162). -/
def prefillRow (fl : Bool) (raw : Nat) (q : List Byte) (qb : Nat) (cols : List (Nat × Option (AtCoach × Nat))) (i h : Nat)
    (r : PartialRec) (t : Tally) : PartialRec × Tally :=
  let row := 32 * qb + i
  let on := cols.filter (colAdmitted raw row)
  if on.isEmpty then (r, t)
  else
    let kf := atKfmt raw
    let hd := atHdim raw
    let base := (qb * atHeads raw + h) * (hd + 31) * pitchOf (atClass raw) 32
    let qv := (List.range hd).map (prefillQ raw q base i)
    let handle (j : Nat) : Nat := match (cols.getD j (0, none)).2 with
      | some (c, _) => c.handle
      | none => 0
    let loc (j : Nat) : Nat × Nat × Nat × Nat := (h, handle j, row, j)
    let (ss, t) := mapT (fun (x : Nat × Option (AtCoach × Nat)) t => match x.2 with
      | some (c, k) =>
        let (d, t) := macChain fl (loc x.1) (qv.zip (c.key kf k)) t
        let (sc, t) := opT (loc x.1) (mul32 fl (descFld raw 7 0 32) c.kscale) t
        let (y, t) := opT (loc x.1) (mul32 fl d sc) t
        ((x.1, y), t)
      | none => ((x.1, fninf), t)) on t
    let (k, t) := softStep fl loc r ss t
    let exps : Tbl Nat := (ss.map (·.1)).zip k.e
    let (ps, t) := mapT (fun (x : Nat × Option (AtCoach × Nat)) t => match x.2 with
      | some (c, slot) =>
        let (p, t) := opT (loc x.1) (mul32 fl (Tbl.get exps x.1 0) c.vscale) t
        let (code, clamp) := toFloat (outFmt (atPfmt raw)) false p
        ((elemValue (atPfmt raw) code, c.val kf slot), { t with clamp := t.clamp + b2n clamp })
      | none => ((Fv.fin false 0 0, []), t)) cols t
    let (o, t) := mapT (fun (p : Word × Nat) t =>
      let (tile, t) := macChain fl (loc 0) (ps.map fun x => (x.1, x.2.getD p.2 (.fin false 0 0))) t
      let (y, t) := opT (loc 0) (fma32 fl p.1.toNat k.g tile) t
      (BitVec.ofNat 32 y, t)) r.o.zipIdx t
    (⟨BitVec.ofNat 32 k.m2, BitVec.ofNat 32 k.l, o⟩, t)

/-- The coaches of a list two by two: the key blocks (R162). -/
def keyBlocks : Nat → List AtCoach → List (List AtCoach)
  | 0, _ => []
  | n + 1, cs => match cs with
    | [] => []
    | _ => cs.take 2 :: keyBlocks n (cs.drop 2)

/-- One query block of a prefill job: key blocks in order, records row-major by head (R162). -/
def prefillBlock (fl : Bool) (raw : Nat) (q : List Byte) (blocks : List (List AtCoach)) (qb : Nat) (t : Tally) : List PartialRec × Tally :=
  blocks.foldl (fun (p : List PartialRec × Tally) cs =>
    let cols := prefillCols cs
    mapT (fun (x : PartialRec × Nat) t => prefillRow fl raw q qb cols (x.2 / atHeads raw) (x.2 % atHeads raw) x.1 t) p.1.zipIdx p.2)
    (List.replicate (32 * atHeads raw) (identityRec (atHdim raw)), t)

/-- Admitted head-positions of a job (R180 POS). -/
def atPositions (raw : Nat) (cs : List AtCoach) : Nat :=
  atHeads raw * ((List.range (atRows raw)).foldl (fun n r => n + cs.foldl (fun n c => n + (c.slots raw r).length) 0) 0)

/-- Partials, scores and tally of a job from its queries and coaches. -/
def atCompute (fl : Bool) (raw : Nat) (q : List Byte) (cs : List AtCoach) : List PartialRec × List (Nat × Option Nat) × Tally :=
  if atOp raw = 1 then
    let (rs, t) := mapT (prefillBlock fl raw q (keyBlocks cs.length cs)) (List.range (atBlocks raw)) {}
    (rs.flatten, [], t)
  else
    let hd := atHdim raw
    let qs := (List.range (atHeads raw)).map fun h => (List.range hd).map fun j => elemValue (atQfmt raw) (elemAt (atQfmt raw) q (h * hd + j))
    let ((rs, ls), t) := decodeCoaches fl raw qs cs (List.replicate (atHeads raw) (identityRec hd)) {}
    (rs, ls.filterMap fun l =>
      match scoreInc (scoreSum fl (l.2.zip rs)) with
      | some 0 => none
      | x => if descFld raw 0 18 1 = 1 then some (l.1, x) else none, t)

/-! ### Start of a job (R160, R165) -/

/-- A coach count of a core for a context (R180). -/
def State.countAtp (s : State) (core off n : Nat) : State :=
  match s.coreCtx core with
  | some ctx => s.count .atp core off n ctx
  | none => s

/-- The running job, the claim and the scoreboard entry of a job are gone (R175, R179). -/
def State.atFinish (s : State) (core : Nat) (j : AtJob) : State :=
  let s := s.modCore core fun k =>
    let k := { k with job := none }
    if atOp j.raw.toNat = 1 then [2, 3].foldl (fun k a => k.modArray a fun x => { x with coupled := false }) k else k
  s.scbRelease core .atp j.seq

/-- A started job stops on a fault: nothing further is written or sent (R165, R177). -/
def State.atStop (s : State) (core : Nat) (j : AtJob) (cond : Option Nat) : State :=
  let s := s.atFinish core j
  match cond with
  | some c => s.atReject core c (atOp j.raw.toNat) j.seq
  | none => s

/-- The coach a handle names in a context, unless it is in LIMBO (R187, R200). -/
def Yard.resolved (y : Yard) (ctx h : Nat) : Option Coach :=
  (y.named ctx h).bind fun x => if x.2.st = .limbo then none else some x.2

/-- The coaches a list of handles names: COACH_FORMAT before COACH_FAULT, the order of R177 (R160, R165, R200). -/
def State.atResolve (s : State) (ctx raw : Nat) (hs : List Nat) : Except Nat (List (Nat × Coach)) :=
  let cs := hs.map fun h => (h, s.yard.resolved ctx h)
  if cs.any fun x => match x.2 with
      | some c => c.fmt.toNat != atKfmt raw || c.hdim.toNat != descFld raw 0 15 2
      | none => false then .error 0x12
  else if cs.any (·.2.isNone) then .error 0x13
  else .ok (cs.filterMap fun x => x.2.map fun c => (x.1, c))

/-- Condition of a failed read of coach data (R177); a poisoned table entry has been raised by the memory system. -/
def atReadCond : MemErr → Option Nat
  | .xlate => some 0x13
  | .poison => some 0x15
  | .table => none

/-- Elements of a key or value read at a DVA. -/
def State.atVector (s : State) (core ctx fmt hd dva : Nat) : State × Except MemErr (List Nat) :=
  match s.memRead core ctx dva (hd * elemBits fmt / 8) with
  | (s, .ok bs) => (s, .ok ((List.range hd).map (elemAt fmt bs)))
  | (s, .error e) => (s, .error e)

/-- Keys and values of some slots of a coach. -/
def State.atSlots (s : State) (core ctx raw : Nat) (c : Coach) : List Nat → AtCoach → State × Except MemErr AtCoach
  | [], a => (s, .ok a)
  | i :: is, a =>
    match s.atVector core ctx (atKfmt raw) (atHdim raw) (s.keyDva c i) with
    | (s, .error e) => (s, .error e)
    | (s, .ok k) =>
      match s.atVector core ctx (atKfmt raw) (atHdim raw) (s.valueDva c i) with
      | (s, .error e) => (s, .error e)
      | (s, .ok v) => State.atSlots s core ctx raw c is { a with keys := Tbl.put a.keys i k, vals := Tbl.put a.vals i v }

/-- The coaches of a job read in list order: of each, the slots admitted for some row (R160). -/
def State.atCoaches (s : State) (core ctx raw : Nat) : List (Nat × Coach) → List AtCoach → State × Except MemErr (List AtCoach)
  | [], acc => (s, .ok acc)
  | x :: xs, acc =>
    let a : AtCoach := ⟨x.1, x.2.base.toNat, x.2.fillW, x.2.kscale.toNat, x.2.vscale.toNat, [], []⟩
    let need := (List.range a.fill).filter fun i => (List.range (atRows raw)).any fun r => atAdmits raw r (a.base + i)
    let s := if need.isEmpty then s else s.count .atp core Off.atpCoaches
    match s.atSlots core ctx raw x.2 need a with
    | (s, .error e) => (s, .error e)
    | (s, .ok a) => State.atCoaches s core ctx raw xs (acc ++ [a])

/-- Scores with a free value where the spec states none (R174). -/
def State.atScores (s : State) : List (Nat × Option Nat) → List (Word × Nat) → State × List (Word × Nat)
  | [], acc => (s, acc)
  | (h, some n) :: xs, acc => State.atScores s xs (acc ++ [(BitVec.ofNat 32 h, n)])
  | (h, none) :: xs, acc =>
    let (k, s) := s.draw
    State.atScores s xs (acc ++ [(BitVec.ofNat 32 h, Config.freeNat k % 2 ^ 20)])

/-- Produced NaNs of a job: counted, and the first reported with its place (R121, R184). -/
def State.atTally (s : State) (core ctx : Nat) (j : AtJob) (t : Tally) : State :=
  let raw := j.raw.toNat
  let s := ((s.countAtp core Off.atpCtxNancnt t.nan).countAtp core Off.atpCtxFlush t.flush).countAtp core Off.atpCtxClamp t.clamp
  match t.first with
  | none => s
  | some (h, handle, row, col) => s.reportCore core ctx
      { engine := 4, cause := 1, core := core, unit := h + atOp raw * 16, seq := j.seq.toNat, opa := descFld raw 1 0 21, opb := handle, row := row, col := col }

/-- A job computes: handles resolved, coaches read, partials formed (R160 to R162). -/
def State.atRun (s : State) (core ctx : Nat) (j : AtJob) : State :=
  let raw := j.raw.toNat
  let hs := (List.range (atCount raw)).map fun i => ofBytes (s.wharfRead core (descFld raw 3 0 21 + 4 * i) 4)
  match s.atResolve ctx raw hs with
  | .error cond => s.atStop core j (some cond)
  | .ok cs =>
    match s.atCoaches core ctx raw cs [] with
    | (s, .error e) => s.atStop core j (atReadCond e)
    | (s, .ok as) =>
      let (rs, scores, t) := atCompute (s.flush32 ctx) raw (s.wharfRead core (descFld raw 1 0 21) (atQBytes raw)) as
      let (s, scores) := s.atScores scores []
      let s := s.count64 .atp core Off.atpPosLo (atPositions raw as)
      let s := s.modCore core fun k => { k with job := some ⟨j, rs, scores⟩ }
      s.atTally core ctx j t

/-- The head job may start: none runs, the scoreboard allows it, and a prefill job holds its claim (R175, R237). -/
def Core.atStartable (k : Core) (j : AtJob) : Bool :=
  k.job.isNone && !k.scbBlocked .atp j.seq
  && (atOp j.raw.toNat != 1 || ((k.array 2).coupled && (k.array 3).coupled))

/-- ATP_JOB_START (R160, R175): the oldest queued job starts. -/
def State.atpStart (s : State) (core : Nat) : State :=
  match (s.core core).jobs, s.coreCtx core with
  | j :: rest, some ctx =>
    if s.diesOn && (s.core core).atStartable j then
      (s.modCore core fun k => { k with jobs := rest }).atRun core ctx j
    else s
  | _, _ => s

/-- ATP_JOB_START (R160). -/
def execAtpJobStart (core : Fin 512) (s : State) : Host.Outcome State Fault Refusal := .next (s.atpStart core)

/-! ### End of a job (R156, R159, R174, R175) -/

/-- The records of a job are written or sent. -/
def State.atDeliver (s : State) (core ctx : Nat) (r : AtRun) : State :=
  let raw := r.job.raw.toNat
  let out := descFld raw 2 0 21
  if atDest raw = 1 then
    let (bs, t, empty) := normBytes (s.flush32 ctx) (atOfmt raw) (0, 0, 0, 0) r.recs {}
    let s := (s.wharfWrite core out bs).countAtp core Off.atpCtxEmpty empty
    let t := { t with first := t.first.map fun x => (x.2.2.1 % atHeads raw, 0, x.2.2.1 / atHeads raw, x.2.2.2) }
    s.atTally core ctx r.job t
  else
    let (rs, t) := recsInFormat (atBf raw) r.recs {}
    let s := s.atTally core ctx r.job t
    if atDest raw = 0 then s.wharfWrite core out (rs.flatMap fun x => x.bytes (atBf raw))
    else s.modCluster (core / 16) fun c => { c with inbox := c.inbox ++ [⟨Fin.ofNat 16 core, r.job.raw, r.job.seq, rs⟩] }

/-- ATP_JOB_END (R175): the last output is written or sent, and the score increments leave for the yard. -/
def State.atpEnd (s : State) (core : Nat) : State :=
  match (s.core core).job, s.coreCtx core with
  | some r, some ctx =>
    if !s.diesOn then s else
    let s := s.atDeliver core ctx r
    let s := s.modYard fun y => { y with scoreQ := y.scoreQ ++ (r.scores.filter fun x => x.2 != 0).map fun x => (ctx, x.1, x.2) }
    s.atFinish core r.job
  | _, _ => s

/-- ATP_JOB_END (R175). -/
def execAtpJobEnd (core : Fin 512) (s : State) : Host.Outcome State Fault Refusal := .next (s.atpEnd core)

/-- The attention pipeline of a core is cleared (R179). -/
def Core.clearAtp (k : Core) : Core :=
  { k with jobs := [], job := none, mxq := k.mxq.filter fun c => !c.claim
           scb := k.scb.filter fun e => e.owner != .atp
           arrays := k.arrays.map fun a => (a.1, { a.2 with coupled := false }) }

end Sys2Proof.Machine
end

