-- ==== Sys2Proof/Machine/Plan.lean ====
section
/-! DEFINITION. The flight plan's fields (R294), the links a plan and a port use (R285, R298), and port emptiness. -/

namespace Sys2Proof.Machine

/-! ### Fields of a plan (R294) -/

/-- `n` bytes of a plan at an offset, as a number. -/
def planNum (b : List Byte) (off n : Nat) : Nat := ofBytes ((b.drop off).take n)

/-- Header word `i` of a plan. -/
def planWord (b : List Byte) (i : Nat) : Nat := planNum b (4 * i) 4

/-- MEMBERS of a plan. -/
def planN (b : List Byte) : Nat := bitsAt (planWord b 1) 0 13

/-- FLIGHT of a plan. -/
def planFlight (b : List Byte) : Nat := bitsAt (planWord b 0) 16 16

/-- DIAMETER of a plan. -/
def planDiameter (b : List Byte) : Nat := bitsAt (planWord b 1) 16 4

/-- OVR_POLICY of a plan: true = ABORT. -/
def planAbort (b : List Byte) : Bool := bitAt (planWord b 1) 20

/-- SERIAL of member `i`. -/
def planSerial (b : List Byte) (i : Nat) : Nat := planNum b (64 + 16 * i) 8

/-- TIMING_PARENT of member `i`. -/
def planParent (b : List Byte) (i : Nat) : Nat := bitsAt (planNum b (64 + 16 * i + 8) 4) 0 12

/-- TIMING_LP of member `i`. -/
def planTimingLp (b : List Byte) (i : Nat) : Nat := bitsAt (planNum b (64 + 16 * i + 8) 4) 12 5

/-- The adjacency entry of link `l` of member `i`. -/
def planAdj (b : List Byte) (i l : Nat) : Nat := planNum b (64 + 16 * planN b + 4 * (18 * i + l)) 4

/-- PEER of an adjacency entry. -/
def adjPeer (e : Nat) : Nat := bitsAt e 0 12
/-- PEER_LINK of an adjacency entry. -/
def adjLink (e : Nat) : Nat := bitsAt e 12 5
/-- LP of an adjacency entry. -/
def adjPort (e : Nat) : Nat := bitsAt e 17 5
/-- ANY_LINK of an adjacency entry. -/
def adjAny (e : Nat) : Bool := bitAt e 22
/-- CABLED of an adjacency entry. -/
def adjCabled (e : Nat) : Bool := bitAt e 23

/-- Offset of the local part. -/
def planLocal (b : List Byte) : Nat := 64 + 88 * planN b

/-- SELF: this member's index. -/
def planSelf (b : List Byte) : Nat := bitsAt (planNum b (planLocal b) 4) 0 12

/-- The route entry of member `m`. -/
def planRoute (b : List Byte) (m : Nat) : Nat := planNum b (planLocal b + 4 + 2 * m) 2

/-- The next-hop port toward member `m`. -/
def planPortTo (b : List Byte) (m : Nat) : Nat := bitsAt (planRoute b m) 0 5

/-- HOPS toward member `m`. -/
def planHops (b : List Byte) (m : Nat) : Nat := bitsAt (planRoute b m) 8 4

/-- Bytes of a plan of `n` members: the local part is padded to a multiple of 64. -/
def planSize (n : Nat) : Nat := 64 + 88 * n + (4 + 2 * n + 63) / 64 * 64

/-- The common part: bytes 0 to 31 and the member and adjacency tables. -/
def planCommon (b : List Byte) : List Byte := b.take 32 ++ (b.drop 64).take (88 * planN b)

/-- HASH of a plan: header words 8 to 15. -/
def planHash (b : List Byte) : List Byte := (b.drop 32).take 32

/-- PLAN_TAG: bits [15:0] of the hash (R289). -/
def planTag (b : List Byte) : Nat := ofBytes ((planHash b).take 2)

/-- The entry of this member's link `l`. -/
def planMine (b : List Byte) (l : Nat) : Nat := planAdj b (planSelf b) l

/-- The plan uses link `l` of this member. -/
def planUses (b : List Byte) (l : Nat) : Bool := adjCabled (planMine b l)

/-- The peer of the plan's links with LP = `p`. -/
def planPeer (b : List Byte) (p : Nat) : Option Nat :=
  ((List.range 18).find? fun l => planUses b l && adjPort (planMine b l) == p).map fun l => adjPeer (planMine b l)

/-- A plan is held: LOADED, ARMED or STOPPED (R295). -/
def PlanSlot.held (p : PlanSlot) : Bool := p.st != .empty

/-- Slots that hold a plan. -/
def State.heldPlans (s : State) : List Nat := (List.range 32).filter fun i => (s.plan i).held

/-! ### Links and ports (R285, R298) -/

/-- `LPT_LINKS` of port `p` includes link `l`, in effect. -/
def State.inPort (s : State) (p l : Nat) : Bool := s.fld .lpt p Off.lptLinks l 1 == 1

/-- The logical port that holds a link, in effect (R285). -/
def State.portOf (s : State) (l : Nat) : Option Nat := (List.range 18).find? fun p => s.inPort p l

/-- ROLE of port `p` in effect: 0 DISABLED, 1 FLIGHT, 2 FRONT (R310). -/
def State.role (s : State) (p : Nat) : Nat := s.fld .lpt p Off.lptCfg 0 2

/-- Link `l` belongs to a FRONT port. -/
def State.isFront (s : State) (l : Nat) : Bool :=
  match s.portOf l with
  | some p => s.role p == 2
  | none => false

/-- Link `l` carries flight traffic of a plan for port `p` (R298). -/
def State.carries (s : State) (b : List Byte) (p l : Nat) : Bool :=
  s.role p == 1 && s.inPort p l && (s.link l).st == .up && planUses b l && planPeer b p == some (adjPeer (planMine b l))

/-- The links that carry a plan's traffic for port `p`, ascending. -/
def State.planLinks (s : State) (b : List Byte) (p : Nat) : List Nat := (List.range 18).filter (s.carries b p)

/-- `LPT_ACTIVE` (R310): UP links of a FRONT port; of a FLIGHT port, links that carry some held plan's traffic. -/
def State.active (s : State) (p l : Nat) : Bool :=
  if s.role p = 2 then s.inPort p l && (s.link l).st == .up
  else s.heldPlans.any fun i => s.carries (s.plan i).plan p l

/-- The port has an UP link (R285). -/
def State.hasUp (s : State) (p : Nat) : Bool := (List.range 18).any fun l => s.inPort p l && (s.link l).st == .up

/-- A link of a FLIGHT port whose PEER under a held plan differs from the peer of the port's links (R298). -/
def State.wrongPeer (s : State) (p l : Nat) : Bool :=
  s.role p == 1 && s.inPort p l && s.heldPlans.any fun i =>
    let b := (s.plan i).plan
    match planPeer b p with
    | none => false
    | some x => !(planUses b l && adjPeer (planMine b l) == x)

/-- After a change of links, ports or plans: PORT_EMPTY once for each time a port becomes empty (R285), REBIND_BAD once for a link left out of its port (R298). -/
def State.portsCheck (s : State) : State :=
  let s := (List.range 18).foldl (fun s p =>
    if s.hasUp p then s.modPort p fun q => { q with empty := false }
    else if (s.port p).empty then s
    else (s.modPort p fun q => { q with empty := true }).raisePage .lpt p 0x10 0) s
  (List.range 18).foldl (fun s l =>
    match s.portOf l with
    | none => s.modLink l fun k => { k with rebindBad := false }
    | some p =>
      if !s.wrongPeer p l then s.modLink l fun k => { k with rebindBad := false }
      else if (s.link l).rebindBad then s
      else (s.modLink l fun k => { k with rebindBad := true }).raisePage .lpt p 0x13 0) s

/-- `LNK_CFG.EN` was written: 0 disables the link, 1 lets a disabled link train (R283, R309). -/
def State.linkEnable (s : State) (l : Nat) : State :=
  let k := s.link l
  if s.fld .lnk l Off.lnkCfg 0 1 = 0 then
    if k.st = .disabled then s else (s.modLink l fun k => { k with st := .disabled, lanes := 0, qreason := 0 }).portsCheck
  else if k.st = .disabled then
    let s := s.modLink l fun k => { k with st := .down }
    ((s.count .lnk l Off.lnkDowns).wr .lnk l Off.lnkLastDown (BitVec.ofNat 32 s.lkp.now)).raisePage .lnk l 0x10 0
  else s

end Sys2Proof.Machine
end

