-- ==== Sys2Proof/Machine/Drn.lean ====
section
/-! DEFINITION. The drain path: descriptors, stages, conversion, carts and wharf rows (R114 to R120, R124). -/

namespace Sys2Proof.Machine

/-! ### dset (R114, R115) -/

/-- A 64-byte drain descriptor is accepted (R115). -/
def descOk (d : Nat) : Bool :=
  let z (w lo n : Nat) : Bool := descFld d w lo n == 0
  let on (b : Nat) : Bool := descFld d 0 b 1 == 1
  let biasSize := if on 8 then 2 else 4
  z 0 15 17 && z 1 21 11 && z 2 21 11 && z 3 21 11 && z 7 21 11 && z 8 16 16 && z 9 0 224
  && decide (descFld d 0 0 4 < 0xD) && decide (descFld d 0 9 4 < 8)
  && (!on 13 || (!isNan32 (descWord d 4) && !isNan32 (descWord d 5)
      && !(fp32.decode (descWord d 5)).lt (fp32.decode (descWord d 4))))
  && z 1 0 2 && z 2 0 2 && descFld d 3 0 21 % biasSize == 0 && z 7 0 2 && z 8 0 2
  && (!on 5 || inWharf (descFld d 1 0 21) 512)
  && (!on 6 || inWharf (descFld d 2 0 21) 1024)
  && (!on 7 || inWharf (descFld d 3 0 21) (128 * biasSize))
  && (!on 4 || descFld d 8 0 16 != 0)

/-- BAD_DESC (R114, R127). -/
def State.badDesc (s : State) (core : Nat) : State :=
  match s.coreCtx core with
  | some ctx => s.raiseCtx .drn core 0x13 1 ctx core
  | none => s

/-- `dset`: the descriptor at s[rs] is checked and loaded (R114). A misaligned or out-of-range offset names no descriptor and is refused like one. -/
def State.dsetOp (s : State) (core : Nat) (rs : BitVec 5) (idx : Nat) : State :=
  if !s.scalarRuns core then s else
  if s.isResetting ⟨.drn, core⟩ then s.stall core .queue else
  match s.readDesc core (s.sreg core rs) 64 64 with
  | none => (s.badDesc core).retire core
  | some d =>
    if descOk d then
      (s.modCore core fun k =>
        { k with desc := Tbl.put k.desc idx (BitVec.ofNat 512 d), descLoaded := k.descLoaded ||| BitVec.ofNat 16 (2 ^ idx) }).retire core
    else (s.badDesc core).retire core

/-- DSET (R114). -/
def execDset (core : Fin 512) (rs : BitVec 5) (idx : BitVec 4) (s : State) : Host.Outcome State Fault Refusal :=
  .next (s.dsetOp core rs idx.toNat)

/-! ### The stages (R116, R117, R118) -/

/-- Numeric counts of a drained row (R124). -/
structure DrainCounts where
  crush : Nat := 0
  sat : Nat := 0
  clamp : Nat := 0
  flush : Nat := 0
  nan : Nat := 0
  deriving DecidableEq, Repr

/-- Counts added. -/
def DrainCounts.add (a b : DrainCounts) : DrainCounts :=
  ⟨a.crush + b.crush, a.sat + b.sat, a.clamp + b.clamp, a.flush + b.flush, a.nan + b.nan⟩

/-- A value in the stages: its FP32 code, flushes so far, and the stage that produced a NaN (R123 OPA). -/
structure Stage where
  y : Nat
  flush : Nat := 0
  nanAt : Option Nat := none
  deriving DecidableEq, Repr

/-- A stage's result replaces the value. -/
def Stage.put (t : Stage) (stage : Nat) (r : FpRes) : Stage :=
  { y := r.v, flush := t.flush + b2n r.flush, nanAt := if t.nanAt.isNone && r.inv then some stage else t.nanAt }

/-- The activation of a descriptor (R115). -/
def Stage.activate (t : Stage) (fl : Bool) (act param : Nat) : Stage :=
  let v := read32 fl t.y
  let zero : Fv := .fin false 0 0
  match act with
  | 1 => if zero.lt v then t else { t with y := 0 }
  | 2 => t.put 4 (trans32 fl .geluTanh t.y).r
  | 3 => t.put 4 (trans32 fl .geluErf t.y).r
  | 4 => t.put 4 (trans32 fl .silu t.y).r
  | 5 => t.put 4 (trans32 fl .sigmoid t.y).r
  | 6 => t.put 4 (trans32 fl .tanh t.y).r
  | 7 => if zero.lt v || zero.eq v then t else t.put 4 (mul32 fl param t.y)
  | _ => t

/-- The FP32 vectors of a drain as read from the wharf (R115). -/
structure DrainVecs where
  col : List Byte
  row : List Byte
  bias : List Byte
  deriving DecidableEq, Repr

/-- Entry `n` of bank row `m` through the stages up to the clip (R116). -/
def stageEntry (fl int : Bool) (d : Nat) (vs : DrainVecs) (m n : Nat) (e : AccEntry) : Stage :=
  let on (b : Nat) : Bool := descFld d 0 b 1 == 1
  let y0 := if int then int32ToFp e.val.toInt else e.val.toNat
  let t : Stage := { y := y0 }
  let t := if on 5 then t.put 1 (mul32 fl t.y (numAt vs.col (4 * n) 4)) else t
  let t := if on 6 then t.put 2 (mul32 fl t.y (numAt vs.row (4 * m) 4)) else t
  let t := if on 7 then t.put 3 (add32 fl t.y (if on 8 then numAt vs.bias (2 * n) 2 * 65536 else numAt vs.bias (4 * n) 4)) else t
  let t := t.activate fl (descFld d 0 9 4) (descWord d 6)
  if on 13 then { t with y := min32 (max32 t.y (descWord d 4)) (descWord d 5) } else t

/-- The float format of a plain output code, if it is one (R117). -/
def plainFloat : Nat → Option Fmt
  | 0x1 => some bf16
  | 0x2 => some fp16
  | 0x3 => some e4m3
  | 0x4 => some e5m2
  | _ => none

/-- One entry converted to a plain format (R117): its code, and whether it counts as a clamp. An FP32 output is subject to R112. -/
def convertPlain (fl : Bool) (ofmt : Nat) (ovf : Bool) (y : Nat) : Nat × Bool :=
  match plainFloat ofmt with
  | some f => toFloat f ovf y
  | none =>
    if ofmt = 0 then (if isNan32 y then 0x7FC00000 else if fl && bitsAt y 23 8 == 0 then bitsAt y 31 1 * 2 ^ 31 else y, false)
    else
      let w := elemBits ofmt
      let (i, k) := toInt w y
      (toBits w i, k)

/-- The 32-entry blocks of a row. -/
def blocksOf : Nat → List Nat → List (List Nat)
  | 0, _ => []
  | n + 1, xs => xs.take 32 :: blocksOf n (xs.drop 32)

/-- A row converted and packed (R117 to R119): its RB bytes, crushed entries and clamps. -/
def packRow (fl : Bool) (ofmt : Nat) (ovf : Bool) (ys : List Nat) : List Byte × Nat × Nat :=
  let pad (bs : List Byte) : List Byte := bs ++ List.replicate ((4 - bs.length % 4) % 4) 0
  match blockOf ofmt with
  | some (f, emax) =>
    let bs := (blocksOf (ys.length / 32) ys).map (toBlock f emax)
    (pad (packElems ofmt (bs.flatMap (·.2.1)) ++ bs.map fun b => BitVec.ofNat 8 b.1), bs.foldl (fun n b => n + b.2.2) 0, 0)
  | none =>
    let cs := ys.map (convertPlain fl ofmt ovf)
    (pad (packElems ofmt (cs.map (·.1))), 0, (cs.filter (·.2)).length)

/-! ### Rows -/

/-- Row `m` of the bank or shadow being drained. -/
def MxArray.drainRow (x : MxArray) (it : DrainItem) (m : Nat) : List AccEntry :=
  let w := colsOf x.shallow
  let row := if it.os then (x.shad.drop (m * 32)).take 32 else Tbl.get x.banks (it.bank.val * 256 + m) []
  fit w {} row

/-- A NaN the drain path reports (R111, R121, R123). -/
def State.drainNan (s : State) (core ctx : Nat) (it : DrainItem) (m n : Nat) (e : AccEntry) (t : Stage) : State :=
  let unit := it.arr.val + 4 * it.bank.val
  if e.nan ≠ 0 then
    s.reportCore core ctx ⟨1, e.nan.toNat, core, unit, it.seq.toNat, e.opa.toNat, e.opb.toNat, m, n⟩
  else match t.nanAt with
    | some stage =>
      let (i, s) := s.draw
      s.reportCore core ctx ⟨2, 1, core, Config.freeNat i, it.seq.toNat, stage, it.dsel.toNat, m, n⟩
    | none => s

/-- INT_SAT of a row with flagged entries: once a bank, and the saturation records (R110, R124). -/
def State.drainSat (s : State) (core ctx : Nat) (it : DrainItem) (m : Nat) (row : List AccEntry) : State × DrainItem :=
  match row.findIdx? (·.sat) with
  | none => (s, it)
  | some n =>
    let e := row.getD n {}
    let v : NumEvent := ⟨1, 3, core, it.arr.val + 4 * it.bank.val, it.seq.toNat, e.opa.toNat, e.opb.toNat, m, n⟩
    let r := v.record ctx s.lkp.now
    let s := (s.fillRec .drn core Off.drnSatRec0 r).fillRec .vhwd ctx Off.hwdCtxSat0 r
    if it.satRaised then (s, it) else (s.raiseCtx .drn core 0x12 0 ctx core, { it with satRaised := true })

/-- One row through the stages: its bytes; NaNs and saturations are reported and counted (R116 to R124). -/
def State.drainRow (s : State) (core ctx : Nat) (it : DrainItem) (vs : DrainVecs) (m : Nat) : State × DrainItem × List Byte :=
  let d := it.desc.toNat
  let row := ((s.core core).array it.arr.val).drainRow it m
  let fl := s.flush32 ctx
  let ts := row.zipIdx.map fun p => (p.1, p.2, stageEntry fl it.int d vs m p.2 p.1)
  let (bytes, crush, clamp) := packRow fl (descFld d 0 0 4) (descFld d 0 14 1 == 1) (ts.map (·.2.2.y))
  let nans := ts.filter fun t => t.1.nan != 0 || t.2.2.nanAt.isSome
  let s := nans.foldl (fun s t => s.drainNan core ctx it m t.2.1 t.1 t.2.2) s
  let (s, it) := s.drainSat core ctx it m row
  let s := s.countDrn core Off.drnCtxCrush crush
  let s := s.countDrn core Off.drnCtxSatcnt (row.filter (·.sat)).length
  let s := s.countDrn core Off.drnCtxClamp clamp
  let s := s.countDrn core Off.drnCtxFlush (ts.foldl (fun n t => n + t.2.2.flush) 0)
  let s := s.countDrn core Off.drnCtxNancnt nans.length
  (s.count64 .drn core Off.drnRowsLo 1, it, bytes)

/-! ### Draining a bank (R91, R119, R120) -/

/-- The bank or shadow of an item has left the array: FREE, or zero and EMPTY (R88, R91). -/
def MxArray.drained (x : MxArray) (it : DrainItem) : MxArray :=
  if it.os then { x with shad := [], shadow := .empty } else x.freeBank it.bank.val

/-- The head item of the drain queue is done; its command's scoreboard entry is released with its last bank (R119, R237). -/
def State.drainDone (s : State) (core : Nat) (it : DrainItem) : State :=
  let s := s.modCore core fun k => ({ k with drainQ := k.drainQ.drop 1 }).modArray it.arr.val (·.drained it)
  if (s.core core).drainQ.any (·.seq == it.seq) then s else s.scbRelease core .mxa it.seq

/-- Rows in a full cart (R119). -/
def rowsPerCart (rb : Nat) : Nat := min 128 (4096 / rb)

/-- Tag word 1 of a cart (R148). -/
def cartTag (it : DrainItem) (shallow : Bool) (first rows : Nat) : Word :=
  BitVec.ofNat 32 (rows + first * 2 ^ 8 + it.dsel.toNat * 2 ^ 16 + it.arr.val * 2 ^ 20 + it.bank.val * 2 ^ 22 + b2n it.os * 2 ^ 23
    + b2n (decide (it.high < first + rows)) * 2 ^ 24 + b2n shallow * 2 ^ 25 + descFld it.desc.toNat 0 0 4 * 2 ^ 26)

/-- A finished cart is offered to the cart queue: it enters, or the drain path holds it (R120, R147). -/
def Core.offerCart (k : Core) (c : Cart) : Core :=
  if k.carts.length < 16 then { k with carts := k.carts ++ [c] } else { k with heldCart := some c }

/-- Carts of the head item, until one is held or the item is done; `fuel` bounds their number (R119, R120). -/
def State.drainCarts (s : State) (core ctx : Nat) (vs : DrainVecs) : Nat → DrainItem → State
  | 0, _ => s
  | fuel + 1, it =>
    if it.high < it.next then s.drainDone core it
    else if (s.core core).heldCart.isSome then s
    else
      let shallow := ((s.core core).array it.arr.val).shallow
      let n := min (rowsPerCart (rowBytes (descFld it.desc.toNat 0 0 4) shallow)) (it.high + 1 - it.next)
      let (s, it', bytes) := (List.range n).foldl (fun (p : State × DrainItem × List Byte) i =>
        let (s, it', bs) := p.1.drainRow core ctx p.2.1 vs (it.next + i)
        (s, it', p.2.2 ++ bs)) (s, it, [])
      let cart : Cart := ⟨it.seq, cartTag it shallow it.next n, bytes⟩
      let it' := { it' with next := it.next + n }
      let s := s.modCore core fun k => { k.offerCart cart with drainQ := it' :: k.drainQ.drop 1 }
      let s := s.highWater .vec core Off.vecQueue 8 5 (s.core core).carts.length
      s.drainCarts core ctx vs fuel it'

/-- Rows of the head item written to the wharf; a row out of range discards the rest of the bank (R119). -/
def State.drainRows (s : State) (core ctx : Nat) (vs : DrainVecs) : Nat → DrainItem → State
  | 0, it => s.drainDone core it
  | fuel + 1, it =>
    if it.high < it.next then s.drainDone core it
    else
      let d := it.desc.toNat
      let rb := rowBytes (descFld d 0 0 4) ((s.core core).array it.arr.val).shallow
      let at_ := descFld d 7 0 21 + it.next * descFld d 8 0 16
      if descFld d 8 0 16 < rb ∨ wharfSize < at_ + rb then
        (s.drainDone core it).raiseCtx .drn core 0x14 1 ctx core
      else
        let (s, it', bytes) := s.drainRow core ctx it vs it.next
        (s.wharfWrite core at_ bytes).drainRows core ctx vs fuel { it' with next := it.next + 1 }

/-- DRAIN_BANK (R91, R116): the oldest handed-over bank or shadow is drained, to its end or until a finished cart is held. -/
def State.drainBank (s : State) (core : Nat) : State :=
  match (s.core core).drainQ, s.coreCtx core with
  | it :: _, some ctx =>
    if !s.diesOn || (s.core core).heldCart.isSome then s
    else
      let d := it.desc.toNat
      let s := if it.os then s else s.modCore core fun k => k.modArray it.arr.val (·.setBank it.bank.val .draining)
      let vs : DrainVecs :=
        { col := s.wharfRead core (descFld d 1 0 21) (if descFld d 0 5 1 = 1 then 512 else 0)
          row := s.wharfRead core (descFld d 2 0 21) (if descFld d 0 6 1 = 1 then 1024 else 0)
          bias := s.wharfRead core (descFld d 3 0 21) (if descFld d 0 7 1 = 1 then (if descFld d 0 8 1 = 1 then 256 else 512) else 0) }
      if descFld d 0 4 1 = 1 then s.drainRows core ctx vs 257 it
      else s.drainCarts core ctx vs 258 it
  | _, _ => s

/-- DRAIN_BANK (R116). -/
def execDrainBank (core : Fin 512) (s : State) : Host.Outcome State Fault Refusal := .next (s.drainBank core)

/-- CART_ENTER (R147): the held cart enters once the cart queue has a free entry. -/
def State.cartEnter (s : State) (core : Nat) : State :=
  match (s.core core).heldCart with
  | none => s
  | some c =>
    if s.diesOn && decide ((s.core core).carts.length < 16) then
      (s.modCore core fun k => { k with heldCart := none }.offerCart c).highWater .vec core Off.vecQueue 8 5 ((s.core core).carts.length + 1)
    else s

/-- CART_ENTER (R147). -/
def execCartEnter (core : Fin 512) (s : State) : Host.Outcome State Fault Refusal := .next (s.cartEnter core)

/-- The drain path of a core is cleared (R125). -/
def Core.clearDrn (k : Core) : Core := { k with drainQ := [], heldCart := none, desc := [], descLoaded := 0 }

end Sys2Proof.Machine
end

