-- ==== Sys2Proof/Machine/VecArith.lean ====
section
/-! DEFINITION. Arithmetic of the vector engine on elements, registers and masks (R128 to R142). -/

namespace Sys2Proof.Machine

/-! ### The instruction word (R131) -/

/-- Field of the instruction word. -/
def VecCmd.fld (c : VecCmd) (lo n : Nat) : Nat := bitsAt c.word.toNat lo n
/-- GRP. -/
def VecCmd.grp (c : VecCmd) : Nat := c.fld 7 4
/-- FN. -/
def VecCmd.fn (c : VecCmd) : Nat := c.fld 11 6
/-- TYPE. -/
def VecCmd.type (c : VecCmd) : Nat := c.fld 17 3
/-- VD. -/
def VecCmd.vd (c : VecCmd) : Nat := c.fld 20 5
/-- VS1. -/
def VecCmd.vs1 (c : VecCmd) : Nat := c.fld 25 5
/-- VS2. -/
def VecCmd.vs2 (c : VecCmd) : Nat := c.fld 30 5
/-- VS3. -/
def VecCmd.vs3 (c : VecCmd) : Nat := c.fld 35 5
/-- MSK. -/
def VecCmd.msk (c : VecCmd) : Nat := c.fld 40 3
/-- MEN. -/
def VecCmd.men (c : VecCmd) : Bool := c.fld 43 1 == 1
/-- ZM. -/
def VecCmd.zm (c : VecCmd) : Bool := c.fld 44 1 == 1
/-- SX. -/
def VecCmd.sxNo (c : VecCmd) : Nat := c.fld 45 5
/-- IMM, unsigned. -/
def VecCmd.imm (c : VecCmd) : Nat := c.fld 52 12
/-- IMM, signed. -/
def VecCmd.immS (c : VecCmd) : Int := sext c.imm 12

/-- Width of an element type (R131). -/
def typeWidth : Nat → Nat
  | 0 | 3 => 32
  | 1 | 2 | 4 => 16
  | _ => 8

/-- N_W (R128). -/
def lanesOf (w : Nat) : Nat := 8192 / w

/-- The float format of a type, if it is one. -/
def typeFloat : Nat → Option Fmt
  | 0 => some fp32
  | 1 => some bf16
  | 2 => some fp16
  | 6 => some e4m3
  | 7 => some e5m2
  | _ => none

/-! ### Registers -/

/-- Elements of width `w` of a register (R128). -/
def regElems (w : Nat) (r : BitVec 8192) : List Nat := (List.range (lanesOf w)).map fun i => bitsAt r.toNat (w * i) w

/-- A register from its elements of width `w`. -/
def regOf (w : Nat) (xs : List Nat) : BitVec 8192 := BitVec.ofNat 8192 (xs.foldr (fun x acc => x % 2 ^ w + acc * 2 ^ w) 0)

/-- Vector register `r` of a core. -/
def Core.vreg (k : Core) (r : Nat) : BitVec 8192 := Tbl.get k.v (r % 32) 0
/-- Mask register `r` of a core. -/
def Core.mreg (k : Core) (r : Nat) : BitVec 1024 := Tbl.get k.m (r % 8) 0
/-- A vector register written. -/
def Core.setV (k : Core) (r : Nat) (x : BitVec 8192) : Core := { k with v := Tbl.put k.v (r % 32) x }
/-- A mask register written. -/
def Core.setM (k : Core) (r : Nat) (x : BitVec 1024) : Core := { k with m := Tbl.put k.m (r % 8) x }

/-- Effective length at a width (R129). -/
def Core.el (k : Core) (w : Nat) : Nat := min k.vl (lanesOf w)

/-- Element `i` is active when it lies below `el` and, under MEN, its mask bit is 1 (R130). -/
def Core.active (k : Core) (c : VecCmd) (el i : Nat) : Bool := decide (i < el) && (!c.men || (k.mreg c.msk).getLsbD i)

/-! ### Elements -/

/-- A result element: its code and what it reports (R134 to R138, R144). -/
structure El where
  v : Nat
  inv : Bool := false
  ovf : Bool := false
  unf : Bool := false
  flush : Bool := false
  sat : Bool := false
  divz : Bool := false
  clamp : Bool := false
  deriving DecidableEq, Repr

/-- A NaN code of a format with a free sign and payload: the spec names none for a propagated NaN. -/
def Fmt.someNan (f : Fmt) (p : Nat) : Nat :=
  let mant := if p % 2 ^ f.mb = 0 then 2 ^ (f.mb - 1) else p % 2 ^ f.mb
  if f.top = .ieee then (p / 2 ^ f.mb % 2) * 2 ^ (f.eb + f.mb) + (2 ^ f.eb - 1) * 2 ^ f.mb + mant else f.nanCode

/-- A float operand of an element type under the subnormal mode (R112): the mode applies to FP32 only. -/
def readElem (fl : Bool) (t x : Nat) : Fv :=
  match typeFloat t with
  | some f => if t = 0 then read32 fl x else f.decode x
  | none => .fin false 0 0

/-- A float result rounded once to an element type (R134). -/
def roundElem (fl : Bool) (t : Nat) (r : Exact) : El :=
  if t = 0 then
    let z := round32 fl r
    { v := z.v, inv := z.inv, ovf := z.ovf, unf := z.flush || z.under, flush := z.flush }
  else
    let z := ((typeFloat t).getD bf16).round r
    { v := z.v, inv := z.inv, ovf := z.ovf, unf := z.under }

/-- A float operation on operands given by value, a NaN operand propagating with a free payload (R134). -/
def floatOp (fl : Bool) (t : Nat) (codes : List Nat) (vs : List Fv) (r : Exact) : El :=
  if vs.any Fv.isNan then { v := ((typeFloat t).getD fp32).someNan (Config.nanPayload (codes.getD 0 0) (codes.getD 1 0) (codes.getD 2 0)) }
  else roundElem fl t r

/-- Minimum or maximum: the NaN operand when either is NaN (either of two, freely), −0 below +0 (R134). -/
def minMax (mx fl : Bool) (t a b : Nat) : El :=
  let f := (typeFloat t).getD fp32
  let z (x : Nat) : Nat := if t = 0 && fl && bitsAt x 23 8 == 0 then bitsAt x 31 1 * 2 ^ 31 else x
  let a := z a
  let b := z b
  let va := f.decode a
  let vb := f.decode b
  if va.isNan && vb.isNan then { v := if Config.nanPayload a b 2 % 2 = 0 then a else b }
  else if va.isNan then { v := a }
  else if vb.isNan then { v := b }
  else if va.lt vb then { v := if mx then b else a }
  else if vb.lt va then { v := if mx then a else b }
  else { v := if bitAt a (f.eb + f.mb) == mx then b else a }

/-- FARITH on one element (R132, R134); `s` is an FP32 code. -/
def farith (fl : Bool) (t fn a b c s : Nat) : El :=
  let f := (typeFloat t).getD fp32
  let va := readElem fl t a
  let vb := readElem fl t b
  let vc := readElem fl t c
  let vs := read32 fl s
  match fn with
  | 0 => floatOp fl t [a, b] [va, vb] (va.add vb)
  | 1 => floatOp fl t [a, b] [va, vb] (va.add vb.flip)
  | 2 => floatOp fl t [a, b] [va, vb] (va.mul vb)
  | 3 => floatOp fl t [a, b, c] [va, vb, vc] (va.fma vb vc)
  | 4 => minMax false fl t a b
  | 5 => minMax true fl t a b
  | 6 => { v := a % 2 ^ (f.eb + f.mb) }
  | 7 => { v := a ^^^ 2 ^ (f.eb + f.mb) }
  | 8 => floatOp fl t [a, s] [va, vs] (va.mul vs)
  | _ => floatOp fl t [a, s] [va, vs] (va.add vs)

/-- IARITH on one element of width `w` (R132, R135). -/
def iarith (w fn a b sh : Nat) : El :=
  let x := sext a w
  let y := sext b w
  let sat (i : Int) : El := let (v, k) := satInt w i; { v := toBits w v, sat := k }
  match fn with
  | 0 => { v := (a + b) % 2 ^ w }
  | 1 => { v := toBits w (x - y) }
  | 2 => { v := (a * b) % 2 ^ w }
  | 3 => sat (x + y)
  | 4 => sat (x - y)
  | 5 => { v := if x ≤ y then a else b }
  | 6 => { v := if x ≤ y then b else a }
  | 7 => { v := a &&& b }
  | 8 => { v := a ||| b }
  | 9 => { v := a ^^^ b }
  | 10 => { v := (a <<< sh) % 2 ^ w }
  | 11 => { v := a >>> sh }
  | _ => { v := toBits w (x / 2 ^ sh) }

/-- CMP on one element (R132, R136). -/
def compare (fl : Bool) (t fn a b : Nat) : Bool :=
  let go (lt gt unord : Bool) : Bool :=
    match fn with
    | 0 => !lt && !gt && !unord
    | 1 => lt || gt || unord
    | 2 => lt
    | 3 => !gt && !unord
    | 4 => gt
    | 5 => !lt && !unord
    | _ => unord
  if t ≤ 2 then
    let x := readElem fl t a
    let y := readElem fl t b
    if x.isNan || y.isNan then go false false true else go (x.lt y) (y.lt x) false
  else
    let w := typeWidth t
    go (decide (sext a w < sext b w)) (decide (sext b w < sext a w)) false

/-- Functions of the TRANS group in order (R132). -/
def transFn : Nat → Fn
  | 0 => .exp
  | 1 => .exp2
  | 2 => .ln
  | 3 => .log2
  | 4 => .rcp
  | 5 => .rsqrt
  | 6 => .sqrt
  | 7 => .tanh
  | 8 => .sigmoid
  | 9 => .erf
  | 10 => .sin
  | _ => .cos

/-- An element of a 16-bit float type as an FP32 code: exact. -/
def widen32 (t x : Nat) : Nat :=
  match typeFloat t with
  | some f => if t = 0 then x else (fp32.round ⟨f.decode x, false⟩).v
  | none => x

/-- TRANS on one element (R137): a 16-bit result is the FP32 result rounded once. -/
def transElem (fl : Bool) (t fn a : Nat) : El :=
  let f := (typeFloat t).getD fp32
  if (f.decode a).isNan then { v := f.someNan (Config.nanPayload a fn 0) }
  else
    let r := trans32 (fl && t == 0) (transFn fn) (widen32 t a)
    if t = 0 then { v := r.r.v, inv := r.r.inv, ovf := r.r.ovf, unf := r.r.flush || r.r.under, flush := r.r.flush, divz := r.divz }
    else
      let z := f.round ⟨fp32.decode r.r.v, r.r.inv⟩
      { v := z.v, inv := r.r.inv, ovf := r.r.ovf || z.ovf, unf := r.r.under || z.under, divz := r.divz }

/-- Value of an element of any type as a conversion source (R138). -/
def convSource (t x : Nat) : Fv :=
  match typeFloat t with
  | some f => f.decode x
  | none => intFv (sext x (typeWidth t)) 0

/-- Conversion of a value to a type (R117, R138); `fl` applies to an FP32 result. -/
def convElem (fl ovf : Bool) (d : Nat) (v : Fv) : El :=
  match typeFloat d with
  | some f =>
    let (c, k) := toFloatV f ovf v
    let c := if d = 0 && fl && bitsAt c 23 8 == 0 then bitsAt c 31 1 * 2 ^ 31 else c
    { v := c, clamp := k, ovf := !v.isInf && (f.decode c).isInf, unf := !v.isZero && (f.decode c).isZero }
  | none =>
    let (i, k) := toIntV (typeWidth d) v
    { v := toBits (typeWidth d) i, clamp := k, sat := k }

/-- CVTS: the source times `s` rounded to FP32, then converted (R138). -/
def convScaled (fl ovf : Bool) (t d x s : Nat) : El :=
  let v := if t = 0 then read32 fl x else convSource t x
  let vs := read32 fl s
  let r := round32 fl (v.mul vs)
  if v.isNan || vs.isNan then convElem fl ovf d .nan
  else
    let z := convElem fl ovf d (fp32.decode r.v)
    { z with inv := r.inv, ovf := z.ovf || r.ovf, unf := z.unf || r.flush || r.under, flush := r.flush }

/-! ### Reductions (R141, R142) -/

/-- One level of the fixed pairwise tree. -/
def treeLevel (f : El → El → El) : List El → List El
  | a :: b :: xs => f a b :: treeLevel f xs
  | xs => xs

/-- The fixed pairwise tree over a power of two of positions; `n` levels. -/
def tree (f : El → El → El) : Nat → List El → El
  | 0, xs => xs.headD { v := 0 }
  | n + 1, xs => tree f n (treeLevel f xs)

/-- A node of a float reduction (R141): SUM, PROD, MAX, MIN. -/
def floatNode (fl : Bool) (fn : Nat) (a b : El) : El :=
  match fn with
  | 0 => farith fl 0 0 a.v b.v 0 0
  | 1 => farith fl 0 2 a.v b.v 0 0
  | 2 => minMax true fl 0 a.v b.v
  | _ => minMax false fl 0 a.v b.v

/-- A node of an integer reduction (R141). -/
def intNode (fn : Nat) (a b : El) : El :=
  let x := sext a.v 32
  let y := sext b.v 32
  match fn with
  | 0 => iarith 32 3 a.v b.v 0
  | 1 => let (v, k) := satInt 32 (x * y); { v := toBits 32 v, sat := k }
  | 2 => { v := if x ≤ y then b.v else a.v }
  | _ => { v := if x ≤ y then a.v else b.v }

/-- Identity of a reduction (R141). -/
def redIdentity (float : Bool) (fn : Nat) : Nat :=
  match float, fn with
  | true, 0 => 0
  | true, 1 => fone
  | true, 3 => fpinf
  | true, _ => fninf
  | false, 1 => 1
  | false, 2 => 0x80000000
  | false, 3 => 0x7FFFFFFF
  | false, _ => 0

/-- All nodes of the tree, level by level: each reports its own flags (R134, R141). -/
def treeNodes (f : El → El → El) : Nat → List El → List El
  | 0, _ => []
  | n + 1, xs => let ys := treeLevel f xs; ys ++ treeNodes f n ys

/-- Log2 of the number of positions. -/
def treeDepth (w : Nat) : Nat := Nat.log2 (lanesOf w)

/-- A source element widened for a reduction: FP32 or INT32 code (R141). -/
def redSource (t x : Nat) : Nat := if t ≤ 2 then widen32 t x else toBits 32 (sext x (typeWidth t))

/-- Log-sum-exp of the positions that are active (R141): their maximum m, the tree sum of e^(x − m), and m + ln of it. -/
def logSumExp (fl : Bool) (w : Nat) (xs : List (Bool × Nat)) : El :=
  let leaves := xs.map fun x => ({ v := if x.1 then x.2 else fninf } : El)
  let m := tree (floatNode fl 2) (treeDepth w) leaves
  if isNan32 m.v || (fp32.decode m.v).isInf then { v := m.v }
  else
    let es := xs.map fun x =>
      if x.1 then
        let d := farith fl 0 1 x.2 m.v 0 0
        ({ v := (trans32 fl .expDiff d.v).r.v } : El)
      else { v := 0 }
    let sum := tree (floatNode fl 0) (treeDepth w) es
    let l := (trans32 fl .lnSum sum.v).r.v
    farith fl 0 0 m.v l 0 0

/-- Position of the maximum or minimum active value (R142): the lowest NaN where one is active. -/
def argBest (mx fl : Bool) (t : Nat) (xs : List (Nat × Nat)) : Option Nat :=
  if t ≤ 2 && xs.any (fun x => (readElem fl t x.2).isNan) then (xs.find? fun x => (readElem fl t x.2).isNan).map (·.1)
  else (xs.foldl (fun (best : Option (Nat × Nat)) x =>
    match best with
    | none => some x
    | some b => if (if mx then compare fl t 4 x.2 b.2 else compare fl t 2 x.2 b.2) then some x else some b) none).map (·.1)

end Sys2Proof.Machine
end

