-- ==== Sys2Proof/Machine/Vec.lean ====
section
/-! DEFINITION. The vector engine: acceptance, issue and effect of every instruction (R128 to R151). -/

namespace Sys2Proof.Machine

/-! ### Checks (R132, R138 to R143, R146) -/

/-- Functions a group has (R132). -/
def groupSize : Nat → Nat
  | 0 => 7
  | 1 => 10
  | 2 => 13
  | 3 => 7
  | 4 => 12
  | 5 => 3
  | 6 => 5
  | 7 => 7
  | 8 => 8
  | 9 => 6
  | 10 => 3
  | _ => 0

/-- TYPE is one the function accepts (R131, R132, R138, R139, R141); the two FP8 types are for conversion only. -/
def VecCmd.typeOk (c : VecCmd) : Bool :=
  let t := c.type
  match c.grp with
  | 0 => decide (c.fn < 5) || decide (t ≤ 5)
  | 1 | 4 => decide (t ≤ 2)
  | 2 => decide (3 ≤ t ∧ t ≤ 5)
  | 5 => c.fn != 2 || decide (t ≤ 2)
  | 7 => if c.fn = 4 then decide (t ≤ 2) else decide (t ≤ 5)
  | 8 => c.fn == 5 || decide (t ≤ 5)
  | 10 => true
  | _ => decide (t ≤ 5)

/-- PART is in range for a conversion (R138). -/
def partOk (ts td part : Nat) : Bool :=
  let ns := lanesOf (typeWidth ts)
  let nd := lanesOf (typeWidth td)
  if nd < ns then decide (part < ns / nd) else if ns < nd then decide (part < nd / ns) else part == 0

/-- The other rules of the group (R132, R138 to R140, R143, R149). -/
def VecCmd.fieldsOk (c : VecCmd) : Bool :=
  let w := typeWidth c.type
  match c.grp, c.fn with
  | 0, 5 => decide (c.imm < lanesOf w)
  | 2, 10 | 2, 11 | 2, 12 => decide (c.imm % 32 < w)
  | 5, 0 | 5, 1 => partOk c.type (c.imm % 8) (bitsAt c.imm 4 2)
  | 5, 2 => !c.men && !c.zm && decide (5 ≤ c.imm % 16 ∧ c.imm % 16 ≤ 0xA) && c.vs3 != c.vd
  | 6, 0 => w != 8 || c.vs2 % 2 == 0
  | 9, 2 | 9, 3 => c.immS % (w / 8 : Nat) == 0
  | 9, 4 | 9, 5 => c.sxNo % 2 == 0
  | 10, 0 => decide (c.imm < 2)
  | 10, 1 => !c.men && !c.zm && c.imm % 64 == 0 && decide (c.imm ≤ 4032)
  | _, _ => true

/-- The instruction keeps every rule of the chapter (R146). -/
def VecCmd.ok (c : VecCmd) : Bool := decide (c.fn < groupSize c.grp) && c.fld 50 2 == 0 && c.typeOk && c.fieldsOk

/-- The instruction writes s[SX] (R132, R140 to R142, R149). -/
def VecCmd.writesSx (c : VecCmd) : Bool :=
  match c.grp, c.fn with
  | 0, 2 | 0, 3 | 0, 5 | 6, 4 | 8, 6 | 8, 7 | 10, 0 => true
  | 7, _ => true
  | _, _ => false

/-- A scalar register named as a destination by a queued vector instruction (R133). -/
def Core.sregPending (k : Core) (r : Nat) : Bool := r != 0 && k.iq.any fun c => c.writesSx && c.sxNo == r

/-! ### Reporting -/

/-- VEC_REJECT and the error of a discarded or faulting instruction (R146, R153, R154). -/
def State.vecReject (s : State) (core : Nat) (c : VecCmd) (cond : Nat) : State :=
  let s := if s.fld .vec core Off.blkFirst 31 1 = 1 then s
    else (s.wr .vec core Off.vecReject (BitVec.ofNat 32 (c.grp + c.fn * 16 + cond * 65536))).wr .vec core Off.vecRejectSeq c.seq
  match s.coreCtx core with
  | some ctx => s.raiseCtx .vec core cond 1 ctx core
  | none => s

/-- Bits of VSTAT set (R144). -/
def Core.setVstat (k : Core) (bits : Nat) : Core := { k with vstat := k.vstat ||| BitVec.ofNat 7 bits }

/-- What result elements report: VSTAT, counts, and one produced-NaN report naming the lowest position (R134, R144, R145, R153). -/
def State.vecReport (s : State) (core ctx : Nat) (c : VecCmd) (els : List (Nat × El)) : State :=
  let n (f : El → Bool) : Nat := (els.filter fun e => f e.2).length
  let any (f : El → Bool) : Nat := b2n (els.any fun e => f e.2)
  let s := s.modCore core fun k => k.setVstat
    (any (·.inv) * 4 + any (·.ovf) * 8 + any (·.unf) * 16 + any (·.sat) * 32 + any (·.divz) * 64)
  let s := s.count .vec core Off.vecCtxFlush (n (·.flush)) ctx
  let s := s.count .vec core Off.vecCtxClamp (n (·.clamp)) ctx
  let s := s.count .vec core Off.vecCtxNancnt (n (·.inv)) ctx
  match els.find? (·.2.inv) with
  | none => s
  | some (i, _) =>
    let unit := c.vd + c.grp * 2 ^ 5 + c.fn * 2 ^ 9
    s.reportCore core ctx ⟨3, 1, core, unit, c.seq.toNat, c.vs1, c.vs2, i, i * typeWidth c.type / 32⟩

/-- RANGE: VSTAT and the context's count (R140). -/
def State.vecRange (s : State) (core ctx : Nat) : State :=
  (s.modCore core fun k => k.setVstat 2).count .vec core Off.vecCtxRange 1 ctx

/-- A reduction's EMPTY bit (R141, R142). -/
def State.vecEmpty (s : State) (core ctx : Nat) (e : Bool) : State :=
  let s := s.modCore core fun k => { k with vstat := if e then k.vstat ||| 1 else k.vstat &&& 0x7E }
  if e then s.count .vec core Off.vecCtxEmpty 1 ctx else s

/-- Active elements processed (R153). -/
def State.vecOps (s : State) (core n : Nat) : State := s.count64 .vec core Off.vecOpsLo n

/-! ### Effects -/

/-- A vector destination of `w`-bit elements: active positions from `f`, the others by ZM (R130). -/
def State.vecWrite (s : State) (core ctx : Nat) (c : VecCmd) (w : Nat) (f : Nat → El) : State :=
  let k := s.core core
  let el := k.el w
  let old := regElems w (k.vreg c.vd)
  let rs := old.zipIdx.map fun p => if k.active c el p.2 then (p.2, some (f p.2), 0) else (p.2, none, if c.zm then 0 else p.1)
  let act := rs.filterMap fun r => r.2.1.map fun e => (r.1, e)
  let s := s.modCore core fun k => k.setV c.vd (regOf w (rs.map fun r => match r.2.1 with
    | some e => e.v
    | none => r.2.2))
  (s.vecReport core ctx c act).vecOps core act.length

/-- A mask destination: active bits from `f`, the others by ZM (R130, R136). -/
def State.maskWrite (s : State) (core : Nat) (c : VecCmd) (w : Nat) (f : Nat → Bool) : State :=
  let k := s.core core
  let el := k.el w
  let old := k.mreg c.vd
  let bits := (List.range 1024).map fun i => if k.active c el i then f i else !c.zm && old.getLsbD i
  (s.modCore core fun k => k.setM c.vd (BitVec.ofNat 1024 (bits.foldr (fun b acc => b2n b + 2 * acc) 0))).vecOps core
    ((List.range el).filter fun i => k.active c el i).length

/-- s[SX] written. -/
def State.vecSx (s : State) (core : Nat) (c : VecCmd) (v : Nat) : State := s.modCore core fun k => k.setSreg c.sxNo (BitVec.ofNat 32 v)

/-- CTRL (R132). -/
def State.vecCtrl (s : State) (core ctx : Nat) (c : VecCmd) : State :=
  let k := s.core core
  let w := typeWidth c.type
  match c.fn with
  | 0 => s.modCore core fun k => { k with vl := min c.imm 1024 }
  | 1 => s.modCore core fun k => { k with vl := min c.sx.toNat 1024 }
  | 2 => s.vecSx core c k.vl
  | 3 => s.vecSx core c k.vstat.toNat
  | 4 => s.modCore core fun k => { k with vstat := k.vstat &&& ~~~(BitVec.ofNat 7 c.imm) }
  | 5 => s.vecSx core c (bitsAt (k.vreg c.vs1).toNat (w * c.imm) w)
  | _ => s.vecWrite core ctx c w fun _ => { v := c.sx.toNat % 2 ^ w }

/-- FARITH, IARITH and TRANS: elementwise (R134, R135, R137). -/
def State.vecElem (s : State) (core ctx : Nat) (c : VecCmd) : State :=
  let k := s.core core
  let w := typeWidth c.type
  let fl := s.flush32 ctx
  let a := (k.vreg c.vs1).toNat
  let b := (k.vreg c.vs2).toNat
  let d := (k.vreg c.vs3).toNat
  s.vecWrite core ctx c w fun i =>
    let x := bitsAt a (w * i) w
    let y := bitsAt b (w * i) w
    match c.grp with
    | 1 => farith fl c.type c.fn x y (bitsAt d (w * i) w) c.sx.toNat
    | 2 => iarith w c.fn x y (c.imm % 32)
    | _ => transElem fl c.type c.fn x

/-- CMP (R136). -/
def State.vecCmp (s : State) (core ctx : Nat) (c : VecCmd) : State :=
  let k := s.core core
  let w := typeWidth c.type
  let a := (k.vreg c.vs1).toNat
  let b := (k.vreg c.vs2).toNat
  s.maskWrite core c w fun i => compare (s.flush32 ctx) c.type c.fn (bitsAt a (w * i) w) (bitsAt b (w * i) w)

/-- CVT and CVTS (R138). -/
def State.vecCvt (s : State) (core ctx : Nat) (c : VecCmd) : State :=
  let k := s.core core
  let fl := s.flush32 ctx
  let d := c.imm % 8
  let ovf := bitAt c.imm 3
  let part := bitsAt c.imm 4 2
  let ws := typeWidth c.type
  let wd := typeWidth d
  let ns := lanesOf ws
  let nd := lanesOf wd
  let n := min ns nd
  let src := (k.vreg c.vs1).toNat
  let old := regElems wd (k.vreg c.vd)
  let narrow := decide (ns < nd)
  let conv (x : Nat) : El := if c.fn = 1 then convScaled fl ovf c.type d x c.sx.toNat else convElem fl ovf d (convSource c.type x)
  let el := min k.vl n
  let rs := old.zipIdx.map fun p =>
    let j := if narrow then p.2 - part * ns else p.2
    let inside := !narrow || decide (part * ns ≤ p.2 ∧ p.2 < part * ns + ns)
    if !inside then (j, none, p.1)
    else if k.active c el j then
      (j, some (conv (bitsAt src (ws * (if narrow then j else part * (if nd < ns then nd else 0) + j)) ws)), 0)
    else (j, none, if c.zm then 0 else p.1)
  let act := rs.filterMap fun r => r.2.1.map fun e => (r.1, e)
  let s := s.modCore core fun k => k.setV c.vd (regOf wd (rs.map fun r => match r.2.1 with
    | some e => e.v
    | none => r.2.2))
  (s.vecReport core ctx c act).vecOps core act.length

/-- QMX (R139). -/
def State.vecQmx (s : State) (core ctx : Nat) (c : VecCmd) : State :=
  let k := s.core core
  let w := typeWidth c.type
  let fmt := c.imm % 16
  match blockOf fmt with
  | none => s
  | some (f, emax) =>
    let el := k.el w
    let src := (k.vreg c.vs1).toNat
    let nb := (el + 31) / 32
    let xs := (List.range (nb * 32)).map fun i => if i < el then widen32 c.type (bitsAt src (w * i) w) else 0
    let bs := (blocksOf nb xs).map (toBlock f emax)
    let bytes := packElems fmt (bs.flatMap (·.2.1))
    let scales := bs.map (·.1)
    let old3 := regElems 8 (k.vreg c.vs3)
    let s := s.modCore core fun k =>
      (k.setV c.vd (regOf 8 (bytes.map (·.toNat)))).setV c.vs3 (regOf 8 (scales ++ old3.drop nb))
    (s.count .vec core Off.vecCtxCrush (bs.foldl (fun n b => n + b.2.2) 0) ctx).vecOps core el

/-- PERM group (R140). -/
def State.vecPerm (s : State) (core ctx : Nat) (c : VecCmd) : State :=
  let k := s.core core
  let w := typeWidth c.type
  let el := k.el w
  let src := (k.vreg c.vs1).toNat
  let at_ (j : Nat) : Nat := if j < el then bitsAt src (w * j) w else 0
  match c.fn with
  | 0 =>
    let i1 := (k.vreg c.vs2).toNat
    let i2 := (k.vreg (c.vs2 + 1)).toNat
    let idx (i : Nat) : Nat := if i < 512 then bitsAt i1 (16 * i) 16 else bitsAt i2 (16 * (i - 512)) 16
    let bad := (List.range (lanesOf w)).any fun i => k.active c el i && decide (el ≤ idx i)
    let s := s.vecWrite core ctx c w fun i => { v := at_ (idx i) }
    if bad then s.vecRange core ctx else s
  | 1 => s.vecWrite core ctx c w fun i => { v := if c.sx.toNat ≤ i then at_ (i - c.sx.toNat) else 0 }
  | 2 => s.vecWrite core ctx c w fun i => { v := at_ (i + c.sx.toNat) }
  | 3 =>
    let bad := decide (el ≤ c.imm)
    let s := s.vecWrite core ctx c w fun _ => { v := at_ c.imm }
    if bad then s.vecRange core ctx else s
  | _ =>
    let xs := ((List.range el).filter fun i => k.active c el i).map at_
    let s := s.modCore core fun k => k.setV c.vd (regOf w xs)
    (s.vecSx core c xs.length).vecOps core xs.length

/-- A reduction's result in element 0 of vd and in s[SX] (R141, R142). -/
def State.redWrite (s : State) (core : Nat) (c : VecCmd) (v : Nat) : State :=
  (s.modCore core fun k => k.setV c.vd (regOf 32 [v])).vecSx core c v

/-- RED group (R141, R142). -/
def State.vecRed (s : State) (core ctx : Nat) (c : VecCmd) : State :=
  let k := s.core core
  let w := typeWidth c.type
  let el := k.el w
  let fl := s.flush32 ctx
  let t := c.type
  let xs := (regElems w (k.vreg c.vs1)).zipIdx.map fun p => (k.active c el p.2, p.1, p.2)
  let act := xs.filter (·.1)
  let s := s.vecOps core act.length
  let s := s.vecEmpty core ctx act.isEmpty
  if 5 ≤ c.fn then
    let r := argBest (c.fn == 5) fl t (act.map fun x => (x.2.2, x.2.1))
    s.redWrite core c (r.getD 0xFFFF)
  else if c.fn = 4 then
    let r := logSumExp fl w (xs.map fun x => (x.1, widen32 t x.2.1))
    (s.vecReport core ctx c [(0, r)]).redWrite core c r.v
  else
    let float := decide (t ≤ 2)
    let id_ := redIdentity float c.fn
    let leaves := xs.map fun x => ({ v := if x.1 then redSource t x.2.1 else id_ } : El)
    let node := if float then floatNode fl c.fn else intNode c.fn
    let r := tree node (treeDepth w) leaves
    let nodes := treeNodes node (treeDepth w) leaves
    (s.vecReport core ctx c (nodes.map fun e => (0, e))).redWrite core c r.v

/-- MASK group (R132). -/
def State.vecMask (s : State) (core : Nat) (c : VecCmd) : State :=
  let k := s.core core
  let w := typeWidth c.type
  let a := k.mreg c.vs1
  let b := k.mreg c.vs2
  let set := (List.range (k.el w)).filter fun i => a.getLsbD i
  match c.fn with
  | 0 => s.maskWrite core c w fun i => a.getLsbD i && b.getLsbD i
  | 1 => s.maskWrite core c w fun i => a.getLsbD i || b.getLsbD i
  | 2 => s.maskWrite core c w fun i => a.getLsbD i != b.getLsbD i
  | 3 => s.maskWrite core c w fun i => a.getLsbD i && !b.getLsbD i
  | 4 => s.maskWrite core c w fun i => !a.getLsbD i
  | 5 => s.modCore core fun k => k.setM c.vd (BitVec.ofNat 1024 (2 ^ min c.sx.toNat 1024 - 1))
  | 6 => s.vecSx core c set.length
  | _ => s.vecSx core c (set.head?.getD 0xFFFF)

/-- Byte offset or address of the first element of a MEM instruction: wharf offset as an integer, or DVA (R143). -/
def VecCmd.wharfAt (c : VecCmd) (i : Nat) : Int :=
  let w := typeWidth c.type / 8
  if c.fn = 2 ∨ c.fn = 3 then (c.sx.toNat : Int) + i * c.immS else (c.sx.toNat : Int) + c.immS + i * w

/-- DVA of an LDD or STD (R143). -/
def VecCmd.dva (c : VecCmd) : Nat :=
  (((bitsAt c.sx1.toNat 0 16 * 2 ^ 32 + c.sx.toNat : Nat) : Int) + c.immS).toNat % 2 ^ 48

/-- Ranges a MEM instruction declares for `n` elements: the bounding span (R236). -/
def VecCmd.memRanges (c : VecCmd) (n : Nat) : List ScbRange :=
  let w := typeWidth c.type / 8
  let wr := c.fn % 2 == 1
  if n = 0 then []
  else if 4 ≤ c.fn then dvaRange c.dva (n * w) wr
  else
    let a := c.wharfAt 0
    let b := c.wharfAt (n - 1)
    let lo := (max 0 (min a b)).toNat
    let hi := (max 0 (max a b)).toNat + w
    wharfRange lo (hi - lo) wr

/-- Every element of a wharf access is aligned and lies in the wharf (R143). -/
def VecCmd.wharfOk (c : VecCmd) (el : Nat) : Bool :=
  let w := typeWidth c.type / 8
  c.wharfAt 0 % (w : Int) == 0 &&
    (el == 0 || ((List.range el).all fun i => decide (0 ≤ c.wharfAt i ∧ c.wharfAt i + w ≤ (wharfSize : Int))))

/-- Contiguous runs of active elements as (first, count). -/
def runsOf : List Nat → List (Nat × Nat)
  | [] => []
  | i :: is => match runsOf is with
    | (j, n) :: rs => if j = i + 1 then (i, n + 1) :: rs else (i, 1) :: (j, n) :: rs
    | [] => [(i, 1)]

/-- MEM group (R143). -/
def State.vecMem (s : State) (core ctx : Nat) (c : VecCmd) : State :=
  let k := s.core core
  let w := typeWidth c.type
  let wb := w / 8
  let el := k.el w
  let act := (List.range el).filter fun i => k.active c el i
  let src := (k.vreg c.vs1).toNat
  if c.fn < 4 then
    if !c.wharfOk el then s.vecReject core c 0x11
    else if c.fn % 2 = 0 then
      s.vecWrite core ctx c w fun i => { v := ofBytes (k.wharfRead (c.wharfAt i).toNat wb) }
    else
      (s.modCore core fun k => act.foldl (fun k i => k.wharfWrite (c.wharfAt i).toNat (toBytes wb (bitsAt src (w * i) w))) k).vecOps core act.length
  else
    let s := s.portBefore core ctx (c.memRanges el)
    let fail (s : State) (e : MemErr) : State := s.vecReject core c (if e = .poison then 0x13 else 0x12)
    if c.fn = 4 then
      if el = 0 then s.vecWrite core ctx c w fun _ => { v := 0 }
      else match s.dcacheRead core ctx c.dva (el * wb) with
        | (s, .error e) => fail s e
        | (s, .ok bs) => s.vecWrite core ctx c w fun i => { v := numAt bs (i * wb) wb }
    else
      let runs := (runsOf act).map fun r => (c.dva + r.1 * wb, (List.range r.2).flatMap fun j => toBytes wb (bitsAt src (w * (r.1 + j)) w))
      match s.portStore core ctx runs with
      | (s, .error e) => fail s e
      | (s, .ok ()) => s.vecOps core act.length

/-- CART group on the head cart (R149). -/
def State.vecCart (s : State) (core ctx : Nat) (c : VecCmd) : State :=
  match (s.core core).carts with
  | [] => s
  | h :: rest =>
    match c.fn with
    | 0 => s.vecSx core c (if c.imm = 0 then h.tag0.toNat else h.tag1.toNat)
    | 1 =>
      let s := s.modCore core fun k => k.setV c.vd (regOf 8 (((h.bytes.drop c.imm).take 1024).map (·.toNat)))
      if h.bytes.length ≤ c.imm then s.vecRange core ctx else s
    | _ => (s.modCore core fun k => { k with carts := rest }).count .vec core Off.vecCartsPopped

/-- The effect of an instruction at issue. -/
def State.vecExec (s : State) (core ctx : Nat) (c : VecCmd) : State :=
  match c.grp with
  | 0 => s.vecCtrl core ctx c
  | 1 | 2 | 4 => s.vecElem core ctx c
  | 3 => s.vecCmp core ctx c
  | 5 => if c.fn = 2 then s.vecQmx core ctx c else s.vecCvt core ctx c
  | 6 => s.vecPerm core ctx c
  | 7 => s.vecRed core ctx c
  | 8 => s.vecMask core c
  | 9 => s.vecMem core ctx c
  | _ => s.vecCart core ctx c

/-! ### Acceptance and issue (R131, R133) -/

/-- The instruction at the head may issue: a CART instruction needs a visible cart, a MEM instruction the scoreboard (R149, R237). -/
def Core.vecReady (k : Core) (c : VecCmd) : Bool :=
  if c.grp = 10 then !k.carts.isEmpty
  else if c.grp = 9 then
    match scbFind k.scb .vec c.seq with
    | some _ => !k.scbBlocked .vec c.seq
    | none => !anyConflict k.scb (c.memRanges (k.el (typeWidth c.type)))
  else true

/-- A vector instruction of a row reaches the engine (R131): accepted and, when nothing waits before it and its operands are ready, issued at once. A word of another row is none of this row's; a word of no row is discarded with BAD_INSN (R146). -/
def State.vecOp (s : State) (core : Nat) (word : BitVec 64) (grp fn : Nat) : State :=
  let k := s.core core
  let c0 : VecCmd := ⟨word, 0, 0, 0⟩
  if !s.scalarRuns core || c0.fld 0 7 != 0x3F then s
  else if c0.fn < groupSize c0.grp ∧ (c0.grp ≠ grp ∨ c0.fn ≠ fn) then s
  else if k.sregPending c0.sxNo || k.sregPending (c0.sxNo + 1) || s.isResetting ⟨.vec, core⟩ then s.stall core .queue
  else
    match s.coreCtx core with
    | none => s
    | some ctx =>
      let c : VecCmd := ⟨word, k.sreg c0.sxNo, k.sreg ((c0.sxNo + 1) % 32), s.rd .vec core Off.vecInsnSeq + 1⟩
      if !c.ok then (s.vecReject core c 0x10).retire core 8
      else if k.iq.isEmpty && k.vecReady c then
        let (_, s) := s.nextSeq .vec core Off.vecInsnSeq
        (s.vecExec core ctx c).retire core 8
      else if 32 ≤ k.iq.length then s.stall core .queue
      else if c.grp = 9 ∧ k.scbFull = true then s.stall core .full
      else
        let (_, s) := s.nextSeq .vec core Off.vecInsnSeq
        let s := if c.grp = 9 then s.scbAdd core .vec c.seq (c.memRanges (lanesOf (typeWidth c.type))) else s
        let s := s.modCore core fun k => { k with iq := k.iq ++ [c] }
        (s.highWater .vec core Off.vecQueue 0 6 (s.core core).iq.length).retire core 8

/-- VEC_ISSUE (R133): the oldest queued instruction issues once it is ready. -/
def State.vecIssue (s : State) (core : Nat) : State :=
  match (s.core core).iq, s.coreCtx core with
  | c :: rest, some ctx =>
    if s.diesOn && (s.core core).vecReady c then
      let s := s.modCore core fun k => { k with iq := rest }
      (s.vecExec core ctx c).scbRelease core .vec c.seq
    else s
  | _, _ => s

/-- VEC_ISSUE (R133). -/
def execVecIssue (core : Fin 512) (s : State) : Host.Outcome State Fault Refusal := .next (s.vecIssue core)

/-- The vector engine and the cart queue of a core are cleared (R151). -/
def Core.clearVec (k : Core) : Core :=
  { k with iq := [], carts := [], v := [], m := [], vstat := 0, vl := 1024, scb := k.scb.filter fun e => e.owner != .vec }

/-! ### Rows -/

/-- VEC_SETVL_I (R132). -/
def execVecSetvlI (core : Fin 512) (word : BitVec 64) (s : State) : Host.Outcome State Fault Refusal := .next (s.vecOp core word 0 0)
/-- VEC_SETVL_S (R132). -/
def execVecSetvlS (core : Fin 512) (word : BitVec 64) (s : State) : Host.Outcome State Fault Refusal := .next (s.vecOp core word 0 1)
/-- VEC_GETVL (R132). -/
def execVecGetvl (core : Fin 512) (word : BitVec 64) (s : State) : Host.Outcome State Fault Refusal := .next (s.vecOp core word 0 2)
/-- VEC_STAT_R (R132). -/
def execVecStatR (core : Fin 512) (word : BitVec 64) (s : State) : Host.Outcome State Fault Refusal := .next (s.vecOp core word 0 3)
/-- VEC_STAT_C (R132). -/
def execVecStatC (core : Fin 512) (word : BitVec 64) (s : State) : Host.Outcome State Fault Refusal := .next (s.vecOp core word 0 4)
/-- VEC_MVXS (R132). -/
def execVecMvxs (core : Fin 512) (word : BitVec 64) (s : State) : Host.Outcome State Fault Refusal := .next (s.vecOp core word 0 5)
/-- VEC_MVSX (R132). -/
def execVecMvsx (core : Fin 512) (word : BitVec 64) (s : State) : Host.Outcome State Fault Refusal := .next (s.vecOp core word 0 6)
/-- VEC_FADD (R134). -/
def execVecFadd (core : Fin 512) (word : BitVec 64) (s : State) : Host.Outcome State Fault Refusal := .next (s.vecOp core word 1 0)
/-- VEC_FSUB (R134). -/
def execVecFsub (core : Fin 512) (word : BitVec 64) (s : State) : Host.Outcome State Fault Refusal := .next (s.vecOp core word 1 1)
/-- VEC_FMUL (R134). -/
def execVecFmul (core : Fin 512) (word : BitVec 64) (s : State) : Host.Outcome State Fault Refusal := .next (s.vecOp core word 1 2)
/-- VEC_FMA (R134). -/
def execVecFma (core : Fin 512) (word : BitVec 64) (s : State) : Host.Outcome State Fault Refusal := .next (s.vecOp core word 1 3)
/-- VEC_FMIN (R134). -/
def execVecFmin (core : Fin 512) (word : BitVec 64) (s : State) : Host.Outcome State Fault Refusal := .next (s.vecOp core word 1 4)
/-- VEC_FMAX (R134). -/
def execVecFmax (core : Fin 512) (word : BitVec 64) (s : State) : Host.Outcome State Fault Refusal := .next (s.vecOp core word 1 5)
/-- VEC_ABS (R134). -/
def execVecAbs (core : Fin 512) (word : BitVec 64) (s : State) : Host.Outcome State Fault Refusal := .next (s.vecOp core word 1 6)
/-- VEC_NEG (R134). -/
def execVecNeg (core : Fin 512) (word : BitVec 64) (s : State) : Host.Outcome State Fault Refusal := .next (s.vecOp core word 1 7)
/-- VEC_MULS (R134). -/
def execVecMuls (core : Fin 512) (word : BitVec 64) (s : State) : Host.Outcome State Fault Refusal := .next (s.vecOp core word 1 8)
/-- VEC_ADDS (R134). -/
def execVecAdds (core : Fin 512) (word : BitVec 64) (s : State) : Host.Outcome State Fault Refusal := .next (s.vecOp core word 1 9)
/-- VEC_IADD (R135). -/
def execVecIadd (core : Fin 512) (word : BitVec 64) (s : State) : Host.Outcome State Fault Refusal := .next (s.vecOp core word 2 0)
/-- VEC_ISUB (R135). -/
def execVecIsub (core : Fin 512) (word : BitVec 64) (s : State) : Host.Outcome State Fault Refusal := .next (s.vecOp core word 2 1)
/-- VEC_IMUL (R135). -/
def execVecImul (core : Fin 512) (word : BitVec 64) (s : State) : Host.Outcome State Fault Refusal := .next (s.vecOp core word 2 2)
/-- VEC_ADDSAT (R135). -/
def execVecAddsat (core : Fin 512) (word : BitVec 64) (s : State) : Host.Outcome State Fault Refusal := .next (s.vecOp core word 2 3)
/-- VEC_SUBSAT (R135). -/
def execVecSubsat (core : Fin 512) (word : BitVec 64) (s : State) : Host.Outcome State Fault Refusal := .next (s.vecOp core word 2 4)
/-- VEC_IMIN (R135). -/
def execVecImin (core : Fin 512) (word : BitVec 64) (s : State) : Host.Outcome State Fault Refusal := .next (s.vecOp core word 2 5)
/-- VEC_IMAX (R135). -/
def execVecImax (core : Fin 512) (word : BitVec 64) (s : State) : Host.Outcome State Fault Refusal := .next (s.vecOp core word 2 6)
/-- VEC_AND (R135). -/
def execVecAnd (core : Fin 512) (word : BitVec 64) (s : State) : Host.Outcome State Fault Refusal := .next (s.vecOp core word 2 7)
/-- VEC_OR (R135). -/
def execVecOr (core : Fin 512) (word : BitVec 64) (s : State) : Host.Outcome State Fault Refusal := .next (s.vecOp core word 2 8)
/-- VEC_XOR (R135). -/
def execVecXor (core : Fin 512) (word : BitVec 64) (s : State) : Host.Outcome State Fault Refusal := .next (s.vecOp core word 2 9)
/-- VEC_SHL (R135). -/
def execVecShl (core : Fin 512) (word : BitVec 64) (s : State) : Host.Outcome State Fault Refusal := .next (s.vecOp core word 2 10)
/-- VEC_SHRL (R135). -/
def execVecShrl (core : Fin 512) (word : BitVec 64) (s : State) : Host.Outcome State Fault Refusal := .next (s.vecOp core word 2 11)
/-- VEC_SHRA (R135). -/
def execVecShra (core : Fin 512) (word : BitVec 64) (s : State) : Host.Outcome State Fault Refusal := .next (s.vecOp core word 2 12)
/-- VEC_EQ (R136). -/
def execVecEq (core : Fin 512) (word : BitVec 64) (s : State) : Host.Outcome State Fault Refusal := .next (s.vecOp core word 3 0)
/-- VEC_NE (R136). -/
def execVecNe (core : Fin 512) (word : BitVec 64) (s : State) : Host.Outcome State Fault Refusal := .next (s.vecOp core word 3 1)
/-- VEC_LT (R136). -/
def execVecLt (core : Fin 512) (word : BitVec 64) (s : State) : Host.Outcome State Fault Refusal := .next (s.vecOp core word 3 2)
/-- VEC_LE (R136). -/
def execVecLe (core : Fin 512) (word : BitVec 64) (s : State) : Host.Outcome State Fault Refusal := .next (s.vecOp core word 3 3)
/-- VEC_GT (R136). -/
def execVecGt (core : Fin 512) (word : BitVec 64) (s : State) : Host.Outcome State Fault Refusal := .next (s.vecOp core word 3 4)
/-- VEC_GE (R136). -/
def execVecGe (core : Fin 512) (word : BitVec 64) (s : State) : Host.Outcome State Fault Refusal := .next (s.vecOp core word 3 5)
/-- VEC_UNORD (R136). -/
def execVecUnord (core : Fin 512) (word : BitVec 64) (s : State) : Host.Outcome State Fault Refusal := .next (s.vecOp core word 3 6)
/-- VEC_EXP (R137). -/
def execVecExp (core : Fin 512) (word : BitVec 64) (s : State) : Host.Outcome State Fault Refusal := .next (s.vecOp core word 4 0)
/-- VEC_EXP2 (R137). -/
def execVecExp2 (core : Fin 512) (word : BitVec 64) (s : State) : Host.Outcome State Fault Refusal := .next (s.vecOp core word 4 1)
/-- VEC_LN (R137). -/
def execVecLn (core : Fin 512) (word : BitVec 64) (s : State) : Host.Outcome State Fault Refusal := .next (s.vecOp core word 4 2)
/-- VEC_LOG2 (R137). -/
def execVecLog2 (core : Fin 512) (word : BitVec 64) (s : State) : Host.Outcome State Fault Refusal := .next (s.vecOp core word 4 3)
/-- VEC_RCP (R137). -/
def execVecRcp (core : Fin 512) (word : BitVec 64) (s : State) : Host.Outcome State Fault Refusal := .next (s.vecOp core word 4 4)
/-- VEC_RSQRT (R137). -/
def execVecRsqrt (core : Fin 512) (word : BitVec 64) (s : State) : Host.Outcome State Fault Refusal := .next (s.vecOp core word 4 5)
/-- VEC_SQRT (R137). -/
def execVecSqrt (core : Fin 512) (word : BitVec 64) (s : State) : Host.Outcome State Fault Refusal := .next (s.vecOp core word 4 6)
/-- VEC_TANH (R137). -/
def execVecTanh (core : Fin 512) (word : BitVec 64) (s : State) : Host.Outcome State Fault Refusal := .next (s.vecOp core word 4 7)
/-- VEC_SIGMOID (R137). -/
def execVecSigmoid (core : Fin 512) (word : BitVec 64) (s : State) : Host.Outcome State Fault Refusal := .next (s.vecOp core word 4 8)
/-- VEC_ERF (R137). -/
def execVecErf (core : Fin 512) (word : BitVec 64) (s : State) : Host.Outcome State Fault Refusal := .next (s.vecOp core word 4 9)
/-- VEC_SIN (R137). -/
def execVecSin (core : Fin 512) (word : BitVec 64) (s : State) : Host.Outcome State Fault Refusal := .next (s.vecOp core word 4 10)
/-- VEC_COS (R137). -/
def execVecCos (core : Fin 512) (word : BitVec 64) (s : State) : Host.Outcome State Fault Refusal := .next (s.vecOp core word 4 11)
/-- VEC_CVT (R138). -/
def execVecCvt (core : Fin 512) (word : BitVec 64) (s : State) : Host.Outcome State Fault Refusal := .next (s.vecOp core word 5 0)
/-- VEC_CVTS (R138). -/
def execVecCvts (core : Fin 512) (word : BitVec 64) (s : State) : Host.Outcome State Fault Refusal := .next (s.vecOp core word 5 1)
/-- VEC_QMX (R138). -/
def execVecQmx (core : Fin 512) (word : BitVec 64) (s : State) : Host.Outcome State Fault Refusal := .next (s.vecOp core word 5 2)
/-- VEC_PERM (R140). -/
def execVecPerm (core : Fin 512) (word : BitVec 64) (s : State) : Host.Outcome State Fault Refusal := .next (s.vecOp core word 6 0)
/-- VEC_SLIDEUP (R140). -/
def execVecSlideup (core : Fin 512) (word : BitVec 64) (s : State) : Host.Outcome State Fault Refusal := .next (s.vecOp core word 6 1)
/-- VEC_SLIDEDN (R140). -/
def execVecSlidedn (core : Fin 512) (word : BitVec 64) (s : State) : Host.Outcome State Fault Refusal := .next (s.vecOp core word 6 2)
/-- VEC_BCAST (R140). -/
def execVecBcast (core : Fin 512) (word : BitVec 64) (s : State) : Host.Outcome State Fault Refusal := .next (s.vecOp core word 6 3)
/-- VEC_COMPRESS (R140). -/
def execVecCompress (core : Fin 512) (word : BitVec 64) (s : State) : Host.Outcome State Fault Refusal := .next (s.vecOp core word 6 4)
/-- VEC_SUM (R141). -/
def execVecSum (core : Fin 512) (word : BitVec 64) (s : State) : Host.Outcome State Fault Refusal := .next (s.vecOp core word 7 0)
/-- VEC_PROD (R141). -/
def execVecProd (core : Fin 512) (word : BitVec 64) (s : State) : Host.Outcome State Fault Refusal := .next (s.vecOp core word 7 1)
/-- VEC_RMAX (R141). -/
def execVecRmax (core : Fin 512) (word : BitVec 64) (s : State) : Host.Outcome State Fault Refusal := .next (s.vecOp core word 7 2)
/-- VEC_RMIN (R141). -/
def execVecRmin (core : Fin 512) (word : BitVec 64) (s : State) : Host.Outcome State Fault Refusal := .next (s.vecOp core word 7 3)
/-- VEC_LSE (R141). -/
def execVecLse (core : Fin 512) (word : BitVec 64) (s : State) : Host.Outcome State Fault Refusal := .next (s.vecOp core word 7 4)
/-- VEC_ARGMAX (R141). -/
def execVecArgmax (core : Fin 512) (word : BitVec 64) (s : State) : Host.Outcome State Fault Refusal := .next (s.vecOp core word 7 5)
/-- VEC_ARGMIN (R141). -/
def execVecArgmin (core : Fin 512) (word : BitVec 64) (s : State) : Host.Outcome State Fault Refusal := .next (s.vecOp core word 7 6)
/-- MASK_AND (R132). -/
def execMaskAnd (core : Fin 512) (word : BitVec 64) (s : State) : Host.Outcome State Fault Refusal := .next (s.vecOp core word 8 0)
/-- MASK_OR (R132). -/
def execMaskOr (core : Fin 512) (word : BitVec 64) (s : State) : Host.Outcome State Fault Refusal := .next (s.vecOp core word 8 1)
/-- MASK_XOR (R132). -/
def execMaskXor (core : Fin 512) (word : BitVec 64) (s : State) : Host.Outcome State Fault Refusal := .next (s.vecOp core word 8 2)
/-- MASK_ANDN (R132). -/
def execMaskAndn (core : Fin 512) (word : BitVec 64) (s : State) : Host.Outcome State Fault Refusal := .next (s.vecOp core word 8 3)
/-- MASK_NOT (R132). -/
def execMaskNot (core : Fin 512) (word : BitVec 64) (s : State) : Host.Outcome State Fault Refusal := .next (s.vecOp core word 8 4)
/-- MASK_SETN (R132). -/
def execMaskSetn (core : Fin 512) (word : BitVec 64) (s : State) : Host.Outcome State Fault Refusal := .next (s.vecOp core word 8 5)
/-- MASK_POPC (R132). -/
def execMaskPopc (core : Fin 512) (word : BitVec 64) (s : State) : Host.Outcome State Fault Refusal := .next (s.vecOp core word 8 6)
/-- MASK_FIRST (R132). -/
def execMaskFirst (core : Fin 512) (word : BitVec 64) (s : State) : Host.Outcome State Fault Refusal := .next (s.vecOp core word 8 7)
/-- VEC_LDW (R143). -/
def execVecLdw (core : Fin 512) (word : BitVec 64) (s : State) : Host.Outcome State Fault Refusal := .next (s.vecOp core word 9 0)
/-- VEC_STW (R143). -/
def execVecStw (core : Fin 512) (word : BitVec 64) (s : State) : Host.Outcome State Fault Refusal := .next (s.vecOp core word 9 1)
/-- VEC_LDWS (R143). -/
def execVecLdws (core : Fin 512) (word : BitVec 64) (s : State) : Host.Outcome State Fault Refusal := .next (s.vecOp core word 9 2)
/-- VEC_STWS (R143). -/
def execVecStws (core : Fin 512) (word : BitVec 64) (s : State) : Host.Outcome State Fault Refusal := .next (s.vecOp core word 9 3)
/-- VEC_LDD (R143). -/
def execVecLdd (core : Fin 512) (word : BitVec 64) (s : State) : Host.Outcome State Fault Refusal := .next (s.vecOp core word 9 4)
/-- VEC_STD (R143). -/
def execVecStd (core : Fin 512) (word : BitVec 64) (s : State) : Host.Outcome State Fault Refusal := .next (s.vecOp core word 9 5)
/-- CTAG (R149). -/
def execCtag (core : Fin 512) (word : BitVec 64) (s : State) : Host.Outcome State Fault Refusal := .next (s.vecOp core word 10 0)
/-- CRD (R149). -/
def execCrd (core : Fin 512) (word : BitVec 64) (s : State) : Host.Outcome State Fault Refusal := .next (s.vecOp core word 10 1)
/-- CPOP (R149). -/
def execCpop (core : Fin 512) (word : BitVec 64) (s : State) : Host.Outcome State Fault Refusal := .next (s.vecOp core word 10 2)

end Sys2Proof.Machine
end

