-- ==== Sys2Proof/Machine/Sync.lean ====
section
/-! DEFINITION. Fences, sync counters and uncached loads (R234, R240 to R247, R259). -/

namespace Sys2Proof.Machine

/-! ### Sync counters (R243, R245, R247) -/

/-- Counter `n` of a cluster. -/
def Cluster.cnt (c : Cluster) (n : Nat) : SyncCnt := Tbl.get c.sync n {}

/-- A sync counter is incremented, and its mark recorded (R243, R247). -/
def State.syncInc (s : State) (cl n : Nat) (by_ : Word) (mark : SyncMark) : State :=
  (s.modCluster cl fun c => { c with sync := Tbl.put c.sync n ⟨(c.cnt n).value + by_, some mark⟩ }).count .syc cl Off.sycIncs

/-- The mark of an agent's increment (R247). -/
def agentMark : SyncMark := { scope := 1, agent := true }

/-- The target is reached (R246). -/
def reached (c v : Word) : Bool := decide (0 ≤ (c - v).toInt)

/-- R242 fails between an increment's mark and a `syw` of a lane at a scope. -/
def SyncMark.fails (m : SyncMark) (lane : Nat) (scope : BitVec 2) : Bool :=
  let own := !m.agent && m.lane == lane
  !(m.delivery == some lane) && !((m.scope != 0 || own) && (scope != 0 || own))

/-- A completed `syw` is judged in TENANT (R243, R259, R260). -/
def State.judgeSyw (s : State) (core n : Nat) (scope : BitVec 2) : State :=
  let cl := core / 16
  match ((s.cluster cl).cnt n).last, s.coreCtx core with
  | some m, some ctx =>
    if s.dbg.st = 1 ∧ m.fails (core % 16) scope = true then
      let s := if s.fld .syc cl Off.sycMismatch 31 1 = 1 then s
        else s.wr .syc cl Off.sycMismatch (BitVec.ofNat 32 (n + (core % 16) * 2 ^ 8 + (if m.agent then 0 else m.lane) * 2 ^ 12
          + m.scope.toNat * 2 ^ 16 + scope.toNat * 2 ^ 18 + b2n m.agent * 2 ^ 20 + 2 ^ 31))
      s.raiseCtx .syc cl 0x10 0 ctx core
    else s
  | _, _ => s

/-! ### Fences (R241) -/

/-- OP of a DMA command. -/
def DmaCmd.op (c : DmaCmd) : Nat := descFld c.raw.toNat 0 0 4

/-- The entry is an RWRITE that has started: its source has been read, and it is complete only at flight scope (R235, R241). -/
def Core.isRwrite (k : Core) (e : ScbEntry) : Bool :=
  e.owner == .dma && k.dmaRun.any fun r => r.cmd.seq == e.seq && r.cmd.op == 5

/-- Every earlier access of the core satisfies a `rel` at a scope (R241). -/
def Core.relReady (k : Core) (scope : BitVec 2) : Bool := k.scb.all fun e => scope != 2 && k.isRwrite e

/-- Every earlier read of the core has returned its value (R241). An entry without a read range holds no read. -/
def Core.acqReady (k : Core) : Bool := k.scb.all fun e => k.isRwrite e || e.ranges.all (·.wr)

/-- The effect of a `rel` that no longer waits: at DEVICE and FLIGHT the port's stores are at the basin (R235, R241). -/
def State.relDone (s : State) (core : Nat) (scope : BitVec 2) : State := if scope = 0 then s else s.portFlushAll core

/-- The effect of an `acq`: at DEVICE and FLIGHT the data cache is invalidated (R241). -/
def State.acqDone (s : State) (core : Nat) (scope : BitVec 2) : State := if scope = 0 then s else s.dcacheInval core

/-- A fence operation has executed (R257). -/
def State.countFence (s : State) (core : Nat) : State := s.count .scb core Off.scbFences

/-- An error of a scalar custom instruction: nothing of it takes effect, and the scalar unit goes on. -/
def State.scalarError (s : State) (core : Nat) (k : PageKind) (i cond : Nat) : State :=
  match s.coreCtx core with
  | some ctx => (s.raiseCtx k i cond 1 ctx core).retire core
  | none => s

/-- BAD_FENCE (R240, R258). -/
def State.badFence (s : State) (core : Nat) : State := s.scalarError core .scb core 0x10

/-- `rel`, `acq` or `fence` (KIND 0, 1, 2) at a scope (R241). -/
def State.fenceOp (s : State) (core kind : Nat) (scope : BitVec 2) : State :=
  if !s.scalarRuns core then s
  else if scope = 3 ∨ 3 ≤ kind then s.badFence core
  else
    let k := s.core core
    if kind ≠ 1 ∧ k.relReady scope = false ∨ kind ≠ 0 ∧ k.acqReady = false then s.stall core .fence
    else
      let s := if kind ≠ 1 then s.relDone core scope else s
      let s := if kind ≠ 0 then s.acqDone core scope else s
      (s.countFence core).retire core

/-- REL (R241). -/
def execRel (core : Fin 512) (scope : BitVec 2) (s : State) : Host.Outcome State Fault Refusal := .next (s.fenceOp core 0 scope)
/-- ACQ (R241). -/
def execAcq (core : Fin 512) (scope : BitVec 2) (s : State) : Host.Outcome State Fault Refusal := .next (s.fenceOp core 1 scope)
/-- FENCE (R241). -/
def execFence (core : Fin 512) (scope : BitVec 2) (s : State) : Host.Outcome State Fault Refusal := .next (s.fenceOp core 2 scope)

/-- A scalar instruction that reads `rs` waits while a queued vector instruction will write one of them (R133). -/
def State.waitsVec (s : State) (core : Nat) (rs : List (BitVec 5)) : Bool := rs.any fun r => (s.core core).sregPending r.toNat

/-- SYI: `rel` at the scope, then the counter rises (R240, R247). -/
def State.syiOp (s : State) (core : Nat) (rs1 rs2 : BitVec 5) (scope : BitVec 2) : State :=
  if !s.scalarRuns core then s
  else if s.waitsVec core [rs1, rs2] || s.isResetting ⟨.syc, core / 16⟩ then s.stall core .queue
  else if scope = 3 then s.badFence core
  else
    let n := s.sreg core rs1
    if 255 ≤ n then s.scalarError core .syc (core / 16) 0x11
    else if !(s.core core).relReady scope then s.stall core .fence
    else
      let s := s.relDone core scope
      let s := s.syncInc (core / 16) n ((s.core core).sreg rs2.toNat) { scope := scope, lane := core % 16 }
      (s.countFence core).retire core

/-- SYI (R247). -/
def execSyi (core : Fin 512) (rs1 rs2 : BitVec 5) (scope : BitVec 2) (s : State) : Host.Outcome State Fault Refusal :=
  .next (s.syiOp core rs1 rs2 scope)

/-- A `syw` whose counter has reached its target: judged, then its acquire (R243, R246). It stands while earlier reads are outstanding. -/
def State.sywEnd (s : State) (core n : Nat) (scope : BitVec 2) : State :=
  if !(s.core core).acqReady then s
  else (((s.judgeSyw core n scope).acqDone core scope).countFence core).retire core

/-- SYW: waits for its counter, or ends at once (R246). -/
def State.sywOp (s : State) (core : Nat) (rs1 rs2 : BitVec 5) (scope : BitVec 2) : State :=
  if !s.scalarRuns core then s
  else if s.waitsVec core [rs1, rs2] || s.isResetting ⟨.syc, core / 16⟩ then s.stall core .queue
  else if scope = 3 then s.badFence core
  else
    let n := s.sreg core rs1
    if 255 ≤ n then s.scalarError core .syc (core / 16) 0x11
    else
      let v := (s.core core).sreg rs2.toNat
      if reached ((s.cluster (core / 16)).cnt n).value v && (s.core core).acqReady then s.sywEnd core n scope
      else s.stall core (.syw n v scope)

/-- SYW (R246). -/
def execSyw (core : Fin 512) (rs1 rs2 : BitVec 5) (scope : BitVec 2) (s : State) : Host.Outcome State Fault Refusal :=
  .next (s.sywOp core rs1 rs2 scope)

/-- SYW_WAIT_END: a waiting `syw` whose counter has reached its target ends (R246). -/
def State.sywWaitEnd (s : State) (core : Nat) : State :=
  match (s.core core).wait with
  | .syw n v scope =>
    if s.diesOn && (s.core core).kernel.isSome && reached ((s.cluster (core / 16)).cnt n).value v then s.sywEnd core n scope else s
  | _ => s

/-- SYW_WAIT_END (R246). -/
def execSywWaitEnd (core : Fin 512) (s : State) : Host.Outcome State Fault Refusal := .next (s.sywWaitEnd core)

/-- SYR: rd receives the counter (R240). -/
def State.syrOp (s : State) (core : Nat) (rd rs1 : BitVec 5) : State :=
  if !s.scalarRuns core then s
  else if s.waitsVec core [rs1, rd] || s.isResetting ⟨.syc, core / 16⟩ then s.stall core .queue
  else
    let n := s.sreg core rs1
    if 255 ≤ n then s.scalarError core .syc (core / 16) 0x11
    else (s.modCore core fun k => k.setSreg rd.toNat ((s.cluster (core / 16)).cnt n).value).retire core

/-- SYR (R240). -/
def execSyr (core : Fin 512) (rd rs1 : BitVec 5) (s : State) : Host.Outcome State Fault Refusal := .next (s.syrOp core rd rs1)

/-- LDU: an uncached load served at the basin (R240). -/
def State.lduOp (s : State) (core : Nat) (rd rs1 rs2 : BitVec 5) : State :=
  if !s.scalarRuns core then s
  else if s.waitsVec core [rd, rs1, rs2] then s.stall core .queue
  else
    match s.coreCtx core with
    | none => s
    | some ctx =>
      let a := s.sreg core rs1 + 2 ^ 32 * (s.sreg core rs2 % 2 ^ 16)
      let rs := dvaRange a 4 false
      if a % 4 ≠ 0 then s.scalarError core .scb core 0x11
      else if s.scalarBlocked core rs then s.stall core .conflict
      else match (s.portBefore core ctx rs).memRead core ctx a 4 with
        | (s, .error _) => s.scalarError core .scb core 0x11
        | (s, .ok bs) => (s.modCore core fun k => k.setSreg rd.toNat (BitVec.ofNat 32 (ofBytes bs))).retire core

/-- LDU (R240). -/
def execLdu (core : Fin 512) (rd rs1 rs2 : BitVec 5) (s : State) : Host.Outcome State Fault Refusal := .next (s.lduOp core rd rs1 rs2)

/-- DCINV: the data cache is invalidated whole (R224). -/
def State.dcinvOp (s : State) (core : Nat) : State := if s.scalarRuns core then (s.dcacheInval core).retire core else s

/-- DCINV (R224). -/
def execDcinv (core : Fin 512) (s : State) : Host.Outcome State Fault Refusal := .next (s.dcinvOp core)

end Sys2Proof.Machine
end

