-- ==== Sys2Proof/Machine/Regs.lean ====
section
/-! DEFINITION. Register accesses (R7 to R14, R27 to R42): who reaches a page, what a register reads as, and what a write does to each field of it. -/

namespace Sys2Proof

/-- The function of a source: a virtual function or none (R29). -/
def Source.fn : Source → Option Nat
  | .vf k => some k.val
  | _ => none

end Sys2Proof

namespace Sys2Proof.Machine

/-! ### Who reaches what (R24, R29, R33, R355, R395) -/

/-- Accesses of this source are answered: the part is out of reset, a function's port is up and its BARs are assigned (R395), Dravner runs an image (R404). -/
def State.answers (s : State) (src : Source) : Bool :=
  !s.rst.inReset && match src with
  | .vf k => decide (k.val ≠ 0) && !s.rst.perst && Tbl.get s.pci.bars k.val false
  | .pf => !s.rst.perst && Tbl.get s.pci.bars 0 false
  | .towpath => true
  | .dravner => s.rst.drv.isSome

/-- The page at an offset of a source's BAR0, and its register address; none = unassigned (R27). -/
def pageAt (src : Source) (off : Nat) : Option (PageRef × Nat) :=
  match sourceAddr src.fn off with
  | none => none
  | some a => (pageOf a).map fun p => (p, a % 0x1000)

/-- The die of a page is powered: the X-die always; a C-die or M-die page while the dies run and its domain is on (R35). -/
def State.powered (s : State) (p : PageRef) : Bool :=
  p.die == 6 || (s.diesOn && (s.dom p.die).point != 15)

/-- The page `src` names by an offset of its first register, for rows that name a page. -/
def State.reaches (s : State) (src : Source) (off : Nat) : Option PageRef :=
  if s.answers src then (pageAt src off).bind fun (p, _) => if s.powered p then some p else none else none

/-- `src` reaches the block page of an X-die block: every source but a virtual function (R29). -/
def State.reachesBlock (s : State) (src : Source) : Bool := s.answers src && src.fn.isNone

/-- `src` reaches context view `k`: a virtual function only its own (R29, R30). -/
def State.reachesView (s : State) (src : Source) (k : Nat) : Bool :=
  s.answers src && match src.fn with
  | some j => j == k
  | none => true

/-! ### Where a register is kept -/

/-- The bank a selector of the page shows (R126, R153, R180, R281, R311, R435, R438). -/
def State.bankOf (s : State) (p : PageRef) (off : Nat) : Nat :=
  match regAt p.kind off with
  | none => 0
  | some r =>
    match r.bank with
    | .one => 0
    | .ctx =>
      match p.kind with
      | .drn => s.fld .drn p.inst Off.drnCtxSel 0 8
      | .vec => s.fld .vec p.inst Off.vecCtxSel 0 8
      | .atp => s.fld .atp p.inst Off.atpCtxSel 0 8
      | .rte => s.fld .rte 0 Off.rteCtxSel 0 8
      | .fce => s.fld .fce 0 Off.fceCtxSel 0 8
      | _ => 0
    | .slot => s.fld .fce 0 Off.fcePlanSel 0 5
    | .dom => if p.kind = .age then s.fld .age 0 Off.ageDomSel 0 3 else s.fld .pwr 0 Off.pwrDomSel 0 3

/-- The instance that keeps a register every instance shows: context modes of all cores (R113), partitions of all basins (R230), the coach table (R205). -/
def homeInst (p : PageRef) (off : Nat) : Nat :=
  match p.kind with
  | .drn => if Off.drnCtxMode ≤ off ∧ off < Off.drnCtxMode + 64 then 0 else p.inst
  | .bsn => if Off.bsnWaymask ≤ off ∧ off < Off.bsnHitsLo then 0 else p.inst
  | .cyd => if Off.cydTableLo ≤ off ∧ off ≤ Off.cydTableSize then 0 else p.inst
  | _ => p.inst

/-- The register acts in M-die 0's page only: writes through the other pages are ignored (R205, R229, R230). -/
def mdieZeroOnly (p : PageRef) (off : Nat) : Bool :=
  match p.kind with
  | .mem => p.inst != 0 && (off == Off.memPtdirLo || off == Off.memPtdirHi || off == Off.memXlatInv || off == Off.memCtx0Share)
  | .bsn => p.inst != 0 && decide (Off.bsnWaymask ≤ off ∧ off < Off.bsnHitsLo)
  | .cyd => p.inst != 0 && decide (Off.cydTableLo ≤ off ∧ off ≤ Off.cydTableSize)
  | _ => false

/-- Address of a register's stored word. -/
def State.regAddr (s : State) (p : PageRef) (off : Nat) : Nat := regKey p.kind (homeInst p off) off (s.bankOf p off)

/-- Mask of a field in its word. -/
def Field.mask (f : Field) : Word := BitVec.ofNat 32 ((2 ^ f.w - 1) <<< f.lo)

/-- Staged writes of one register laid over its value in effect: the most recently written values of its T fields (R11). -/
def overlay (addr : Nat) (v : Word) (st : List Staged) : Word :=
  st.foldl (fun v x => match x with
    | .field a m w => if a = addr then (v &&& ~~~m) ||| (w &&& m) else v
    | _ => v) v

/-- The word most recently written to a register: staged values over values in effect (R11). -/
def State.latest (s : State) (k : PageKind) (i off : Nat) (bank : Nat := 0) : Nat :=
  (overlay (regKey k i off bank) (s.rd k i off bank) s.staged).toNat

/-- Field of the most recently written word. -/
def State.latestFld (s : State) (k : PageKind) (i off lo w : Nat) (bank : Nat := 0) : Nat := bitsAt (s.latest k i off bank) lo w

/-! ### Status a page derives from its block -/

/-- A word from fields (low bit, width, value). -/
def packFields (fs : List (Nat × Nat × Nat)) : Nat := fs.foldl (fun a f => a ||| ((f.2.2 % 2 ^ f.2.1) <<< f.1)) 0

/-- DEVSTATE (R383). -/
def State.devstate (s : State) : Nat :=
  if s.hwd.fatal then 5
  else if s.hwd.stopped then 4
  else if s.hwd.restarting then 3
  else if s.rst.inReset ∨ !s.rst.ready then 0
  else if s.ticking || s.lkp.starting.isSome then 2
  else 1

/-- Bit number of a set, `n` bits. -/
def bitSet (n : Nat) (f : Nat → Bool) : Nat := (List.range n).foldl (fun a i => a + b2n (f i) * 2 ^ i) 0

/-- Clusters granted to a context in this pound (R76 GRANT). -/
def State.grantOf (s : State) (k : Nat) : Nat := bitSet 32 fun c => (s.cluster c).granted == some k

/-- State of a context's step as `LKP_CTX_STEP` shows it (R76). -/
def Ctx.stepCode (c : Ctx) : Nat :=
  match c.step with
  | none => 0
  | some st => if st.done.isSome then 2 else if st.spilled then 3 else 1

/-- Cores of cluster `c` a launch entry names (R59). -/
def Launch.coresOn (l : Launch) (c : Nat) : List Nat := ((List.range 16).filter fun i => l.mask.getLsbD i).map fun i => 16 * c + i

/-- Launch entries that name cluster `c` under its grant (R59, R63). -/
def State.launchesOn (s : State) (c : Nat) : List Launch :=
  let cl := s.cluster c
  match cl.granted with
  | none => []
  | some k =>
    match (s.ctx k).step with
    | none => []
    | some st => st.launches.filter fun l => l.bcast || l.lcluster == cl.logical

/-- Code of a coach or berth count: coaches of slice `m` in a state (R205). -/
def State.sliceCount (s : State) (m : Nat) (st : CoachState) : Nat :=
  (s.yard.coaches.filter fun e => e.1 % 4 == m && e.2.st == st).length

/-- FREE entries of slice `m`, index 0 excluded (R205). -/
def State.sliceFree (s : State) (m : Nat) : Nat :=
  s.tableSize / 4 - b2n (m == 0) - (s.yard.coaches.filter fun e => e.1 % 4 == m && e.2.st != .free).length

/-- Bytes an armed merge slot reserves: popcount(EXPECT) × HEADS × rows × (8 + 4 × HDIM) (R167). -/
def mergeReserve (raw : Nat) : Nat :=
  let lanes := ((List.range 16).filter fun i => bitAt (atExpect raw) i).length
  lanes * atRecs raw * (8 + 4 * atHdim raw)

/-- The code of a link state (R283). -/
def LinkState.code : LinkState → Nat
  | .disabled => 0
  | .down => 1
  | .verifying => 2
  | .up => 3
  | .quarantined => 4

/-- The code of a berth state (R317). -/
def BerthState.code : BerthState → Nat
  | .free => 0
  | .prefill => 1
  | .decode => 2
  | .stretch => 3
  | .closing => 4

/-- The code of a context state (R333). -/
def CtxState.code : CtxState → Nat
  | .inactive => 0
  | .activating => 1
  | .active => 2
  | .deactivating => 3

/-- The code of a plan slot state (R311). -/
def PlanState.code : PlanState → Nat
  | .empty => 0
  | .loaded => 1
  | .armed => 2
  | .stopped => 3

/-- The context bound to plan slot `i`: the lowest whose `FCE_CTX_PLAN` binds it (R295). -/
def State.boundCtx (s : State) (i : Nat) : Option Nat :=
  (List.range 256).find? fun k => s.fld .fce 0 Off.fceCtxPlan 5 1 k == 1 && s.fld .fce 0 Off.fceCtxPlan 0 5 k == i

/-- The plan slot a context is bound to (R295). -/
def State.slotOf (s : State) (k : Nat) : Option Nat :=
  if s.fld .fce 0 Off.fceCtxPlan 5 1 k = 1 then some (s.fld .fce 0 Off.fceCtxPlan 0 5 k) else none

/-- The current copy of the lifetime-log summary: the one with the higher SEQ whose CRC-32C checks (R433). -/
def Flash.summary (f : Flash) : List Byte :=
  let ok := fun (b : List Byte) => b.length == 4096 && ofBytes (b.drop 4092) == crc32c (b.take 4092)
  let seq := fun (b : List Byte) => ofBytes ((b.drop 4).take 4)
  if ok f.sum1 && (!ok f.sum0 || decide (seq f.sum0 < seq f.sum1)) then f.sum1
  else if ok f.sum0 then f.sum0 else []

/-- Byte of the lifetime log at a window position (R433, R438): region 0 the summary, region 1 the event ring. -/
def State.logByte (s : State) (region pos : Nat) : Byte :=
  if region = 0 then s.flash.summary.getD pos 0
  else (Tbl.get s.flash.ring (pos / 64) []).getD (pos % 64) 0

/-- A page of X-die index `i`, of a link, port, M-die, cluster or core reports an error (R390). -/
def State.groupErr (s : State) (ps : List PageRef) : Bool := ps.any s.pageErr

/-- The eight pages of core `n`. -/
def corePages (n : Nat) : List PageRef := [⟨.scb, n⟩, ⟨.mxa, n⟩, ⟨.drn, n⟩, ⟨.vec, n⟩, ⟨.atp, n⟩, ⟨.dma, n⟩, ⟨.whf, n⟩, ⟨.dch, n⟩]

/-- The three pages of cluster `c`. -/
def clusterPages (c : Nat) : List PageRef := [⟨.csq, c⟩, ⟨.mrg, c⟩, ⟨.syc, c⟩]

/-- Page `p` of M-die `m`, 0 to 18 (R26). -/
def mdiePage (m p : Nat) : PageRef :=
  if p = 0 then ⟨.mem, m⟩ else if p ≤ 16 then ⟨.memch, 16 * m + (p - 1)⟩ else if p = 17 then ⟨.bsn, m⟩ else ⟨.cyd, m⟩

/-- X-die page `i` (R25). -/
def xdieRef (i : Nat) : PageRef := ⟨(xdiePage i).getD .pci, 0⟩

/-- Some block page holds `BLK_SECOND.VALID` (R390 NESTED). -/
def State.nested (s : State) : Bool :=
  s.regs.any fun c => decide (c.1 < 0x3000000) && c.1 % 0x1000 == Off.blkSecond && bitAt c.2.toNat 31

/-- Most severe severity held in a context view (R391). -/
def State.worstIn (s : State) (k : Nat) : Option Nat :=
  [PageKind.vpci, .vlkp, .vsec, .vcyd, .vpwr, .vdbg, .vsrv, .vhwd].foldl
    (fun a v => worse (worse a (heldSev (s.rd v k Off.blkFirst))) (heldSev (s.rd v k Off.blkSecond))) none

/-- `HWD_SUM_TOP` (R390). -/
def State.sumTop (s : State) : Nat :=
  let w := s.worst
  packFields [
    (0, 1, b2n (s.groupErr ((List.range 16).map xdieRef))),
    (1, 1, b2n (s.groupErr ((List.range 18).map (⟨.lnk, ·⟩)))),
    (2, 1, b2n (s.groupErr ((List.range 18).map (⟨.lpt, ·⟩)))),
    (3, 4, bitSet 4 fun m => s.groupErr ((List.range 19).map (mdiePage m))),
    (7, 1, b2n (s.groupErr ((List.range 32).flatMap clusterPages))),
    (8, 1, b2n (s.groupErr ((List.range 512).flatMap corePages))),
    (16, 2, w.getD 0), (18, 1, b2n w.isSome), (19, 1, b2n s.nested), (20, 1, b2n s.hwd.alert)]

/-- Tamper flags, log window and the like need no more than the state; the derived words of a core's pages (R102, R126, R153, R180, R231, R257). -/
def State.coreWord (s : State) (k : PageKind) (n off : Nat) : Nat :=
  let c := s.core n
  match k with
  | .scb =>
    packFields [(0, 6, c.scb.length), (16, 1, b2n (c.wait == .full)), (17, 1, b2n (c.wait == .conflict)),
      (18, 1, b2n (match c.wait with
        | .fence | .syw .. => true
        | _ => false))]
  | .mxa =>
    if off = Off.mxaQueue then packFields [(0, 5, c.mxq.length)]
    else packFields ((List.range 4).flatMap fun a =>
      let x := c.array a
      [(8 * a, 1, b2n x.shallow), (8 * a + 1, 1, b2n x.liveValid),
        (8 * a + 2, 2, match x.shadow with
          | .empty => 0
          | .loading => 1
          | .full => 2
          | .draining => 3),
        (8 * a + 4, 1, b2n x.coupled), (8 * a + 5, 1, b2n (x.bank0 != .free)), (8 * a + 6, 1, b2n (x.bank1 != .free)),
        (8 * a + 7, 1, b2n (x.load.isSome || c.tileBusy a))])
  | .drn => packFields [(0, 4, c.drainQ.length), (4, 1, b2n c.heldCart.isSome), (5, 1, b2n (!c.drainQ.isEmpty)), (16, 16, c.descLoaded.toNat)]
  | .vec => packFields [(0, 6, c.iq.length), (8, 5, c.carts.length), (16, 1, b2n (!c.iq.isEmpty)),
      (17, 1, b2n (c.carts.isEmpty && match c.iq with
        | i :: _ => i.grp == 10
        | [] => false)), (18, 1, b2n c.heldCart.isSome)]
  | .atp => packFields [(0, 4, c.jobs.length), (4, 1, b2n c.job.isSome), (5, 1, b2n ((c.array 2).coupled && c.job.isSome)),
      (6, 1, match c.job with
        | some r => b2n (atOp r.job.raw.toNat == 1)
        | none => 0)]
  | .dma => packFields [(0, 5, c.dmq.length), (8, 3, c.dmaRun.length)]
  | _ => 0

/-- Derived words of a cluster's pages (R78, R182, R259). -/
def State.clusterWord (s : State) (k : PageKind) (c off : Nat) : Nat :=
  let cl := s.cluster c
  match k with
  | .csq =>
    if off = Off.csqOwner then packFields [(0, 8, (cl.granted.or cl.lastOwner).getD 0), (8, 1, b2n cl.granted.isSome)]
    else if off = Off.csqState then cl.phase.toNat
    else if off = Off.csqLaunched then
      let ls := s.launchesOn c
      packFields [(0, 16, (ls.filter fun l => (l.coresOn c).all l.started.contains && !(l.coresOn c).all l.before.contains).length),
        (16, 16, (ls.filter fun l => !(l.coresOn c).all l.started.contains).length)]
    else bitSet 16 fun i => (s.core (16 * c + i)).kernel.isSome
  | .mrg =>
    let sel := s.fld .mrg c Off.mrgSlotSel 0 4
    let slot := Tbl.get cl.slots sel none
    if off = Off.mrgState then packFields [(0, 16, bitSet 16 fun i => (Tbl.get cl.slots i none).isSome), (16, 1, b2n (!cl.inbox.isEmpty || cl.roots.any (·.2.isSome)))]
    else if off = Off.mrgBuf then cl.slots.foldl (fun a e => a + match e.2 with
      | some m => mergeReserve m.raw.toNat
      | none => 0) 0
    else match slot with
      | none => 0
      | some m =>
        let raw := m.raw.toNat
        if off = Off.mrgSlotCfg then packFields [(0, 13, atRecs raw), (13, 2, descFld raw 0 15 2), (15, 1, b2n (atBf raw)), (16, 1, atTarget raw), (17, 1, b2n (atNorm raw))]
        else packFields [(0, 16, bitSet 16 fun i => m.got.any fun g => g.lane.val == i), (16, 16, atExpect raw)]
  | _ =>
    if off = Off.sycState then bitSet 16 fun i => (s.core (16 * c + i)).wait.inSyw
    else (cl.cnt ((off - Off.sycCnt) / 4)).value.toNat

/-- Derived words of an M-die's pages (R205, R229, R230). -/
def State.mdieWord (s : State) (k : PageKind) (m off : Nat) : Nat :=
  match k with
  | .cyd =>
    if off = Off.cydState then (s.yard.slice m).length
    else if off = Off.cydEntriesFree then s.sliceFree m
    else s.sliceCount m .limbo
  | .mem =>
    let log := Tbl.get s.mem.poisonLog m []
    match log[s.fld .mem m Off.memPoisonSel 0 4]? with
    | some l => l % 2 ^ 31 + 2 ^ 31
    | none => 0
  | _ => 0

/-- Derived words of the link pages (R309, R310). -/
def State.fabricWord (s : State) (k : PageKind) (i off : Nat) : Nat :=
  match k with
  | .lnk =>
    let l := s.link i
    if off = Off.lnkStatus then packFields [(0, 3, l.st.code), (8, 4, l.lanes.toNat), (12, 3, l.qreason.toNat), (16, 5, (s.portOf i).getD 0x1F)]
    else if off = Off.lnkPeer then packFields [(0, 12, l.peerMember), (12, 5, l.peerLink), (31, 1, b2n l.peerValid)]
    else if off = Off.lnkPeerSerialLo then l.peerSerial.toNat
    else if off = Off.lnkPeerSerialHi then l.peerSerial.toNat / 2 ^ 32
    else l.peerVer.toNat
  | .lpt => bitSet 18 (s.active i)
  | _ =>
    let sel := s.fld .fce 0 Off.fcePlanSel 0 5
    let p := s.plan sel
    if off = Off.fceState then packFields [(0, 16, (s.fce.insts.filter fun x => !x.written && !x.failed).length),
      (16, 1, b2n (s.fce.retx.any (·.link.isNone)))]
    else if off = Off.fceOui then 0
    else if off = Off.fcePlanState then packFields [(0, 2, p.st.code), (8, 8, (s.boundCtx sel).getD 0), (16, 16, if p.held then planFlight p.plan else 0)]
    else if p.held then ofBytes (planHash p.plan) / 2 ^ (8 * (off - Off.fcePlanHash)) else 0

/-- Derived words of the `LKP`, `SRV`, `SMP` and `RTE` pages and of their views (R75, R76, R206, R281, R329, R331). -/
def State.workWord (s : State) (k : PageKind) (i off : Nat) : Nat :=
  match k with
  | .lkp =>
    if off = Off.lkpTickNowLo then s.lkp.now
    else if off = Off.lkpTickNowHi then s.lkp.now / 2 ^ 32
    else if off = Off.lkpClusterGranted then bitSet 32 fun c => (s.cluster c).granted.isSome
    else if off = Off.lkpGrants then packFields [
        (0, 6, ((List.range 256).filter fun j => s.grantOf j != 0).length),
        (8, 6, ((List.range 32).filter fun c => (s.cluster c).granted.isSome).length), (16, 6, s.lkp.zeroed)]
    else
      let r := (off - Off.lkpClusterOwner) / 4
      packFields ((List.range 4).map fun j => (8 * j, 8, ((s.cluster (4 * r + j)).granted).getD 0))
  | .vlkp =>
    if off = Off.lkpCtxGrant then s.grantOf i
    else packFields [(0, 2, (s.ctx i).stepCode), (2, 1, b2n (s.ctx i).lateSent), (8, 3, (s.ctx i).lastOutcome.toNat)]
  | .vcyd =>
    if off = Off.cydCtxUsed then s.yard.used i
    else if off = Off.cydCtxLimbo then (s.yard.coaches.filter fun e => e.2.st == .limbo && e.2.ctx == i).length
    else match (s.ctx i).step with
      | some st => st.coachLeft
      | none => 0
  | .rte =>
    if off = Off.rteState then packFields [(0, 7, s.rte.jobs.length), (7, 1, b2n (!s.rte.jobs.isEmpty)), (8, 10, s.rte.fetches.length), (18, 10, 0)]
    else (List.range 256).foldl (fun a j => a + s.fld .rte 0 Off.rteCtxCacheCfg 8 13 j) 0
  | .srv =>
    if off = Off.srvOpen then (s.srv.berths.filter fun e => e.2.st != .free).length
    else
      let b := s.berth (s.fld .srv 0 Off.srvBerthSel 0 14)
      if off = Off.srvBerthState then packFields [(0, 3, b.st.code), (8, 8, if b.st = .free then 0 else b.ctx)] else b.pos
  | _ => bitSet 16 fun u => (Tbl.get s.srv.units u none).isSome

/-- Derived words of the `SEC` and `DBG` pages and their views (R356 to R360). -/
def State.secWord (s : State) (k : PageKind) (i off : Nat) : Nat :=
  match k with
  | .sec =>
    let c := s.ctx (s.fld .sec 0 Off.secCtxSel 0 8)
    if off = Off.secStatus then packFields [(0, 1, b2n s.fuses.lab), (1, 1, b2n s.sec.rngOk), (2, 1, b2n s.sec.ready), (3, 1, b2n s.rst.fallback)]
    else if off = Off.secCtxStatus then packFields [(0, 2, c.st.code), (2, 1, b2n c.key.isSome), (3, 2, c.sessions.length)]
    else if off = Off.secSvn then packFields [(0, 16, s.fuses.svnDrv), (16, 16, s.fuses.svnOpt)]
    else if off = Off.secFwRevoke then s.fuses.revoke.toNat
    else if off = Off.secAttNext then s.bkp.attNext
    else if off = Off.secAttReserve then s.flash.attLog.getLastD 0
    else packFields [(0, 1, b2n s.sec.ideLink), (1, 4, s.sec.ideSel.length)]
  | .vsec =>
    let c := s.ctx i
    if off = Off.secCtxSession then packFields [(0, 2, if c.active.isSome then 2 else if c.sessions.isEmpty then 0 else 1), (2, 2, c.sessions.length), (4, 1, b2n c.keySwitch.isSome)]
    else if off = Off.secCtxSid then (match c.active with
      | some a => a.sid.toNat
      | none => 0)
    else if off = Off.secCtxPskSet then b2n (c.psk.length == 8)
    else if off = Off.secCtxOpenMarkLo then c.openMark.toNat
    else if off = Off.secCtxOpenMarkHi then c.openMark.toNat / 2 ^ 32
    else c.st.code
  | .dbg =>
    if off = Off.dbgState then packFields [(0, 2, s.dbg.st.toNat), (2, 1, b2n s.fuses.lab), (4, 2, (s.dbg.pend.getD 0).toNat), (6, 1, b2n s.dbg.pend.isSome)]
    else if off = Off.dbgUnlocks then s.age.unlocks
    else s.dbg.nonce.toNat / 2 ^ (8 * (off - Off.dbgNonce))
  | _ =>
    let tr := (s.ctx i).trace
    let head := (s.rd .vdbg i Off.dbgCtxHead).toNat
    let j := (off - Off.dbgCtxWindow) / 16
    let back := (head + 128 * 2 ^ 32 - 1 - j) % 128
    if back < tr.length then (tr.getD (tr.length - 1 - back) 0).toNat / 2 ^ (8 * (off % 16)) else 0

/-- Byte of the capture buffer at an offset, as a reader in this debug state sees it (R378, R379). -/
def State.capByte (s : State) (a : Nat) : Byte :=
  if a < 0x45000 then (Tbl.get s.hwd.cap a 0)
  else if s.dbg.st.toNat < 2 ∨ s.hwd.capNo = 0 ∨ 0x1BD000 ≤ a then 0
  else Config.captureByte s.hwd.capNo a

/-- Derived words of the two `HWD` pages and their view (R389 to R391). -/
def State.hwdWord (s : State) (k : PageKind) (i off : Nat) : Nat :=
  match k with
  | .hwd =>
    if off = Off.hwdStatus then packFields [(0, 8, s.hwd.missed), (8, 2, s.hwd.stage), (10, 1, b2n s.hwd.restarting), (12, 4, s.devstate)]
    else if off = Off.hwdLastBeat then s.hwd.lastBeat.toNat
    else if off = Off.hwdGaugeStatus then b2n (s.hwd.gaugeReq.isSome || s.hwd.gaugeRec.isSome)
    else
      let a := s.fld .hwd 0 Off.hwdCapWin 0 10 * 2048 + (off - Off.hwdCapData)
      ofBytes ((List.range 4).map fun j => s.capByte (a + j))
  | .hwdsum =>
    if off = Off.hwdSumTop then s.sumTop
    else if off = Off.hwdSumXdie then bitSet 16 fun j => s.pageErr (xdieRef j)
    else if off = Off.hwdSumLnk then bitSet 18 fun j => s.pageErr ⟨.lnk, j⟩
    else if off = Off.hwdSumLpt then bitSet 18 fun j => s.pageErr ⟨.lpt, j⟩
    else if off < Off.hwdSumCluster then bitSet 19 fun j => s.pageErr (mdiePage ((off - Off.hwdSumMdie) / 4) j)
    else if off = Off.hwdSumCluster then bitSet 32 fun c => s.groupErr (clusterPages c)
    else if off = Off.hwdSumCoregrp then bitSet 32 fun c => s.groupErr ((List.range 16).flatMap fun j => corePages (16 * c + j))
    else bitSet 32 fun j => s.groupErr (corePages (8 * (off - Off.hwdSumCore) + j))
  | _ =>
    if off = Off.hwdCtxSum then
      let w := s.worstIn i
      packFields [(0, 8, bitSet 8 fun j => s.pageErr ⟨(viewPage j).getD .vpci, i⟩), (8, 2, w.getD 0), (10, 1, b2n w.isSome), (11, 1, b2n (s.isCondemned i))]
    else b2n ((s.ctx i).gaugeReq.isSome || (s.ctx i).gaugeRec.isSome)

/-- A signature value of the power manager in units of 0.1 W, 16 bits (R422, R435). -/
def tenths (q : Q) : Nat := ((q.num * 10) / q.den).toNat % 2 ^ 16

/-- The payload of the last applied option record of a type for a die (R400, R401). -/
def State.trim (s : State) (typ : BitVec 8) (d : Nat) : Option (List Byte) :=
  ((s.rst.trims.filter fun r => r.1 == typ && (r.2.1.toNat == d || r.2.1.toNat == 15)).getLast?).map (·.2.2)

/-- The two values of the POWER_LIMITS record, package maximum and default cap in W, each half of its payload (R400). -/
def powerLimits (b : List Byte) : Nat × Nat := (ofBytes (b.take (b.length / 2)), ofBytes (b.drop (b.length / 2)))

/-- Package maximum in 10 W: of the POWER_LIMITS record, 3,000 W without one (R412, R435). -/
def State.packageMax (s : State) : Nat :=
  match (s.rst.trims.filter fun r => r.1 == 0x07).getLast? with
  | some r => (powerLimits r.2.2).1 / 10
  | none => 300

/-- Derived words of the `RST`, `BKP`, `PWR`, `THM` and `AGE` pages (R409, R410, R435, R437, R438). -/
def State.pwrWord (s : State) (k : PageKind) (off : Nat) : Nat :=
  match k with
  | .rst => packFields [(0, 4, s.rst.phase.toNat), (8, 8, s.rst.optCopy.toNat), (16, 8, s.bkp.optFails), (24, 1, b2n s.rst.fallback), (25, 1, b2n s.rst.capKept)]
  | .bkp =>
    if off = Off.bkpStatus then packFields [(0, 1, b2n s.bkp.valid), (1, 1, b2n s.bkp.restored), (2, 1, b2n s.bkp.loadMark), (8, 8, s.bkp.optFails)]
    else if off = Off.bkpResets then s.bkp.resets
    else if off = Off.bkpLastReset then s.bkp.lastReset.toNat
    else if off = Off.bkpTamper then s.bkp.tamper.toNat
    else if off = Off.bkpAttNext then s.bkp.attNext
    else (s.bkp.hist.getD (s.fld .bkp 0 Off.bkpHistSel 0 3) 0).toNat
  | .pwr =>
    let d := s.dom (s.fld .pwr 0 Off.pwrDomSel 0 3)
    let sig := Tbl.get s.pwr.sigs (s.fld .pwr 0 Off.pwrSigSel 2 3) {}
    if off = Off.pwrPkgMax then s.packageMax
    else if off = Off.pwrState then packFields [(0, 2, s.pwr.st.toNat), (2, 1, b2n s.pwr.pend.isSome)]
    else if off = Off.pwrDomState then packFields [(0, 4, d.point), (4, 4, d.maxPoint), (8, 4, d.thermMax), (16, 10, d.volt)]
    else if off = Off.pwrBrake then s.pwr.brake
    else if off = Off.pwrSigLeak then tenths sig.leak
    else if off = Off.pwrSigDyn then tenths (match s.fld .pwr 0 Off.pwrSigSel 0 2 with
      | 0 => sig.dyn0
      | 1 => sig.dyn1
      | 2 => sig.dyn2
      | _ => sig.dyn3)
    else sig.samples
  | .thm =>
    let n := s.fld .thm 0 Off.thmSensorSel 0 9
    packFields [(0, 12, (Tbl.get s.thm.reading n 0).toNat), (12, 1, b2n (s.thm.failed.contains n))]
  | _ =>
    let d := s.dom (s.fld .age 0 Off.ageDomSel 0 3)
    if off = Off.ageStatus then packFields [(0, 1, b2n s.age.busy), (1, 1, b2n ((List.range 7).any fun j => (s.dom j).margin != (s.dom j).plan))]
    else if off = Off.ageDom then packFields [(0, 8, d.gb), (8, 8, d.margin), (16, 8, d.plan), (24, 8, d.droop)]
    else if off = Off.ageRo then d.ro
    else if off = Off.ageEye then
      let e := Tbl.get s.age.eyes (s.fld .age 0 Off.ageEyeSel 0 7) (0, 0)
      packFields [(0, 10, e.1), (16, 10, e.2)]
    else if off = Off.agePohMin then s.age.poh
    else if off = Off.ageLogHead then s.age.logHead
    else
      let region := s.fld .age 0 Off.ageLogWin 0 1
      let a := s.fld .age 0 Off.ageLogWin 8 24 * 2048 + (off - Off.ageLogData)
      ofBytes ((List.range 4).map fun j => s.logByte region (a + j))

/-- The memory behind the bridges is at rest: no port, DMA or attention traffic (R36 IDLE of `MEM` and `BSN`). -/
def State.memIdle (s : State) : Bool :=
  s.cores.all fun c => c.2.port.isEmpty && c.2.dmaRun.isEmpty && c.2.job.isNone

/-- The block of a page holds no command, job or transfer in flight (R36 IDLE, R310). -/
def State.blockIdle (s : State) (p : PageRef) : Bool :=
  let c := s.core p.inst
  match p.kind with
  | .lkp => !s.ticking && s.lkp.starting.isNone && s.ctxs.all fun e => e.2.step.isNone
  | .csq => (s.cluster p.inst).granted.isNone
  | .scb => c.scb.isEmpty && c.kernel.isNone
  | .whf => c.kernel.isNone && c.dmq.isEmpty && c.dmaRun.isEmpty && c.mxq.isEmpty && c.drainQ.isEmpty && c.iq.isEmpty && c.jobs.isEmpty && c.job.isNone
  | .dch => c.kernel.isNone
  | .syc => (List.range 16).all fun i => (s.core (16 * p.inst + i)).kernel.isNone
  | .mxa => c.mxq.isEmpty && c.handPend.isEmpty && c.osPend.isEmpty && (List.range 4).all fun a => (c.array a).load.isNone && !(c.array a).coupled
  | .drn => c.drainQ.isEmpty && c.heldCart.isNone
  | .vec => c.iq.isEmpty && c.carts.isEmpty
  | .atp => c.jobs.isEmpty && c.job.isNone
  | .dma => c.dmq.isEmpty && c.dmaRun.isEmpty
  | .mrg => (s.cluster p.inst).inbox.isEmpty && (s.cluster p.inst).slots.all (·.2.isNone) && (s.cluster p.inst).roots.all (·.2.isNone)
  | .cyd => (s.yard.slice p.inst).isEmpty
  | .mem | .memch | .bsn => s.memIdle
  | .rte => s.rte.jobs.isEmpty && s.rte.opens.isEmpty && s.rte.fetches.isEmpty
  | .fce => s.fce.insts.all (fun x => x.written || x.failed) && s.fce.retx.isEmpty
  | .lnk => !(s.fce.retx.any fun b => b.link == some p.inst)
  | .lpt => s.fld .lpt p.inst Off.lptCfg 0 2 == 0
  | .srv => (s.srv.berths.all fun e => e.2.st == .free)
  | .smp => s.srv.smpQ.isEmpty && s.srv.units.all (·.2.isNone)
  | .sec => s.sec.signing.isEmpty
  | .dbg => s.dbg.token.isNone
  | .hwd => s.hwd.capturing.isNone && !s.hwd.restarting
  | .pwr => s.pwr.pend.isNone
  | .age => !s.age.busy
  | _ => true

/-- `BLK_STATUS.IDLE` of a page (R36): of a view, no admitted manifest in the pound; 0 while the page resets (R42). -/
def State.idle (s : State) (p : PageRef) : Bool :=
  if p.kind.isView then (s.ctx p.inst).step.isNone
  else !s.isResetting p && s.blockIdle p

/-- The derived bits of the register at an offset of a page. -/
def State.derivedReg (s : State) (p : PageRef) (off : Nat) : Nat :=
  if off = Off.blkId then
    packFields [(24, 8, p.kind.type), (20, 4, p.die), (19, 1, b2n p.kind.isView), (0, 16, p.instNo)]
  else if off = Off.blkStatus then
    packFields [(0, 1, b2n (s.idle p)), (1, 1, b2n (s.pageErr p)), (2, 1, b2n (s.isResetting p))]
  else match p.kind with
  | .scb | .mxa | .drn | .vec | .atp | .dma => s.coreWord p.kind p.inst off
  | .csq | .mrg | .syc => s.clusterWord p.kind p.inst off
  | .cyd | .mem => s.mdieWord p.kind p.inst off
  | .lnk | .lpt | .fce => s.fabricWord p.kind p.inst off
  | .lkp | .vlkp | .vcyd | .rte | .srv | .smp => s.workWord p.kind p.inst off
  | .sec | .vsec | .dbg | .vdbg => s.secWord p.kind p.inst off
  | .hwd | .hwdsum | .vhwd => s.hwdWord p.kind p.inst off
  | .rst | .bkp | .pwr | .thm | .age => s.pwrWord p.kind off
  | _ => 0

/-! ### Reads -/

/-- The field reads 0 and ignores writes for this source: the session fields and the trace window outside the virtual function's own view (R30). -/
def Field.hides (f : Field) (src : Source) : Bool := f.hidden && src.fn.isNone

/-- The word a register shows to a source (R8, R10, R11, R30). -/
def State.regValue (s : State) (src : Source) (p : PageRef) (off : Nat) : Word :=
  match regAt p.kind off with
  | none => 0
  | some r =>
    if mdieZeroOnly p off && p.kind == .mem then 0
    else
      let stored := overlay (s.regAddr p off) (s.rd p.kind (homeInst p off) off (s.bankOf p off)) s.staged
      let derived := if r.fields.any (·.derived) then BitVec.ofNat 32 (s.derivedReg p off) else 0
      r.fields.foldl (fun v f =>
        if f.cls = .wo ∨ f.hides src then v
        else v ||| ((if f.derived then derived else stored) &&& f.mask)) 0

/-- A read of a register: a LO half latches its HI half, whose next read returns the latched word (R75). The word read becomes the reply. -/
def State.readReg (s : State) (src : Source) (p : PageRef) (off : Nat) : State :=
  let here := s.regAddr p off
  match Tbl.find here s.latch with
  | some v => { s with reply := v, latch := Tbl.erase here s.latch }
  | none =>
    let s' := { s with reply := s.regValue src p off }
    match regAt p.kind off with
    | some r => if r.latches then { s' with latch := Tbl.put s.latch (s.regAddr p (off + 4)) (s.regValue src p (off + 4)) } else s'
    | none => s'

/-! ### Writes -/

/-- The range a field accepts (R40). -/
def Lim.accepts (l : Lim) (v : Nat) : Bool :=
  match l with
  | .any => true
  | .range a b => decide (a ≤ v ∧ v ≤ b)
  | .oneOf xs => xs.contains v

/-- A tick number written in two halves, the other half being the most recently written one. -/
def State.pairWith (s : State) (k : PageKind) (i lo off v : Nat) : Nat :=
  if off = lo then v % 2 ^ 32 + s.latest k i (lo + 4) * 2 ^ 32 else s.latest k i lo + v % 2 ^ 16 * 2 ^ 32

/-- The cut-off of a nonzero tick number has passed (R54, R310). -/
def State.tickPassed (s : State) (t : Nat) : Bool := t != 0 && decide (t ≤ s.lkp.now) && s.lkp.starting.isNone

/-- Conditions beyond a field's own range: a value that fails one is refused as BAD_VALUE (R54, R206, R281, R295, R310, R311, R438). `v` is the field's new value and `w` the written word. -/
def State.fieldRule (s : State) (p : PageRef) (off : Nat) (f : Field) (v w : Nat) : Bool :=
  match p.kind with
  | .lkp =>
    if off = Off.lkpTickPeriod then decide (2 * s.latestFld .lkp 0 Off.lkpGuard 0 23 ≤ v)
    else if off = Off.lkpGuard then decide (2 * v ≤ s.latestFld .lkp 0 Off.lkpTickPeriod 0 23)
    else if off = Off.lkpSwitchAtLo ∨ off = Off.lkpSwitchAtHi then !s.tickPassed (s.pairWith .lkp 0 Off.lkpSwitchAtLo off w)
    else true
  | .vlkp => !(off == Off.lkpCtxCtrl && f.lo == 1 && (s.slotOf p.inst).isSome)
  | .vcyd =>
    if off = Off.cydCtxArenaLo ∨ off = Off.cydCtxArenaHi ∨ (off = Off.cydCtxFrame ∧ f.lo = 0) then
      bitsAt (s.latest .vcyd p.inst off) f.lo f.w == v || s.yard.used p.inst == 0
    else if off = Off.cydCtxBerths then decide (bitsAt w 0 14 + bitsAt w 16 15 ≤ 16384)
    else true
  | .rte =>
    if off = Off.rteCtxCacheCfg ∧ f.lo = 8 then
      let k := s.bankOf p off
      decide (v + (List.range 256).foldl (fun a j => a + if j = k then 0 else s.latestFld .rte 0 Off.rteCtxCacheCfg 8 13 j) 0 ≤ 16384)
    else true
  | .lpt =>
    if off = Off.lptLinks then
      (List.range 18).all fun q => q == p.inst || (s.latestFld .lpt q Off.lptLinks 0 18 &&& v) == 0
    else if off = Off.lptSwitchAtLo ∨ off = Off.lptSwitchAtHi then !s.tickPassed (s.pairWith .lpt p.inst Off.lptSwitchAtLo off w)
    else true
  | .fce =>
    if off = Off.fcePlanAddrLo ∨ off = Off.fcePlanAddrHi then (s.plan (s.fld .fce 0 Off.fcePlanSel 0 5)).st == .empty
    else if off = Off.fceCtxPlan then
      !bitAt w 5 || (List.range 256).all fun j => j == s.fld .fce 0 Off.fceCtxSel 0 8 ||
        !(s.latestFld .fce 0 Off.fceCtxPlan 5 1 j == 1 && s.latestFld .fce 0 Off.fceCtxPlan 0 5 j == bitsAt w 0 5)
    else true
  | .age => off != Off.ageGb || decide (bitsAt w 8 8 < bitsAt w 0 8)
  | _ => true

/-- What a write to one field does (R10, R30, R39, R40). -/
inductive FieldWrite where
  | ignored
  | now (v : Nat)
  | clear (v : Nat)
  | stage (v : Nat)
  | badValue
  | busy
  deriving DecidableEq, Repr

/-- The field's part in a write of `w` by `src` to its register; S fields of the coach table need all four slices idle (R205), and the heartbeat registers are Dravner's (R374). -/
def State.fieldWrite (s : State) (src : Source) (p : PageRef) (off : Nat) (w : Word) (f : Field) : FieldWrite :=
  let v := bitsAt w.toNat f.lo f.w
  let old := bitsAt (s.rd p.kind (homeInst p off) off (s.bankOf p off)).toNat f.lo f.w
  let ok := f.lim.accepts v && s.fieldRule p off f v w.toNat
  let idle := if p.kind = .cyd ∧ off ≤ Off.cydTableSize ∧ Off.cydTableLo ≤ off then (List.range 4).all fun m => s.idle ⟨.cyd, m⟩ else s.idle p
  if f.hides src ∨ (f.prov = true ∧ src.fn.isSome) ∨ mdieZeroOnly p off then .ignored
  else if (p.kind = .hwd ∧ (off = Off.hwdFwCtx ∨ off = Off.hwdBeat)) ∧ src ≠ .dravner then .badValue
  else match f.cls with
  | .ro => .ignored
  | .wo => .ignored
  | .w1c => if v = 0 then .ignored else .clear v
  | .l => if ok then .now v else .badValue
  | .t => if ok then .stage v else .badValue
  | .s => if v = old then .ignored else if !ok then .badValue else if idle then .now v else .busy

/-- An error of a register access in a page: in a view it belongs to the view's context and is recorded in the block page of the type too (R36). -/
def State.accessError (s : State) (p : PageRef) (cond : Nat) : State :=
  if p.kind.isView then s.raise { page := ⟨p.kind.block, 0⟩, cond := cond, ctx := some p.inst }
  else s.raisePage p.kind p.inst cond 0

/-- Apply the part of one field. -/
def State.applyField (s : State) (p : PageRef) (off : Nat) (f : Field) (d : FieldWrite) : State :=
  let i := homeInst p off
  let b := s.bankOf p off
  match d with
  | .now v => s.setFld p.kind i off f.lo f.w v b
  | .clear v => s.wr p.kind i off (s.rd p.kind i off b &&& ~~~(BitVec.ofNat 32 (v <<< f.lo))) b
  | .stage v => { s with staged := s.staged ++ [.field (regKey p.kind i off b) f.mask (BitVec.ofNat 32 (v <<< f.lo))] }
  | _ => s

/-- W1C bits that have a row of their own: `BLK_FIRST.VALID` and the tamper flags. -/
def ownRow (p : PageRef) (off : Nat) (f : Field) : Bool :=
  (off == Off.blkFirst && f.cls == .w1c) || (p.kind == .bkp && off == Off.bkpTamper)

/-- `SEC_SAK`, `SEC_SALT` and `SEC_SSCI` hold the words of the key to install (R356). -/
def keyWord (p : PageRef) (off : Nat) : Bool := p.kind == .sec && decide (Off.secSak ≤ off ∧ off ≤ Off.secSsci)

/-- A write of a word to a register: every field follows its own class (R14); a refused field raises BAD_VALUE or CFG_BUSY once for the write. -/
def State.writeReg (s : State) (src : Source) (p : PageRef) (off : Nat) (w : Word) : State :=
  match regAt p.kind off with
  | none => s
  | some r =>
    let ds := (r.fields.filter fun f => !ownRow p off f).map fun f => (f, s.fieldWrite src p off w f)
    let t := ds.foldl (fun t d => t.applyField p off d.1 d.2) s
    let t := if p.kind = .lnk ∧ off = Off.lnkCfg then t.linkEnable p.inst else t
    let t := if keyWord p off then t.wr .sec 0 off w else t
    let t := if ds.any (·.2 == .badValue) then t.accessError p 0x03 else t
    let t := if ds.any (·.2 == .busy) then t.accessError p 0x01 else t
    t.updAlert

/-! ### REGISTER_WRITE, BAD_ACCESS, UNMAPPED and POWERED_DOWN -/

/-- A register access of a source (R10 to R14): reads and writes of a mapped, powered register. The accesses of R7, R27 and R35 are rows of their own and find no occasion here. -/
def execRegisterWrite (src : Source) (off : BitVec 32) (acc : Access) (s : State) : Host.Outcome State Fault Refusal :=
  .next (match s.reaches src off.toNat with
    | none => s
    | some p =>
      if off.toNat % 4 ≠ 0 then s
      else match acc with
        | .read => s.readReg src p (off.toNat % 0x1000)
        | .write v => s.writeReg src p (off.toNat % 0x1000) v)

/-- The page that records an access fault of a source: `PCI` of the view for a virtual function, the `PCI` block page otherwise (R27). -/
def State.pciFault (s : State) (src : Source) (cond : Nat) : State :=
  match src.fn with
  | some k => s.accessError ⟨.vpci, k⟩ cond
  | none => s.accessError ⟨.pci, 0⟩ cond

/-- An access of the wrong size or alignment reads 0, is discarded and records BAD_ACCESS (R7). -/
def execBadAccess (src : Source) (off : BitVec 32) (bytes : Nat) (s : State) : Host.Outcome State Fault Refusal :=
  .next (if s.answers src ∧ (bytes ≠ 4 ∨ off.toNat % 4 ≠ 0) then ({ s with reply := 0 } : State).pciFault src 0x06 else s)

/-- An offset no register page covers; the ring window of a virtual function is not one (R27, R29, R46). -/
def State.unassigned (s : State) (src : Source) (off : Nat) : Bool :=
  match src.fn with
  | none => (pageAt src off).isNone
  | some k =>
    if 0x40000 ≤ off ∧ off < 0x80000 then decide (64 * 2 ^ s.fld .vlkp k Off.lkpCtxRingCfg 0 4 ≤ off - 0x40000)
    else (pageAt src off).isNone

/-- An access to an unassigned offset reads 0, is discarded and sets UNMAPPED (R27). -/
def execUnmapped (src : Source) (off : BitVec 32) (acc : Access) (s : State) : Host.Outcome State Fault Refusal :=
  .next (if s.answers src ∧ off.toNat % 4 = 0 ∧ s.unassigned src off.toNat then
    (match acc with
      | .read => { s with reply := 0 }
      | .write _ => s).pciFault src 0x04
    else s)

/-- An access to a page in a powered-off domain reads 0, is discarded and sets POWERED_DOWN in the `PCI` page (R35). -/
def execPoweredDown (src : Source) (off : BitVec 32) (acc : Access) (s : State) : Host.Outcome State Fault Refusal :=
  .next (match pageAt src off.toNat with
    | some (p, _) =>
      if s.answers src ∧ off.toNat % 4 = 0 ∧ !s.powered p then
        (match acc with
          | .read => { s with reply := 0 }
          | .write _ => s).accessError ⟨.pci, 0⟩ 0x05
      else s
    | none => s)

/-! ### DRN_CTX_MODE_WRITE, INJECT and BLK_FIRST_CLEAR -/

/-- A write of a `DRN_CTX_MODE` register through any core's page is staged for all cores together (R113). -/
def execDrnCtxModeWrite (src : Source) (core : Fin 512) (idx : Fin 16) (v : Word) (s : State) : Host.Outcome State Fault Refusal :=
  .next (if s.reachesBlock src ∧ s.powered ⟨.drn, core⟩ then s.writeReg src ⟨.drn, core⟩ (Off.drnCtxMode + 4 * idx) v else s)

/-- The severities a source may inject (R41): all in FIELD and LAB, CORRECTED otherwise and for a virtual function. -/
def State.mayInject (s : State) (src : Source) (sev : Nat) : Bool := sev == 0 || (src.fn.isNone && 2 ≤ s.dbg.st.toNat)

/-- `BLK_CTRL.INJECT` raises code (TYPE, INJECT_COND) at INJECT_SEV as the block would; a refused injection is BAD_VALUE (R41). -/
def State.inject (s : State) (src : Source) (p : PageRef) : State :=
  let cond := s.fld p.kind p.inst Off.blkCtrl 8 8
  let sev := s.fld p.kind p.inst Off.blkCtrl 16 2
  if !s.mayInject src sev then s.accessError p 0x03
  else if p.kind.isView then s.raise { page := ⟨p.kind.block, 0⟩, cond := cond, sev := sev, ctx := some p.inst, injected := true }
  else s.raise { page := p, cond := cond, sev := sev, injected := true }

/-- A write of `BLK_CTRL` with INJECT set: its L fields first, then the injection (R14, R41). -/
def execInject (src : Source) (page : BitVec 32) (v : Word) (s : State) : Host.Outcome State Fault Refusal :=
  .next (match s.reaches src page.toNat with
    | none => s
    | some p => if bitAt v.toNat 1 then (s.writeReg src p Off.blkCtrl v).inject src p else s)

/-- Writing 1 to `BLK_FIRST.VALID` clears the capture and re-arms it (R37). -/
def execBlkFirstClear (src : Source) (page : BitVec 32) (v : Word) (s : State) : Host.Outcome State Fault Refusal :=
  .next (match s.reaches src page.toNat with
    | none => s
    | some p =>
      if bitAt v.toNat 31 then (s.wr p.kind p.inst Off.blkFirst (s.rd p.kind p.inst Off.blkFirst &&& 0x7FFFFFFF)).updAlert else s)

end Sys2Proof.Machine
end

