-- ==== Sys2Proof/Machine/Fabric.lean ====
section
/-! DEFINITION. Links, barges and the flight plan: sending, relaying and acknowledging barges, notices, LLDP, IEEE 1588, plan commands and flight aborts (R283 to R299, R305 to R308). -/

namespace Sys2Proof.Machine

/-! ### Barge headers (R289) -/

/-- Field [lo + n − 1 : lo] of header word `w`. -/
def Barge.fld (b : Barge) (w lo n : Nat) : Nat := descFld b.hdr.toNat w lo n
/-- KIND (R290). -/
def Barge.kind (b : Barge) : Nat := b.fld 0 4 4
/-- FLIGHT. -/
def Barge.flight (b : Barge) : Nat := b.fld 1 0 16
/-- COLL, or EXCH of FETCH_REQ and WEIGHT. -/
def Barge.coll (b : Barge) : Nat := b.fld 1 16 16
/-- SRC. -/
def Barge.src (b : Barge) : Nat := b.fld 2 0 12
/-- DST. -/
def Barge.dst (b : Barge) : Nat := b.fld 2 12 12
/-- HOPS. -/
def Barge.hops (b : Barge) : Nat := b.fld 2 24 4
/-- STEP: the tick of the pound the barge belongs to. -/
def Barge.step (b : Barge) : Nat := b.fld 3 0 32 + b.fld 4 0 16 * 2 ^ 32
/-- INST. -/
def Barge.inst (b : Barge) : Nat := b.fld 4 16 8
/-- PHASE. -/
def Barge.phase (b : Barge) : Nat := b.fld 4 24 8
/-- SEQ. -/
def Barge.seq (b : Barge) : Nat := b.fld 5 0 32
/-- A notice: LATE or ABORT, flooded and recognised by KIND. -/
def Barge.notice (b : Barge) : Bool := b.kind == 6 || b.kind == 7
/-- A control kind: a notice or a hop acknowledgement (R287). -/
def Barge.control (b : Barge) : Bool := b.notice || b.kind == 8

/-- The header with field [lo + n − 1 : lo] of word `w` replaced. -/
def Barge.setFld (b : Barge) (w lo n v : Nat) : Barge := { b with hdr := BitVec.ofNat 256 (setBits b.hdr.toNat (32 * w + lo) n v) }

/-- What a sender puts into a header beside what the plan gives. -/
structure BargeSpec where
  kind : Nat
  dst : Nat
  coll : Nat := 0
  inst : Nat := 0
  phase : Nat := 0
  step : Nat
  refused : Bool := false
  nak : Bool := false
  payload : List Byte := []
  deriving DecidableEq, Repr

/-- The barge of a spec under a plan, with a sequence number; HOPS starts at the route's count, at DIAMETER for a notice. The whole barge travels as one command: LAST = 1, OFFSET = 0. -/
def BargeSpec.build (x : BargeSpec) (plan : List Byte) (seq : Nat) : Barge :=
  let hops := if x.kind = 6 ∨ x.kind = 7 then planDiameter plan else planHops plan x.dst
  { hdr := BitVec.ofNat 256 (packFields [
      (0, 4, 1), (4, 4, x.kind), (8, 1, 1), (10, 1, b2n x.refused), (11, 1, b2n x.nak), (16, 16, planTag plan),
      (32, 16, planFlight plan), (48, 16, x.coll), (64, 12, planSelf plan), (76, 12, x.dst), (88, 4, hops),
      (96, 48, x.step), (144, 8, x.inst), (152, 8, x.phase), (160, 32, seq), (192, 21, x.payload.length)]),
    payload := x.payload }

/-- Segments of a barge of `n` bytes (R289). -/
def segments (n : Nat) : Nat := max 1 ((n + 8191) / 8192)

/-- Bytes a barge takes on a port: one header and its payload per segment (R289). -/
def Barge.wireBytes (b : Barge) : Nat := 32 * segments b.payload.length + b.payload.length

/-- The header is well formed, the payload as long as the kind wants (R289, R290). -/
def Barge.wellFormed (b : Barge) : Bool :=
  b.fld 0 0 4 == 1 && decide (b.kind ≤ 8) && b.fld 0 8 1 == 1 && b.fld 0 12 4 == 0 && b.fld 2 28 4 == 0 &&
    b.fld 6 21 11 == 0 && b.fld 7 0 32 == 0 && b.fld 6 0 21 == b.payload.length &&
    (b.kind == 2 || b.kind == 3 || b.kind ≤ 1 || b.coll == 0) &&
    (match b.kind with
      | 4 => decide (8 ≤ b.payload.length)
      | 5 => b.payload.length == 4
      | 6 => b.payload.length == 0
      | 7 => b.payload.length == 8
      | 8 => b.payload.length % 12 == 0
      | _ => true)

/-! ### Plans in use -/

/-- The slot whose ARMED plan has a flight number (R291). -/
def State.armedSlot (s : State) (flight : Nat) : Option Nat :=
  (List.range 32).find? fun i => (s.plan i).st == .armed && planFlight (s.plan i).plan == flight

/-- The slot that holds a plan with a flight number in any state but EMPTY (R295). -/
def State.flightSlot (s : State) (flight : Nat) : Option Nat :=
  (List.range 32).find? fun i => (s.plan i).held && planFlight (s.plan i).plan == flight

/-- Raise an FCE condition for a slot, attributed to the context bound to it where there is one (R312). -/
def State.fceRaise (s : State) (slot : Option Nat) (cond sev : Nat) : State :=
  s.raise { page := ⟨.fce, 0⟩, cond := cond, sev := sev, ctx := slot.bind s.boundCtx }

/-- Count in a per-context register of the `FCE` page for the context bound to a slot. -/
def State.fceCount (s : State) (slot : Nat) (off : Nat) : State :=
  match s.boundCtx slot with
  | some k => s.count .fce 0 off 1 k
  | none => s

/-- Member `m` cannot be reached from a slot's flight for the rest of the pound: a barge to it was undeliverable, or its next-hop port carries nothing (R292, R296). -/
def State.unreachable (s : State) (slot m : Nat) : Bool :=
  let p := s.plan slot
  m != planSelf p.plan && (p.unreach.contains m || (s.planLinks p.plan (planPortTo p.plan m)).isEmpty)

/-! ### Sending (R286, R292) -/

/-- Bytes of the retransmit buffer (R292). -/
def retxSize : Nat := 16 * 2 ^ 20

/-- Bytes held in the retransmit buffer: the barges that have been sent. -/
def State.retxUsed (s : State) : Nat := s.fce.retx.foldl (fun a b => if b.link.isSome then a + 32 + b.barge.payload.length else a) 0

/-- The link of a barge's bucket among a port's links: buckets are dealt round robin in ascending order (R286). -/
def Barge.linkOf (b : Barge) (links : List Nat) : Option Nat :=
  links[Config.flowHash b.flight b.src b.dst b.kind b.coll % 64 % links.length]?

/-- The barge leaves on a link: seen outside, counted on its port (R310). -/
def State.putBarge (s : State) (port link : Nat) (b : Barge) : State :=
  (s.emit (.barge link b)).count64 .lpt port Off.lptTxBytesLo b.wireBytes

/-- A barge cannot be delivered: its destination is unreachable for the rest of the pound (R292). -/
def State.undeliverable (s : State) (b : Barge) : State :=
  if b.notice then s
  else match s.flightSlot b.flight with
  | some i => s.modPlan i fun p => { p with unreach := if p.unreach.contains b.dst then p.unreach else p.unreach ++ [b.dst] }
  | none => s

/-- The links a barge may leave on by a port. -/
def State.linksFor (s : State) (b : Barge) (port : Nat) : List Nat :=
  match s.flightSlot b.flight with
  | some i => s.planLinks (s.plan i).plan port
  | none => []

/-- A barge is offered to a port: sent and kept until acknowledged, kept waiting while the buffer is full, or undeliverable when the port carries nothing (R292). -/
def State.offer (s : State) (port : Nat) (b : Barge) : State :=
  match b.linkOf (s.linksFor b port) with
  | none => s.undeliverable b
  | some l =>
    if s.retxUsed + 32 + b.payload.length ≤ retxSize ∧ s.fce.retx.all (·.link.isSome) then
      let s := s.putBarge port l b
      { s with fce := { s.fce with retx := s.fce.retx ++ [⟨b, port, some l, 0⟩] } }
    else { s with fce := { s.fce with retx := s.fce.retx ++ [⟨b, port, none, 0⟩] } }

/-- The first waiting barge of the buffer leaves once there is room; a barge whose port carries nothing is undeliverable. -/
def State.pump1 (s : State) : State :=
  match s.fce.retx.findIdx? (·.link.isNone) with
  | none => s
  | some i =>
    match s.fce.retx[i]? with
    | none => s
    | some e =>
      match e.barge.linkOf (s.linksFor e.barge e.port) with
      | none => ({ s with fce := { s.fce with retx := s.fce.retx.eraseIdx i } } : State).undeliverable e.barge
      | some l =>
        if s.retxUsed + 32 + e.barge.payload.length ≤ retxSize then
          let s := s.putBarge e.port l e.barge
          { s with fce := { s.fce with retx := s.fce.retx.set i { e with link := some l } } }
        else s

/-- Waiting barges leave in order while there is room. -/
def State.pump (s : State) : State := (List.range s.fce.retx.length).foldl (fun s _ => s.pump1) s

/-- The next SEQ toward a destination (R289). -/
def State.takeSeq (s : State) (slot dst : Nat) : Nat × State :=
  let n := Tbl.get (s.plan slot).txSeq dst 0
  (n, s.modPlan slot fun p => { p with txSeq := Tbl.put p.txSeq dst ((n + 1) % 2 ^ 32) })

/-- Stands for an acknowledgement that never comes: of a barge that is not sent. -/
def neverAcked : Nat := 2 ^ 32

/-- The slot's context is condemned: the `FCE` sends no barge of it (R366). -/
def State.slotMuted (s : State) (slot : Nat) : Bool :=
  match s.boundCtx slot with
  | some k => s.isCondemned k
  | none => false

/-- Send a new barge of this member to a destination; the sequence number it took. Of a condemned context only the answers to fetch requests leave (R274, R366). -/
def State.sendBarge (s : State) (slot : Nat) (x : BargeSpec) : Nat × State :=
  if s.slotMuted slot ∧ x.kind ≠ 3 then (neverAcked, s)
  else
    let (q, s) := s.takeSeq slot x.dst
    let plan := (s.plan slot).plan
    (q, s.offer (planPortTo plan x.dst) (x.build plan q))

/-- FLIGHT ports of a plan: those one of its links names as LP (R296). -/
def planPorts (b : List Byte) : List Nat := (List.range 18).filter fun p => (planPeer b p).isSome

/-- Offer a notice to every FLIGHT port of the plan except one (R296). -/
def State.floodBarge (s : State) (slot : Nat) (b : Barge) (except : Option Nat) : State :=
  ((planPorts (s.plan slot).plan).filter fun p => some p != except).foldl (fun s p => s.offer p b) s

/-- Send a notice of this member: one sequence number of DST 0, flooded on every FLIGHT port of the plan, and remembered so that a copy that comes back is dropped (R65, R296). -/
def State.sendNotice (s : State) (slot kind step : Nat) (payload : List Byte) : State :=
  let plan := (s.plan slot).plan
  let (q, s) := s.takeSeq slot 0
  let s := s.modPlan slot fun p => { p with seen := p.seen ++ [(kind, planSelf plan, step)] }
  s.floodBarge slot (({ kind := kind, dst := 0, step := step, payload := payload } : BargeSpec).build plan q) none

/-! ### Flight aborts (R305, R306) -/

/-- The member records FLIGHT_ABORT for its present tick: at the first failure it fills the record, raises FLIGHT_ABORT and floods a notice when it is the one to send it; later failures are counted (R305). -/
def State.flightAbort (s : State) (slot cause member : Nat) (coll inst : Nat := 0) (notify : Bool := true) : State :=
  let t := s.lkp.now
  if (s.plan slot).st != .armed then s
  else if (s.plan slot).abortTick = some t then
    (if s.rd .fce 0 Off.fceAbortRec1 slot = BitVec.ofNat 32 t then s.count .fce 0 Off.fceAbortRec3 1 slot else s)
  else
    let s := s.modPlan slot fun p => { p with abortTick := some t }
    let s :=
      if bitAt (s.rd .fce 0 Off.fceAbortRec0 slot).toNat 31 then s
      else
        let s := s.wr .fce 0 Off.fceAbortRec0 (BitVec.ofNat 32 (packFields [(0, 8, cause), (8, 12, member), (31, 1, 1)])) slot
        let s := s.wr .fce 0 Off.fceAbortRec1 (BitVec.ofNat 32 t) slot
        let s := s.wr .fce 0 Off.fceAbortRec2 (BitVec.ofNat 32 (packFields [(0, 16, coll), (16, 8, inst)])) slot
        s.wr .fce 0 Off.fceAbortRec3 1 slot
    let s := s.fceRaise (some slot) 0x10 0
    if notify then s.sendNotice slot 7 t (toBytes 8 (packFields [(0, 8, cause), (8, 12, member)])) else s

/-- The flight of a context aborts for a cause of its own member (R53, R68). -/
def State.ctxFlightAbort (s : State) (k cause : Nat) : State :=
  match s.slotOf k with
  | some i => s.flightAbort i cause (planSelf (s.plan i).plan)
  | none => s

/-! ### Receiving (R291, R292, R296) -/

/-- Move the low mark of a window over the sequence numbers that have arrived. -/
def slideWindow : Nat → RxWindow → RxWindow
  | 0, w => w
  | n + 1, w => if w.above.contains w.low then slideWindow n { low := w.low + 1, above := w.above.filter (· != w.low) } else w

/-- A sequence number arrives in a window. -/
def RxWindow.mark (w : RxWindow) (q : Nat) : RxWindow :=
  if q < w.low ∨ w.above.contains q then w else slideWindow (w.above.length + 1) { w with above := w.above ++ [q] }

/-- The receive window of a source and destination. -/
def PlanSlot.window (p : PlanSlot) (b : Barge) : RxWindow := Tbl.get p.rx (b.src * 4096 + b.dst) {}

/-- The payload of an ACK barge: 12 bytes per acknowledgement (R290). -/
def ackEntry (a : Nat × Nat × Nat × Nat × Nat) : List Byte :=
  match a with
  | (_, flight, src, dst, seq) =>
    toBytes 4 (packFields [(0, 16, flight), (16, 12, src), (28, 4, dst)]) ++ toBytes 4 (packFields [(0, 12, dst)]) ++ toBytes 4 seq

/-- Send the acknowledgements pending on a link, one ACK barge per flight; an ACK takes no sequence number and is not kept (R292). -/
def State.sendAcks (s : State) (link : Nat) : State :=
  let mine := s.fce.acks.filter fun a => a.1 == link
  let s := { s with fce := { s.fce with acks := s.fce.acks.filter fun a => a.1 != link } }
  match s.portOf link with
  | none => s
  | some port =>
    (List.range 32).foldl (fun s i =>
      let plan := (s.plan i).plan
      let xs := if (s.plan i).st = .armed then mine.filter fun a => a.2.1 == planFlight plan else []
      if xs.isEmpty then s
      else
        let peer := adjPeer (planMine plan link)
        s.putBarge port link (({ kind := 8, dst := peer, step := s.lkp.now, payload := xs.flatMap ackEntry } : BargeSpec).build plan 0)) s

/-- An acknowledgement becomes pending on the link the barge came in on; at 64 they are sent (R292). -/
def State.oweAck (s : State) (link : Nat) (b : Barge) : State :=
  let s := { s with fce := { s.fce with acks := s.fce.acks ++ [(link, b.flight, b.src, b.dst, b.seq)] } }
  if 64 ≤ (s.fce.acks.filter fun a => a.1 == link).length then s.sendAcks link else s

/-- A segment that is not accepted: dropped, counted on its port and for the flight's context (R291). -/
def State.dropBarge (s : State) (port : Nat) (b : Barge) : State :=
  let s := s.count .lpt port Off.lptDrops
  match s.flightSlot b.flight with
  | some i => s.fceCount i Off.fceCtxStray
  | none => s

/-- A barge arrives on a link: the slot of the flight that accepts it as new, or none where it is dropped or repeated (R291, R292, R296). -/
def State.bargeIn (s : State) (kind link : Nat) (b : Barge) : State × Option Nat :=
  if b.kind ≠ kind ∧ b.kind ≤ 8 then (s, none)
  else match s.portOf link with
  | none => (s, none)
  | some port =>
    let st := (s.link link).st
    if st = .disabled ∨ st = .down ∨ s.rst.inReset then (s, none)
    else
      let s := s.count64 .lpt port Off.lptRxBytesLo b.wireBytes
      if s.role port ≠ 1 then (s.dropBarge port b, none)
      else if !b.wellFormed then ((s.dropBarge port b).fceRaise (s.flightSlot b.flight) 0x15 0, none)
      else match s.armedSlot b.flight with
      | none => ((s.dropBarge port b).fceRaise (s.flightSlot b.flight) 0x14 0, none)
      | some i =>
        if b.fld 0 16 16 ≠ planTag (s.plan i).plan ∨ !(st == .up || (st == .quarantined && b.control)) then (s.dropBarge port b, none)
        else if b.kind = 8 then (s, some i)
        else
          let w := (s.plan i).window b
          let again := b.seq < w.low || w.above.contains b.seq
          if b.notice then
            if (s.plan i).seen.contains (b.kind, b.src, b.step) then ((s.fceCount i Off.fceCtxDup).oweAck link b, none)
            else
              let s := s.modPlan i fun p => { p with
                rx := Tbl.put p.rx (b.src * 4096 + b.dst) (w.mark b.seq), seen := p.seen ++ [(b.kind, b.src, b.step)] }
              (s.oweAck link b, some i)
          else if again then ((s.fceCount i Off.fceCtxDup).oweAck link b, none)
          else if w.low + 4096 ≤ b.seq then (s, none)
          else
            let s := s.modPlan i fun p => { p with rx := Tbl.put p.rx (b.src * 4096 + b.dst) (w.mark b.seq) }
            (s.oweAck link b, some i)

/-- A barge for another member is relayed on its route with HOPS decremented; one that arrives with 0 is dropped (R296). -/
def State.relay (s : State) (slot link : Nat) (b : Barge) : State :=
  if b.hops = 0 then s.dropBarge ((s.portOf link).getD 0) b
  else s.offer (planPortTo (s.plan slot).plan b.dst) (b.setFld 2 24 4 (b.hops - 1))

/-- The `FCE`, the link's page or its port's page runs a single-block reset: the barge waits at the block's input (R408). -/
def State.fceHolds (s : State) (link : Nat) : Bool :=
  s.isResetting ⟨.fce, 0⟩ || s.isResetting ⟨.lnk, link⟩ || (match s.portOf link with
    | some p => s.isResetting ⟨.lpt, p⟩
    | none => false)

/-- A command waits for the end of the reset of its block (R408). -/
def State.hold (s : State) (c : Instr) : State := { s with held := s.held ++ [c] }

/-! ### Hop acknowledgements (R292) -/

/-- A barge of this member has been acknowledged: its collective instance no longer waits for it, and counts as complete when it was the last (R302). -/
def State.barged (s : State) (b : Barge) : State :=
  match s.flightSlot b.flight with
  | none => s
  | some i =>
    match s.boundCtx i with
    | none => s
    | some k =>
      if b.src ≠ planSelf (s.plan i).plan ∨ 1 < b.kind then s
      else
        let hit := fun (x : CollInst) => x.ctx == k && x.coll == b.coll && x.inst == b.inst && x.tick == b.step && x.unacked.contains (b.dst, b.seq)
        let done := s.fce.insts.any fun x => hit x && x.written && x.unacked.length == 1
        let s := { s with fce := { s.fce with insts := s.fce.insts.map fun x => if hit x then { x with unacked := x.unacked.filter (· != (b.dst, b.seq)) } else x } }
        if done then s.count .fce 0 Off.fceCtxColls 1 k else s

/-- One entry of an ACK received on a port: the barge it names leaves the buffer. -/
def State.ackOne (s : State) (port flight src dst seq : Nat) : State :=
  match s.fce.retx.find? fun e => e.port == port && e.link.isSome && e.barge.flight == flight && e.barge.src == src && e.barge.dst == dst && e.barge.seq == seq with
  | none => s
  | some e =>
    ({ s with fce := { s.fce with retx := s.fce.retx.erase e } } : State).barged e.barge

/-- A hop acknowledgement is received: it frees buffer entries, and waiting barges leave (R292). -/
def State.ackBarge (s : State) (link : Fin 18) (hdr : BitVec 256) (payload : List Byte) : State :=
  if s.fceHolds link then s.hold (.ackBarge link hdr payload)
    else
      let b : Barge := ⟨hdr, payload⟩
      match s.bargeIn 8 link b with
      | (s, none) => s
      | (s, some _) =>
        let port := (s.portOf link).getD 0
        ((chunks 12 payload).foldl (fun s e =>
          let w0 := ofBytes (e.take 4)
          s.ackOne port (bitsAt w0 0 16) (bitsAt w0 16 12) (bitsAt (ofBytes ((e.drop 4).take 4)) 0 12) (ofBytes (e.drop 8))) s).pump

/-- ACK_BARGE. -/
def execAckBarge (link : Fin 18) (hdr : BitVec 256) (payload : List Byte) (s : State) : Host.Outcome State Fault Refusal := .next (s.ackBarge link hdr payload)

/-- Pending hop acknowledgements of a link are sent (R292). -/
def execAckTx (link : Fin 18) (s : State) : Host.Outcome State Fault Refusal :=
  .next (let st := (s.link link).st
    if st = .up ∨ st = .quarantined then s.sendAcks link else s)

/-- A kept barge is sent again with RETRY = 1, or is undeliverable when its retransmissions are used up or no link is left (R292). -/
def State.resend (s : State) (e : TxBarge) : State :=
  let gone : State := { s with fce := { s.fce with retx := s.fce.retx.erase e } }
  if s.fld .fce 0 Off.fceCfg 8 4 ≤ e.retries then gone.undeliverable e.barge
  else match e.barge.linkOf (s.linksFor e.barge e.port) with
  | none => gone.undeliverable e.barge
  | some l =>
    let b := e.barge.setFld 0 9 1 1
    let s := { s with fce := { s.fce with retx := s.fce.retx.map fun x => if x = e then { x with barge := b, link := some l, retries := x.retries + 1 } else x } }
    let s := (s.putBarge e.port l b).count .lnk l Off.lnkRetx
    match s.flightSlot b.flight with
    | some i => s.fceCount i Off.fceCtxRetx
    | none => s

/-- No ACK within ACK_TMO for entry `idx` of the retransmit buffer (R292). -/
def execAckTimeout (idx : Nat) (s : State) : Host.Outcome State Fault Refusal :=
  .next (match s.fce.retx[idx]? with
    | some e => if e.link.isSome then (s.resend e).pump else s
    | none => s)

/-! ### Links (R283, R284) -/

/-- The slave port of the timing tree has no UP link: under PTP the member goes to HOLDOVER (R53, R299). -/
def State.toHoldover (s : State) : State :=
  if s.ticking ∧ s.fld .lkp 0 Off.lkpTickCfg 0 2 ≠ 0 ∧ s.fld .lkp 0 Off.lkpSyncStatus 0 2 = 1 then
    (s.setFld .lkp 0 Off.lkpSyncStatus 0 2 2).raisePage .lkp 0 0x50 0
  else s

/-- The slave port of the plan in slot TIMING_SLOT; none for the grandmaster or without a plan (R299). -/
def State.slavePort (s : State) : Option Nat :=
  let p := s.plan (s.fld .fce 0 Off.fceCfg 20 5)
  if !p.held ∨ planParent p.plan (planSelf p.plan) = planSelf p.plan then none
  else some (planTimingLp p.plan (planSelf p.plan))

/-- A change of link state settles: the buckets are dealt again, waiting barges leave, ports and the timing tree are checked. -/
def State.linksChanged (s : State) : State :=
  let s := s.pump.portsCheck
  match s.slavePort with
  | some p => if s.fld .lkp 0 Off.lkpTickCfg 0 2 = 2 ∧ !s.hasUp p then s.toHoldover else s
  | none => s

/-- A link goes DOWN: LINK_DOWN, and its barges are sent again at once (R284, R292). -/
def State.linkDown (s : State) (l : Nat) : State :=
  if (s.link l).st = .disabled ∨ (s.link l).st = .down then s
  else
    let mine := s.fce.retx.filter fun e => e.link == some l
    let s := (s.dropLink l).updAlert
    (mine.foldl State.resend s).linksChanged

/-- Loss of PCS alignment for 2 µs (R284). -/
def execLinkAlignLost (link : Fin 18) (s : State) : Host.Outcome State Fault Refusal :=
  .next (if s.rst.inReset then s else s.linkDown link)

/-- 64 consecutive codewords were uncorrectable (R284, R309). -/
def execLinkFecFail (link : Fin 18) (s : State) : Host.Outcome State Fault Refusal :=
  .next (if s.rst.inReset ∨ (s.link link).st = .disabled ∨ (s.link link).st = .down then s
    else ((s.count .lnk link Off.lnkFecUncorr 64).raisePage .lnk link 0x12 0).linkDown link)

/-- Alignment has held for 100 µs on all four lanes: VERIFYING, or UP for a FRONT port (R284). -/
def execLinkAligned (link : Fin 18) (lanes : BitVec 4) (s : State) : Host.Outcome State Fault Refusal :=
  .next (if s.rst.inReset ∨ s.hwd.fatal ∨ (s.link link).st ≠ .down then s
    else
      let s := s.modLink link fun k => { k with lanes := lanes }
      if lanes ≠ 15 then s
      else (s.modLink link fun k => { k with st := if s.isFront link then .up else .verifying, lldpSilent := 0, qreason := 0 }).linksChanged)

/-! ### LLDP (R284, R297) -/

/-- The tuples of the IDENTITY TLV: FLIGHT, member and the first 8 bytes of the hash of each loaded plan that uses the link, at most 4. -/
def State.lldpTuples (s : State) (l : Nat) : List (Nat × Nat × Nat) :=
  ((s.heldPlans.filter fun i => planUses (s.plan i).plan l).take 4).map fun i =>
    let b := (s.plan i).plan
    (planFlight b, planSelf b, ofBytes ((planHash b).take 8))

/-- A link is QUARANTINED for a reason; entry raises QUARANTINED (R297). -/
def State.quarantine (s : State) (l : Nat) (reason : BitVec 3) : State :=
  let was := (s.link l).st
  let mine := s.fce.retx.filter fun e => e.link == some l
  let s := s.modLink l fun k => { k with st := .quarantined, qreason := reason }
  if was = .quarantined then s
  else
    let s := s.raisePage .lnk l 0x11 0
    if was = .up then (mine.foldl State.resend s).linksChanged else s.linksChanged

/-- A link goes UP (R297). -/
def State.linkUp (s : State) (l : Nat) : State :=
  let was := (s.link l).st
  let s := s.modLink l fun k => { k with st := .up, qreason := 0 }
  if was = .up then s else s.linksChanged

/-- An LLDP frame leaves on its period. A FLIGHT link that has received no Gelzan TLVs for 4 periods is QUARANTINED (R297 row 1). -/
def execLldpTx (link : Fin 18) (s : State) : Host.Outcome State Fault Refusal :=
  .next (
    let st := (s.link link).st
    if s.rst.inReset ∨ st = .down ∨ st = .disabled then s
    else
      let s := s.emit (.lldp link (s.lldpTuples link))
      let s := s.modLink link fun k => { k with lldpSilent := k.lldpSilent + 1 }
      if st = .up ∧ !s.isFront link ∧ 4 ≤ (s.link link).lldpSilent then s.quarantine link 4 else s)

/-- Version of the fabric protocol of this device: major 1, minor 0 (R311 PROTO). -/
def protoMajor : Nat := 1
/-- Minor version of the fabric protocol of this device. -/
def protoMinor : Nat := 0

/-- The verdict of R297 on a frame for a FLIGHT link: 0 = UP, otherwise the QREASON. -/
def State.lldpJudge (s : State) (l : Nat) (x : LldpTlvs) : Nat :=
  let plans := (s.heldPlans.filter fun i => planUses (s.plan i).plan l).map fun i => (s.plan i).plan
  let silent := x.version.isNone && x.identity.isNone && decide (4 ≤ (s.link l).lldpSilent)
  let badVersion := match x.version with
    | some (maj, mi) => maj.toNat != protoMajor || decide (mi.toNat > protoMinor + 1) || decide (mi.toNat + 1 < protoMinor)
    | none => false
  let badPlan := plans.any fun b =>
    let e := planMine b l
    match x.identity with
    | none => true
    | some (_, _, ts) => !(ts.any fun t => t.1.toNat == planFlight b && t.2.1.toNat == adjPeer e && t.2.2.toNat == ofBytes ((planHash b).take 8))
  let badId := match x.identity with
    | none => false
    | some (serial, pl, _) => plans.any fun b =>
      let e := planMine b l
      serial.toNat != planSerial b (adjPeer e) || (pl.toNat != adjLink e && !adjAny e)
  if silent then 4 else if badVersion then 3 else if badPlan then 2 else if badId then 1 else 0

/-- A received LLDP frame: what it says of the peer is kept, and a FLIGHT link is judged by it (R297, R309). -/
def execLldpRx (link : Fin 18) (tlvs : LldpTlvs) (s : State) : Host.Outcome State Fault Refusal :=
  .next (
    let st := (s.link link).st
    if s.rst.inReset ∨ st = .down ∨ st = .disabled then s
    else
      let verdict := s.lldpJudge link tlvs
      let s := match tlvs.version with
        | some (maj, mi) => s.modLink link fun k => { k with peerVer := BitVec.ofNat 16 (maj.toNat * 256 + mi.toNat), lldpSilent := 0 }
        | none => s
      let s := match tlvs.identity with
        | some (serial, pl, ts) =>
          let first := (s.heldPlans.find? fun i => planUses (s.plan i).plan link).map fun i => planFlight (s.plan i).plan
          let member := match first.bind fun f => ts.find? fun t => t.1.toNat == f with
            | some t => t.2.1.toNat
            | none => 0
          s.modLink link fun k => { k with peerValid := true, peerSerial := serial, peerLink := pl.toNat, peerMember := member, lldpSilent := 0 }
        | none => s
      if s.isFront link then s
      else if verdict = 0 then s.linkUp link
      else s.quarantine link (BitVec.ofNat 3 verdict))

/-! ### Published protocols: ARP, PFC and IEEE 1588 (R288, R299) -/

/-- An ARP request or IPv6 neighbour solicitation for the port's own address is answered (R288). -/
def execArpRequest (port : Fin 18) (addr : BitVec 128) (v6 : Bool) (s : State) : Host.Outcome State Fault Refusal :=
  .next (
    let ip := s.rd64 .lpt port Off.lptIp + s.rd64 .lpt port (Off.lptIp + 8) * 2 ^ 64
    let own := if v6 then ip else ip % 2 ^ 32
    if s.rst.inReset ∨ s.role port = 0 ∨ !s.hasUp port ∨ (s.fld .lpt port Off.lptCfg 2 1 == 1) ≠ v6 ∨ addr.toNat ≠ own then s
    else s.emit (.arp port addr))

/-- A serving frame leaves on its route, or waits while PFC pauses the port (R288). -/
def State.putFrame (s : State) (route : Route) (bytes : List Byte) : State :=
  match route with
  | .udp p _ _ | .roce p _ _ =>
    if (s.port p).paused then s.modPort p fun q => { q with txq := q.txq ++ [(route, bytes)] }
    else (s.emit (.frame route bytes)).count64 .lpt p Off.lptTxBytesLo bytes.length
  | .ring => s.emit (.frame route bytes)

/-- A PFC frame pauses or resumes the class of a FRONT port, its PCP; waiting frames leave on resume. A FLIGHT port does not support PFC: the frame is dropped and counted (R288). -/
def execPfcRx (link : Fin 18) (cls : BitVec 3) (pause : Bool) (s : State) : Host.Outcome State Fault Refusal :=
  .next (match s.portOf link with
    | none => s
    | some p =>
      if s.rst.inReset ∨ (s.link link).st ≠ .up then s
      else if s.role p ≠ 2 then s.count .lpt p Off.lptDrops
      else if cls.toNat ≠ s.fld .lpt p Off.lptCfg 5 3 then s
      else if pause then s.modPort p fun q => { q with paused := true }
      else
        let q := (s.port p).txq
        q.foldl (fun s f => s.putFrame f.1 f.2) (s.modPort p fun q => { q with paused := false, txq := [] }))

/-- IEEE 1588 runs on a port: a FLIGHT port with an UP or QUARANTINED link, or a FRONT port with PTP_FRONT = 1 (R299). -/
def State.ptpOn (s : State) (p : Nat) : Bool :=
  !s.rst.inReset && ((s.role p == 1 && (List.range 18).any fun l => s.inPort p l && ((s.link l).st == .up || (s.link l).st == .quarantined)) ||
    (s.role p == 2 && s.fld .fce 0 Off.fceCfg 25 1 == 1 && s.hasUp p))

/-- A message of the device's domain on the slave port, or on a FRONT port with PTP_FRONT = 1, disciplines the device time (R299). -/
def execPtpMessageRx (port : Fin 18) (msg : PtpMsg) (s : State) : Host.Outcome State Fault Refusal :=
  .next (if s.ptpOn port ∧ msg.domain.toNat = s.fld .fce 0 Off.fceCfg 12 8 ∧ (s.role port = 2 ∨ s.slavePort = some port.val) then
      { s with fce := { s.fce with ptpTime := msg.time } }
    else s)

/-- Sync messages leave on master ports, peer-delay requests on every port, at their rates (R299). -/
def execPtpSyncTx (port : Fin 18) (kind : PtpTx) (s : State) : Host.Outcome State Fault Refusal :=
  .next (if s.ptpOn port ∧ !(kind == .sync && s.role port == 1 && s.slavePort == some port.val) then s.emit (.ptp port kind) else s)

/-! ### Notices (R65, R68, R306) -/

/-- A LATE notice is held for its tick and flooded onward; one that arrives after the cut-off of its tick raises NOTICE_AFTER_CUTOFF and stops the flight (R65, R68, R296). -/
def State.lateBarge (s : State) (link : Fin 18) (hdr : BitVec 256) (payload : List Byte) : State :=
  if s.fceHolds link then s.hold (.lateBarge link hdr payload)
    else
      let b : Barge := ⟨hdr, payload⟩
      match s.bargeIn 6 link b with
      | (s, none) => s
      | (s, some i) =>
        let s := if b.hops = 0 then s else s.floodBarge i (b.setFld 2 24 4 (b.hops - 1)) (s.portOf link)
        if b.step < s.lkp.now then
          let s := s.raise { page := ⟨.lkp, 0⟩, cond := 0x53, ctx := s.boundCtx i }
          s.flightAbort i 8 b.src
        else s.modPlan i fun p => { p with late := p.late ++ [(b.src, b.step)] }

/-- LATE_BARGE. -/
def execLateBarge (link : Fin 18) (hdr : BitVec 256) (payload : List Byte) (s : State) : Host.Outcome State Fault Refusal := .next (s.lateBarge link hdr payload)

/-- An ABORT notice is held for its tick and flooded onward. The member records FLIGHT_ABORT with cause NOTICE and the member the notice names; after the cut-off of the notice's tick that record is for the running step (R306). -/
def State.abortBarge (s : State) (link : Fin 18) (hdr : BitVec 256) (payload : List Byte) : State :=
  if s.fceHolds link then s.hold (.abortBarge link hdr payload)
    else
      let b : Barge := ⟨hdr, payload⟩
      match s.bargeIn 7 link b with
      | (s, none) => s
      | (s, some i) =>
        let s := if b.hops = 0 then s else s.floodBarge i (b.setFld 2 24 4 (b.hops - 1)) (s.portOf link)
        let s := if b.step < s.lkp.now then s else s.modPlan i fun p => { p with abortN := p.abortN ++ [(b.src, b.step)] }
        if s.lkp.now < b.step ∨ (s.plan i).abortTick = some s.lkp.now then s
        else s.flightAbort i 3 (bitsAt (ofBytes payload) 8 12) 0 0 false

/-- ABORT_BARGE. -/
def execAbortBarge (link : Fin 18) (hdr : BitVec 256) (payload : List Byte) (s : State) : Host.Outcome State Fault Refusal := .next (s.abortBarge link hdr payload)

/-! ### Remote writes at the target (R293) -/

/-- One RWRITE applied for the bound context: all of it, or nothing with RWRITE_FAULT and a NAK; then the end-to-end acknowledgement. -/
def State.rwApply (s : State) (slot k : Nat) (b : Barge) : State :=
  let dva := bitsAt (ofBytes (b.payload.take 8)) 0 48
  let data := b.payload.drop 8
  let (t, r) := s.memWrite 517 k dva data
  let (ok, s) := match r with
    | .ok _ => (true, t.fceCount slot Off.fceCtxRwrites)
    | .error _ => (false, (t.modMem fun m => { m with cells := s.mem.cells, tags := s.mem.tags, poison := s.mem.poison }).raiseCtx .fce 0 0x16 1 k)
  (s.sendBarge slot { kind := 5, dst := b.src, step := b.step, nak := !ok, payload := toBytes 4 b.seq }).2

/-- Held RWRITEs of a source whose turn has come are applied in SEQ order (R293). -/
def State.rwDrain (s : State) (slot k src : Nat) : State :=
  let p := s.plan slot
  let low := (Tbl.get p.rx (src * 4096 + planSelf p.plan) {}).low
  let turn := fun (b : Barge) => b.src == src && decide (b.seq < low)
  let due := sortBy (fun a b => decide (a.seq ≤ b.seq)) (p.rwHold.filter turn)
  let s := s.modPlan slot fun p => { p with rwHold := p.rwHold.filter fun b => !turn b }
  due.foldl (fun s b => s.rwApply slot k b) s

/-- A barge of a kind that carries data: dropped, relayed, or delivered to the context bound to its flight. Every arrival may let held RWRITEs of its source proceed (R291 to R293, R296). -/
def State.dataIn (s : State) (kind link : Nat) (b : Barge) (deliver : State → Nat → Nat → State) : State :=
  match s.bargeIn kind link b with
  | (s, none) => s
  | (s, some i) =>
    if b.dst ≠ planSelf (s.plan i).plan then s.relay i link b
    else match s.boundCtx i with
    | none => s.dropBarge ((s.portOf link).getD 0) b
    | some k => (deliver s i k).rwDrain i k b.src

/-- An RWRITE barge is applied in the turn of its SEQ and acknowledged end to end (R293). -/
def State.rwriteBarge (s : State) (link : Fin 18) (hdr : BitVec 256) (payload : List Byte) : State :=
  if s.fceHolds link then s.hold (.rwriteBarge link hdr payload)
    else s.dataIn 4 link ⟨hdr, payload⟩ fun s i _ => s.modPlan i fun p => { p with rwHold := p.rwHold ++ [⟨hdr, payload⟩] }

/-- RWRITE_BARGE. -/
def execRwriteBarge (link : Fin 18) (hdr : BitVec 256) (payload : List Byte) (s : State) : Host.Outcome State Fault Refusal := .next (s.rwriteBarge link hdr payload)

/-! ### Plan commands (R295) -/

/-- The slot `FCE_PLAN_SEL` names. -/
def State.planSel (s : State) : Nat := s.fld .fce 0 Off.fcePlanSel 0 5

/-- A plan command in a state that allows it, or BAD_VALUE (R311); it waits while the `FCE` page resets. -/
def State.planCmd (s : State) (src : Source) (bit : Nat) (v : Word) (c : Instr) (allowed : PlanSlot → Bool) (f : PlanSlot → PlanSlot) : State :=
  if !s.reachesBlock src ∨ !bitAt v.toNat bit then s
  else if s.isResetting ⟨.fce, 0⟩ then s.hold c
  else if allowed (s.plan s.planSel) then s.modPlan s.planSel f
  else s.accessError ⟨.fce, 0⟩ 0x03

/-- LOAD of an EMPTY slot starts reading its plan (R295). -/
def State.planLoad (s : State) (src : Source) (v : Word) : State :=
  s.planCmd src 0 v (.planLoad src v) (fun p => p.st == .empty && !p.loading) fun p => { p with loading := true }

/-- PLAN_LOAD. -/
def execPlanLoad (src : Source) (v : Word) (s : State) : Host.Outcome State Fault Refusal := .next (s.planLoad src v)

/-- ARM of a LOADED or STOPPED slot waits for edge `FCE_PLAN_ARM_AT` (R295). -/
def State.planArm (s : State) (src : Source) (v : Word) : State :=
    let at_ := s.latest .fce 0 Off.fcePlanArmAtLo s.planSel + s.latest .fce 0 Off.fcePlanArmAtHi s.planSel * 2 ^ 32
    s.planCmd src 1 v (.planArm src v) (fun p => p.st == .loaded || p.st == .stopped) fun p => { p with armAt := some at_ }

/-- PLAN_ARM. -/
def execPlanArm (src : Source) (v : Word) (s : State) : Host.Outcome State Fault Refusal := .next (s.planArm src v)

/-- DISARM makes an ARMED slot LOADED at the next step 3 (R295). -/
def State.planDisarm (s : State) (src : Source) (v : Word) : State :=
  s.planCmd src 2 v (.planDisarm src v) (fun p => p.st == .armed) fun p => { p with disarm := true }

/-- PLAN_DISARM. -/
def execPlanDisarm (src : Source) (v : Word) (s : State) : Host.Outcome State Fault Refusal := .next (s.planDisarm src v)

/-- CLEAR empties an unbound slot that is not ARMED (R295). -/
def State.planClear (s : State) (src : Source) (v : Word) : State :=
    let free := (s.boundCtx s.planSel).isNone
    (s.planCmd src 3 v (.planClear src v) (fun p => free && p.st != .armed && !p.loading) fun _ => {})

/-- PLAN_CLEAR. -/
def execPlanClear (src : Source) (v : Word) (s : State) : Host.Outcome State Fault Refusal := .next (s.planClear src v)

/-- Every field of a plan that is not listed is 0, and N and SELF are in range (R294, R295 check 0x01). -/
def planFormatOk (b : List Byte) : Bool :=
  let n := planN b
  let w := planWord b
  bitsAt (w 0) 0 16 == 1 && decide (1 ≤ n ∧ n ≤ 4096) && bitsAt (w 1) 13 3 == 0 && bitsAt (w 1) 21 11 == 0 &&
    bitsAt (w 2) 23 9 == 0 && bitsAt (w 3) 23 9 == 0 && bitsAt (w 4) 16 16 == 0 && w 5 == 0 && w 6 == 0 && w 7 == 0 &&
    decide (planSelf b < n) &&
    (List.range n).all (fun i =>
      bitsAt (planNum b (64 + 16 * i + 8) 4) 17 15 == 0 && planNum b (64 + 16 * i + 12) 4 == 0 &&
      (List.range 18).all (fun l =>
        let e := planAdj b i l
        bitsAt e 24 8 == 0 && (adjCabled e || (adjPeer e == 0 && adjLink e == 0 && !adjAny e))) &&
      bitsAt (planRoute b i) 5 3 == 0 && bitsAt (planRoute b i) 12 4 == 0) &&
    bitsAt (planNum b (planLocal b) 4) 12 20 == 0 &&
    ((b.drop (planLocal b + 4 + 2 * n)).all (· == 0))

/-- Cables agree at both ends (R295 check 0x04). -/
def planCablesOk (b : List Byte) : Bool :=
  (List.range (planN b)).all fun i => (List.range 18).all fun l =>
    let e := planAdj b i l
    if adjCabled e then
      let f := planAdj b (adjPeer e) (adjLink e)
      decide (adjPeer e < planN b) && decide (adjLink e < 18) && adjCabled f && adjPeer f == i && adjLink f == l
    else true

/-- The first check of R295 a plan read into slot `i` fails; 0 = loaded. -/
def State.planCheck (s : State) (i : Nat) (b : List Byte) : Nat :=
  let others := s.heldPlans.filter (· != i)
  if !planFormatOk b then 1
  else if sha256 (planCommon b) ≠ planHash b then 2
  else if planSerial b (planSelf b) ≠ s.fuses.serial.toNat then 3
  else if !planCablesOk b then 4
  else if bitsAt (planWord b 2) 0 23 ≠ s.fld .lkp 0 Off.lkpTickPeriod 0 23 ∨ bitsAt (planWord b 3) 0 23 ≠ s.fld .lkp 0 Off.lkpGuard 0 23 ∨
      bitsAt (planWord b 3) 0 23 < 150 * planDiameter b + 110 then 5
  else if others.any fun j => planFlight (s.plan j).plan == planFlight b then 6
  else if (List.range 18).any fun l => planUses b l && decide (4 ≤ (others.filter fun j => planUses (s.plan j).plan l).length) then 7
  else 0

/-- Loading ends: the plan is read from context 0, checked, and the slot is LOADED, or stays EMPTY with PLAN_FAIL (R295). -/
def State.planLoaded (s : State) (i : Nat) : State :=
  if !(s.plan i).loading then s
  else
    let s := s.modPlan i fun p => { p with loading := false }
    let a := s.rd64 .fce 0 Off.fcePlanAddrLo i
    let fail (s : State) (e : Nat) : State :=
      (s.setFld .fce 0 Off.fcePlanErr 0 8 e i).fceRaise (some i) 0x12 0
    match s.memRead 517 0 a 64 with
    | (s, .error _) => fail s 8
    | (s, .ok h) =>
      let n := planN h
      if n = 0 ∨ 4096 < n ∨ bitsAt (planWord h 0) 0 16 ≠ 1 then fail s 1
      else match s.memRead 517 0 a (planSize n) with
      | (s, .error _) => fail s 8
      | (s, .ok b) =>
        let e := s.planCheck i b
        if e ≠ 0 then fail s e
        else ((s.setFld .fce 0 Off.fcePlanErr 0 8 0 i).modPlan i fun p => { p with st := .loaded, plan := b }).portsCheck

/-- PLAN_LOAD_DONE (R295). -/
def execPlanLoadDone (slot : Fin 32) (s : State) : Host.Outcome State Fault Refusal := .next (s.planLoaded slot)

/-- Check 0x09: every port a route names holds a link that is UP for this plan (R295). -/
def State.routesUp (s : State) (b : List Byte) : Bool :=
  (List.range (planN b)).all fun m => m == planSelf b || planPortTo b m == 0x1F || !(s.planLinks b (planPortTo b m)).isEmpty

/-- The plan commands that take effect at step 3 of edge `t`: ARM at its edge, with every SEQ and INST of the flight restarting at 0, and DISARM (R295). -/
def State.planStep3 (s : State) (t : Nat) : State :=
  (List.range 32).foldl (fun s i =>
    let p := s.plan i
    let s := if p.disarm then s.modPlan i fun p => { p with disarm := false, st := if p.st = .armed then .loaded else p.st } else s
    if p.armAt ≠ some t then s
    else if s.routesUp p.plan then
      let s := s.modPlan i fun p => { st := .armed, plan := p.plan }
      let s := s.setFld .fce 0 Off.fcePlanErr 0 8 0 i
      match s.boundCtx i with
      | some k => s.modCtx k fun c => { c with insts := [] }
      | none => s
    else ((s.modPlan i fun p => { p with armAt := none }).setFld .fce 0 Off.fcePlanErr 0 8 9 i).fceRaise (some i) 0x13 0) s

end Sys2Proof.Machine
end

