-- ==== Sys2Proof/Machine/Dma.lean ====
section
/-! DEFINITION. The DMA engine of a core: commands, their checks, starts and completions, atomics, and remote writes at the issuer (R197, R222, R225 to R228, R247, R293). -/

namespace Sys2Proof.Machine

/-! ### Fields of a command (R225) -/

/-- OP. -/
def dmOp (raw : Nat) : Nat := descFld raw 0 0 4
/-- SRC_W. -/
def dmSrcW (raw : Nat) : Bool := descFld raw 0 4 1 == 1
/-- DST_W. -/
def dmDstW (raw : Nat) : Bool := descFld raw 0 5 1 == 1
/-- SKEW. -/
def dmSkew (raw : Nat) : Bool := descFld raw 0 6 1 == 1
/-- CONV. -/
def dmConv (raw : Nat) : Nat := descFld raw 0 7 2
/-- AOP. -/
def dmAop (raw : Nat) : Nat := descFld raw 0 11 3
/-- RET. -/
def dmRet (raw : Nat) : Bool := descFld raw 0 14 1 == 1
/-- SYNC. -/
def dmSync (raw : Nat) : Nat := descFld raw 0 16 8
/-- SRC. -/
def dmSrc (raw : Nat) : Nat := descAddr raw 1
/-- DST. -/
def dmDst (raw : Nat) : Nat := descAddr raw 3
/-- ROW_BYTES. -/
def dmRowBytes (raw : Nat) : Nat := descFld raw 5 0 24
/-- Rows. -/
def dmRows (raw : Nat) : Nat := descFld raw 6 0 16 + 1
/-- SRC_PITCH. -/
def dmSrcPitch (raw : Nat) : Nat := descFld raw 7 0 32
/-- DST_PITCH. -/
def dmDstPitch (raw : Nat) : Nat := descFld raw 8 0 32
/-- LANES. -/
def dmLanes (raw : Nat) : Nat := descFld raw 9 0 8
/-- LANE_BYTES. -/
def dmLaneBytes (raw : Nat) : Nat := descFld raw 9 8 8
/-- SKPITCH. -/
def dmSkPitch (raw : Nat) : Nat := descFld raw 9 16 16
/-- HANDLE. -/
def dmHandle (raw : Nat) : Nat := descFld raw 10 0 32
/-- FIRST. -/
def dmFirst (raw : Nat) : Nat := descFld raw 11 0 6
/-- N. -/
def dmN (raw : Nat) : Nat := descFld raw 11 6 7
/-- VOFF. -/
def dmVoff (raw : Nat) : Nat := descFld raw 12 0 21
/-- TCORE. -/
def dmTcore (raw : Nat) : Nat := descFld raw 13 0 9
/-- TCORE names the destination: TCORE_EN = 1 on a COPY or FILL into a wharf. -/
def dmRemote (raw : Nat) : Bool := descFld raw 13 9 1 == 1 && dmDstW raw && (dmOp raw == 1 || dmOp raw == 2)
/-- MEMBER. -/
def dmMember (raw : Nat) : Nat := descFld raw 14 0 12
/-- LP. -/
def dmLp (raw : Nat) : Nat := descFld raw 14 12 5

/-- A reserved field of the descriptor is not 0 (R225). -/
def dmReserved (raw : Nat) : Bool :=
  descFld raw 0 15 1 != 0 || descFld raw 0 24 8 != 0 || descFld raw 2 16 16 != 0 || descFld raw 4 16 16 != 0 || descFld raw 5 24 8 != 0 ||
  descFld raw 6 16 16 != 0 || descFld raw 11 13 19 != 0 || descFld raw 12 21 11 != 0 || descFld raw 13 10 22 != 0 ||
  descFld raw 14 17 15 != 0 || descFld raw 15 0 32 != 0

/-- The skewed layout can be written: rows as wide as their lanes, lanes of one line apart (R94, R226). -/
def dmSkewOk (raw : Nat) : Bool :=
  let w := dmLanes raw * dmLaneBytes raw
  dmDstW raw && dmConv raw == 0 && decide (1 ≤ dmLanes raw ∧ dmLanes raw ≤ 128) &&
    (dmLaneBytes raw == 1 || dmLaneBytes raw == 2 || dmLaneBytes raw == 4) &&
    dmRowBytes raw == w && dmSkPitch raw % 32 == 0 && decide (w ≤ dmSkPitch raw) && dmDst raw % 32 == 0

/-- BAD_CMD: a reserved value, a bad alignment, or a combination R225 to R227 do not give (R228). -/
def dmBad (raw : Nat) : Bool :=
  let op := dmOp raw
  let rb := dmRowBytes raw
  dmReserved raw || op == 0 || decide (5 < op) || dmConv raw == 3 || decide (2 ≤ descFld raw 0 9 2) || (dmRet raw && op != 4) ||
  ((dmSkew raw || dmConv raw != 0) && op != 1) ||
  (if op = 3 then decide (dmN raw = 0 ∨ 64 < dmN raw)
   else rb == 0 ||
    (op == 4 && (decide (3 < dmAop raw) || dmDstW raw || (dmRet raw && !dmSrcW raw) ||
      [dmSrc raw, dmDst raw, dmSrcPitch raw, dmDstPitch raw, rb].any (· % 4 != 0))) ||
    (op == 5 && dmDstW raw) ||
    (dmSkew raw && !dmSkewOk raw) || (dmConv raw == 1 && rb % 3 != 0) || (dmConv raw == 2 && rb % 4 != 0))

/-- Bytes a row takes at its destination: UNPACK6 makes four of three, PACK6 three of four (R227). -/
def dmOutRow (raw : Nat) : Nat :=
  match dmConv raw with
  | 1 => dmRowBytes raw / 3 * 4
  | 2 => dmRowBytes raw / 4 * 3
  | _ => dmRowBytes raw

/-- The coach bytes of one key or value of the coach a handle names; 0 where it names none. -/
def State.dmCoachBytes (s : State) (ctx raw : Nat) : Nat :=
  match s.yard.named ctx (dmHandle raw) with
  | some (_, c) => slotBytes c.fmt.toNat c.hdim.toNat
  | none => 0

/-- Source runs of a command: address and length (R225). -/
def State.dmSources (s : State) (ctx raw : Nat) : List (Nat × Nat) :=
  match dmOp raw with
  | 2 => []
  | 3 => let n := dmN raw * s.dmCoachBytes ctx raw; [(dmSrc raw, n), (dmSrc raw + dmVoff raw, n)]
  | _ => (List.range (dmRows raw)).map fun r => (dmSrc raw + r * dmSrcPitch raw, dmRowBytes raw)

/-- Lines of a skewed operand (R94, R226). -/
def dmSkewLines (raw : Nat) : Nat := dmRows raw + dmLanes raw - 1

/-- Destination runs of a command other than COACH: address and length. -/
def dmDests (raw : Nat) : List (Nat × Nat) :=
  if dmSkew raw then [(dmDst raw, dmSkewLines raw * dmSkPitch raw)]
  else (List.range (dmRows raw)).map fun r => (dmDst raw + r * dmDstPitch raw, dmOutRow raw)

/-- The bounding span of some runs as a scoreboard range (R236). -/
def dmSpan (wharf : Bool) (xs : List (Nat × Nat)) (wr : Bool) : List ScbRange :=
  match xs.filter (·.2 != 0) with
  | [] => []
  | x :: xs =>
    let lo := xs.foldl (fun m y => min m y.1) x.1
    let hi := xs.foldl (fun m y => max m (y.1 + y.2)) (x.1 + x.2)
    if wharf then wharfRange lo (hi - lo) wr else dvaRange lo (hi - lo) wr

/-- The core whose wharf a command writes; none for a TCORE outside the context's grant (R61, R225, R228). -/
def State.dmTarget (s : State) (core ctx raw : Nat) : Option Nat :=
  if dmRemote raw then
    ((List.range 32).filter fun c => (s.cluster c).granted == some ctx)[dmTcore raw / 16]?.map fun c => 16 * c + dmTcore raw % 16
  else some core

/-- Ranges a command declares (R236, R238). -/
def State.dmRanges (s : State) (core ctx raw : Nat) : List ScbRange :=
  let op := dmOp raw
  (if dmSrcW raw then dmSpan true (s.dmSources ctx raw) (dmRet raw)
   else dmSpan false (s.dmSources ctx raw) false) ++
  (if op = 3 ∨ op = 4 ∨ op = 5 ∨ s.dmTarget core ctx raw ≠ some core then [] else dmSpan (dmDstW raw) (dmDests raw) true)

/-! ### dmq (R225) -/

/-- An error of the DMA engine, with the reject register beside `BLK_FIRST` (R228, R231). -/
def State.dmReject (s : State) (core cond op : Nat) (seq : Word) : State :=
  let s := if s.fld .dma core Off.blkFirst 31 1 = 1 then s
    else s.wr .dma core Off.dmaReject (BitVec.ofNat 32 (op + cond * 256 + (seq.toNat % 65536) * 65536))
  match s.coreCtx core with
  | some ctx => s.raiseCtx .dma core cond 1 ctx core
  | none => s

/-- Commands a DMA queue holds (R225). -/
def dmQueueSize : Nat := 16

/-- `dmq` with the descriptor at s[rs], where its OP is that of the row, or reserved (R225, R228). A discarded command takes its sequence number too (log 47). -/
def State.dmqOp (s : State) (core : Nat) (rs : BitVec 5) (op : Nat) : State :=
  if !s.scalarRuns core then s else
  if s.isResetting ⟨.dma, core⟩ then s.stall core .queue else
  match s.coreCtx core with
  | none => s
  | some ctx =>
    let refuse (o : Nat) : State :=
      let (seq, s) := s.nextSeq .dma core Off.dmaCmdSeq
      (s.dmReject core 0x10 o seq).retire core
    match s.readDesc core (s.sreg core rs) 64 64 with
    | none => refuse 0
    | some raw =>
      if dmOp raw ≠ op ∧ 1 ≤ dmOp raw ∧ dmOp raw ≤ 5 then s
      else if dmBad raw then refuse (dmOp raw)
      else if dmQueueSize ≤ (s.core core).dmq.length then s.stall core .queue
      else if (s.core core).scbFull then s.stall core .full
      else
        let (seq, s) := s.nextSeq .dma core Off.dmaCmdSeq
        let s := s.scbAdd core .dma seq (s.dmRanges core ctx raw)
        (s.modCore core fun k => { k with dmq := k.dmq ++ [⟨BitVec.ofNat 512 raw, seq⟩] }).retire core

/-- DMQ_COPY (R225). -/
def execDmqCopy (core : Fin 512) (rs : BitVec 5) (s : State) : Host.Outcome State Fault Refusal := .next (s.dmqOp core rs 1)
/-- DMQ_FILL (R225). -/
def execDmqFill (core : Fin 512) (rs : BitVec 5) (s : State) : Host.Outcome State Fault Refusal := .next (s.dmqOp core rs 2)
/-- DMQ_COACH (R197). -/
def execDmqCoach (core : Fin 512) (rs : BitVec 5) (s : State) : Host.Outcome State Fault Refusal := .next (s.dmqOp core rs 3)
/-- DMQ_ATOMIC (R222). -/
def execDmqAtomic (core : Fin 512) (rs : BitVec 5) (s : State) : Host.Outcome State Fault Refusal := .next (s.dmqOp core rs 4)
/-- DMQ_RWRITE (R293). -/
def execDmqRwrite (core : Fin 512) (rs : BitVec 5) (s : State) : Host.Outcome State Fault Refusal := .next (s.dmqOp core rs 5)

/-! ### Data (R225 to R227) -/

/-- Four 6-bit codes of three bytes, one byte each (R227). -/
def unpack6 (bs : List Byte) : List Byte :=
  (chunks 3 bs).flatMap fun c => (List.range 4).map fun i => BitVec.ofNat 8 (bitsAt (ofBytes c) (6 * i) 6)

/-- Four bytes' codes packed into three bytes (R227). -/
def pack6 (bs : List Byte) : List Byte :=
  (chunks 4 bs).flatMap fun c => toBytes 3 (packFields (c.zipIdx.map fun x => (6 * x.2, 6, x.1.toNat)))

/-- Byte `o` of a skewed operand: lane r of row s lies on line s + r; every other byte is 0 (R94, R226). -/
def skewByte (raw : Nat) (rows : List (List Byte)) (o : Nat) : Byte :=
  let line := o / dmSkPitch raw
  let lane := o % dmSkPitch raw / dmLaneBytes raw
  if lane < dmLanes raw ∧ lane ≤ line then (rows.getD (line - lane) []).getD (o % dmSkPitch raw) 0 else 0

/-- What a COPY or FILL writes: destination runs with their bytes, from the rows read. A FILL's pattern starts anew with each row. -/
def dmOutput (raw : Nat) (rows : List (List Byte)) : List (Nat × List Byte) :=
  if dmOp raw = 2 then
    let pat := toBytes 4 (descWord raw 1)
    (dmDests raw).map fun d => (d.1, (List.range d.2).map fun i => pat.getD (i % 4) 0)
  else if dmSkew raw then
    (dmDests raw).map fun d => (d.1, (List.range d.2).map (skewByte raw rows))
  else
    ((dmDests raw).zip rows).map fun x => (x.1.1, match dmConv raw with
      | 1 => unpack6 x.2
      | 2 => pack6 x.2
      | _ => x.2)

/-- DMA condition of a failed memory access (R228); a poisoned table entry has been raised by the memory system. -/
def dmCond : MemErr → Option Nat
  | .xlate => some 0x11
  | .poison => some 0x13
  | .table => none

/-- Source runs read in order until one fails. -/
def State.dmRead (s : State) (core ctx : Nat) (wharf : Bool) : List (Nat × Nat) → List (List Byte) → State × Except MemErr (List (List Byte))
  | [], acc => (s, .ok acc)
  | x :: xs, acc =>
    if wharf then State.dmRead s core ctx wharf xs (acc ++ [s.wharfRead core x.1 x.2])
    else match s.memRead core ctx x.1 x.2 with
      | (s, .error e) => (s, .error e)
      | (s, .ok bs) => State.dmRead s core ctx wharf xs (acc ++ [bs])

/-- A started command is gone: its scoreboard entry is released (R237). -/
def State.dmFinish (s : State) (core : Nat) (c : DmaCmd) : State :=
  (s.modCore core fun k => { k with dmaRun := k.dmaRun.filter fun r => r.cmd.seq != c.seq }).scbRelease core .dma c.seq

/-- A command stops on a fault and writes nothing further (R228). -/
def State.dmStop (s : State) (core : Nat) (c : DmaCmd) (cond : Option Nat) : State :=
  let s := s.dmFinish core c
  match cond with
  | some k => s.dmReject core k c.op c.seq
  | none => s

/-! ### Remote writes at the issuer (R293) -/

/-- Runs whose end meets the next one's start joined: contiguous destination. -/
def joinRuns : List (Nat × List Byte) → List (Nat × List Byte)
  | a :: b :: xs =>
    match joinRuns (b :: xs) with
    | c :: ys => if a.1 + a.2.length = c.1 then (a.1, a.2 ++ c.2) :: ys else a :: c :: ys
    | [] => [a]
  | xs => xs

/-- The RWRITE barges of some destination runs: one per 64 KiB of contiguous destination. -/
def rwPieces (runs : List (Nat × List Byte)) : List (Nat × List Byte) :=
  (joinRuns runs).flatMap fun r => (chunks 65536 r.2).zipIdx.map fun c => (r.1 + 65536 * c.2, c.1)

/-- Send the barges of a remote write on the port the command names; the sequence numbers to be acknowledged. -/
def State.rwSend (s : State) (slot raw : Nat) : List (Nat × List Byte) → List Nat → List Nat × State
  | [], acc => (acc, s)
  | p :: ps, acc =>
    let (q, s) := s.takeSeq slot (dmMember raw)
    let b := ({ kind := 4, dst := dmMember raw, step := s.lkp.now, payload := toBytes 8 (p.1 % 2 ^ 48) ++ p.2 } : BargeSpec).build (s.plan slot).plan q
    State.rwSend (s.offer (dmLp raw) b) slot raw ps (acc ++ [q])

/-- The barges of a remote write leave, and the command waits for their acknowledgements; with no armed flight, or for a condemned context, none leaves (R366, log 48). -/
def State.rwStart (s : State) (core ctx : Nat) (c : DmaCmd) (rows : List (List Byte)) : State :=
  let raw := c.raw.toNat
  let wait (s : State) (qs : List Nat) : State := s.modCore core fun k => { k with dmaRun := k.dmaRun ++ [⟨c, [], [], [], qs⟩] }
  match s.slotOf ctx with
  | none => wait s [neverAcked]
  | some i =>
    if (s.plan i).st ≠ .armed ∨ s.isCondemned ctx then wait s [neverAcked]
    else
      let (qs, s) := s.rwSend i raw (rwPieces (((dmDests raw).zip rows).map fun x => (x.1.1, x.2))) []
      wait s qs

/-! ### Start (R225, R237) -/

/-- The words of rows as elements in order: address of the destination, operand, element number (R222). -/
def dmAtoms (raw : Nat) (rows : List (List Byte)) : List (Nat × Word × Nat) :=
  let per := dmRowBytes raw / 4
  (rows.zip (dmDests raw)).zipIdx.flatMap fun x => (chunks 4 x.1.1).zipIdx.map fun w =>
    (x.1.2.1 + 4 * w.2, BitVec.ofNat 32 (ofBytes w.1), x.2 * per + w.2)

/-- A started command reads its sources and holds what it will write (R225). -/
def State.dmBegin (s : State) (core ctx : Nat) (c : DmaCmd) (target : Nat) (rows : List (List Byte)) : State :=
  let raw := c.raw.toNat
  let hold (s : State) (r : DmaRun) : State := s.modCore core fun k => { k with dmaRun := k.dmaRun ++ [r] }
  match dmOp raw with
  | 3 =>
    match s.yard.named ctx (dmHandle raw) with
    | none => s
    | some (_, co) =>
      hold s ⟨c, [], [(s.keyDva co (dmFirst raw), rows.getD 0 []), (s.valueDva co (dmFirst raw), rows.getD 1 [])], [], []⟩
  | 4 => hold s ⟨c, [], [], dmAtoms raw rows, []⟩
  | 5 => s.rwStart core ctx c rows
  | _ =>
    let out := dmOutput raw rows
    if dmDstW raw then hold s ⟨c, out.map fun x => (target, x.1, x.2), [], [], []⟩ else hold s ⟨c, [], out, [], []⟩

/-- The oldest queued command starts (R225, R228): wharf ranges, the target core and the coach are judged, then the sources are read. -/
def State.dmStart (s : State) (core ctx : Nat) (c : DmaCmd) : State :=
  let raw := c.raw.toNat
  let src := s.dmSources ctx raw
  let beyond := fun (x : Nat × Nat) => !inWharf x.1 x.2
  if (dmSrcW raw && src.any beyond) || (dmDstW raw && dmOp raw ≤ 2 && (dmDests raw).any beyond) then s.dmStop core c (some 0x12)
  else match s.dmTarget core ctx raw with
  | none => s.dmStop core c (some 0x14)
  | some target =>
    if dmOp raw = 3 ∧ (s.yard.named ctx (dmHandle raw)).isNone then
      (s.dmFinish core c).yardErr (dmHandle raw % 4) ctx 0x12 1 core
    else
      let dva := (if dmSrcW raw then [] else dmSpan false src false) ++ (if dmOp raw = 3 ∨ dmOp raw = 5 ∨ dmDstW raw then [] else dmSpan false (dmDests raw) true)
      match (s.portBefore core ctx dva).dmRead core ctx (dmSrcW raw) src [] with
      | (s, .error e) => s.dmStop core c (dmCond e)
      | (s, .ok rows) => s.dmBegin core ctx c target rows

/-- Commands of a core in flight at once (R225). -/
def dmInFlight : Nat := 4

/-- DMA_CMD_START (R225): the oldest queued command starts once the scoreboard allows it and fewer than four are in flight. -/
def State.dmaStart (s : State) (core : Nat) : State :=
  match (s.core core).dmq, s.coreCtx core with
  | c :: rest, some ctx =>
    if s.diesOn && !(s.core core).scbBlocked .dma c.seq && decide ((s.core core).dmaRun.length < dmInFlight) then
      (s.modCore core fun k => { k with dmq := rest }).dmStart core ctx c
    else s
  | _, _ => s

/-- DMA_CMD_START (R225). -/
def execDmaCmdStart (core : Fin 512) (s : State) : Host.Outcome State Fault Refusal := .next (s.dmaStart core)

/-! ### Atomics (R222) -/

/-- The combined word of an atomic operation and whether it produced a NaN. -/
def atomCombine (fl : Bool) (aop : Nat) (old x : Word) : Word × Bool :=
  match aop with
  | 0 => let r := add32 fl old.toNat x.toNat; (BitVec.ofNat 32 r.v, r.inv)
  | 1 => (old + x, false)
  | 2 => (if old.toInt < x.toInt then x else old, false)
  | _ => (x, false)

/-- A NaN produced by an atomic unit is reported with the place of the word and of the element (R222). -/
def State.atomNan (s : State) (core ctx dpa : Nat) (seq : Word) (elem : Nat) : State :=
  let ch := channelOf s.mem.ikey dpa
  s.reportUnit ⟨.mem, ch / 64⟩ 0x16 ctx
    { engine := 6, cause := 1, core := 0xFFFF, unit := ch / 64 + ch % 64 * 4, seq := seq.toNat, opa := core, opb := 0, row := elem, col := 0 }

/-- The elements of an ATOMIC applied in order until one fails (R222). With RET the old value overwrites the source element in the wharf (R225). -/
def State.atomApply (s : State) (core ctx : Nat) (c : DmaCmd) : List (Nat × Word × Nat) → State × Except MemErr Unit
  | [] => (s, .ok ())
  | (a, x, e) :: xs =>
    let raw := c.raw.toNat
    match s.memRead core ctx a 4 with
    | (s, .error e) => (s, .error e)
    | (s, .ok bs) =>
      let old := BitVec.ofNat 32 (ofBytes bs)
      let (new, nan) := atomCombine (s.flush32 ctx) (dmAop raw) old x
      match s.memWrite core ctx a (toBytes 4 new.toNat) with
      | (s, .error e) => (s, .error e)
      | (s, .ok _) =>
        let per := dmRowBytes raw / 4
        let s := if dmRet raw then s.wharfWrite core (dmSrc raw + e / per * dmSrcPitch raw + 4 * (e % per)) (toBytes 4 old.toNat) else s
        let s := match (s.xlate core ctx a .write) with
          | (s, .ok dpa) =>
            let s := s.count64 .bsn (dieOf s.mem.ikey dpa) Off.bsnAtomicsLo 1
            if nan then s.atomNan core ctx dpa c.seq e else s
          | (s, .error _) => s
        State.atomApply s core ctx c xs

/-! ### Completion (R225, R247) -/

/-- Runs written to DVAs in order until one fails. -/
def State.dmWrite (s : State) (core ctx : Nat) : List (Nat × List Byte) → State × Except MemErr Unit
  | [] => (s, .ok ())
  | x :: xs =>
    match s.memWrite core ctx x.1 x.2 with
    | (s, .error e) => (s, .error e)
    | (s, .ok _) => State.dmWrite s core ctx xs

/-- The writes of a command reach their targets: a COACH write only if the yard accepts it (R197, R225, R235). -/
def State.dmApply (s : State) (core ctx : Nat) (r : DmaRun) : State × Except (Option Nat) Unit :=
  let raw := r.cmd.raw.toNat
  if dmOp raw = 3 then
    match s.yard.writable ctx (dmHandle raw) (dmFirst raw) (dmN raw) with
    | .error cond => (s.yardErr (dmHandle raw % 4) ctx cond 1 core, .error none)
    | .ok (i, _) =>
      match s.dmWrite core ctx r.toDva with
      | (s, .error e) => (s, .error (dmCond e))
      | (s, .ok _) => (s.modYard fun y => y.filled i (dmFirst raw) (dmN raw), .ok ())
  else if dmOp raw = 4 then
    match s.atomApply core ctx r.cmd r.atoms with
    | (s, .error e) => (s, .error (dmCond e))
    | (s, .ok _) => (s, .ok ())
  else
    let s := r.toWharf.foldl (fun s x => s.wharfWrite x.1 x.2.1 x.2.2) s
    match s.dmWrite core ctx r.toDva with
    | (s, .error e) => (s, .error (dmCond e))
    | (s, .ok _) => (s, .ok ())

/-- Bytes a command has moved to its destination. -/
def DmaRun.bytes (r : DmaRun) : Nat :=
  match r.cmd.op with
  | 4 => 4 * r.atoms.length
  | 5 => dmRows r.cmd.raw.toNat * dmRowBytes r.cmd.raw.toNat
  | _ => (r.toWharf.map (·.2.2.length)).sum + (r.toDva.map (·.2.length)).sum

/-- The counter a completed command increments (R225, R243, R247): that of the destination core's cluster for TCORE, a delivery into its wharf. -/
def State.dmSyncInc (s : State) (core ctx : Nat) (c : DmaCmd) : State :=
  let raw := c.raw.toNat
  if dmSync raw = 0xFF then s
  else
    let target := (s.dmTarget core ctx raw).getD core
    let mark : SyncMark := {
      scope := if c.op = 5 then 2 else 1, lane := core % 16, agent := core / 16 != target / 16,
      delivery := if dmRemote raw then some (target % 16) else none }
    s.syncInc (target / 16) (dmSync raw) 1 mark

/-- DMA_CMD_COMPLETE (R247): command `idx` of those in flight completes; a remote write completes by its acknowledgements alone. -/
def State.dmComplete (s : State) (core idx : Nat) : State :=
  match (s.core core).dmaRun[idx]?, s.coreCtx core with
  | some r, some ctx =>
    if !s.diesOn ∨ (r.cmd.op = 5 ∧ !r.unacked.isEmpty) then s
    else match s.dmApply core ctx r with
    | (s, .error cond) => s.dmStop core r.cmd cond
    | (s, .ok _) => ((s.count64 .dma core Off.dmaBytesLo r.bytes).dmFinish core r.cmd).dmSyncInc core ctx r.cmd
  | _, _ => s

/-- DMA_CMD_COMPLETE (R247). -/
def execDmaCmdComplete (core : Fin 512) (idx : Fin 4) (s : State) : Host.Outcome State Fault Refusal := .next (s.dmComplete core idx)

/-! ### RWACK (R293, R305) -/

/-- The core and command in flight of a context that wait for an acknowledgement of a member. -/
def State.rwWaiting (s : State) (k member seq : Nat) : Option (Nat × DmaRun) :=
  (List.range 512).findSome? fun n =>
    if s.coreCtx n = some k then
      ((s.core n).dmaRun.find? fun r => r.cmd.op == 5 && dmMember r.cmd.raw.toNat == member && r.unacked.contains seq).map fun r => (n, r)
    else none

/-- An end-to-end acknowledgement: one barge fewer to wait for; a NAK stops the command with XLATE_FAULT and aborts the flight (R293, R305). -/
def State.rwAcked (s : State) (slot k : Nat) (b : Barge) : State :=
  let seq := ofBytes b.payload
  match s.rwWaiting k b.src seq with
  | none => s
  | some (n, r) =>
    if b.fld 0 11 1 = 1 then (s.dmStop n r.cmd (some 0x11)).flightAbort slot 7 b.src
    else s.modCore n fun c => { c with dmaRun := c.dmaRun.map fun x => if x = r then { x with unacked := x.unacked.filter (· != seq) } else x }

/-- RWACK (R293). -/
def State.rwackBarge (s : State) (link : Fin 18) (hdr : BitVec 256) (payload : List Byte) : State :=
  if s.fceHolds link then s.hold (.rwackBarge link hdr payload)
    else s.dataIn 5 link ⟨hdr, payload⟩ fun s i k => s.rwAcked i k ⟨hdr, payload⟩

/-- RWACK_BARGE. -/
def execRwackBarge (link : Fin 18) (hdr : BitVec 256) (payload : List Byte) (s : State) : Host.Outcome State Fault Refusal := .next (s.rwackBarge link hdr payload)

/-! ### Removal (R252, R407) -/

/-- Bytes of a write that was not complete when its step was removed: each old or new, freely (R252). -/
def State.torn (s : State) : List Byte → List Byte → State × List Byte
  | o :: os, n :: ns =>
    let (i, s) := s.draw
    let (s, bs) := State.torn s os ns
    (s, (if Config.freeBit i then n else o) :: bs)
  | os, _ => (s, os)

/-- The writes of a removed command in flight: each byte holds its old or its new value (R252); coach writes reach slots above the fill mark only. -/
def State.dmTear (s : State) (core ctx : Nat) (r : DmaRun) : State :=
  let s := r.toWharf.foldl (fun s x =>
    let (s, bs) := s.torn (s.wharfRead x.1 x.2.1 x.2.2.length) x.2.2
    s.wharfWrite x.1 x.2.1 bs) s
  let s := if r.cmd.op = 3 then s else r.toDva.foldl (fun s x =>
    match s.keyOf ctx with
    | none => s
    | some g => (piecesOf x.1 x.2.length).foldl (fun s p =>
      match (s.leaf ctx p.2.1).bind fun e => leafAddr e p.2.1 .write with
      | .error _ => s
      | .ok a =>
        let (s, bs) := s.torn (s.mem.readBytes g a p.2.2) ((x.2.drop p.1).take p.2.2)
        s.modMem fun m => m.writeBytes g a bs) s) s
  r.atoms.foldl (fun s a =>
    let (i, s) := s.draw
    if Config.freeBit i then (s.atomApply core ctx r.cmd [a]).1 else s) s

/-- The DMA engine of a core is cleared: nothing queued, nothing in flight (R407). -/
def Core.clearDma (k : Core) : Core := { k with dmq := [], dmaRun := [], scb := k.scb.filter fun e => e.owner != .dma }

end Sys2Proof.Machine
end

