-- ==== Sys2Proof/Machine/Coll.lean ====
section
/-! DEFINITION. Collectives: descriptors, contributions, barges, reductions, the merge collective and completion (R171 to R173, R300 to R303). -/

namespace Sys2Proof.Machine

/-! ### Fields of a descriptor (R300) -/

/-- OP: 0 ALL_REDUCE, 1 ALL_GATHER, 2 REDUCE_SCATTER, 3 ALL_TO_ALL, 4 BROADCAST, 5 MERGE. -/
def clOp (d : Nat) : Nat := descFld d 0 0 4
/-- DTYPE: 0 FP32, 1 BF16, 2 FP16, 3 INT32, 4 RAW. -/
def clType (d : Nat) : Nat := descFld d 0 4 3
/-- RED: 0 SUM, 1 MAX, 2 MIN. -/
def clRed (d : Nat) : Nat := descFld d 0 7 2
/-- ALGO as the descriptor has it. -/
def clAlgoFld (d : Nat) : Nat := descFld d 0 9 2
/-- DEST: true = a device virtual address. -/
def clToDva (d : Nat) : Bool := descFld d 0 11 1 == 1
/-- MNORM. -/
def clNorm (d : Nat) : Bool := descFld d 0 12 1 == 1
/-- VFMT: true = BF16. -/
def clBf (d : Nat) : Bool := descFld d 0 13 1 == 1
/-- OFMT. -/
def clOfmt (d : Nat) : Nat := descFld d 0 14 4
/-- HDIM in elements. -/
def clHdim (d : Nat) : Nat := hdimOf (descFld d 0 18 2)
/-- LEAVES. -/
def clLeaves (d : Nat) : Nat := descFld d 1 0 32
/-- FIRST. -/
def clFirst (d : Nat) : Nat := descFld d 2 0 12
/-- COUNT. -/
def clCount (d : Nat) : Nat := descFld d 2 12 13
/-- ROOT. -/
def clRoot (d : Nat) : Nat := descFld d 3 0 12
/-- RECORDS. -/
def clRecords (d : Nat) : Nat := descFld d 3 12 13
/-- BYTES. -/
def clBytes (d : Nat) : Nat := descFld d 4 0 32
/-- DOFF. -/
def clDoff (d : Nat) : Nat := descFld d 5 0 21
/-- TLANE. -/
def clLane (d : Nat) : Nat := descFld d 5 21 4
/-- TCLUSTER, a logical cluster. -/
def clCluster (d : Nat) : Nat := descFld d 5 25 5
/-- SYNC. -/
def clSync (d : Nat) : Nat := descFld d 6 0 8
/-- DADDR. -/
def clDaddr (d : Nat) : Nat := descAddr d 7

/-- Bytes of an element. -/
def clElem (d : Nat) : Nat :=
  match clType d with
  | 0 | 3 => 4
  | 4 => 1
  | _ => 2

/-- ALGO in use: 0 DIRECT, 1 RING, 2 TREE. A ring gather of more steps than PHASE can number is sent directly: its output is the same (log 50). -/
def clAlgo (d : Nat) : Nat := if clAlgoFld d = 1 ∧ clOp d = 1 ∧ 257 < clCount d then 0 else clAlgoFld d

/-- Bytes of the output of an operation other than MERGE on one member. -/
def clOutBytes (d : Nat) : Nat :=
  match clOp d with
  | 1 => clCount d * clBytes d
  | 2 => clBytes d / clCount d
  | 5 => clRecords d * (if clNorm d then clHdim d * outElemBytes (clOfmt d) else recBytes (clHdim d) (clBf d))
  | _ => clBytes d

/-- Reserved bits of a descriptor are not 0. -/
def clReserved (d : Nat) : Bool :=
  descFld d 0 20 12 != 0 || descFld d 2 25 7 != 0 || descFld d 3 25 7 != 0 || descFld d 5 30 2 != 0 || descFld d 6 8 24 != 0 ||
  descFld d 8 16 16 != 0 || bitsAt d 288 224 != 0

/-- The descriptor keeps R300 in a flight of `members` for a member `self` of it. -/
def clOk (d members self : Nat) : Bool :=
  let op := clOp d
  let n := clCount d
  let inRange (m : Nat) : Bool := decide (clFirst d ≤ m ∧ m < clFirst d + n)
  !clReserved d && decide (op ≤ 5) && (op == 5 || decide (clType d ≤ 4)) && (clType d != 4 || op == 1 || op == 3 || op == 4 || op == 5) &&
    ((op != 0 && op != 2) || clRed d != 3) &&
    (match clAlgoFld d with
      | 0 => true
      | 1 => decide (op ≤ 2)
      | 2 => op == 0 || op == 4
      | _ => false) &&
    (op != 5 || (descFld d 0 18 2 != 3 && (!clNorm d || decide (clOfmt d ≤ 4)) && clRecords d != 0)) &&
    decide (1 ≤ n ∧ n ≤ 4096 ∧ clFirst d + n ≤ members) && inRange self && ((op != 4 && op != 5) || inRange (clRoot d)) &&
    (op == 5 || clBytes d % ((if op = 2 ∨ op = 3 then n else 1) * clElem d) == 0) &&
    (if clToDva d then clDaddr d % 64 == 0 else clDoff d % 8 == 0 && inWharf (clDoff d) (clOutBytes d))

/-! ### Reduction arithmetic (R302) -/

/-- Elements of a contribution, 16-bit ones widened exactly (R302). -/
def clWiden (d : Nat) (bs : List Byte) : List Word :=
  (chunks (clElem d) bs).map fun c => match clType d with
    | 1 => BitVec.ofNat 32 (ofBytes c * 65536)
    | 2 => BitVec.ofNat 32 (fp32.round ⟨fp16.decode (ofBytes c), false⟩).v
    | _ => BitVec.ofNat 32 (ofBytes c)

/-- Output bytes of reduced elements, 16-bit ones rounded once (R302); beyond the range they take the largest finite value, as R156 has it. -/
def clNarrow (d : Nat) (xs : List Word) : List Byte :=
  xs.flatMap fun x => match clType d with
    | 1 => toBytes 2 (toFloat bf16 false x.toNat).1
    | 2 => toBytes 2 (toFloat fp16 false x.toNat).1
    | _ => toBytes 4 x.toNat

/-- Words in the order they travel between members. -/
def wordBytes (xs : List Word) : List Byte := xs.flatMap fun x => toBytes 4 x.toNat

/-- Words read back. -/
def bytesWords (bs : List Byte) : List Word := (chunks 4 bs).map fun c => BitVec.ofNat 32 (ofBytes c)

/-- Two elements reduced (R302): the result and whether a NaN was produced. -/
def clCombine (fl : Bool) (d : Nat) (a b : Word) : Word × Bool :=
  if clType d = 3 then
    match clRed d with
    | 0 => (BitVec.ofInt 32 (satInt 32 (a.toInt + b.toInt)).1, false)
    | 1 => (if a.toInt < b.toInt then b else a, false)
    | _ => (if b.toInt < a.toInt then b else a, false)
  else
    match clRed d with
    | 0 => let r := add32 fl a.toNat b.toNat; (BitVec.ofNat 32 r.v, r.inv)
    | 1 => (BitVec.ofNat 32 (max32 a.toNat b.toNat), false)
    | _ => (BitVec.ofNat 32 (min32 a.toNat b.toNat), false)

/-- Two vectors reduced, with the produced NaNs: their number and the first element. -/
def clCombineVec (fl : Bool) (d : Nat) (a b : List Word) (t : Tally) : List Word × Tally :=
  let xs := (a.zip b).map fun p => clCombine fl d p.1 p.2
  (xs.map (·.1), { t with
    nan := t.nan + (xs.filter (·.2)).length
    first := if t.first.isSome then t.first else (xs.findIdx? (·.2)).map fun i => (0, 0, i, 0) })

/-- One level of the fixed tree (R168): neighbours reduced, an unpaired last one passed up. -/
def clPair (fl : Bool) (d : Nat) : List (List Word) → Tally → List (List Word) × Tally
  | a :: b :: xs, t =>
    let (r, t) := clCombineVec fl d a b t
    let (rs, t) := clPair fl d xs t
    (r :: rs, t)
  | xs, t => (xs, t)

/-- The root of the fixed tree over at most 2^n vectors (R168, R302). -/
def clTree (fl : Bool) (d : Nat) : Nat → List (List Word) → Tally → List Word × Tally
  | 0, xs, t => (xs.headD [], t)
  | n + 1, xs, t =>
    match xs with
    | [x] => (x, t)
    | _ => let (ys, t) := clPair fl d xs t; clTree fl d n ys t

/-! ### What an instance holds -/

/-- A message of the algorithm: the other member, relative to FIRST, its PHASE and its length in bytes. -/
structure ClMsg where
  peer : Nat
  phase : Nat
  len : Nat
  deriving DecidableEq, Repr

/-- The barges of a (member, phase) of an instance joined in SEQ order (R289). -/
def CollInst.joined (x : CollInst) (member phase : Nat) : Option (List Byte) :=
  match sortBy (fun a b => decide (a.2.2.1 ≤ b.2.2.1)) (x.got.filter fun g => g.1 == member && g.2.1 == phase) with
  | [] => none
  | gs => some (gs.flatMap (·.2.2.2))

/-- A message received whole: its bytes. -/
def CollInst.msg (x : CollInst) (d : Nat) (m : ClMsg) : Option (List Byte) :=
  (x.joined (clFirst d + m.peer) m.phase).bind fun bs => if bs.length = m.len then some bs else none

/-! ### Binomial trees and rings (R302) -/

/-- Number of trailing zero bits of `i`, at most `n`. -/
def ctzN : Nat → Nat → Nat
  | 0, _ => 0
  | n + 1, i => if i % 2 = 1 then 0 else 1 + ctzN n (i / 2)

/-- ⌈log2 n⌉ for n up to 2^fuel. -/
def clog2 : Nat → Nat → Nat
  | 0, _ => 0
  | fuel + 1, n => if n ≤ 1 then 0 else 1 + clog2 fuel ((n + 1) / 2)

/-- Children of rank `i` in the binomial tree of `n` ranks, by ascending distance 2^k: (k, child). -/
def treeChildren (n i : Nat) : List (Nat × Nat) :=
  let top := if i = 0 then clog2 13 n else ctzN 13 i
  ((List.range top).map fun k => (k, i + 2 ^ k)).filter fun c => decide (c.2 < n)

/-- Parent of rank `i` ≠ 0: the rank without its lowest set bit. -/
def treeParent (i : Nat) : Nat := i - 2 ^ ctzN 13 i

/-- Level at which rank `i` ≠ 0 meets its parent: the PHASE of what passes between them, up or down (R290). -/
def clLevel (i : Nat) : Nat := ctzN 13 i

/-- PHASE of the copy from ROOT to FIRST in a tree BROADCAST: the level above the tree's. -/
def phaseRoot (d : Nat) : Nat := clog2 13 (clCount d)

/-- PHASE of ring step `k`, 8 bits (R290). -/
def ringPhase (k : Nat) : Nat := k % 256

/-- PHASE of the copy of a finished vector that rank `i` of `n` passes on around the ring: its step follows the N − 1 steps of the reduction. -/
def ringDown (n i : Nat) : Nat :=
  if i + 1 = n then ringPhase (n - 1) else ringPhase (n + i + (if n % 256 = 0 then 128 else 0))

/-- Bytes of the reduced vector as it travels between members: 4 per element. -/
def clWideLen (d : Nat) : Nat := clBytes d / clElem d * 4

/-- Messages member `i` of an instance receives, in the order of its algorithm. -/
def clAwaits (d i : Nat) : List ClMsg :=
  let n := clCount d
  let b := clBytes d
  let w := clWideLen d
  let others := (List.range n).filter (· != i)
  match clOp d, clAlgo d with
  | 0, 1 =>
    (if i = 0 then [] else [⟨i - 1, ringPhase (i - 1), w⟩]) ++
    (if n = 1 ∨ i + 1 = n then [] else if i = 0 then [⟨n - 1, ringDown n (n - 1), w⟩] else [⟨i - 1, ringDown n (i - 1), w⟩])
  | 2, 1 => (if i = 0 then [] else [⟨i - 1, ringPhase (i - 1), w⟩]) ++ (if n = 1 ∨ i + 1 = n then [] else [⟨n - 1, ringDown n (n - 1), w / n⟩])
  | 1, 1 => (List.range (n - 1)).map fun p => ⟨(i + n - 1) % n, p, b⟩
  | 0, 2 => (treeChildren n i).map (fun c => ⟨c.2, c.1, w⟩) ++ (if i = 0 then [] else [⟨treeParent i, clLevel i, w⟩])
  | 4, a =>
    let r := clRoot d - clFirst d
    if i = r then []
    else if a = 2 then (if i = 0 then [⟨r, phaseRoot d, b⟩] else [⟨treeParent i, clLevel i, b⟩])
    else [⟨r, 0, b⟩]
  | 5, _ =>
    let r := clRoot d - clFirst d
    if i = r then others.map fun j => ⟨j, 0, clRecords d * recBytes (clHdim d) false⟩ else []
  | 2, _ | 3, _ => others.map fun j => ⟨j, 0, b / n⟩
  | _, _ => others.map fun j => ⟨j, 0, b⟩

/-- Chunk `j` of `n` equal chunks. -/
def chunkOf (n j : Nat) (xs : List α) : List α := (xs.drop (j * (xs.length / n))).take (xs.length / n)

/-- The vector a ring member or tree node has reduced so far, once everything it waits for on the way up is there. -/
def CollInst.accUp (x : CollInst) (fl : Bool) (d i : Nat) (t : Tally) : Option (List Word × Tally) :=
  x.own.bind fun own =>
    let mine := clWiden d own
    if clAlgo d = 1 then
      if i = 0 then some (mine, t)
      else (x.msg d ⟨i - 1, ringPhase (i - 1), clWideLen d⟩).map fun bs => clCombineVec fl d (bytesWords bs) mine t
    else
      (treeChildren (clCount d) i).foldl (fun a c => a.bind fun a =>
        (x.msg d ⟨c.2, c.1, clWideLen d⟩).map fun bs => clCombineVec fl d a.1 (bytesWords bs) a.2) (some (mine, t))

/-- The final vector of a ring or tree reduction, on a member that has it. -/
def CollInst.final (x : CollInst) (fl : Bool) (d i : Nat) : Option (List Word) :=
  let n := clCount d
  let top := if clAlgo d = 1 then i + 1 == n else i == 0
  if top then (x.accUp fl d i {}).map (·.1)
  else
    let from_ := if clAlgo d = 1 then (if i = 0 then ⟨n - 1, ringDown n (n - 1), clWideLen d⟩ else ⟨i - 1, ringDown n (i - 1), clWideLen d⟩) else (⟨treeParent i, clLevel i, clWideLen d⟩ : ClMsg)
    (x.msg d from_).map bytesWords

/-- Sends of member `i` that have become possible: peer relative to FIRST, PHASE and bytes. -/
def CollInst.sends (x : CollInst) (fl : Bool) (d i : Nat) : List (Nat × Nat × List Byte) :=
  let n := clCount d
  let others := (List.range n).filter (· != i)
  let opt {α : Type} (o : Option α) (f : α → List (Nat × Nat × List Byte)) : List (Nat × Nat × List Byte) := match o with
    | some a => f a
    | none => []
  match clOp d, clAlgo d with
  | 0, 1 =>
    (if i + 1 = n then [] else opt (x.accUp fl d i {}) fun a => [(i + 1, ringPhase i, wordBytes a.1)]) ++
    (if n = 1 ∨ i + 2 = n then [] else opt (x.final fl d i) fun a => [(if i + 1 = n then 0 else i + 1, ringDown n i, wordBytes a)])
  | 2, 1 =>
    opt (x.accUp fl d i {}) fun a =>
      if i + 1 = n then others.map fun j => (j, ringDown n i, wordBytes (chunkOf n j a.1)) else [(i + 1, ringPhase i, wordBytes a.1)]
  | 1, 1 =>
    (List.range (n - 1)).flatMap fun p =>
      opt (if p = 0 then x.own else x.msg d ⟨(i + n - 1) % n, p - 1, clBytes d⟩) fun bs => [((i + 1) % n, p, bs)]
  | 0, 2 =>
    (if i = 0 then [] else opt (x.accUp fl d i {}) fun a => [(treeParent i, clLevel i, wordBytes a.1)]) ++
    (opt (x.final fl d i) fun a => (treeChildren n i).map fun c => (c.2, c.1, wordBytes a))
  | 4, a =>
    let r := clRoot d - clFirst d
    let have_ := if i = r then x.own else if i = 0 then x.msg d ⟨r, phaseRoot d, clBytes d⟩ else x.msg d ⟨treeParent i, clLevel i, clBytes d⟩
    if a = 2 then
      opt have_ fun bs => (if i = r ∧ i ≠ 0 then [(0, phaseRoot d, bs)] else []) ++
        ((treeChildren n i).filter fun c => c.2 != r).map fun c => (c.2, c.1, bs)
    else if i = r then opt x.own fun bs => others.map fun j => (j, 0, bs) else []
  | 2, _ | 3, _ => opt x.own fun bs => others.map fun j => (j, 0, chunkOf n j bs)
  | 5, _ => []
  | _, _ => opt x.own fun bs => others.map fun j => (j, 0, bs)

/-- Contributions of every member in ascending order, where all have arrived: `len` bytes from each other, `mine` its own. -/
def CollInst.everyone (x : CollInst) (d i len : Nat) (mine : Option (List Byte)) : Option (List (List Byte)) :=
  (List.range (clCount d)).foldl (fun a j => a.bind fun xs =>
    (if j = i then mine else x.msg d ⟨j, 0, len⟩).map fun bs => xs ++ [bs]) (some [])

/-- The output of member `i`, once everything has arrived, with the NaNs its last reductions produced (R302). -/
def CollInst.output (x : CollInst) (fl : Bool) (d i : Nat) : Option (List Byte × Tally) :=
  let n := clCount d
  let plain (o : Option (List Byte)) : Option (List Byte × Tally) := o.map fun bs => (bs, {})
  match clOp d, clAlgo d with
  | 0, 0 => (x.everyone d i (clBytes d) x.own).map fun xs =>
      let (r, t) := clTree fl d 13 (xs.map (clWiden d)) {}
      (clNarrow d r, t)
  | 0, _ => plain ((x.final fl d i).map (clNarrow d))
  | 2, 1 =>
    if i + 1 = n then plain ((x.accUp fl d i {}).map fun a => clNarrow d (chunkOf n i a.1))
    else plain ((x.msg d ⟨n - 1, ringDown n (n - 1), clWideLen d / n⟩).map fun bs => clNarrow d (bytesWords bs))
  | 2, _ => (x.everyone d i (clBytes d / n) (x.own.map (chunkOf n i))).map fun xs =>
      let (r, t) := clTree fl d 13 (xs.map (clWiden d)) {}
      (clNarrow d r, t)
  | 1, 1 =>
    plain (x.own.bind fun own =>
      (List.range n).foldl (fun a j => a.bind fun bs =>
        (if j = i then some own else x.msg d ⟨(i + n - 1) % n, (i + n - 1 - j) % n, clBytes d⟩).map (bs ++ ·)) (some []))
  | 1, _ => plain ((x.everyone d i (clBytes d) x.own).map List.flatten)
  | 3, _ => plain ((x.everyone d i (clBytes d / n) (x.own.map (chunkOf n i))).map List.flatten)
  | 4, a =>
    let r := clRoot d - clFirst d
    plain (if i = r then x.own
      else if a = 2 then (if i = 0 then x.msg d ⟨r, phaseRoot d, clBytes d⟩ else x.msg d ⟨treeParent i, clLevel i, clBytes d⟩)
      else x.msg d ⟨r, 0, clBytes d⟩)
  | _, _ => none

/-- NaNs member `i` produced on the way up a ring or tree. -/
def CollInst.upTally (x : CollInst) (fl : Bool) (d i : Nat) : Tally :=
  if (clOp d = 0 ∨ clOp d = 2) ∧ clAlgo d ≠ 0 then
    match x.accUp fl d i {} with
    | some a => a.2
    | none => {}
  else {}

/-! ### The merge collective (R171, R172) -/

/-- Physical clusters of the leaves a member's device partial has, ascending. -/
def State.clLeafClusters (s : State) (ctx d : Nat) : List Nat :=
  let granted := (List.range 32).filter fun c => (s.cluster c).granted == some ctx
  (granted.zipIdx.filter fun c => bitAt (clLeaves d) c.2).map (·.1)

/-- The device partial of a member, once every leaf is there (R171). -/
def CollInst.devicePartial (x : CollInst) (fl : Bool) (clusters : List Nat) : Option (List PartialRec × Tally) :=
  (clusters.foldl (fun a c => a.bind fun ls =>
    (x.leaves.find? fun l => l.1 == c).map fun l => ls ++ [(⟨c, 0, l.2⟩ : Leaf)]) (some [])).bind fun ls =>
      if ls.isEmpty then none else some (mergeTree fl 6 ls {})

/-- Records read back from a partial-state barge, FP32 (R156). -/
def recsOfBytes (hdim n : Nat) (bs : List Byte) : List PartialRec :=
  (List.range n).map fun i => recOfBytes hdim false (bs.drop (i * recBytes hdim false))

/-- The merged root at the destination, once every member's device partial is there (R171, R172). -/
def CollInst.mergedRoot (x : CollInst) (fl : Bool) (d i : Nat) (mine : List PartialRec) (t : Tally) : Option (List PartialRec × Tally) :=
  ((List.range (clCount d)).foldl (fun a j => a.bind fun ls =>
    (if j = i then some mine else (x.msg d ⟨j, 0, clRecords d * recBytes (clHdim d) false⟩).map (recsOfBytes (clHdim d) (clRecords d))).map
      fun rs => ls ++ [(⟨clFirst d + j, 0, rs⟩ : Leaf)]) (some [])).map fun ls => mergeTree fl 13 ls t

/-! ### Errors and reports -/

/-- BAD_COLL against a context (R301, R312). -/
def State.badColl (s : State) (ctx : Nat) (core : Nat := 0xFFFF) : State := s.raiseCtx .fce 0 0x11 1 ctx core

/-- The first NaN a reduction or merge of the FCE produced is reported with ENGINE 0x07 (R303); the spec does not say what UNIT, SEQ, OPA and OPB hold. -/
def State.clTally (s : State) (ctx : Nat) (t : Tally) : State :=
  match t.first with
  | none => s
  | some (_, _, row, col) =>
    let (a, s) := s.draw
    let (b, s) := s.draw
    let (c, s) := s.draw
    let (e, s) := s.draw
    s.reportUnit ⟨.fce, 0⟩ 0x17 ctx
      { engine := 7, cause := 1, core := 0xFFFF, unit := Config.freeNat a, seq := Config.freeNat b, opa := Config.freeNat c, opb := Config.freeNat e, row := row, col := col }

/-! ### Instances -/

/-- Instance `i` of the list changed by `f`. -/
def State.modInst (s : State) (i : Nat) (f : CollInst → CollInst) : State :=
  match s.fce.insts[i]? with
  | some x => { s with fce := { s.fce with insts := s.fce.insts.set i (f x) } }
  | none => s

/-- Where an instance stands in the list. -/
def State.findInst (s : State) (ctx coll inst tick : Nat) : Option Nat :=
  s.fce.insts.findIdx? fun x => x.ctx == ctx && x.coll == coll && x.inst == inst && x.tick == tick

/-- The instance's place, made if it is new. -/
def State.needInst (s : State) (ctx coll inst tick : Nat) : Nat × State :=
  match s.findInst ctx coll inst tick with
  | some i => (i, s)
  | none =>
    (s.fce.insts.length, { s with fce := { s.fce with insts := s.fce.insts ++ [{ ctx := ctx, coll := coll, inst := inst, tick := tick, desc := none, own := none, got := [], leaves := [], unacked := [] }] } })

/-- Descriptor `coll` of a context's table, checked; none where it lies beyond the table, cannot be read or breaks R300 (R300, R301). -/
def State.readColl (s : State) (ctx slot coll : Nat) : State × Option Nat :=
  if 2 ^ s.fld .fce 0 Off.fceCtxCtabLog2 0 5 ctx ≤ coll then (s, none)
  else
    let plan := (s.plan slot).plan
    match s.memRead 517 ctx (s.rd64 .fce 0 Off.fceCtxCtabLo ctx / 64 * 64 % 2 ^ 48 + coll * 64) 64 with
    | (s, .error _) => (s, none)
    | (s, .ok bs) =>
      let d := ofBytes bs
      let granted := ((List.range 32).filter fun c => (s.cluster c).granted == some ctx).length
      (s, if clOk d (planN plan) (planSelf plan) && ((clToDva d && clSync d == 0xFF) || decide (clCluster d < granted)) then some d else none)

/-- Tick of the pound whose instances a context's contributions belong to: that of its step. -/
def State.collTick (s : State) (ctx : Nat) : Nat :=
  match (s.ctx ctx).step with
  | some t => t.tick
  | none => s.lkp.now

/-- One message of an instance leaves in barges of at most 1 MiB; the identities to be acknowledged. -/
def State.collSend (s : State) (slot i kind : Nat) (dst phase : Nat) (bytes : List Byte) : State :=
  match s.fce.insts[i]? with
  | none => s
  | some x =>
    let parts := if bytes.isEmpty then [[]] else chunks 1048576 bytes
    let (qs, s) := parts.foldl (fun (p : List Nat × State) part =>
      let (q, s) := p.2.sendBarge slot { kind := kind, dst := dst, coll := x.coll, inst := x.inst, phase := phase, step := x.tick, payload := part }
      (p.1 ++ [q], s)) ([], s)
    s.modInst i fun x => { x with sent := x.sent ++ [(dst, phase)], unacked := x.unacked ++ qs.map fun q => (dst, q) }

/-- Everything an instance can send now leaves, once (R302, R171). -/
def State.collAdvance (s : State) (slot i : Nat) : State :=
  match s.fce.insts[i]? with
  | none => s
  | some x =>
    match x.desc with
    | none => s
    | some dd =>
      let d := dd.toNat
      let self := planSelf (s.plan slot).plan
      let me := self - clFirst d
      let fl := s.flush32 x.ctx
      if x.failed then s
      else if clOp d = 5 then
        if self = clRoot d ∨ !x.sent.isEmpty then s
        else match x.devicePartial fl (s.clLeafClusters x.ctx d) with
        | none => s
        | some (rs, t) => (s.clTally x.ctx t).collSend slot i 1 (clRoot d) 0 (rs.flatMap fun r => r.bytes false)
      else
        let due := (x.sends fl d me).filter fun m => !x.sent.contains (clFirst d + m.1, m.2.1)
        let s := if due.isEmpty then s else s.clTally x.ctx (x.upTally fl d me)
        due.foldl (fun s m => s.collSend slot i 0 (clFirst d + m.1) m.2.1 m.2.2) s

/-! ### fcq (R301) -/

/-- `fcq` with the contribution record at s[rs] (R301): a release at DEVICE scope, then the source is read. -/
def State.fcqOp (s : State) (core : Nat) (rs : BitVec 5) : State :=
  if !s.scalarRuns core then s else
  match s.coreCtx core with
  | none => s
  | some ctx =>
    if s.waitsVec core [rs] ∨ s.isResetting ⟨.fce, 0⟩ then s.stall core .queue
    else match s.readDesc core (s.sreg core rs) 16 16 with
    | none => (s.badColl ctx core).retire core
    | some raw =>
      let coll := descFld raw 0 0 16
      let dva := descFld raw 0 16 1 == 1
      let src := if dva then descAddr raw 1 else descFld raw 1 0 21
      let badBits := descFld raw 0 17 15 != 0 || descFld raw 3 0 32 != 0 || descFld raw 2 16 16 != 0 || (!dva && (descFld raw 1 21 11 != 0 || descFld raw 2 0 16 != 0))
      match s.slotOf ctx with
      | none => (s.badColl ctx core).retire core
      | some slot =>
        let k := Tbl.get (s.ctx ctx).insts coll 0
        let self := planSelf (s.plan slot).plan
        if badBits ∨ 256 ≤ k then (s.badColl ctx core).retire core
        else if !(s.core core).relReady 1 then s.stall core .fence
        else
          let s := s.relDone core 1
          match s.readColl ctx slot coll with
          | (s, none) => (s.badColl ctx core).retire core
          | (s, some d) =>
            if clOp d = 5 ∨ (clOp d = 4 ∧ self ≠ clRoot d) ∨ (!dva && !inWharf src (clBytes d)) then (s.badColl ctx core).retire core
            else
              let (s, r) : State × Except MemErr (List Byte) :=
                if dva then s.memRead 517 ctx src (clBytes d) else (s, .ok (s.wharfRead core src (clBytes d)))
              match r with
              | .error _ => (s.badColl ctx core).retire core
              | .ok bs =>
                let s := s.modCtx ctx fun c => { c with insts := Tbl.put c.insts coll (k + 1) }
                let (i, s) := s.needInst ctx coll k (s.collTick ctx)
                let s := s.modInst i fun x => { x with desc := some (BitVec.ofNat 512 d), own := some bs }
                (s.collAdvance slot i).retire core

/-- FCQ (R301). -/
def execFcq (core : Fin 512) (rs : BitVec 5) (s : State) : Host.Outcome State Fault Refusal := .next (s.fcqOp core rs)

/-- A cluster's leaf of merge collective MCOLL reaches the FCE (R169, R171): it joins the lowest instance without a leaf of the cluster. -/
def State.collLeaf (s : State) (ctx cluster coll : Nat) (recs : List PartialRec) : State :=
  match s.slotOf ctx with
  | none => s.badColl ctx
  | some slot =>
    let tick := s.collTick ctx
    let free (n : Nat) : Bool := match s.findInst ctx coll n tick with
      | none => true
      | some i => match s.fce.insts[i]? with
        | some x => !(x.leaves.any fun l => l.1 == cluster)
        | none => true
    match (List.range 256).find? free with
    | none => s.badColl ctx
    | some n =>
      let (i, s) := s.needInst ctx coll n tick
      let held := (s.fce.insts[i]?.bind fun x => x.desc).map fun d => d.toNat
      let (s, d) := match held with
        | some d => (s, some d)
        | none => s.readColl ctx slot coll
      match d with
      | none => s.badColl ctx
      | some d =>
        if clOp d ≠ 5 then s.badColl ctx
        else
          let fits := recs.length == clRecords d && recs.all fun r => r.o.length == clHdim d
          let s := s.modInst i fun x => { x with desc := some (BitVec.ofNat 512 d), leaves := if fits then x.leaves ++ [(cluster, recs)] else x.leaves }
          s.collAdvance slot i

/-! ### Barges (R289, R302) -/

/-- A collective barge for a context: kept with its instance, whose sends may now proceed. One of a pound that has been judged is dropped. -/
def State.collIn (s : State) (slot k : Nat) (b : Barge) : State :=
  if b.step < s.collTick k then s
  else
    let (i, s) := s.needInst k b.coll b.inst b.step
    let s := s.modInst i fun x => { x with got := x.got ++ [(b.src, b.phase, b.seq, b.payload)] }
    let unread := (s.fce.insts[i]?.bind fun x => x.desc).isNone
    if !unread then s.collAdvance slot i
    else match s.readColl k slot b.coll with
    | (s, some d) => if clOp d = 4 then (s.modInst i fun x => { x with desc := some (BitVec.ofNat 512 d) }).collAdvance slot i else s
    | (s, none) => s

/-- DATA (R302). -/
def State.dataBarge (s : State) (link : Fin 18) (hdr : BitVec 256) (payload : List Byte) : State :=
  if s.fceHolds link then s.hold (.dataBarge link hdr payload)
    else s.dataIn 0 link ⟨hdr, payload⟩ fun s i k => s.collIn i k ⟨hdr, payload⟩

/-- DATA_BARGE. -/
def execDataBarge (link : Fin 18) (hdr : BitVec 256) (payload : List Byte) (s : State) : Host.Outcome State Fault Refusal := .next (s.dataBarge link hdr payload)

/-- MERGE (R171). -/
def State.mergeBarge (s : State) (link : Fin 18) (hdr : BitVec 256) (payload : List Byte) : State :=
  if s.fceHolds link then s.hold (.mergeBarge link hdr payload)
    else s.dataIn 1 link ⟨hdr, payload⟩ fun s i k => s.collIn i k ⟨hdr, payload⟩

/-- MERGE_BARGE. -/
def execMergeBarge (link : Fin 18) (hdr : BitVec 256) (payload : List Byte) (s : State) : Host.Outcome State Fault Refusal := .next (s.mergeBarge link hdr payload)

/-! ### Completion (R302, R303) -/

/-- The output is written where the descriptor says, then the counter is incremented (R243, R247, R303); a fault of the write is BAD_COLL. -/
def State.collWrite (s : State) (ctx d : Nat) (out : List Byte) : State :=
  let granted := (List.range 32).filter fun c => (s.cluster c).granted == some ctx
  let cl := granted.getD (clCluster d) 0
  let (s, ok) := if clToDva d then
      match s.memWrite 517 ctx (clDaddr d) out with
      | (s, .ok _) => (s, true)
      | (s, .error _) => (s.badColl ctx, false)
    else (s.wharfWrite (16 * cl + clLane d) (clDoff d) out, true)
  if !ok ∨ clSync d = 0xFF then s
  else s.syncInc cl (clSync d) 1 { agentMark with delivery := if clToDva d then none else some (clLane d) }

/-- The instance's work is done: it counts as complete once its barges are acknowledged (R302, R311). -/
def State.collDone (s : State) (i : Nat) : State :=
  match s.fce.insts[i]? with
  | none => s
  | some x => (s.modInst i fun x => { x with written := true }).count .fce 0 Off.fceCtxColls (if x.unacked.isEmpty then 1 else 0) x.ctx

/-- Output bytes of a merged root (R159, R171). -/
def clMergeBytes (fl : Bool) (d : Nat) (rs : List PartialRec) (t : Tally) : List Byte × Tally :=
  if clNorm d then let (bs, t, _) := normBytes fl (clOfmt d) (0, 0, 0, 0) rs t; (bs, t)
  else let (rs, t) := recsInFormat (clBf d) rs t; (rs.flatMap fun r => r.bytes (clBf d), t)

/-- COLLECTIVE_COMPLETE (R302, R303): instance `idx` of the list writes its output, if everything for it is there. -/
def State.collComplete (s : State) (i : Nat) : State :=
  match s.fce.insts[i]? with
  | none => s
  | some x =>
    match x.desc, s.slotOf x.ctx with
    | some dd, some slot =>
      let d := dd.toNat
      let self := planSelf (s.plan slot).plan
      let me := self - clFirst d
      let fl := s.flush32 x.ctx
      if x.failed ∨ x.written ∨ !s.diesOn ∨ x.tick ≠ s.collTick x.ctx then s
      else if clOp d = 5 then
        if self ≠ clRoot d then (if x.sent.isEmpty then s else s.collDone i)
        else match (x.devicePartial fl (s.clLeafClusters x.ctx d)).bind fun p => x.mergedRoot fl d me p.1 p.2 with
        | none => s
        | some (rs, t) =>
          let (out, t) := clMergeBytes fl d rs t
          ((s.clTally x.ctx t).collWrite x.ctx d out).collDone i
      else match x.output fl d me with
      | none => s
      | some (out, t) => ((s.clTally x.ctx t).collWrite x.ctx d out).collDone i
    | _, _ => s

/-- COLLECTIVE_COMPLETE (R302). -/
def execCollectiveComplete (idx : Nat) (s : State) : Host.Outcome State Fault Refusal := .next (s.collComplete idx)

/-! ### The checks at tG and tF (R305) -/

/-- Members an instance still lacks a barge from; the member itself where no contribution has told it which. -/
def CollInst.missing (x : CollInst) (self : Nat) : List Nat :=
  match x.desc with
  | none => [self]
  | some dd =>
    let d := dd.toNat
    ((clAwaits d (self - clFirst d)).filter fun m => (x.msg d m).isNone).map fun m => clFirst d + m.peer

/-- The instance is incomplete: started, and not complete (R302, R305). -/
def CollInst.incomplete (x : CollInst) : Bool := !x.failed && !(x.written && x.unacked.isEmpty)

end Sys2Proof.Machine
end

