-- ==== Sys2Proof/Machine/Security.lean ====
section
/-! DEFINITION. The security engine and the debug block (R333 to R361): context states, SPDM sessions, keys and tags, attestation, debug-state requests and the TAP. -/

namespace Sys2Proof.Machine

/-! ### Drops, tags and the open-mark (R340 to R342) -/

/-- One more of the events of R342; beyond the limit within one pound DROP_STORM is raised once for it. -/
def State.ctxDrop (s : State) (k : Nat) : State :=
  let s := s.count .vsec k Off.secCtxDrops
  let c := s.ctx k
  if c.stormRaised ∨ (s.rd .vsec k Off.secCtxDrops).toNat - c.dropsAtEdge ≤ s.fld .vsec k Off.secCtxDropLimit 0 16 then s
  else (s.modCtx k fun c => { c with stormRaised := true }).raiseCtx .sec 0 0x13 0 k

/-- The 16-byte tag over authenticated bytes under a 32-byte key: AES-256-GCM with no plaintext, IV the first 12 bytes of SHA-256 of the bytes (R341). -/
def tagOf (key : BitVec 256) (a : List Byte) : List Byte := gcmTag (toBytesBE 32 key.toNat) ((sha256 a).take 12) a []

/-- A frame's tag verifies under the active k_req, or under the previous one while its second has not passed, which is a free outcome (R340). -/
def State.frameTag (s : State) (k : Nat) (a tag : List Byte) : State × Bool :=
  let c := s.ctx k
  match c.active with
  | none => (s, false)
  | some ks =>
    if tagOf ks.kreq a = tag then (s, true)
    else match c.prevReq with
      | none => (s, false)
      | some p =>
        if tagOf p a = tag then
          let (n, s) := s.draw
          if Config.freeBit n then (s, true) else (s.modCtx k fun c => { c with prevReq := none }, false)
        else (s, false)

/-- A manifest's tag verifies under the active k_man (R47, R340). -/
def State.manifestTag (s : State) (k : Nat) (a tag : List Byte) : Bool :=
  match (s.ctx k).active with
  | none => false
  | some ks => tagOf ks.kman a == tag

/-- An OPEN's REQ_ID against the open-mark (R342): it becomes the mark, or the frame is a REPLAY. -/
def State.openMark (s : State) (k : Nat) (req : BitVec 64) : State × Bool :=
  if (s.ctx k).openMark.toNat < req.toNat then (s.modCtx k fun c => { c with openMark := req }, true)
  else ((s.raiseCtx .sec 0 0x12 0 k).ctxDrop k, false)

/-! ### ACTIVATE and DEACTIVATE (R333) -/

/-- Context named by `SEC_CTX_SEL` (R356). -/
def State.secSel (s : State) : Nat := s.fld .sec 0 Off.secCtxSel 0 8

/-- The debug state is FIELD or is about to become it (R352). -/
def State.inField (s : State) : Bool := s.dbg.st == 2 || s.dbg.pend == some 2

/-- ACTIVATE: accepted for an INACTIVE context outside FIELD while keys can be drawn; refused as BAD_VALUE before READY (R333, R341, R352, R406). -/
def execActivate (src : Source) (v : Word) (s : State) : Host.Outcome State Fault Refusal :=
  .next (
    if !s.reachesBlock src ∨ bitAt v.toNat 0 = false then s
    else if !s.rst.ready then s.raisePage .sec 0 0x03 0
    else
      let k := s.secSel
      if (s.ctx k).st = .inactive ∧ !s.inField ∧ s.sec.rngOk then
        let s := s.modCtx k fun c => { c with st := .activating }
        { s with staged := s.staged ++ [.activate k] }
      else s.raisePage .sec 0 0x14 0)

/-- The context's step spills (R66). -/
def State.spilling (s : State) (k : Nat) : Bool :=
  match (s.ctx k).step with
  | some t => t.spilled
  | none => false

/-- DEACTIVATE: accepted for an ACTIVE tenant whose ring mode in effect is OFF, with no grant and no spilling step, outside a stop (R333, R370). -/
def execDeactivate (src : Source) (v : Word) (s : State) : Host.Outcome State Fault Refusal :=
  .next (
    if !s.reachesBlock src ∨ bitAt v.toNat 1 = false then s
    else
      let k := s.secSel
      if (s.ctx k).st = .active ∧ k ≠ 0 ∧ s.fld .vlkp k Off.lkpCtxRingCfg 4 2 = 0 ∧ s.grantOf k = 0 ∧ !s.spilling k ∧ !s.isStopped then
        let s := s.modCtx k fun c => { c with st := .deactivating }
        { s with staged := s.staged ++ [.deactivate k] }
      else s.raisePage .sec 0 0x14 0)

/-! ### Translation invalidation (R213) -/

/-- A write of `MEM_XLAT_INV` in M-die 0's page is taken for step 3. -/
def State.xlatInv (s : State) (src : Source) (k : Option Nat) : State :=
  if s.reachesBlock src ∧ s.powered ⟨.mem, 0⟩ then { s with staged := s.staged ++ [.xlatInv k] } else s

/-- XLAT_CTX with XLAT_ALL = 0: one context (R213). -/
def execMemXlatInv (src : Source) (v : Word) (s : State) : Host.Outcome State Fault Refusal :=
  .next (if bitAt v.toNat 8 then s else s.xlatInv src (some (bitsAt v.toNat 0 8)))

/-- XLAT_ALL = 1: every context (R213). -/
def execMemXlatInvAll (src : Source) (v : Word) (s : State) : Host.Outcome State Fault Refusal :=
  .next (if bitAt v.toNat 8 then s.xlatInv src none else s)

/-! ### PSK, MACsec keys, fuse commits (R339, R343, R345) -/

/-- A word of a context's PSK: written through the function's own view, or for context 0 by the physical function; refused while a session exists (R30, R339, R343). -/
def execPskWrite (src : Source) (ctx : Fin 256) (idx : Fin 8) (v : Word) (s : State) : Host.Outcome State Fault Refusal :=
  .next (
    if !s.reachesView src ctx ∨ (src.fn = none ∧ ctx.val ≠ 0) then s
    else if (s.ctx ctx).sessions.isEmpty then s.modCtx ctx fun c => { c with psk := Tbl.put c.psk idx v }
    else s.accessError ⟨.vsec, ctx⟩ 0x03)

/-- A PSK is installed (R357 PSK_SET). -/
def Ctx.pskSet (c : Ctx) : Bool := c.psk.length == 8

/-- `n` registers of the `SEC` page from an offset as one number, least significant word first. -/
def State.secWords (s : State) (off n : Nat) : Nat := ofBytes (((List.range n).map fun i => toBytes 4 (s.rd .sec 0 (off + 4 * i)).toNat).flatten)

/-- SAK_INSTALL: the key of the SAK registers becomes the port's key for its direction and association number; the registers then read 0 (R288, R343, R356). -/
def execSakInstall (src : Source) (v : Word) (s : State) : Host.Outcome State Fault Refusal :=
  .next (
    if !s.reachesBlock src ∨ bitAt v.toNat 9 = false then s
    else
      let s := s.writeReg src ⟨.sec, 0⟩ Off.secSakCtrl v
      let f := fun lo w => s.fld .sec 0 Off.secSakCtrl lo w
      let key : SakKey := ⟨BitVec.ofNat 256 (s.secWords Off.secSak 8), BitVec.ofNat 96 (s.secWords Off.secSalt 3), s.rd .sec 0 Off.secSsci, f 8 1 == 1⟩
      let s := if f 0 5 < 18 then s.modPort (f 0 5) fun p => { p with saks := Tbl.put p.saks (4 * f 5 1 + f 6 2) (some key) } else s
      (List.range 12).foldl (fun s i => s.wr .sec 0 (Off.secSak + 4 * i) 0) s)

/-- The image of a TYPE that is running (R344, R345). -/
def State.running (s : State) (typ : Nat) : Option Image :=
  if typ = 1 then s.rst.drv else if typ = 2 then s.rst.opt else if typ = 3 then s.rst.sece else none

/-- The fuse SVN of a TYPE rises to `n` (R345). -/
def Fuses.raise (f : Fuses) (typ n : Nat) : Fuses :=
  if typ = 1 then { f with svnDrv := max f.svnDrv n }
  else if typ = 2 then { f with svnOpt := max f.svnOpt n }
  else { f with svnSec := max f.svnSec n }

/-- SEC_FW_COMMIT: the fuse SVN rises to that of the running image, which the write must name; beyond 63 it is refused (R345). -/
def execFwCommit (src : Source) (v : Word) (s : State) : Host.Outcome State Fault Refusal :=
  .next (
    if !s.reachesBlock src then s
    else
      let typ := bitsAt v.toNat 0 8
      let svn := bitsAt v.toNat 8 16
      match s.running typ with
      | some i => if i.svn.toNat = svn ∧ svn ≤ 63 then { s with fuses := s.fuses.raise typ svn } else s.raisePage .sec 0 0x03 0
      | none => s.raisePage .sec 0 0x03 0)

/-! ### SPDM (R338): one request of a transport, one answer -/

/-- Number of a transport's connection: the context of the DOE, 256 for MCTP. -/
def viaNo : Transport → Nat
  | .doe k => k.val
  | .mctp => 256

/-- The transport accepts a context (R338). -/
def viaAccepts (t : Transport) (k : Nat) : Bool :=
  match t with
  | .doe j => j.val == k
  | .mctp => true

/-- SPDM is answered over a transport: Dravner runs, and the DOE's port is up (R395, R404). -/
def State.spdmUp (s : State) (t : Transport) : Bool :=
  !s.rst.inReset && s.rst.drv.isSome && match t with
  | .doe _ => !s.rst.perst
  | .mctp => true

/-- The four header bytes of a response, then its payload (DSP0274; log 60). -/
def State.spdmSay (s : State) (t : Transport) (code p1 p2 : Nat) (payload : List Byte := []) : State :=
  s.emit (.spdm t ([0x13, BitVec.ofNat 8 code, BitVec.ofNat 8 p1, BitVec.ofNat 8 p2] ++ payload))

/-- An ERROR response (R338): 0x01 InvalidRequest, 0x03 Busy, 0x04 UnexpectedRequest, 0x05 Unspecified, 0x06 DecryptError, 0x07 UnsupportedRequest, 0x0A SessionLimitExceeded, 0xFF vendor-defined (log 60). -/
def State.spdmError (s : State) (t : Transport) (code : Nat) (p2 : Nat := 0) : State := s.spdmSay t 0x7F code p2

/-- A request is handled: nothing answers while SPDM is down, ERROR Busy during a firmware restart (R376). -/
def State.spdm (s : State) (t : Transport) (f : State → State) : State :=
  if !s.spdmUp t then s else if s.hwd.restarting then s.spdmError t 0x03 else f s

/-- State of a transport's connection. -/
def State.conn (s : State) (t : Transport) : Spdm := Tbl.get s.sec.spdm (viaNo t) {}

/-- State of a transport's connection changed. -/
def State.setConn (s : State) (t : Transport) (c : Spdm) : State := { s with sec := { s.sec with spdm := Tbl.put s.sec.spdm (viaNo t) c } }

/-- GET_VERSION starts the connection anew at version 1.3 (R338). -/
def execGetVersion (t : Transport) (s : State) : Host.Outcome State Fault Refusal :=
  .next (s.spdm t fun s => (s.setConn t { version := some 0x13 }).spdmSay t 0x04 0 0 [0, 1, 0, 0x13])

/-- Capability flags of the profile (R338, DSP0274): ENCRYPT_CAP, MAC_CAP, PSK_CAP responder with context, KEY_UPD_CAP, HBEAT_CAP. -/
def capFlags : Nat := 2 ^ 6 + 2 ^ 7 + 2 * 2 ^ 10 + 2 ^ 13 + 2 ^ 14

/-- GET_CAPABILITIES is answered with the profile's capabilities (R338). -/
def execGetCapabilities (t : Transport) (s : State) : Host.Outcome State Fault Refusal :=
  .next (s.spdm t fun s =>
    let c := s.conn t
    if c.version.isNone then s.spdmError t 0x04
    else (s.setConn t { c with caps := true }).spdmSay t 0x61 0 0 (toBytes 4 capFlags))

/-- NEGOTIATE_ALGORITHMS fixes SHA-256, AES-256-GCM and the SPDM key schedule (R338). -/
def execNegotiateAlgorithms (t : Transport) (s : State) : Host.Outcome State Fault Refusal :=
  .next (s.spdm t fun s =>
    let c := s.conn t
    if !c.caps then s.spdmError t 0x04 else (s.setConn t { c with algs := true }).spdmSay t 0x63 0 0)

/-- Request codes the profile supports (R338, DSP0274). -/
def spdmSupported : List Nat := [0x84, 0xE1, 0xE3, 0xE6, 0xE7, 0xE8, 0xE9, 0xEC, 0xFE]

/-- A request outside the profile draws ERROR UnsupportedRequest (R338). -/
def execSpdmUnsupported (t : Transport) (code : Byte) (s : State) : Host.Outcome State Fault Refusal :=
  .next (s.spdm t fun s => if spdmSupported.contains code.toNat then s else s.spdmError t 0x07 code.toNat)

/-- Open sessions of the device (R338). -/
def State.sessionsOpen (s : State) : Nat := s.ctxs.foldl (fun a c => a + c.2.sessions.length) 0

/-- The session of an ID among the contexts a transport accepts. -/
def State.sessionOf (s : State) (t : Transport) (sid : Word) : Option (Nat × Session) :=
  s.ctxs.findSome? fun c => if viaAccepts t c.1 then (c.2.sessions.find? fun x => x.sid == sid).map fun x => (c.1, x) else none

/-- A session ID is in use. -/
def State.sidUsed (s : State) (sid : Word) : Bool := s.ctxs.any fun c => c.2.sessions.any fun x => x.sid == sid

/-- A session ID from the requester's half and a free half of the responder, not in use (R338, DSP0274). -/
def State.newSid (s : State) (req : BitVec 16) : Word × State :=
  let (n, s) := s.draw
  let mk := fun i => BitVec.ofNat 32 (req.toNat + ((Config.freeNat n + i) % 2 ^ 16) * 2 ^ 16)
  (mk (((List.range 65).find? fun i => !s.sidUsed (mk i)).getD 0), s)

/-- PSK_EXCHANGE opens a session of the context the hint names (R338, R339, R341). -/
def execPskExchange (t : Transport) (req : PskExchange) (s : State) : Host.Outcome State Fault Refusal :=
  .next (s.spdm t fun s =>
    let k := (req.hint.getD 0 0).toNat
    let c := s.ctx k
    if !(s.conn t).algs then s.spdmError t 0x04
    else if req.summary ≠ 0 then s.spdmError t 0x07 0xE6
    else if req.hint.length ≠ 1 ∨ !viaAccepts t k ∨ c.st ≠ .active ∨ !c.pskSet then s.spdmError t 0x01
    else if 2 ≤ c.sessions.length ∨ 64 ≤ s.sessionsOpen then s.spdmError t 0x0A
    else if !s.sec.rngOk then s.spdmError t 0x05
    else
      let (sid, s) := s.newSid req.reqSid
      let s := s.modCtx k fun c => { c with sessions := c.sessions ++ [{ sid := sid, hbeat := req.hbeat }] }
      s.spdmSay t 0x66 0 0 (toBytes 2 (sid.toNat / 2 ^ 16)))

/-- A session has ended: the key set follows R340. -/
def Ctx.endSession (c : Ctx) (sid : Word) : Ctx :=
  let rest := c.sessions.filter fun x => x.sid != sid
  let c := { c with sessions := rest }
  let none_ := { c with active := none, prevReq := none, keySwitch := none }
  if rest.isEmpty then none_
  else match c.active with
    | none => if c.keySwitch = some sid then { c with keySwitch := none } else c
    | some a =>
      if rest.any fun x => x.sid == a.sid then (if c.keySwitch = some sid then { c with keySwitch := none } else c)
      else match rest.find? fun x => x.finished with
        | some x => { c with keySwitch := some x.sid }
        | none => none_

/-- The active keys of a session, derived from its export master secret (R340). -/
def appKeys (ems : BitVec 256) (k : Nat) : List (BitVec 256) :=
  ["gz manifest", "gz frame req", "gz frame rsp"].map fun l =>
    BitVec.ofNat 256 (ofBytesBE (hkdfExpand (toBytesBE 32 ems.toNat) ((l.toList.map fun ch => BitVec.ofNat 8 ch.toNat) ++ [BitVec.ofNat 8 k]) 32))

/-- PSK_FINISH: the session's application keys are derived and become active at step 3 of the next edge; wrong verify data raises PSK_FAIL and ends the session (R338, R340). The export master secret is the handshake's (free). -/
def execPskFinish (t : Transport) (sid : Word) (macOk : Bool) (s : State) : Host.Outcome State Fault Refusal :=
  .next (s.spdm t fun s =>
    match s.sessionOf t sid with
    | none => s.spdmError t 0x01
    | some (k, x) =>
      if x.finished then s.spdmError t 0x04
      else if !macOk then ((s.modCtx k fun c => c.endSession sid).raiseCtx .sec 0 0x11 0 k).spdmError t 0x06
      else
        let (n, s) := s.draw
        let ks := appKeys (Config.free256 n) k
        let y : Session := { x with finished := true, order := s.sec.finishes, kman := ks.getD 0 0, kreq := ks.getD 1 0, krsp := ks.getD 2 0 }
        let s := s.modCtx k fun c => { c with sessions := c.sessions.map (fun z => if z.sid = sid then y else z), keySwitch := some sid }
        ({ s with sec := { s.sec with finishes := s.sec.finishes + 1 } } : State).spdmSay t 0x67 0 0)

/-- END_SESSION ends a session, with the key-set changes of R340. -/
def execEndSession (t : Transport) (sid : Word) (s : State) : Host.Outcome State Fault Refusal :=
  .next (s.spdm t fun s =>
    match s.sessionOf t sid with
    | none => s.spdmError t 0x01
    | some (k, _) => (s.modCtx k fun c => c.endSession sid).spdmSay t 0x6C 0 0)

/-- KEY_UPDATE within a finished session (R338). -/
def execKeyUpdate (t : Transport) (sid : Word) (s : State) : Host.Outcome State Fault Refusal :=
  .next (s.spdm t fun s =>
    match s.sessionOf t sid with
    | none => s.spdmError t 0x01
    | some (k, x) =>
      if !x.finished then s.spdmError t 0x04
      else (s.modCtx k fun c => { c with sessions := c.sessions.map fun z => if z.sid = sid then { z with updates := z.updates + 1 } else z }).spdmSay t 0x69 0 0)

/-- HEARTBEAT within a finished session that uses HBEAT_CAP (R338). -/
def execHeartbeat (t : Transport) (sid : Word) (s : State) : Host.Outcome State Fault Refusal :=
  .next (s.spdm t fun s =>
    match s.sessionOf t sid with
    | none => s.spdmError t 0x01
    | some (_, x) => if x.finished && x.hbeat then s.spdmSay t 0x68 0 0 else s.spdmError t 0x04)

/-- A session under HBEAT_CAP that heard nothing for its period ends (R338, R340). -/
def execHeartbeatTimeout (ctx : Fin 256) (sid : Word) (s : State) : Host.Outcome State Fault Refusal :=
  .next (
    if s.rst.inReset then s
    else if (s.ctx ctx).sessions.any fun x => x.sid == sid && x.hbeat then s.modCtx ctx fun c => c.endSession sid else s)

/-- IDE_KM inside a finished session of context 0 starts the keys of a PCIe IDE stream (R343). -/
def execIdeKm (t : Transport) (sid : Word) (stream : IdeStream) (s : State) : Host.Outcome State Fault Refusal :=
  .next (s.spdm t fun s =>
    match s.sessionOf t sid with
    | some (0, x) =>
      if !x.finished then s.spdmError t 0x04
      else
        let s := match stream with
          | .link => { s with sec := { s.sec with ideLink := true } }
          | .selective n => { s with sec := { s.sec with ideSel := if s.sec.ideSel.contains n.val then s.sec.ideSel else s.sec.ideSel ++ [n.val] } }
        s.spdmSay t 0x7E 0 0
    | _ => s.spdmError t 0x01)

/-! ### Attestation (R346 to R349) -/

/-- RESERVE: the newest record of the reserve log (R347). -/
def State.attReserve (s : State) : Nat := s.flash.attLog.getLastD 0

/-- Context an evidence request speaks for: of its session, or 0 over the towpath without one (R349). -/
def State.evidenceCtx (s : State) (t : Transport) (sid : Option Word) : Option Nat :=
  match sid, t with
  | some x, _ => (s.sessionOf t x).bind fun p => if p.2.finished then some p.1 else none
  | none, .mctp => some 0
  | none, .doe _ => none

/-- Hash of a running image, zero when there is none. -/
def imageHash (i : Option Image) : List Byte := toBytes 32 ((i.map Image.hash).getD 0).toNat

/-- The 256-byte evidence record (R349). -/
def State.evidence (s : State) (k q : Nat) (nonce : BitVec 256) : List Byte :=
  fit 256 0 (
    toBytes 4 (packFields [(0, 8, 1), (8, 2, s.dbg.st.toNat), (10, 2, s.pwr.st.toNat), (12, 1, b2n s.fuses.lab), (13, 1, b2n s.rst.fallback)])
    ++ toBytes 8 s.fuses.serial.toNat ++ toBytes 32 nonce.toNat ++ toBytes 8 (s.lkp.now % 2 ^ 48) ++ toBytes 4 s.bkp.resets
    ++ toBytes 4 (packFields [(0, 8, k), (8, 2, (s.ctx k).st.code)]) ++ toBytes 4 q
    ++ toBytes 32 Config.bootRom.toNat ++ imageHash s.rst.drv ++ imageHash s.rst.opt
    ++ toBytes 4 (packFields [(0, 16, s.fuses.svnDrv), (16, 16, s.fuses.svnOpt)])
    ++ toBytes 4 ((s.rst.drv.map Image.version).getD 0).toNat)

/-- The next index is taken: a reserve record first when the index reaches RESERVE, then NEXT (R347). -/
def State.takeIndex (s : State) : State :=
  let q := s.bkp.attNext
  let s := if s.attReserve < q + 1 then { s with flash := { s.flash with attLog := s.flash.attLog ++ [s.attReserve + 1024] } } else s
  { s with bkp := { s.bkp with attNext := q + 1 } }

/-- EVIDENCE_REQUEST: EXHAUSTED once the indices are used up; BUSY beyond the rate; else an index is taken and the record goes to the signer (R347 to R349). Once the rate is reached, whether the second has passed is a free outcome. -/
def execEvidenceRequest (t : Transport) (sid : Option Word) (nonce : BitVec 256) (s : State) : Host.Outcome State Fault Refusal :=
  .next (s.spdm t fun s =>
    match s.evidenceCtx t sid with
    | none => s.spdmError t 0x01
    | some k =>
      if !s.sec.rngOk then s.spdmError t 0x05
      else if 2 ^ 30 ≤ s.bkp.attNext then (s.raisePage .sec 0 0x18 0).spdmError t 0xFF 1
      else
        let full := s.fld .sec 0 Off.secAttRate 0 4 ≤ s.sec.attSecond
        let (n, s) := if full then s.draw else (0, s)
        if full ∧ Config.freeBit n then (s.raisePage .sec 0 0x19 0).spdmError t 0x03
        else
          let q := s.bkp.attNext
          let s := s.takeIndex
          { s with sec := { s.sec with
            attSecond := if full then 1 else s.sec.attSecond + 1,
            signing := s.sec.signing ++ [⟨t, q, s.evidence k q nonce⟩] } })

/-- SIGNATURE_RELEASED: the oldest record leaves with its 3,284-byte signature (R346, R347). -/
def execSignatureReleased (s : State) : Host.Outcome State Fault Refusal :=
  .next (
    match s.sec.signing with
    | [] => s
    | x :: rest =>
      let s := { s with sec := { s.sec with signing := rest } }
      let sig := (List.range 3284).map (Config.signatureByte x.index (ofBytes x.record))
      (s.count .sec 0 Off.secAttSigs).emit (.evidence x.via (x.record ++ sig)))

/-- PUBLIC_KEY_REQUEST returns the HSS public key and its endorsement; no index is used (R349). -/
def execPublicKeyRequest (t : Transport) (sid : Option Word) (s : State) : Host.Outcome State Fault Refusal :=
  .next (s.spdm t fun s =>
    match s.evidenceCtx t sid with
    | none => s.spdmError t 0x01
    | some _ => s.emit (.evidence t (fit 60 0 s.flash.hssPub ++ fit 1612 0 s.flash.endorse)))

/-! ### Debug-state requests (R350 to R352) -/

/-- A transition of R350 is allowed at all: to LAB and out of FIELD only on a lab-fused part. -/
def dbgAllowed (lab : Bool) (cur tgt : BitVec 2) : Bool := if tgt = 3 ∨ cur = 2 then lab else true

/-- The context is stopped: STOP or HELD of `LKP_CTX_CTRL` in effect (R70). -/
def State.ctxStopped (s : State) (k : Nat) : Bool := s.fld .vlkp k Off.lkpCtxCtrl 0 1 == 1 || s.fld .vlkp k Off.lkpCtxCtrl 2 1 == 1

/-- The conditions of R352: every tenant's ring is OFF or it is stopped (R70), and no tenant's step runs or spills. -/
def State.quiet (s : State) : Bool :=
  (List.range 255).all fun i =>
    let k := i + 1
    (s.fld .vlkp k Off.lkpCtxRingCfg 4 2 == 0 || s.ctxStopped k)
      && (s.ctx k).stepCode != 1 && (s.ctx k).stepCode != 3

/-- A refused request: the reason in `DBG_RESULT`, TOKEN_BAD for a bad token, and STATE_REFUSED (R350, R351). -/
def State.dbgRefuse (s : State) (result : Nat) : State :=
  let s := s.wr .dbg 0 Off.dbgResult (BitVec.ofNat 32 result)
  let s := if 1 ≤ result ∧ result ≤ 6 then s.raisePage .dbg 0 0x10 0 else s
  s.raisePage .dbg 0 0x11 0

/-- An accepted change waits for step 3 (R350). -/
def State.dbgAccept (s : State) (tgt : BitVec 2) : State :=
  let s := s.wr .dbg 0 Off.dbgResult 0
  { s with dbg := { s.dbg with pend := some tgt }, staged := s.staged ++ [.debug tgt] }

/-- A fresh `DBG_NONCE` (R351). -/
def State.newNonce (s : State) : State :=
  let (n, s) := s.draw
  { s with dbg := { s.dbg with nonce := Config.free128 n } }

/-- Bytes of a token: the body and its signature (R351). -/
def tokenBytes : Nat := 64 + 1612

/-- DBG_REQ.GO (R350 to R352): TARGET is written first; a FIELD request on a production part reads its token. -/
def execDbgReq (src : Source) (v : Word) (s : State) : Host.Outcome State Fault Refusal :=
  .next (
    if !s.reachesBlock src then s
    else if !s.rst.ready then s.raisePage .dbg 0 0x03 0
    else
      let s := s.writeReg src ⟨.dbg, 0⟩ Off.dbgReq v
      let tgt := BitVec.ofNat 2 (s.fld .dbg 0 Off.dbgReq 0 2)
      if bitAt v.toNat 8 = false then s
      else if s.isStopped then s.dbgRefuse 0x09
      else if tgt = s.dbg.st then s.wr .dbg 0 Off.dbgResult 0
      else if !dbgAllowed s.fuses.lab (s.dbg.pend.getD s.dbg.st) tgt then s.dbgRefuse 0x08
      else if tgt ≠ 2 then s.dbgAccept tgt
      else if !s.quiet then s.dbgRefuse 0x07
      else if s.fuses.lab then s.dbgAccept tgt
      else if s.dbg.token.isSome then s
      else match s.memRead 517 0 (s.rd64 .dbg 0 Off.dbgTokenAddrLo) tokenBytes with
        | (s, .error _) => s.newNonce.dbgRefuse 0x06
        | (s, .ok bs) => { s with dbg := { s.dbg with token := some bs } })

/-- What is wrong with a token, in the order of R351; 0 = nothing. -/
def State.tokenCheck (s : State) (b : List Byte) : Nat :=
  let w := fun i => ofBytes ((b.drop (4 * i)).take 4)
  let idx := bitsAt (w 0) 8 4
  let pub := toBytesBE 56 (Config.debugKey idx).toNat
  if w 0 ≠ 1 + 2 * 2 ^ 4 + idx * 2 ^ 8 ∨ 1 < idx ∨ (List.range 9).any (fun i => w (7 + i) != 0) then 0x01
  else if w 1 + w 2 * 2 ^ 32 ≠ s.fuses.serial.toNat then 0x02
  else if ofBytes ((b.drop 12).take 16) ≠ s.dbg.nonce.toNat then 0x03
  else if sha256 pub ≠ toBytes 32 s.fuses.dbgHash.toNat ∨ Config.debugRevoked idx then 0x04
  else if !lmsVerify pub (b.drop 64) (b.take 64) then 0x05
  else 0

/-- TOKEN_VERIFY_DONE: the nonce is redrawn, and the change is accepted when the token verifies and the conditions still hold (R351, R352). -/
def execTokenVerifyDone (s : State) : Host.Outcome State Fault Refusal :=
  .next (
    match s.dbg.token with
    | none => s
    | some b =>
      let r := s.tokenCheck b
      let s := ({ s with dbg := { s.dbg with token := none } } : State).newNonce
      if r ≠ 0 then s.dbgRefuse r else if !s.quiet then s.dbgRefuse 0x07 else s.dbgAccept 2)

/-! ### The TAP and the random bit generator (R341, R353) -/

/-- Number of a TAP instruction in `Dbg.tap`. -/
def tapNo : TapInstr → Nat
  | .bypass => 0
  | .idcode => 1
  | .usercode => 2
  | .sample => 3
  | .extest => 4
  | .intest => 5
  | .preload => 6
  | .clamp => 7
  | .highz => 8
  | .scan => 9
  | .mbist => 10
  | .trace => 11

/-- The TAP offers an instruction (R353): boundary scan always, EXTEST, CLAMP and HIGHZ only under RESET_N, read-only vendor instructions from FIELD on, invasive ones in LAB. -/
def State.tapOffers (s : State) : TapInstr → Bool
  | .bypass | .idcode | .sample | .preload => true
  | .extest | .clamp | .highz => s.rst.resetN
  | .usercode | .trace => decide (2 ≤ s.dbg.st.toNat)
  | .intest | .scan | .mbist => s.dbg.st == 3

/-- JTAG_INSTRUCTION: an instruction that is not offered loads BYPASS and raises JTAG_REFUSED (R353). -/
def execJtagInstruction (name : TapInstr) (s : State) : Host.Outcome State Fault Refusal :=
  .next (
    if s.tapOffers name then { s with dbg := { s.dbg with tap := tapNo name } }
    else ({ s with dbg := { s.dbg with tap := 0 } } : State).raisePage .dbg 0 0x13 0)

/-- RNG_FAIL: a DEVICE error; no key, session, berth generator or evidence is created from here on (R341). -/
def execRngFail (s : State) : Host.Outcome State Fault Refusal :=
  .next (if s.rst.inReset then s else ({ s with sec := { s.sec with rngOk := false } } : State).raisePage .sec 0 0x10 2)

end Sys2Proof.Machine
end

