-- ==== Sys2Proof/Machine/HostPort.lean ====
section
/-! DEFINITION. The host's windows onto device memory and the PCIe configuration space (R31, R46, R395, R406). -/

namespace Sys2Proof.Machine

/-- The unit number of the host interface in the translation caches (R213). -/
def hostUnit : Nat := 516

/-- The function of a context is reached: virtual function k, or the physical function for context 0 (R31). -/
def State.hostReaches (s : State) (k : Nat) : Bool :=
  !s.rst.inReset && !s.rst.perst && Tbl.get s.pci.bars k false

/-- A window access met a translation fault: APERTURE_FAULT in the `PCI` page of the view (R31, R456). -/
def State.apertureFault (s : State) (k : Nat) : State := s.accessError ⟨.vpci, k⟩ 0x10

/-- A read through a window: the bytes, or zeros after a fault. -/
def State.windowRead (s : State) (k dva n : Nat) : State × List Byte :=
  let (t, r) := s.memRead hostUnit k dva n
  match r with
  | .ok bs => (t, bs)
  | .error .poison => (t, List.replicate n 0)
  | .error _ => (t.apertureFault k, List.replicate n 0)

/-- A write through a window: made, or discarded after a fault. Pieces that translate before the fault are not written: the whole range is judged first (DEDUCED, log 30). -/
def State.windowWrite (s : State) (k dva : Nat) (bs : List Byte) : State :=
  if (s.keyOf k).isSome ∧ !s.mapped k dva bs.length .write then s.apertureFault k
  else
    let (t, r) := s.memWrite hostUnit k dva bs
    match r with
    | .error .xlate | .error .table => t.apertureFault k
    | _ => t

/-- A host access through BAR2: at PCI_CTX_APERTURE_BASE + offset in the function's context (R31). -/
def execApertureAccess (ctx : Fin 256) (off : BitVec 32) (acc : HostAccess) (s : State) : Host.Outcome State Fault Refusal :=
  .next (if !s.hostReaches ctx ∨ !s.diesOn then s
    else
      let dva := s.fld .vpci ctx Off.pciCtxApertureBaseHi 0 16 * 2 ^ 32 + off.toNat
      match acc with
      | .read n =>
        let (t, bs) := s.windowRead ctx dva n
        t.emit (.hostData bs)
      | .write bs => s.windowWrite ctx dva bs)

/-- DVA of slot `i` of a context's manifest ring (R45, R46). -/
def State.slotDva (s : State) (k i : Nat) : Nat := s.rd64 .vlkp k Off.lkpCtxRingBaseLo + 64 * i

/-- Slots of a context's ring in effect (R45). -/
def State.ringSlots (s : State) (k : Nat) : Nat := 2 ^ s.fld .vlkp k Off.lkpCtxRingCfg 0 4

/-- Manifest mode in effect: 0 OFF, 1 HOST-MANIFEST, 2 SELF-MANIFEST (R45). -/
def State.ringMode (s : State) (k : Nat) : Nat := s.fld .vlkp k Off.lkpCtxRingCfg 4 2

/-- A host access to the manifest ring window: writes in SELF-MANIFEST mode and writes to words 12 to 15 are discarded and reported (R46). -/
def execRingWindowAccess (ctx : Fin 256) (off : BitVec 18) (acc : Access) (s : State) : Host.Outcome State Fault Refusal :=
  .next (
    let a := off.toNat
    if ctx = 0 ∨ !s.hostReaches ctx ∨ !s.diesOn ∨ a % 4 ≠ 0 ∨ 64 * s.ringSlots ctx ≤ a then s
    else
      let dva := s.rd64 .vlkp ctx Off.lkpCtxRingBaseLo + a
      match acc with
      | .read =>
        let (t, bs) := s.windowRead ctx dva 4
        ({ t with reply := BitVec.ofNat 32 (ofBytes bs) } : State).emit (.hostData bs)
      | .write v =>
        let self := s.ringMode ctx == 2
        let lk := decide (12 ≤ a / 4 % 16)
        let s := if self then s.accessError ⟨.vlkp, ctx⟩ 0x55 else s
        let s := if lk then s.accessError ⟨.vlkp, ctx⟩ 0x59 else s
        if self || lk then s else s.windowWrite ctx dva (toBytes 4 v.toNat))

/-- A PCIe configuration request: Request Retry Status until FUSES ends, then an answer; a request may assign the function's BARs (R395, R406). Nothing answers while PERST_N is low. -/
def execConfigRequest (fn : Fin 256) (req : ConfigReq) (s : State) : Host.Outcome State Fault Refusal :=
  .next (if s.rst.perst then s
    else if s.rst.inReset then s.emit (.config fn true)
    else
      let s := match req with
        | .assignBars => { s with pci := { s.pci with bars := Tbl.put s.pci.bars fn.val true } }
        | .other => s
      s.emit (.config fn false))

end Sys2Proof.Machine
end

