-- ==== Sys2Proof/Machine/Rte.lean ====
section
/-! DEFINITION. The routing engine: jobs, weights and choices, dispatch tables, fetches across the flight, serving, landings and removal (R261 to R282). -/

namespace Sys2Proof.Machine

/-! ### The routing job (R265) -/

/-- K: choices per token. -/
def rtK (d : Nat) : Nat := descFld d 0 0 4 + 1
/-- CAP_POLICY: 0 RENORM, 1 DROP, 2 NEXT. -/
def rtPolicy (d : Nat) : Nat := descFld d 0 4 2
/-- SCORE_FN = SIGMOID. -/
def rtSigmoid (d : Nat) : Bool := descFld d 0 6 1 == 1
/-- NORM. -/
def rtNorm (d : Nat) : Bool := descFld d 0 7 1 == 1
/-- SFMT = BF16. -/
def rtBf (d : Nat) : Bool := descFld d 0 8 1 == 1
/-- SKIP_EN. -/
def rtSkipEn (d : Nat) : Bool := descFld d 0 9 1 == 1
/-- EXPERTS. -/
def rtExperts (d : Nat) : Nat := descFld d 1 0 13
/-- LAYER. -/
def rtLayer (d : Nat) : Nat := descFld d 1 16 10
/-- ROWS. -/
def rtRows (d : Nat) : Nat := descFld d 2 0 13
/-- CAP. -/
def rtCap (d : Nat) : Nat := descFld d 2 16 13
/-- MISS_PER_PEER. -/
def rtMiss (d : Nat) : Nat := descFld d 3 0 8
/-- RSYNC. -/
def rtRsync (d : Nat) : Nat := descFld d 3 8 8
/-- FSYNC. -/
def rtFsync (d : Nat) : Nat := descFld d 3 16 8
/-- CMASK. -/
def rtCmask (d : Nat) : Nat := descWord d 4
/-- SCORES. -/
def rtScores (d : Nat) : Nat := descAddr d 5
/-- SKIP. -/
def rtSkip (d : Nat) : Nat := descAddr d 7
/-- DISPATCH. -/
def rtDispatch (d : Nat) : Nat := descAddr d 9
/-- LANDING. -/
def rtLanding (d : Nat) : Nat := descAddr d 11
/-- EXP_BYTES. -/
def rtBytes (d : Nat) : Nat := 64 * descFld d 13 0 24
/-- EXCH. -/
def rtExch (d : Nat) : Nat := descFld d 14 0 16
/-- Bytes of a score. -/
def rtScoreSize (d : Nat) : Nat := if rtBf d then 2 else 4

/-- A reserved bit is set: remaining bits of words 0, 2, 3, 6, 8, 10 and 12 to 15 (R265). -/
def rtReserved (d : Nat) : Bool :=
  descFld d 0 10 22 != 0 || descFld d 2 13 3 != 0 || descFld d 2 29 3 != 0 || descFld d 3 24 8 != 0 || descFld d 6 16 16 != 0 ||
  descFld d 8 16 16 != 0 || descFld d 10 16 16 != 0 || descFld d 12 16 16 != 0 || descFld d 13 24 8 != 0 || descFld d 14 16 16 != 0 ||
  descFld d 15 0 32 != 0

/-- Bytes of a slot of a context's expert cache (R262). -/
def State.rtSlotSize (s : State) (k : Nat) : Nat := 2 ^ s.fld .rte 0 Off.rteCtxCacheCfg 0 5 k
/-- SLOTS of a context. -/
def State.rtSlots (s : State) (k : Nat) : Nat := s.fld .rte 0 Off.rteCtxCacheCfg 8 13 k
/-- Address of slot `j` (R262). -/
def State.rtSlotDva (s : State) (k j : Nat) : Nat := s.rd64 .rte 0 Off.rteCtxCacheLo k % 2 ^ 48 + j * s.rtSlotSize k
/-- Directory stride of a context (R261). -/
def State.rtStride (s : State) (k : Nat) : Nat := s.fld .rte 0 Off.rteCtxLayout 0 13 k
/-- Address of directory entry `i` (R261). -/
def State.rtEntryDva (s : State) (k i : Nat) : Nat := s.rd64 .rte 0 Off.rteCtxDirLo k % 2 ^ 48 / 64 * 64 + 16 * i
/-- Physical clusters of a context's grant, by logical number (R61). -/
def State.grantList (s : State) (k : Nat) : List Nat := (List.range 32).filter fun c => (s.cluster c).granted == some k

/-- The descriptor breaks a rule of R270. -/
def State.rtBad (s : State) (k d : Nat) : Bool :=
  rtReserved d || rtPolicy d == 3 ||
  !decide (rtK d ≤ rtExperts d ∧ 1 ≤ rtExperts d ∧ rtExperts d ≤ s.rtStride k ∧ rtLayer d < s.fld .rte 0 Off.rteCtxLayout 16 11 k ∧
    rtRows d ≤ 4096 ∧ 1 ≤ rtCap d ∧ rtCap d ≤ max (rtRows d) 1 ∧ rtRsync d ≤ 254 ∧ rtFsync d ≤ 254 ∧
    rtDispatch d % 64 = 0 ∧ rtLanding d % 8 = 0 ∧ 1 ≤ rtBytes d ∧ rtBytes d ≤ s.rtSlotSize k ∧
    1 ≤ rtCmask d ∧ rtCmask d < 2 ^ (s.grantList k).length) ||
  (rtPolicy d == 2 && decide (rtExperts d < rtK d + 2))

/-- An error of the routing engine, with RTE_REJECT beside `BLK_FIRST` (R37, R281). -/
def State.rteError (s : State) (cond sev k : Nat) (seq : Word) (core : Nat := 0xFFFF) : State :=
  let s := if s.fld .rte 0 Off.blkFirst 31 1 = 1 then s
    else s.wr .rte 0 Off.rteReject (BitVec.ofNat 32 (packFields [(0, 8, k), (8, 8, cond), (16, 16, seq.toNat)]))
  s.raiseCtx .rte 0 cond sev k core

/-- Entries of the job queue (R264). -/
def rtQueueSize : Nat := 64

/-- `rtq` with the descriptor at s[rs] (R264): a release at DEVICE scope, then the job enters the queue. The jobs of a condemned context are discarded (R366). -/
def State.rtqOp (s : State) (core : Nat) (rs : BitVec 5) : State :=
  if !s.scalarRuns core then s else
  match s.coreCtx core with
  | none => s
  | some k =>
    if s.waitsVec core [rs] ∨ s.isResetting ⟨.rte, 0⟩ then s.stall core .queue
    else if !(s.core core).relReady 1 then s.stall core .fence
    else if rtQueueSize ≤ s.rte.jobs.length ∨ 4 ≤ (s.rte.jobs.filter fun j => j.core == core).length then s.stall core .queue
    else
      let s := s.relDone core 1
      if s.isCondemned k then s.retire core
      else
        let (seq, s) := s.nextSeq .rte 0 Off.rteJobSeq
        match s.readDesc core (s.sreg core rs) 64 64 with
        | none => (s.rteError 0x10 1 k seq core).retire core
        | some d =>
          let s := s.count .rte 0 Off.rteCtxJobs 1 k
          ({ s with rte := { s.rte with jobs := s.rte.jobs ++ [⟨BitVec.ofNat 512 d, seq, core, k⟩] } } : State).retire core

/-- RTQ (R264). -/
def execRtq (core : Fin 512) (rs : BitVec 5) (s : State) : Host.Outcome State Fault Refusal := .next (s.rtqOp core rs)

/-! ### Weights and candidates (R266) -/

/-- Raise an FP32 sum by a word. -/
def sum32 (fl : Bool) (xs : List Nat) : Nat := xs.foldl (fun a x => (add32 fl a x).v) fzero

/-- Weight of every expert whose score is a number, as (expert, FP32 weight), ascending (R266). NaN scores take no part. -/
def rowWeights (fl sigmoid : Bool) (scores : List Nat) : List (Nat × Nat) :=
  let xs := scores.zipIdx.filter fun x => !isNan32 x.1
  if sigmoid then
    xs.map fun x => (x.2, (div32 fl fone (add32 fl fone (expExact fl (x.1 ^^^ 2 ^ 31)).v).v).v)
  else
    let m := xs.foldl (fun a x => max32 a x.1) fninf
    let f := xs.map fun x => (x.2, (factor fl x.1 m).v)
    let d := sum32 fl (f.map (·.2))
    f.map fun x => (x.1, (div32 fl x.2 d).v)

/-- The larger weight first, the lower expert among equals (R266). -/
def candBefore (a b : Nat × Nat) : Bool :=
  (fp32.decode b.2).lt (fp32.decode a.2) || (!(fp32.decode a.2).lt (fp32.decode b.2) && decide (a.1 ≤ b.1))

/-- The candidates of a row in rank order, with their weights after NORM (R266). -/
def rowCandidates (fl : Bool) (d : Nat) (scores : List Nat) : List (Nat × Nat) :=
  let cs := (sortBy candBefore (rowWeights fl (rtSigmoid d) scores)).take (rtK d + 2)
  if rtNorm d then
    let t := sum32 fl ((cs.take (rtK d)).map (·.2))
    cs.map fun c => (c.1, (div32 fl c.2 t).v)
  else cs

/-! ### Selection (R267, R268) -/

/-- A directory entry of R261 as the engine works on it. -/
structure RtEntry where
  st : Nat
  home : Nat
  slot : Nat
  waddr : Nat
  deriving DecidableEq, Repr

/-- A directory entry from its 16 bytes. -/
def rtEntryOf (bs : List Byte) : RtEntry :=
  let d := ofBytes bs
  ⟨bitsAt d 0 2, bitsAt d 16 12, bitsAt d 32 16, bitsAt d 64 48⟩

/-- What a selection has decided so far. -/
structure RtSel where
  /-- the job's layer of the directory, by expert, as changed -/
  dir : Tbl RtEntry
  /-- directory changes in order: index, STATE, SLOT, WADDR -/
  changes : List (Nat × Nat × Nat × Nat) := []
  /-- slot records of the context by slot -/
  slots : Tbl RteSlot
  /-- fetches scheduled, in order -/
  fetches : List RteFetch := []
  /-- choices taken: expert, row, rank, weight -/
  takes : List (Nat × Nat × Nat × Nat) := []
  dropped : Nat := 0
  spilled : Nat := 0
  renormed : Nat := 0
  unavailable : Nat := 0
  hits : Nat := 0
  deriving DecidableEq, Repr

/-- What a selection knows of its surroundings. -/
structure RtEnv where
  d : Nat
  ctx : Nat
  fl : Bool
  now : Nat
  tick : Nat
  /-- SELF and MEMBERS of the flight; none without a flight -/
  flight : Option (Nat × Nat)
  slots : Nat
  slotDva : Nat → Nat
  stride : Nat
  /-- fetches of the step's reservation left (R275) -/
  left : Nat

/-- The fetch of an expert from its home into a slot (R271). -/
def RtEnv.fetch (v : RtEnv) (e home slot : Nat) : RteFetch :=
  { ctx := v.ctx, member := home, layer := rtLayer v.d, expert := e, slot := slot, exch := rtExch v.d, bytes := rtBytes v.d, tick := v.tick, waiters := [] }

/-- The slot a fetch takes: the lowest free one, else the unpinned one used longest ago (R262). -/
def RtSel.victim (x : RtSel) (n : Nat) : Option Nat :=
  let at_ := fun j => Tbl.get x.slots j {}
  match (List.range n).find? fun j => (at_ j).dir.isNone with
  | some j => some j
  | none =>
    (List.range n).foldl (fun b j =>
      let r := at_ j
      if r.landing ∨ r.pinned then b
      else match b with
        | some i => if r.lastUse < (at_ i).lastUse then some j else b
        | none => some j) none

/-- Judge the availability of an expert, scheduling its fetch where that is what makes it available (R267). -/
def RtSel.available (v : RtEnv) (x : RtSel) (e : Nat) : Bool × RtSel :=
  let en := Tbl.get x.dir e ⟨0, 0, 0, 0⟩
  if 1 ≤ en.st then (true, x)
  else match v.flight with
  | none => (false, x)
  | some (self, n) =>
    if en.home = self ∨ n ≤ en.home ∨ rtMiss v.d ≤ (x.fetches.filter fun f => f.member == en.home).length ∨ v.left ≤ x.fetches.length then (false, x)
    else match x.victim v.slots with
    | none => (false, x)
    | some j =>
      let i := rtLayer v.d * v.stride + e
      let old := (Tbl.get x.slots j {}).dir
      let evicted := match old with
        | some o => [(o, 0, 0, 0)]
        | none => []
      let dir := match old with
        | some o => if rtLayer v.d * v.stride ≤ o ∧ o < rtLayer v.d * v.stride + v.stride then
            let q := o - rtLayer v.d * v.stride
            Tbl.put x.dir q { Tbl.get x.dir q ⟨0, 0, 0, 0⟩ with st := 0, slot := 0, waddr := 0 }
          else x.dir
        | none => x.dir
      (true, { x with
        dir := Tbl.put dir e { en with st := 3, slot := j, waddr := v.slotDva j },
        changes := x.changes ++ evicted ++ [(i, 3, j, v.slotDva j)],
        slots := Tbl.put x.slots j { dir := some i, lastUse := v.now, landing := true, pinned := true },
        fetches := x.fetches ++ [v.fetch e en.home j] })

/-- Choices of an expert taken so far. -/
def RtSel.load (x : RtSel) (e : Nat) : Nat := (x.takes.filter fun t => t.1 == e).length

/-- Take a choice: its slot is pinned and used now (R262, R267). -/
def RtSel.take (v : RtEnv) (x : RtSel) (e row rank w : Nat) : RtSel :=
  let en := Tbl.get x.dir e ⟨0, 0, 0, 0⟩
  let x := { x with takes := x.takes ++ [(e, row, rank, w)], hits := x.hits + b2n (en.st ≠ 3) }
  if 2 ≤ en.st ∧ en.slot < v.slots then
    { x with slots := Tbl.put x.slots en.slot { Tbl.get x.slots en.slot {} with pinned := true, lastUse := v.now } }
  else x

/-- The replacement of a choice under NEXT: the first of ranks K and K + 1 not taken by the row, available and below CAP (R267). -/
def RtSel.next (v : RtEnv) (x : RtSel) (row : Nat) : List ((Nat × Nat) × Nat) → RtSel
  | [] => { x with dropped := x.dropped + 1 }
  | ((e, w), rank) :: rest =>
    if x.takes.any fun t => t.1 == e && t.2.1 == row then RtSel.next v x row rest
    else
      let (ok, x) := x.available v e
      if ok ∧ x.load e < rtCap v.d then { x.take v e row rank w with spilled := x.spilled + 1 }
      else RtSel.next v x row rest

/-- One choice of a row (R267). -/
def RtSel.choose (v : RtEnv) (cs : List (Nat × Nat)) (row : Nat) (x : RtSel) (c : (Nat × Nat) × Nat) : RtSel :=
  let (ok, x) := x.available v c.1.1
  if ok ∧ x.load c.1.1 < rtCap v.d then x.take v c.1.1 row c.2 c.1.2
  else
    let x := { x with unavailable := x.unavailable + b2n (!ok) }
    if rtPolicy v.d = 2 then x.next v row (cs.zipIdx.drop (rtK v.d)) else { x with dropped := x.dropped + 1 }

/-- One routed row: its choices in rank order, then the scaling of RENORM (R267, R268). -/
def RtSel.row (v : RtEnv) (x : RtSel) (r : Nat × List (Nat × Nat)) : RtSel :=
  let (row, cs) := r
  let before := x.dropped
  let x := (cs.zipIdx.take (rtK v.d)).foldl (RtSel.choose v cs row) x
  if rtPolicy v.d ≠ 0 ∨ x.dropped = before then x
  else
    let a := sum32 v.fl ((cs.take (rtK v.d)).map (·.2))
    let b := sum32 v.fl ((x.takes.filter fun t => t.2.1 == row).map fun t => t.2.2.2)
    let q := (div32 v.fl a b).v
    { x with
      renormed := x.renormed + 1,
      takes := if b = fzero then x.takes else x.takes.map fun t => if t.2.1 = row then (t.1, t.2.1, t.2.2.1, (mul32 v.fl t.2.2.2 q).v) else t }

/-! ### The dispatch table (R271) -/

/-- Experts with a taken choice, ascending. -/
def RtSel.experts (x : RtSel) (d : Nat) : List Nat := (List.range (rtExperts d)).filter fun e => x.takes.any fun t => t.1 == e

/-- The bytes of the dispatch table. -/
def RtSel.table (x : RtSel) (d routed skipped : Nat) (seq : Word) : List Byte :=
  let es := x.experts d
  let en := fun e => Tbl.get x.dir e ⟨0, 0, 0, 0⟩
  let w := fun (n : Nat) => toBytes 4 n
  let header := [es.length, x.takes.length, (es.filter fun e => (en e).st == 3).length, routed, skipped, x.dropped, x.spilled, seq.toNat].flatMap w
  let entries := es.foldl (fun (p : List Byte × Nat) e =>
    let n := x.load e
    (p.1 ++ w (packFields [(0, 13, e), (13, 1, b2n ((en e).st = 3)), (16, 16, n)]) ++ w p.2 ++ toBytes 8 (en e).waddr ++
      w (if (en e).st = 1 then 0xFFFF else (en e).slot) ++ List.replicate 12 0, p.2 + n)) ([], 0)
  let tokens := es.flatMap fun e => (x.takes.filter fun t => t.1 == e).flatMap fun t =>
    w (packFields [(0, 13, t.2.1), (16, 5, t.2.2.1)]) ++ w t.2.2.2
  header ++ List.replicate 32 0 ++ entries.1 ++ tokens

/-! ### Reading a job's operands -/

/-- The job stops at a failed memory access (R270); a poisoned table entry has been raised by the memory system. -/
def State.rteFault (s : State) (j : RteJob) (e : MemErr) : State := if e = .table then s else s.rteError 0x11 1 j.ctx j.seq j.core

/-- FP32 scores of a row from its bytes. -/
def rtScoresOf (d : Nat) (bs : List Byte) : List Nat :=
  (List.range (rtExperts d)).map fun e =>
    let x := ofBytes ((bs.drop (e * rtScoreSize d)).take (rtScoreSize d))
    if rtBf d then x * 2 ^ 16 else x

/-- Candidates of the routed rows, in row order; a NaN score raises ROUTE_NAN once per row (R266). -/
def State.rtReadRows (s : State) (j : RteJob) (fl : Bool) : List Nat → List (Nat × List (Nat × Nat)) → State × Except MemErr (List (Nat × List (Nat × Nat)))
  | [], acc => (s, .ok acc)
  | r :: rs, acc =>
    let d := j.raw.toNat
    let n := rtExperts d * rtScoreSize d
    match s.memRead 517 j.ctx (rtScores d + r * n) n with
    | (s, .error e) => (s, .error e)
    | (s, .ok bs) =>
      let xs := rtScoresOf d bs
      let s := if xs.any isNan32 then s.rteError 0x15 0 j.ctx j.seq j.core else s
      State.rtReadRows s j fl rs (acc ++ [(r, rowCandidates fl d xs)])

/-- Read a range, or nothing where it is empty. -/
def State.readMaybe (s : State) (k dva n : Nat) : State × Except MemErr (List Byte) :=
  if n = 0 then (s, .ok []) else s.memRead 517 k dva n

/-- Write directory changes: STATE, SLOT and WADDR of each entry, HOME_MEMBER left alone (R261, R263). -/
def State.rtWriteDir (s : State) (k : Nat) : List (Nat × Nat × Nat × Nat) → State × Except MemErr Unit
  | [] => (s, .ok ())
  | c :: cs =>
    match s.memWrite 517 k (s.rtEntryDva k c.1) (toBytes 2 c.2.1) with
    | (s, .error e) => (s, .error e)
    | (s, .ok _) =>
      match s.memWrite 517 k (s.rtEntryDva k c.1 + 4) (toBytes 4 c.2.2.1 ++ toBytes 8 c.2.2.2) with
      | (s, .error e) => (s, .error e)
      | (s, .ok _) => State.rtWriteDir s k cs

/-! ### Exchanges (R273) -/

/-- The armed flight of a context: slot, SELF and MEMBERS. -/
def State.rtFlight (s : State) (k : Nat) : Option (Nat × Nat × Nat) :=
  match s.slotOf k with
  | some i => if (s.plan i).st = .armed then some (i, planSelf (s.plan i).plan, planN (s.plan i).plan) else none
  | none => none

/-- An exchange changed by `f`, made if it is new. -/
def State.modExch (s : State) (k exch tick : Nat) (f : RteExch → RteExch) : State :=
  let hit := fun (x : RteExch) => x.ctx == k && x.exch == exch && x.tick == tick
  let xs := if s.rte.exchs.any hit then s.rte.exchs.map fun x => if hit x then f x else x
    else s.rte.exchs ++ [f { ctx := k, exch := exch, tick := tick, got := [] }]
  { s with rte := { s.rte with exchs := xs } }

/-- Members whose request barge an exchange still lacks, ascending (R273). -/
def RteExch.missing (x : RteExch) (self n : Nat) : List Nat := (List.range n).filter fun m => m != self && !x.got.contains m

/-- One request barge to every other member, each with the requests for it in order of scheduling (R273). -/
def State.rtRequests (s : State) (j : RteJob) (tick : Nat) (fs : List RteFetch) : State :=
  match s.rtFlight j.ctx with
  | none => s
  | some (slot, self, n) =>
    let d := j.raw.toNat
    let s := s.modExch j.ctx (rtExch d) tick fun x => { x with bytes := some (rtBytes d) }
    ((List.range n).filter (· != self)).foldl (fun s m =>
      let req := (fs.filter fun f => f.member == m).flatMap fun f => toBytes 4 (packFields [(0, 10, f.layer), (10, 13, f.expert)])
      (s.sendBarge slot { kind := 2, dst := m, coll := rtExch d, step := tick, payload := req }).2) s

/-- Counter `n` of every logical cluster in CMASK is incremented by the engine (R247, R271). -/
def State.rtSync (s : State) (k cmask n : Nat) : State :=
  ((s.grantList k).zipIdx.filter fun c => bitAt cmask c.2).foldl (fun s c => s.syncInc c.1 n 1 agentMark) s

/-! ### Selecting for a job (R267, R271) -/

/-- Every fetch a job waits for knows it: its own, and earlier ones its entries find LANDING. -/
def rtWait (es : List Nat) (layer : Nat) (j : RteJob) (x : RtSel) (fs : List RteFetch) : List RteFetch :=
  fs.map fun f =>
    if f.ctx = j.ctx ∧ f.layer = layer ∧ (Tbl.get x.dir f.expert ⟨0, 0, 0, 0⟩).st = 3 then
      match es.findIdx? (· == f.expert) with
      | some i => { f with waiters := f.waiters ++ [(j.seq, i)] }
      | none => f
    else f

/-- What a completed selection leaves in the engine, its counters and reports. -/
def State.rtCommit (s : State) (j : RteJob) (x : RtSel) (skipped : Nat) : State :=
  let d := j.raw.toNat
  let k := j.ctx
  let fs := rtWait (x.experts d) (rtLayer d) j x (s.rte.fetches ++ x.fetches)
  let waits := fs.any fun f => f.waiters.any fun w => w.1 == j.seq
  let o : RteOpen := { seq := j.seq, ctx := k, landing := rtLanding d, cmask := BitVec.ofNat 32 (rtCmask d), fsync := rtFsync d, landed := 0 }
  let slots : Tbl RteSlot := x.slots.foldl (fun (t : Tbl RteSlot) e => Tbl.put t (4096 * k + e.1) e.2) s.rte.slots
  let s := { s with rte := { s.rte with fetches := fs, slots := slots, opens := if waits then s.rte.opens ++ [o] else s.rte.opens } }
  let s := s.modCtx k fun c => { c with step := c.step.map fun t => { t with fetched := t.fetched + x.fetches.length } }
  let s := s.count .rte 0 Off.rteCtxHits x.hits k
  let s := s.count .rte 0 Off.rteCtxFetches x.fetches.length k
  let s := s.count .rte 0 Off.rteCtxDropped x.dropped k
  let s := s.count .rte 0 Off.rteCtxSpilled x.spilled k
  let s := s.count .rte 0 Off.rteCtxRenormed x.renormed k
  let s := s.count .rte 0 Off.rteCtxUnfetch x.unavailable k
  let s := s.count .rte 0 Off.rteCtxSkipped skipped k
  if 1 ≤ x.unavailable then s.rteError 0x12 0 k j.seq j.core else s

/-- The tick of a context's step. -/
def State.stepTick (s : State) (k : Nat) : Nat := s.collTick k

/-- Fetches the context's step may still schedule (R275). -/
def State.rtLeft (s : State) (k : Nat) : Nat :=
  match (s.ctx k).step with
  | some t => t.fetchSlots - t.fetched
  | none => 0

/-- Selection of an accepted job: rows and directory are read, choices made, then the table, the directory changes, the request barges and RSYNC in that order (R271). -/
def State.rtRun (s : State) (j : RteJob) : State :=
  let d := j.raw.toNat
  let k := j.ctx
  let rows := rtRows d
  match s.readMaybe k (rtSkip d) (if rtSkipEn d then (rows + 7) / 8 else 0) with
  | (s, .error e) => s.rteFault j e
  | (s, .ok skip) =>
    let routed := (List.range rows).filter fun r => !(rtSkipEn d && bitAt (skip.getD (r / 8) 0).toNat (r % 8))
    match s.rtReadRows j (s.flush32 k) routed [] with
    | (s, .error e) => s.rteFault j e
    | (s, .ok cands) =>
      let base := rtLayer d * s.rtStride k
      match s.readMaybe k (s.rtEntryDva k base) (if routed.isEmpty then 0 else 16 * rtExperts d) with
      | (s, .error e) => s.rteFault j e
      | (s, .ok dir) =>
        let v : RtEnv := {
          d := d, ctx := k, fl := s.flush32 k, now := s.lkp.now, tick := s.stepTick k, flight := (s.rtFlight k).map (·.2), slots := s.rtSlots k,
           slotDva := s.rtSlotDva k, stride := s.rtStride k, left := s.rtLeft k }
        let x : RtSel := {
          dir := (chunks 16 dir).zipIdx.map fun c => (c.2, rtEntryOf c.1),
          slots := (List.range (s.rtSlots k)).filterMap fun i => (Tbl.find (4096 * k + i) s.rte.slots).map fun r => (i, r) }
        let x := cands.foldl (RtSel.row v) x
        match s.memWrite 517 k (rtDispatch d) (x.table d routed.length (rows - routed.length) j.seq) with
        | (s, .error e) => s.rteFault j e
        | (s, .ok _) =>
          match s.rtWriteDir k x.changes with
          | (s, .error e) => s.rteFault j e
          | (s, .ok _) => ((s.rtCommit j x (rows - routed.length)).rtRequests j (s.stepTick k) x.fetches).rtSync k (rtCmask d) (rtRsync d)

/-- RTE_SELECT: the oldest job (R264, R270). -/
def State.rteSelectOp (s : State) : State :=
  match s.rte.jobs with
  | [] => s
  | j :: rest =>
    if !s.diesOn then s
    else
      let s := { s with rte := { s.rte with jobs := rest } }
      if s.rtBad j.ctx j.raw.toNat then s.rteError 0x10 1 j.ctx j.seq j.core else s.rtRun j

/-- RTE_SELECT (R267). -/
def execRteSelect (s : State) : Host.Outcome State Fault Refusal := .next s.rteSelectOp

/-! ### Landings (R271, R274) -/

/-- One waiting job hears of a landing: an entry of its landing list, then FSYNC (R271). -/
def State.rtLand (s : State) (refused : Bool) (w : Word × Nat) : State :=
  match s.rte.opens.find? fun o => o.seq == w.1 with
  | none => s
  | some o =>
    let bs := toBytes 4 (packFields [(0, 16, w.2), (16, 1, b2n refused)]) ++ toBytes 4 s.lkp.now
    match s.memWrite 517 o.ctx (o.landing + 8 * o.landed) bs with
    | (s, .error e) => if e = .table then s else s.rteError 0x11 1 o.ctx o.seq
    | (s, .ok _) =>
      let s := { s with rte := { s.rte with opens := s.rte.opens.map fun (p : RteOpen) => if p.seq = o.seq then { p with landed := p.landed + 1 } else p } }
      s.rtSync o.ctx o.cmask.toNat o.fsync

/-- A fetch ends: CACHED, or ABSENT with its slot free; its waiting jobs hear of it in job order (R271, R274). -/
def State.rtFetchEnd (s : State) (f : RteFetch) (refused : Bool) : State :=
  let k := f.ctx
  let i := f.layer * s.rtStride k + f.expert
  let fs := s.rte.fetches.erase f
  let keep := fun (o : RteOpen) => fs.any fun g => g.waiters.any fun w => w.1 == o.seq
  let slot := 4096 * k + f.slot
  let s := { s with rte := { s.rte with
    fetches := fs,
    slots := if refused then Tbl.erase slot s.rte.slots else Tbl.put s.rte.slots slot { Tbl.get s.rte.slots slot {} with landing := false } } }
  let s := if refused then (s.count .rte 0 Off.rteCtxRefused 1 k).raiseCtx .rte 0 0x13 0 k else s
  match s.rtWriteDir k [if refused then (i, 0, 0, 0) else (i, 2, f.slot, s.rtSlotDva k f.slot)] with
  | (s, .error e) => if e = .table then s else s.rteError 0x11 1 k (f.waiters.headD (0, 0)).1
  | (s, .ok _) =>
    let s := f.waiters.foldl (fun s w => s.rtLand refused w) s
    { s with rte := { s.rte with opens := s.rte.opens.filter keep } }

/-- One weight barge in its turn: the bytes go to the slot of the oldest fetch of its exchange that still wants weights; without one it is late (R271, R274, R280). -/
def State.rtWeight (s : State) (w : RteWeight) : State :=
  match s.rte.fetches.find? fun f => f.ctx == w.ctx && f.member == w.member && f.exch == w.exch && f.tick == w.tick && !f.arrived with
  | none => s.raiseCtx .rte 0 0x16 0 w.ctx
  | some f =>
    if w.refused then s.rtFetchEnd f true
    else
      match s.memWrite 517 f.ctx (s.rtSlotDva f.ctx f.slot + f.have_) (w.bytes.take (f.bytes - f.have_)) with
      | (s, .error e) => if e = .table then s else s.rteError 0x11 1 f.ctx (f.waiters.headD (0, 0)).1
      | (s, .ok _) =>
        let n := f.have_ + w.bytes.length
        { s with rte := { s.rte with fetches := s.rte.fetches.map fun g => if g = f then { g with have_ := n, arrived := decide (f.bytes ≤ n) } else g } }

/-- A kept weight barge's turn has come: every lower SEQ of its home has arrived (R292). -/
def State.rtTurn (s : State) (w : RteWeight) : Bool :=
  match s.slotOf w.ctx with
  | none => true
  | some i =>
    let p := s.plan i
    decide (w.seq < (Tbl.get p.rx (w.member * 4096 + planSelf p.plan) {}).low)

/-- Weight barges whose turn has come are used in SEQ order of each home. -/
def State.rtDrain (s : State) : State :=
  let due := sortBy (fun a b => decide (a.seq ≤ b.seq)) (s.rte.weights.filter s.rtTurn)
  let s := { s with rte := { s.rte with weights := s.rte.weights.filter fun w => !s.rtTurn w } }
  due.foldl State.rtWeight s

/-- FETCH_LANDED: fetch `idx` whose last byte is in its slot lands (R271). -/
def execFetchLanded (idx : Nat) (s : State) : Host.Outcome State Fault Refusal :=
  .next (
    if !s.diesOn then s else
    let s := s.rtDrain
    match s.rte.fetches[idx]? with
    | some f => if f.arrived then s.rtFetchEnd f false else s
    | none => s)

/-! ### Serving as home (R273, R274) -/

/-- Weights of an expert for a requester: what the home's own entry names, in barges of at most 1 MiB; or a refusal. EXP_BYTES is that of the home's own job of the exchange; before it, the spec does not say how the home knows it (free). -/
def State.rtServe (s : State) (slot k member exch tick req : Nat) : State :=
  let layer := bitsAt req 0 10
  let e := bitsAt req 10 13
  let answer (s : State) (refused : Bool) (bs : List Byte) : State :=
    (s.sendBarge slot { kind := 3, dst := member, coll := exch, step := tick, refused := refused, payload := bs }).2
  let refuse (s : State) : State := (answer s true []).raiseCtx .rte 0 0x13 0 k
  if (s.ctx k).st ≠ .active ∨ s.isCondemned k ∨ s.fld .rte 0 Off.rteCtxLayout 16 11 k ≤ layer ∨ s.rtStride k ≤ e then refuse s
  else match s.memRead 517 k (s.rtEntryDva k (layer * s.rtStride k + e)) 16 with
  | (s, .error _) => refuse s
  | (s, .ok bs) =>
    let en := rtEntryOf bs
    if en.st ≠ 1 then refuse s
    else
      let (n, s) := match (s.rte.exchs.find? fun x => x.ctx == k && x.exch == exch && x.tick == tick).bind (·.bytes) with
        | some n => (n, s)
        | none => let (i, s) := s.draw; (64 * (Config.freeNat i % 2 ^ 24), s)
      match s.memRead 517 k en.waddr n with
      | (s, .error _) => refuse s
      | (s, .ok w) =>
        let s := (chunks 1048576 w).foldl (fun s b => answer s false b) s
        (s.count .rte 0 Off.rteCtxServed 1 k).count64 .rte 0 Off.rteServeBytesLo w.length

/-- FETCH_REQ: the exchange has the sender's request barge, and each request is served or refused in order (R273, R274). -/
def State.fetchReqBarge (s : State) (link : Fin 18) (hdr : BitVec 256) (payload : List Byte) : State :=
  if s.fceHolds link ∨ s.isResetting ⟨.rte, 0⟩ then s.hold (.fetchReqBarge link hdr payload)
    else s.dataIn 2 link ⟨hdr, payload⟩ fun s i k =>
      let b : Barge := ⟨hdr, payload⟩
      let s := if b.step < s.stepTick k then s
        else s.modExch k b.coll b.step fun x => { x with got := if x.got.contains b.src then x.got else x.got ++ [b.src] }
      (chunks 4 payload).foldl (fun s r => s.rtServe i k b.src b.coll b.step (ofBytes r)) s

/-- FETCH_REQ_BARGE. -/
def execFetchReqBarge (link : Fin 18) (hdr : BitVec 256) (payload : List Byte) (s : State) : Host.Outcome State Fault Refusal := .next (s.fetchReqBarge link hdr payload)

/-- WEIGHT: weights arrive, to be used in the turn of their SEQ; a refused one frees its slot (R274). -/
def State.weightBarge (s : State) (link : Fin 18) (hdr : BitVec 256) (payload : List Byte) : State :=
  if s.fceHolds link ∨ s.isResetting ⟨.rte, 0⟩ then s.hold (.weightBarge link hdr payload)
    else s.dataIn 3 link ⟨hdr, payload⟩ fun s _ k =>
      let b : Barge := ⟨hdr, payload⟩
      let s := s.count64 .rte 0 Off.rteFetchBytesLo payload.length
      let w : RteWeight := { ctx := k, member := b.src, exch := b.coll, tick := b.step, seq := b.seq, refused := b.fld 0 10 1 == 1, bytes := payload }
      ({ s with rte := { s.rte with weights := s.rte.weights ++ [w] } } : State).rtDrain

/-- WEIGHT_BARGE. -/
def execWeightBarge (link : Fin 18) (hdr : BitVec 256) (payload : List Byte) (s : State) : Host.Outcome State Fault Refusal := .next (s.weightBarge link hdr payload)

/-! ### Removal, judgement and changes of the cache (R262, R263, R280) -/

/-- Slots of a context whose record satisfies a test become free and their entries ABSENT, written without a report. -/
def State.rtFree (s : State) (k : Nat) (f : RteSlot → Bool) : State :=
  let mine := s.rte.slots.filter fun e => e.1 / 4096 == k && f e.2
  let s := mine.foldl (fun s e => match e.2.dir with
    | some i => (s.quietWrite k (s.rtEntryDva k i) (toBytes 2 0)).quietWrite k (s.rtEntryDva k i + 4) (toBytes 12 0)
    | none => s) s
  { s with rte := { s.rte with slots := s.rte.slots.filter fun e => !(e.1 / 4096 == k && f e.2) } }

/-- The routing work of a removed step is removed: queued jobs discarded, LANDING slots freed, fetches forgotten (R280). -/
def State.rtRemove (s : State) (k : Nat) : State :=
  let s := s.rtFree k (·.landing)
  { s with rte := { s.rte with
    jobs := s.rte.jobs.filter fun j => j.ctx != k,
    opens := s.rte.opens.filter fun o => o.ctx != k,
    fetches := s.rte.fetches.filter fun f => f.ctx != k,
    weights := s.rte.weights.filter fun w => w.ctx != k } }

/-- The pins of a judged step are released, and its exchanges are past (R262, R280). -/
def State.rtJudge (s : State) (k : Nat) : State :=
  { s with rte := { s.rte with
    slots := s.rte.slots.map fun e => if e.1 / 4096 = k then (e.1, { e.2 with pinned := false }) else e,
    exchs := s.rte.exchs.filter fun x => x.ctx != k || decide (s.lkp.now < x.tick) } }

/-- The context's cache was moved or resized: every slot is freed (R263). -/
def State.rtFlushCache (s : State) (k : Nat) : State :=
  let s := s.rtFree k fun _ => true
  { s with rte := { s.rte with fetches := s.rte.fetches.filter fun f => f.ctx != k } }

end Sys2Proof.Machine
end

