-- ==== Sys2Proof/Machine/Serving.lean ====
section
/-! DEFINITION. The serving engine and the sampler (R313 to R332): request frames, berths, batches and manifests, sampling, token frames, and what an edge does to berths. -/

namespace Sys2Proof.Machine

/-! ### Frames (R313) -/

/-- Word `i` of a frame. -/
def fw (f : List Byte) (i : Nat) : Nat := ofBytes ((f.drop (4 * i)).take 4)

/-- KIND of a frame. -/
def frKind (f : List Byte) : Nat := bitsAt (fw f 0) 4 4
/-- CTX of a frame. -/
def frCtx (f : List Byte) : Nat := bitsAt (fw f 0) 8 8
/-- LAST of a frame. -/
def frLast (f : List Byte) : Bool := bitAt (fw f 0) 16
/-- SPLIT of a frame. -/
def frSplit (f : List Byte) : Bool := bitAt (fw f 0) 17
/-- REQ_ID of a frame. -/
def frReq (f : List Byte) : BitVec 64 := BitVec.ofNat 64 (fw f 1 + fw f 2 * 2 ^ 32)
/-- BERTH of a frame. -/
def frBerth (f : List Byte) : Nat := bitsAt (fw f 3) 0 14
/-- COUNT of a frame. -/
def frCount (f : List Byte) : Nat := bitsAt (fw f 4) 0 12
/-- HOME of a frame. -/
def frHome (f : List Byte) : Nat := bitsAt (fw f 4) 12 12
/-- Bytes before the token identifiers: the header, and the parameter block of an OPEN (R313). -/
def frHead (f : List Byte) : Nat := if frKind f = 1 then 160 else 32
/-- Token identifiers of a frame. -/
def frToks (f : List Byte) : List Word := (List.range (frCount f)).map fun i => BitVec.ofNat 32 (ofBytes ((f.drop (frHead f + 4 * i)).take 4))

/-- A request frame that keeps the layout of R313: version, reserved bits, a tenant context, a request kind, length by COUNT, at most 2,048 tokens and 9,216 bytes (R313, R314). -/
def frOk (f : List Byte) : Bool :=
  decide (f.length ≤ 9216) && bitsAt (fw f 0) 0 4 == 1 && bitsAt (fw f 0) 24 8 == 0 && frCtx f != 0
    && decide (1 ≤ frKind f ∧ frKind f ≤ 3) && bitsAt (fw f 3) 14 18 == 0 && decide (frCount f ≤ 2048)
    && f.length == frHead f + 4 * frCount f + 16

/-- Header of a response frame. -/
def respHeader (kind ctx : Nat) (req : BitVec 64) (berth : Nat) (count : Nat := 0) (replay end_ : Bool := false) (reason index tick : Nat := 0) (logprob : Word := 0) : List Byte :=
  toBytes 4 (packFields [(0, 4, 1), (4, 4, kind), (8, 8, ctx), (18, 1, b2n replay), (19, 1, b2n end_), (20, 4, reason)])
    ++ toBytes 8 req.toNat ++ toBytes 4 berth ++ toBytes 4 count ++ toBytes 4 index ++ toBytes 4 tick ++ toBytes 4 logprob.toNat

/-! ### Responses (R315, R324) -/

/-- A DVA register pair of a context's `SRV` page. -/
def State.srvDva (s : State) (k off : Nat) : Nat := s.rd64 .vsrv k off % 2 ^ 48

/-- Entries of the output ring. -/
def State.outSize (s : State) (k : Nat) : Nat := 2 ^ s.fld .vsrv k Off.srvCtxRingLog2 4 4

/-- The output ring is full (R315). -/
def State.outFull (s : State) (k : Nat) : Bool :=
  (s.fld .vsrv k Off.srvCtxOutTail 0 16 + 1) % s.outSize k == s.fld .vsrv k Off.srvCtxOutHead 0 16 % s.outSize k

/-- A response written into the output ring, which must have room; a fault leaves the entry unwritten (R315). -/
def State.outWrite (s : State) (k : Nat) (bs : List Byte) : State :=
  let tail := s.fld .vsrv k Off.srvCtxOutTail 0 16
  let s := (s.memWrite 517 k (s.srvDva k Off.srvCtxOutringLo + 32 * tail) bs).1
  (s.wr .vsrv k Off.srvCtxOutTail (BitVec.ofNat 32 ((tail + 1) % s.outSize k))).count .srv 0 Off.srvFramesOut

/-- A ring response: written, or held while the ring is full or earlier ones wait (R315). -/
def State.ringOut (s : State) (k : Nat) (bs : List Byte) : State :=
  if s.outFull k ∨ !(s.ctx k).outHeld.isEmpty then
    (s.modCtx k fun c => { c with outHeld := c.outHeld ++ [bs] }).count .vsrv k Off.srvCtxOutFull
  else s.outWrite k bs

/-- Held responses that find room leave, oldest first (R315); `n` bounds their number. -/
def State.ringDrain (s : State) (k : Nat) : Nat → State
  | 0 => s
  | n + 1 =>
    match (s.ctx k).outHeld with
    | [] => s
    | b :: rest =>
      if s.outFull k then s
      else State.ringDrain ((s.modCtx k fun c => { c with outHeld := rest }).outWrite k b) k n

/-- Port `p` can send frames: a FRONT port with an UP link (R324). -/
def State.frontUp (s : State) (p : Nat) : Bool := s.role p == 2 && s.hasUp p

/-- The route a response takes: its own port, else the lowest-numbered FRONT port with an UP link (R324). -/
def State.reroute (s : State) (r : Route) : Option Route :=
  let pick (p : Nat) : Option Nat := if s.frontUp p then some p else (List.range 18).find? s.frontUp
  match r with
  | .udp p a u => (pick p).map fun q => .udp q a u
  | .roce p a u => (pick p).map fun q => .roce q a u
  | .ring => some .ring

/-- A response of a context on a route: tagged under the active k_rsp on the network, a header with the token in word 7 on a ring (R315, R324, R341). Without an UP FRONT port a network frame is lost; without a key set its tag is zero. -/
def State.respond (s : State) (k : Nat) (r : Route) (hdr : List Byte) (tok : Option Word) : State :=
  match s.reroute r with
  | none => s
  | some .ring => s.ringOut k (match tok with
      | some t => hdr.take 28 ++ toBytes 4 t.toNat
      | none => hdr)
  | some q =>
    let a := hdr ++ (match tok with
      | some t => toBytes 4 t.toNat
      | none => [])
    let tag := match (s.ctx k).active with
      | some ks => tagOf ks.krsp a
      | none => List.replicate 16 0
    (s.count .srv 0 Off.srvFramesOut).putFrame q (a ++ tag)

/-! ### Coach-yard commands of the serving engine (R191, R318, R327) -/

/-- A command through the serving engine's port: it takes a number of its context, and a malformed one is BAD_CMD (R191, R195). -/
def State.srvYard (s : State) (k raw : Nat) : State :=
  let (q, s) := s.nextSeq .vcyd k Off.cydCmdSeq
  let c : YardCmd := ⟨BitVec.ofNat 256 raw, q, k, .serving⟩
  if c.malformed then s.yardErr c.slice k 0x10 1 else s.modYard fun y => y.submit c

/-- OPEN of berth `b` with the shape of `SRV_CTX_MODEL` (R318, R322). -/
def State.yardOpen (s : State) (k b base0 : Nat) : State :=
  let m := fun lo w => s.fld .vsrv k Off.srvCtxModel lo w
  s.srvYard k (packFields [(0, 4, 1), (32, 14, b), (96, 32, base0), (128, 4, m 14 4), (132, 2, m 18 2), (136, 8, m 0 8), (144, 6, m 8 6)])

/-- RELEASE of berth `b` with FROM = 0 (R324, R327). -/
def State.yardRelease (s : State) (k b : Nat) : State := s.srvYard k (packFields [(0, 4, 5), (32, 14, b)])

/-- A command of an operation on a berth still waits in its slice. -/
def Yard.waiting (y : Yard) (op b : Nat) : Bool := (y.slice (b % 4)).any fun c => c.op == op && c.berth == b

/-! ### Parameters and berths (R316 to R318) -/

/-- Word `i` of a parameter block. -/
def pw (p : BitVec 1024) (i : Nat) : Nat := descFld p.toNat i 0 32
/-- GREEDY, or TEMP = 0 which acts as it (R316). -/
def pGreedy (p : BitVec 1024) : Bool := bitAt (pw p 0) 11 || pw p 1 % 2 ^ 31 == 0
/-- TOP_K (R316). -/
def pTopK (p : BitVec 1024) : Nat := if pw p 0 % 2 ^ 11 = 0 then 1024 else pw p 0 % 2 ^ 11
/-- REP_WINDOW. -/
def pWindow (p : BitVec 1024) : Nat := bitsAt (pw p 4) 0 11
/-- Stop tokens. -/
def pStops (p : BitVec 1024) : List Nat := (List.range (bitsAt (pw p 4) 16 5)).map fun i => pw p (16 + i)
/-- MAX_LEN. -/
def pMaxLen (p : BitVec 1024) : Nat := pw p 6
/-- SEED, 16 bytes. -/
def pSeed (p : BitVec 1024) : List Byte := toBytes 16 (p.toNat / 2 ^ 256)
/-- STRETCH, positions per member. -/
def pStretch (p : BitVec 1024) : Nat := pw p 12

/-- A finite FP32 value that is not negative, or positive when `pos` asks for it. -/
def finiteGe (pos : Bool) (x : Nat) : Bool :=
  match fp32.decode x with
  | .fin s m _ => m == 0 && !pos || m != 0 && !s
  | _ => false

/-- The parameter block lies within R316. -/
def paramsOk (p : BitVec 1024) : Bool :=
  decide (pw p 0 % 2 ^ 11 ≤ 1024) && bitsAt (pw p 0) 14 18 == 0 && finiteGe false (pw p 1)
    && finiteGe true (pw p 2) && !(fp32.decode fone).lt (fp32.decode (pw p 2)) && finiteGe true (pw p 3)
    && decide (pWindow p ≤ 1024) && bitsAt (pw p 4) 11 5 == 0 && decide (bitsAt (pw p 4) 16 5 ≤ 16) && bitsAt (pw p 4) 21 11 == 0
    && pw p 5 != 0 && bitsAt (pw p 7) 10 22 == 0 && pw p 13 == 0 && pw p 14 == 0 && pw p 15 == 0

/-- Entries of a context's token buffer (R330). -/
def State.tokSize (s : State) (k : Nat) : Nat := 2 ^ s.fld .vsrv k Off.srvCtxTokLog2 0 5

/-- Token-buffer entries a berth holds: prompt tokens not yet prefilled and the last 1,024 tokens (R318). -/
def SrvBerth.held (r : SrvBerth) : List Nat :=
  (r.tokIdx.zipIdx.filter fun x => decide (r.prefilled ≤ x.2 ∧ x.2 < r.prompt ∨ r.tokIdx.length ≤ x.2 + 1024)).map (·.1)

/-- Token-buffer entries a context holds. -/
def State.tokHeld (s : State) (k : Nat) : List Nat := (s.srv.berths.filter fun e => e.2.st != .free && e.2.ctx == k).flatMap fun e => e.2.held

/-- Where `n` tokens of a berth go: each to the next free entry after the one before it, cyclically (log 70). -/
def placeToks (size : Nat) : Nat → List Nat → Nat → List Nat
  | 0, _, _ => []
  | n + 1, used, i =>
    let j := probe (fun a => !used.contains a) 0 size (used.length + 1) (if size ≤ i then 0 else i)
    j :: placeToks size n (j :: used) (j + 1)

/-- Tokens join a berth's sequence and its context's token buffer; a fault is TEMPLATE_FAULT (R318; log 70). -/
def State.addToks (s : State) (k b : Nat) (ts : List Word) : State :=
  let r := s.berth b
  let idx := placeToks (s.tokSize k) ts.length (s.tokHeld k) (match r.tokIdx.getLast? with
    | some i => i + 1
    | none => 0)
  let s := s.modBerth b fun r => { r with toks := r.toks ++ ts, tokIdx := r.tokIdx ++ idx }
  (List.zip idx ts).foldl (fun s x =>
    match s.memWrite 517 k (s.srvDva k Off.srvCtxTokbufLo + 4 * x.1) (toBytes 4 x.2.toNat) with
    | (s, .error .xlate) => s.raiseCtx .srv 0 0x14 1 k
    | (s, _) => s) s

/-- The context's token buffer has room for `n` more tokens (R318). -/
def State.tokRoom (s : State) (k n : Nat) : Bool := decide ((s.tokHeld k).length + n ≤ s.tokSize k)

/-- A REJECT with its reason (R318, R324). -/
def State.reject (s : State) (k : Nat) (r : Route) (f : List Byte) (reason : Nat) : State :=
  let s := s.count .vsrv k Off.srvCtxRejected
  let s := if reason = 8 then s.raiseCtx .srv 0 0x12 0 k else s
  s.respond k r (respHeader 9 k (frReq f) (frBerth f) (reason := reason)) none

/-- A berth's generator at OPEN (R325): SEED and REQ_ID when SEEDED, else 384 bits of entropy with SEED as the personalisation string. -/
def State.newDrbg (s : State) (p : BitVec 1024) (req : BitVec 64) : Drbg × State :=
  if bitAt (pw p 0) 12 then (drbgInstantiate (pSeed p ++ toBytes 8 req.toNat), s)
  else
    let (n, s) := s.draw
    (drbgInstantiate (toBytesBE 32 (Config.free256 n).toNat ++ toBytesBE 16 (Config.free128 n).toNat ++ pSeed p), s)

/-- This member's index in the context's plan, when it has one (R322). -/
def State.memberOf (s : State) (k : Nat) : Option Nat :=
  (s.slotOf k).bind fun i => if (s.plan i).held then some (planSelf (s.plan i).plan) else none

/-- Lowest-numbered FREE berth of a context's range (R318). -/
def State.freeBerth (s : State) (k : Nat) : Option Nat :=
  let base := s.fld .vcyd k Off.cydCtxBerths 0 14
  let n := s.fld .vcyd k Off.cydCtxBerths 16 15
  let used := (s.srv.berths.filter fun e => e.2.st != .free).map (·.1)
  let b := probe (fun i => !used.contains i) base (base + n + used.length + 1) (used.length + 1) base
  if b < base + n ∧ b < 16384 then some b else none

/-- An accepted OPEN frame of a context (R318, R322, R325). -/
def State.openOp (s : State) (k : Nat) (r : Route) (f : List Byte) : State :=
  let p := BitVec.ofNat 1024 (ofBytes ((f.drop 32).take 128))
  let ts := frToks f
  let self := if frSplit f then s.memberOf k else some 0
  let home := if frSplit f then frHome f else 0
  match self with
  | none => s.reject k r f 6
  | some i =>
    if !paramsOk p ∨ pMaxLen p < ts.length + 1 ∨ (frLast f ∧ ts.isEmpty) ∨ home < i then s.reject k r f 6
    else match s.freeBerth k with
    | none => s.reject k r f 5
    | some b =>
      if !s.tokRoom k ts.length then s.reject k r f 8
      else
        let base0 := if frSplit f then i * pStretch p else 0
        let start := home * pStretch p
        let (g, s) := s.newDrbg p (frReq f)
        let s := s.modBerth b fun _ => {
          st := if i = home then .prefill else .stretch, ctx := k, reqId := frReq f, params := p, route := r, split := frSplit f, home := home, base0 := base0,
          prompt := ts.length, promptDone := frLast f, prefilled := base0, pos := start, order := s.srv.opens, drbg := g, drbgW := g }
        let s := { s with srv := { s.srv with opens := s.srv.opens + 1 } }
        let s := ((s.addToks k b ts).yardOpen k b base0).count .smp 0 Off.smpInstantiated
        (s.count .vsrv k Off.srvCtxOpened).respond k r (respHeader 8 k (frReq f) b) none

/-- The open berth a frame names by BERTH and REQ_ID (R327). -/
def State.named (s : State) (k : Nat) (f : List Byte) : Option SrvBerth :=
  let r := s.berth (frBerth f)
  if r.st ≠ .free ∧ r.ctx = k ∧ r.reqId = frReq f then some r else none

/-- A frame dropped and counted (R314). -/
def State.dropFrame (s : State) : State := s.count .srv 0 Off.srvDrops

/-- A frame that is accepted (R329 FRAMES_IN). -/
def State.frameIn (s : State) : State := s.count .srv 0 Off.srvFramesIn

/-- An APPEND frame of a context; one that names no berth taking a prompt is dropped (R318). -/
def State.appendOp (s : State) (k : Nat) (r : Route) (f : List Byte) : State × Bool :=
  match s.named k f with
  | none => (s.dropFrame, false)
  | some x =>
    if x.st = .closing then (s.dropFrame, false)
    else
      let s := s.frameIn
      let ts := frToks f
      (if x.promptDone ∨ fw f 5 ≠ x.prompt then s.reject k r f 7
      else if pMaxLen x.params < x.prompt + ts.length + 1 then s.reject k r f 6
      else if !s.tokRoom k ts.length then s.reject k r f 8
      else (s.addToks k (frBerth f) ts).modBerth (frBerth f) fun x => { x with prompt := x.prompt + ts.length, promptDone := frLast f }, true)

/-- A CANCEL frame of a context (R327): the berth closes, and its RELEASE is issued. -/
def State.cancelOp (s : State) (k : Nat) (f : List Byte) : State × Bool :=
  match s.named k f with
  | none => (s.dropFrame, false)
  | some x =>
    if x.st = .closing then (s.dropFrame, false)
    else
      let b := frBerth f
      let s := s.frameIn.count .vsrv k Off.srvCtxCancelled
      let s := s.modBerth b fun x => { x with st := .closing, cancelled := some (s.stepTick k), reason := 3, released := true }
      (s.yardRelease k b, true)

/-! ### Arrival (R314, R315) -/

/-- The route of the responses to an arrival (R324). -/
def arrRoute : Arrival → Route
  | .udp p a src _ => .udp p.val a src
  | .roce p a q => .roce p.val a q
  | .ring _ => .ring

/-- The frame reaches the serving engine: on a FRONT port that is up, at the UDP port of `SRV_CFG` (R313). -/
def State.arrives (s : State) : Arrival → Bool
  | .udp p _ _ dst => s.frontUp p && dst.toNat == s.fld .srv 0 Off.srvCfg 0 16
  | .roce p _ _ => s.frontUp p
  | .ring _ => s.diesOn

/-- Context a route is bound to; none = any (R314). -/
def arrBound : Arrival → Option Nat
  | .udp .. => none
  | .roce _ _ q => some (if 0x100000 ≤ q.toNat ∧ q.toNat < 0x100100 then q.toNat - 0x100000 else Config.rcContext q)
  | .ring k => some k.val

/-- Bytes received are counted at the port. -/
def State.rxBytes (s : State) (a : Arrival) (n : Nat) : State :=
  match a with
  | .udp p .. => s.count64 .lpt p Off.lptRxBytesLo n
  | .roce p .. => s.count64 .lpt p Off.lptRxBytesLo n
  | .ring _ => s

/-- A request frame is judged and carried out; false when it was dropped (R313, R314, R342, R370). -/
def State.frameOp (s : State) (a : Arrival) (f : List Byte) : State × Bool :=
  let k := frCtx f
  let body := f.take (f.length - 16)
  if s.isStopped then (s.dropFrame, false)
  else if !frOk f then (s.dropFrame.raisePage .srv 0 0x10 0, false)
  else if s.ringMode k ≠ 2 ∨ ((arrBound a).any fun j => j != k) then (s.dropFrame, false)
  else match s.frameTag k body (f.drop (f.length - 16)) with
  | (s, false) => ((s.dropFrame.raiseCtx .srv 0 0x11 0 k).ctxDrop k, false)
  | (s, true) =>
    match frKind f with
    | 1 =>
      match s.openMark k (frReq f) with
      | (s, false) => (s, false)
      | (s, true) => (s.frameIn.openOp k (arrRoute a) f, true)
    | 2 => s.appendOp k (arrRoute a) f
    | _ => s.cancelOp k f

/-- A frame arrives as a command of its KIND; a row whose KIND it is not has no occasion, except that every row drops what is no request (R313). -/
def State.frameRow (s : State) (kind : Nat) (c : Instr) (a : Arrival) (f : List Byte) : State :=
  if s.rst.inReset ∨ !s.arrives a ∨ (frOk f ∧ frKind f ≠ kind) then s
  else if s.isResetting ⟨.srv, 0⟩ then s.hold c
  else ((s.rxBytes a f.length).frameOp a f).1

/-- OPEN (R318). -/
def State.openFrame (s : State) (arr : Arrival) (frame : List Byte) : State :=
  s.frameRow 1 (.openFrame arr frame) arr frame

/-- OPEN_FRAME. -/
def execOpenFrame (arr : Arrival) (frame : List Byte) (s : State) : Host.Outcome State Fault Refusal := .next (s.openFrame arr frame)

/-- APPEND (R318). -/
def State.appendFrame (s : State) (arr : Arrival) (frame : List Byte) : State :=
  s.frameRow 2 (.appendFrame arr frame) arr frame

/-- APPEND_FRAME. -/
def execAppendFrame (arr : Arrival) (frame : List Byte) (s : State) : Host.Outcome State Fault Refusal := .next (s.appendFrame arr frame)

/-- CANCEL (R327). -/
def State.cancelFrame (s : State) (arr : Arrival) (frame : List Byte) : State :=
  s.frameRow 3 (.cancelFrame arr frame) arr frame

/-- CANCEL_FRAME. -/
def execCancelFrame (arr : Arrival) (frame : List Byte) (s : State) : Host.Outcome State Fault Refusal := .next (s.cancelFrame arr frame)

/-- INTAKE_POLL (R315): held responses leave as room allows, then the next entry is read; a valid one not yet marked names a frame, and the engine marks it consumed or dropped. -/
def execIntakePoll (ctx : Fin 256) (s : State) : Host.Outcome State Fault Refusal :=
  .next (
    let k := ctx.val
    if !s.diesOn ∨ s.isResetting ⟨.srv, 0⟩ then s
    else
      let s := s.ringDrain k (s.ctx k).outHeld.length
      if s.ringMode k ≠ 2 ∨ s.isStopped ∨ k = 0 then s
      else
        let at_ := s.srvDva k Off.srvCtxInringLo + 16 * (s.ctx k).inNext
        match s.memRead 517 k at_ 16 with
        | (s, .error _) => s
        | (s, .ok e) =>
          if !bitAt (fw e 0) 0 ∨ fw e 3 ≠ 0 then s
          else
            let (s, ok) : State × Bool := match s.memRead 517 k ((fw e 1 + fw e 2 * 2 ^ 32) % 2 ^ 48) (bitsAt (fw e 0) 16 16) with
              | (s, .error _) => (s.dropFrame, false)
              | (s, .ok f) => s.frameOp (.ring ctx) f
            let s := (s.memWrite 517 k (at_ + 12) (toBytes 4 (if ok then 1 else 2))).1
            s.modCtx k fun c => { c with inNext := (c.inNext + 1) % 2 ^ s.fld .vsrv k Off.srvCtxRingLog2 0 4 })

/-! ### Building a batch and its manifest (R319 to R321) -/

/-- A berth as the next batch sees it: its fields once the step of its context commits, when that is to be assumed (R320, R321). -/
structure PlanBerth where
  b : Nat
  st : BerthState
  pos : Nat
  prefilled : Nat
  gen : Nat
  last : Nat
  base : SrvBerth
  deriving DecidableEq, Repr

/-- The berth at its committed position. -/
def SrvBerth.plain (r : SrvBerth) (b : Nat) : PlanBerth := ⟨b, r.st, r.pos, r.prefilled, r.gen, r.lastTick, r⟩

/-- The berth after its entry of a step of tick `t` commits (R321): a chunk is prefilled; a sampled berth goes on; a STRETCH berth's position advances. -/
def PlanBerth.after (p : PlanBerth) (e : BatchEntry) (t : Nat) : PlanBerth :=
  let p := if e.prefill then { p with prefilled := p.prefilled + e.count, pos := if p.st = .stretch then p.pos else p.pos + e.count } else p
  let p := if p.st = .prefill ∧ p.base.promptDone ∧ p.base.prompt ≤ p.prefilled then { p with st := .decode } else p
  if p.st = .stretch then (if e.prefill then p else { p with pos := p.pos + 1 })
  else if p.base.sampled.isSome then { p with pos := if e.prefill then p.pos else p.pos + 1, gen := p.gen + 1, last := t } else p

/-- Berths of a context that may be placed (R69, R320), each as it stands after the step when `after` is set. -/
def State.planBerths (s : State) (k : Nat) (after : Bool) : List PlanBerth :=
  (s.srv.berths.filter fun e => e.2.ctx == k && e.2.st != .free && e.2.st != .closing).map fun e =>
    let p := e.2.plain e.1
    match (s.ctx k).batch with
    | some bt => if after then (bt.entries.filter fun x => x.berth == e.1).foldl (fun p x => p.after x bt.tick) p else p
    | none => p

/-- Position `pos` lies in this member's stretch of the berth (R319 WRITE, R322). -/
def SrvBerth.writes (r : SrvBerth) (self pos : Nat) : Bool :=
  !r.split || (decide (r.base0 ≤ pos) && (self == r.home || decide (pos < r.base0 + pStretch r.params)))

/-- Prompt positions a berth can still prefill on this member (R320, R322). -/
def PlanBerth.left (p : PlanBerth) : Nat :=
  (if p.base.split ∧ p.st = .stretch then min p.base.prompt (p.base.base0 + pStretch p.base.params) else p.base.prompt) - p.prefilled

/-- Decode entries in their order, at most MAX_DECODE (R320). -/
def decodeEntries (self limit : Nat) (ps : List PlanBerth) : List BatchEntry :=
  let due := ps.filter fun p => p.st == .stretch || (p.st == .decode && p.gen != 0)
  ((sortBy (fun a b => decide (a.last < b.last) || (a.last == b.last && decide (a.b ≤ b.b))) due).take limit).map fun p =>
    ⟨p.b, false, p.st != .stretch, p.base.writes self p.pos, p.pos, 1⟩

/-- Prefill entries in order of OPEN arrival until the allowance is spent (R320). -/
def prefillEntries (chunk : Nat) : Nat → List PlanBerth → List BatchEntry
  | _, [] => []
  | allow, p :: ps =>
    let n := min (min chunk p.left) allow
    if n = 0 then prefillEntries chunk allow ps
    else ⟨p.b, true, p.st == .prefill && p.base.promptDone && p.prefilled + n == p.base.prompt, true, p.prefilled, n⟩ :: prefillEntries chunk (allow - n) ps

/-- The batch of R320 for a prefill allowance of the template. -/
def State.batchFor (s : State) (k : Nat) (after : Bool) (allow : Nat) : List BatchEntry :=
  let ps := s.planBerths k after
  let self := (s.memberOf k).getD 0
  decodeEntries self (s.fld .vsrv k Off.srvCtxLimits 0 14) ps
    ++ prefillEntries (s.fld .vsrv k Off.srvCtxChunk 0 16) (min allow (s.fld .vsrv k Off.srvCtxLimits 16 16))
        (sortBy (fun a b => decide (a.base.order ≤ b.base.order)) (ps.filter fun p => p.st == .prefill || p.st == .stretch))

/-- Coaches the entry can create in one chain: new ones for its positions, and a copy of a shared tail with room (R319). `work` reads the chains as the running step leaves them. -/
def Yard.coachNew (y : Yard) (b c n : Nat) (work : Bool) : Nat :=
  let x := y.berth b
  match (if work then x.work c else x.comm c).getLast? with
  | none => (n + 63) / 64
  | some i =>
    let t := y.coach i
    let f := if work then t.fillW else t.fillC
    (n - (64 - f) + 63) / 64 + (if f < 64 ∧ 1 < t.wrefs then 1 else 0)

/-- COACH_NEW of a batch (R319), at most the field holds. -/
def State.coachNew (s : State) (k : Nat) (es : List BatchEntry) (work : Bool) : Nat :=
  let chains := (s.fld .vsrv k Off.srvCtxModel 0 8 + 1) * (s.fld .vsrv k Off.srvCtxModel 8 6 + 1)
  min 0xFFFF (es.foldl (fun a e => if e.write then (List.range chains).foldl (fun a c => a + s.yard.coachNew e.berth c e.count work) a else a) 0)

/-- The token a decode entry takes in: the berth's last one, sampled in the step when that is assumed to commit (R319). -/
def State.inputTok (s : State) (b : Nat) (after : Bool) : Nat :=
  let r := s.berth b
  match (if after then r.sampled else none) with
  | some t => t.toNat
  | none => ((r.toks.getLast?).getD 0).toNat

/-- The batch table (R319). -/
def State.batchTable (s : State) (u : Nat) (after : Bool) (es : List BatchEntry) : List Byte :=
  let ds := es.filter fun e => !e.prefill
  let ps := es.filter fun e => e.prefill
  let one (e : BatchEntry) : List Byte :=
    let r := s.berth e.berth
    if e.prefill then
      toBytes 4 (packFields [(0, 14, e.berth), (15, 1, b2n e.sample)]) ++ toBytes 4 e.pos ++ toBytes 4 e.count ++ toBytes 4 (r.tokIdx.getD e.pos 0)
    else
      toBytes 4 (packFields [(0, 14, e.berth), (14, 1, b2n (r.st == .stretch)), (15, 1, b2n e.sample)]) ++ toBytes 4 e.pos
        ++ toBytes 4 (s.inputTok e.berth after) ++ toBytes 4 (packFields [(0, 10, bitsAt (pw r.params 7) 0 10), (10, 1, b2n e.write)])
  toBytes 4 (packFields [(0, 16, ds.length), (16, 16, ps.length)]) ++ toBytes 4 u ++ List.replicate 24 0 ++ (ds ++ ps).flatMap one

/-- A fault reading a template or writing a batch (R332). -/
def State.templateFault (s : State) (k : Nat) : State := s.raiseCtx .srv 0 0x14 1 k

/-- The batch and manifest of tick `u` are built and written: body with COACH_NEW, batch table, then the slot with SEQ = u and VALID last (R319, R321). `entries` gives the batch for the template's allowance. -/
def State.buildFor (s : State) (k u : Nat) (after : Bool) (entries : Nat → List BatchEntry) : State :=
  match s.memRead 517 k (s.srvDva k Off.srvCtxTemplateLo) 32 with
  | (s, .error e) => if e = .xlate then s.templateFault k else s
  | (s, .ok t) =>
    let es := entries (bitsAt (fw t 7) 0 16)
    if es.isEmpty then s
    else
      let i := if es.any (·.prefill) then 4 else 0
      let len := fw t (i + 2)
      match s.memRead 517 k ((fw t i + fw t (i + 1) * 2 ^ 32) % 2 ^ 48) len with
      | (s, .error e) => if e = .xlate then s.templateFault k else s
      | (s, .ok body) =>
        let cn := toBytes 2 (s.coachNew k es after)
        let body := (body.take 10 ++ cn ++ body.drop 12).take len
        let data := body ++ s.batchTable u after es
        let size := 2 ^ s.fld .vsrv k Off.srvCtxBatchLog2 0 5
        let buf := (s.srvDva k Off.srvCtxBatchLo + (u % s.ringSlots k) * size) % 2 ^ 48
        if size < data.length then s.templateFault k
        else match s.memWrite 517 k buf data with
        | (s, .error e) => if e = .xlate then s.templateFault k else s
        | (s, .ok _) =>
          let slot := toBytes 4 0x11 ++ toBytes 8 (u % 2 ^ 48) ++ toBytes 4 len ++ toBytes 8 buf ++ List.replicate 24 0
          match s.memWrite 517 k (s.slotDva k (u % s.ringSlots k)) slot with
          | (s, .error e) => if e = .xlate then s.templateFault k else s
          | (s, .ok _) => s.modCtx k fun c => { c with nextBatch := some ⟨u, es⟩ }

/-- The entries of the step's batch again, but for berths that close (R67, R321). -/
def State.repeatEntries (s : State) (k : Nat) : List BatchEntry :=
  match (s.ctx k).batch with
  | none => []
  | some bt => bt.entries.filter fun e => (s.berth e.berth).ctx == k && (s.berth e.berth).st != .free && (s.berth e.berth).st != .closing

/-- OVR_POLICY of a context is ABORT (R66). -/
def State.ovrAbort (s : State) (k : Nat) : Bool := s.fld .vlkp k Off.lkpCtxCtrl 1 1 == 1

/-- BUILD_MANIFEST (R321): for the next pound when the step is complete or there is none, or at guard open for a LATE step that will be aborted; a build missed at the cut-off is made up late, with BUILD_LATE. -/
def execBuildManifest (ctx : Fin 256) (s : State) : Host.Outcome State Fault Refusal :=
  .next (
    let k := ctx.val
    let c := s.ctx k
    if !s.diesOn ∨ s.isStopped ∨ s.ringMode k ≠ 2 ∨ !s.ticking ∨ s.isCondemned k ∨ s.isResetting ⟨.srv, 0⟩ then s
    else if c.owed then
      let s := s.modCtx k fun c => { c with owed := false }
      let s := s.buildFor k s.lkp.now false (s.batchFor k false)
      if (s.ctx k).nextBatch.any fun b => b.tick == s.lkp.now then (s.count .vsrv k Off.srvCtxBuildLate).raiseCtx .srv 0 0x13 0 k else s
    else
      let u := s.lkp.now + 1
      if c.nextBatch.any fun b => b.tick == u then s
      else match c.step with
      | none => s.buildFor k u false (s.batchFor k false)
      | some st =>
        if st.done.isSome then s.buildFor k u true (s.batchFor k true)
        else if s.lkp.phase = .guard ∧ st.late ∧ (s.ovrAbort k ∨ st.spilled) then s.buildFor k u false (fun _ => s.repeatEntries k)
        else s)

/-! ### spq (R323) -/

/-- A request the sampler refuses (R323). -/
def State.badSample (s : State) (k core : Nat) : State := s.raiseCtx .smp 0 0x10 1 k core

/-- The lowest free sampler unit. -/
def Srv.freeUnit (v : Srv) : Option Nat := (List.range 16).find? fun u => (Tbl.get v.units u none).isNone

/-- A request enters a free unit, or the queue (R323). -/
def Srv.enter (v : Srv) (q : SampleReq) : Srv :=
  match (if v.smpQ.isEmpty then v.freeUnit else none) with
  | some u => { v with units := Tbl.put v.units u (some q) }
  | none => { v with smpQ := v.smpQ ++ [q] }

/-- Logits of a request as FP32 words (R323). -/
def logitsOf (bf : Bool) (n : Nat) (bs : List Byte) : List Word :=
  (List.range n).map fun i => if bf then BitVec.ofNat 32 (ofBytes ((bs.drop (2 * i)).take 2) * 2 ^ 16) else BitVec.ofNat 32 (ofBytes ((bs.drop (4 * i)).take 4))

/-- `spq` with the request at s[rs] (R323): a release at DEVICE scope; the logits are read, and the request waits for a unit. -/
def State.spqOp (s : State) (core : Nat) (rs : BitVec 5) : State :=
  if !s.scalarRuns core then s else
  match s.coreCtx core with
  | none => s
  | some k =>
    if s.waitsVec core [rs] ∨ s.isResetting ⟨.smp, 0⟩ then s.stall core .queue
    else if !(s.core core).relReady 1 then s.stall core .fence
    else
      let s := s.relDone core 1
      if s.isCondemned k then s.retire core
      else match s.readDesc core (s.sreg core rs) 16 16 with
      | none => (s.badSample k core).retire core
      | some raw =>
        let b := descFld raw 0 0 14
        let bf := descFld raw 0 14 1 == 1
        let inW := descFld raw 0 15 1 == 1
        let n := descFld raw 1 0 19
        let src := if inW then descFld raw 2 0 21 else descAddr raw 2
        let len := n * (if bf then 2 else 4)
        let c := s.ctx k
        let asked := match c.batch with
          | some bt => bt.entries.any fun e => e.berth == b && e.sample
          | none => false
        if !asked ∨ c.spqd.contains b ∨ n = 0 ∨ 262144 < n ∨ src % 64 ≠ 0 ∨ (inW ∧ !inWharf src len) then (s.badSample k core).retire core
        else
          let (s, r) : State × Except MemErr (List Byte) := if inW then (s, .ok (s.wharfRead core src len)) else s.memRead 517 k src len
          match r with
          | .error e => (if e = .xlate then s.badSample k core else s).retire core
          | .ok bs =>
            let s := s.modCtx k fun c => { c with spqd := c.spqd ++ [b] }
            ({ s with srv := s.srv.enter ⟨b, k, logitsOf bf n bs⟩ } : State).retire core

/-- SPQ (R323). -/
def execSpq (core : Fin 512) (rs : BitVec 5) (s : State) : Host.Outcome State Fault Refusal := .next (s.spqOp core rs)

/-! ### The draw (R323) -/

/-- FP32 order by value. -/
def flt (a b : Nat) : Bool := (fp32.decode a).lt (fp32.decode b)

/-- The repetition penalty on one logit (R323). -/
def penalise (fl : Bool) (pen x : Nat) : Nat := (if flt fzero x then div32 fl x pen else mul32 fl x pen).v

/-- Running FP32 sums of a list (R323). -/
def runSums (fl : Bool) : Nat → List Nat → List Nat
  | _, [] => []
  | a, e :: es => let b := (add32 fl a e).v; b :: runSums fl b es

/-- What a draw gives: no candidate, or a token with its LOGPROB and the generator after it. -/
inductive Draw where
  | none_
  | token (t : Nat) (logprob : Option Nat) (g : Drbg)
  deriving DecidableEq, Repr

/-- Logits with NaN as −∞ and the penalty on each distinct recent token (R323). -/
def prepLogits (fl : Bool) (p : BitVec 1024) (recent : List Nat) (ls : List Word) : List Nat :=
  let xs := ls.map fun w => if isNan32 w.toNat then fninf else w.toNat
  let hit := recent.eraseDups
  xs.zipIdx.map fun x => if hit.contains x.2 then penalise fl (pw p 3) x.1 else x.1

/-- The draw over prepared logits (R323). A draw whose running sums never exceed the limit takes the last kept candidate. -/
def drawToken (fl : Bool) (p : BitVec 1024) (g : Drbg) (xs : List Nat) : Draw :=
  if xs.all (· == fninf) then .none_
  else
    let rank := fun (a b : Nat × Nat) => !flt a.1 b.1 && (flt b.1 a.1 || decide (a.2 ≤ b.2))
    if pGreedy p then
      let best := xs.zipIdx.foldl (fun (m : Nat × Nat) x => if flt m.1 x.1 then x else m) (xs.headD 0, 0)
      .token best.2 none g
    else
      let scaled := xs.map fun x => (div32 fl x (pw p 1)).v
      let cand := (sortBy rank scaled.zipIdx).take (pTopK p)
      let m := (cand.headD (fninf, 0)).1
      let es := cand.map fun c => (factor fl c.1 m).v
      let sums := runSums fl fzero es
      let want := (mul32 fl (pw p 2) (sums.getLastD fzero)).v
      let n := (sums.takeWhile fun x => flt x want).length + 1
      let keep := sums.take n
      let total := keep.getLastD fzero
      let (out, g) := drbgGenerate g 16
      let u := (fp32.round ⟨.fin false (ofBytesBE out % 2 ^ 24) (-24), false⟩).v
      let limit := (mul32 fl u total).v
      let j := min (keep.takeWhile fun x => !flt limit x).length (keep.length - 1)
      let lp := (trans32 fl .ln (div32 fl (es.getD j 0) total).v).r.v
      .token (cand.getD j (0, 0)).2 (some lp) g

/-! ### Stop check and token frames (R324, R326, R327) -/

/-- REASON of the stop check on a token, 0 = the berth goes on (R324). -/
def SrvBerth.stop (r : SrvBerth) (t : Nat) : Nat :=
  if (pStops r.params).contains t then 1
  else if pw r.params 5 ≤ r.gen + 1 ∨ pMaxLen r.params ≤ r.toks.length + 1 then 2
  else 0

/-- The token frame of a berth (R324, R326): none while its context is condemned, after a cancel outside the step running then, or as a REPLAY after a cancel. -/
def State.tokenOut (s : State) (b : Nat) (tok : Option Word) (lp : Word) (reason : Nat) : State :=
  let r := s.berth b
  let k := r.ctx
  let replay := decide (r.gen < r.sent)
  let muted : Bool := match r.cancelled with
    | some x => replay || s.stepTick k != x
    | none => false
  if s.isCondemned k ∨ muted then s
  else
    let s := s.modBerth b fun r => { r with sent := max r.sent (r.gen + 1) }
    let s := if replay then s.count .vsrv k Off.srvCtxReplays else s
    s.respond k r.route (respHeader 0xA k r.reqId b (count := b2n tok.isSome) (replay := replay) (end_ := reason != 0) (reason := reason)
      (index := r.gen) (tick := s.lkp.now) (logprob := if bitAt (pw r.params 0) 13 then lp else 0)) tok

/-- The berth ends in this step (R324, R327): CLOSING, with RELEASE, unless a cancel closed it already. -/
def State.endBerth (s : State) (b reason : Nat) : State :=
  let r := s.berth b
  let k := r.ctx
  let s := s.count .vsrv k Off.srvCtxEnded
  match r.cancelled with
  | some x => if s.stepTick k = x then s.modBerth b fun r => { r with reason := BitVec.ofNat 4 reason } else s
  | none => (s.modBerth b fun r => { r with st := .closing, reason := BitVec.ofNat 4 reason, released := true }).yardRelease k b

/-- A unit's request is drawn for its berth (R323 to R325). -/
def State.sampleOne (s : State) (q : SampleReq) : State :=
  let k := q.ctx
  let b := q.berth
  let r := s.berth b
  if r.st = .free ∨ r.ctx ≠ k ∨ s.isCondemned k then s
  else
    let s := s.count64 .smp 0 Off.smpSamplesLo 1
    let s := if q.logits.any fun w => isNan32 w.toNat then (s.count .smp 0 Off.smpNanLogits).raiseCtx .smp 0 0x11 0 k else s
    let fl := s.flush32 k
    let recent := ((r.toks.drop (r.toks.length - pWindow r.params)).map (·.toNat))
    match drawToken fl r.params r.drbgW (prepLogits fl r.params recent q.logits) with
    | .none_ => ((s.raiseCtx .smp 0 0x12 0 k).tokenOut b none 0 4).endBerth b 4
    | .token t lp g =>
      let (n, s) := if lp.isNone then s.draw else (0, s)
      let w := BitVec.ofNat 32 t
      let s := s.modBerth b fun r => { r with sampled := some w, drbgW := g }
      let reason := r.stop t
      let s := s.tokenOut b (some w) (match lp with
        | some x => BitVec.ofNat 32 x
        | none => Config.greedyLogprob n) reason
      if reason = 0 then s else s.endBerth b reason

/-- SAMPLE_COMPLETE (R323): the unit's request is drawn and the oldest waiting one takes its place. -/
def execSampleComplete (unit : Fin 16) (s : State) : Host.Outcome State Fault Refusal :=
  .next (
    match Tbl.get s.srv.units unit.val none with
    | none => s
    | some q =>
      if !s.diesOn then s
      else
        let v := s.srv
        let v := match v.smpQ with
          | [] => { v with units := Tbl.put v.units unit.val none }
          | x :: rest => { v with units := Tbl.put v.units unit.val (some x), smpQ := rest }
        ({ s with srv := v } : State).sampleOne q)

/-! ### The edge (R321, R324, R325, R328, R367) -/

/-- Requests of a context leave the sampler (R367). -/
def State.smpDrop (s : State) (k : Nat) : State :=
  let units := s.srv.units.map fun u => (u.1, match u.2 with
    | some q => if q.ctx = k then none else some q
    | none => none)
  { s with srv := { s.srv with smpQ := s.srv.smpQ.filter fun q => q.ctx != k, units := units } }

/-- A berth's entry commits (R321, R325): it advances, its sampled token joins the sequence, and an END decision stands. -/
def SrvBerth.commit (r : SrvBerth) (p : PlanBerth) : SrvBerth :=
  let st := if r.st = .closing then .closing else p.st
  { r with st := st, pos := p.pos, prefilled := p.prefilled, gen := p.gen, lastTick := p.last, drbg := r.drbgW, sampled := none, sampledLast := r.sampled.isSome, endCommitted := r.reason != 0 && r.reason != 3 }

/-- A berth's entry is void (R325, R328): the generator goes back, and an END decided in the step is undone; a cancelled berth stays CLOSING as CANCELLED. -/
def SrvBerth.revert (r : SrvBerth) : SrvBerth :=
  let r := { r with drbgW := r.drbg, sampled := none }
  if r.st ≠ .closing ∨ r.endCommitted then r
  else if r.cancelled.isSome then { r with reason := 3 }
  else { r with st := if r.promptDone ∧ r.prompt ≤ r.prefilled then .decode else .prefill, reason := 0, released := false }

/-- The step of a context is judged: its berths advance or stay (R321, R325, R328). -/
def State.srvJudge (s : State) (k : Nat) (ok : Bool) : State :=
  match (s.ctx k).batch with
  | none => s
  | some bt =>
    let bs := (bt.entries.map (·.berth)).eraseDups
    let s := if ok then { s with srv := { s.srv with berths := s.srv.berths.map fun e => (e.1, if e.2.ctx = k then { e.2 with sampledLast := false } else e.2) } } else s
    let s := bs.foldl (fun s b =>
      let r := s.berth b
      if r.st = .free ∨ r.ctx ≠ k then s
      else if ok then
        let p := (bt.entries.filter fun e => e.berth == b).foldl (fun p e => p.after e bt.tick) (r.plain b)
        let s := match r.sampled with
          | some t => s.addToks k b [t]
          | none => s
        s.modBerth b fun r => r.commit p
      else s.modBerth b SrvBerth.revert) s
    s.modCtx k fun c => { c with batch := none }

/-- After the yard's decision: a closing berth whose RELEASE committed is closed and FREE; one whose RELEASE was discarded releases again; a berth whose OPEN was discarded opens again (R324, R328; log 71). -/
def State.srvAfterYard (s : State) (k : Nat) : State :=
  (s.srv.berths.filter fun e => e.2.ctx == k && e.2.st != .free).foldl (fun s e =>
    let b := e.1
    let y := s.yard.berth b
    if e.2.st = .closing then
      if s.yard.waiting 5 b ∨ y.releasing then s
      else if e.2.released ∧ !y.openW ∧ !y.openC ∧ !s.yard.waiting 1 b then
        let s := s.respond k e.2.route (respHeader 0xB k e.2.reqId b (reason := e.2.reason.toNat)) none
        s.modBerth b fun _ => {}
      else (s.modBerth b fun r => { r with released := true }).yardRelease k b
    else if !y.openW ∧ !s.yard.waiting 1 b then s.yardOpen k b e.2.base0
    else s) s

end Sys2Proof.Machine
end

