-- ==== Sys2Proof/Machine/Hang.lean ====
section
/-! DEFINITION. The heartbeat, hangs, firmware restarts, captures, commanded scrubs and GAUGE records (R373 to R392). -/

namespace Sys2Proof.Machine

/-! ### The heartbeat (R374, R376) -/

/-- The first beat after a restart ends RESTARTING and releases the hang alert; misses count again (R372, R376). -/
def State.firstBeat (s : State) : State :=
  if s.hwd.restarting ∧ !s.hwd.restartPend then
    ({ s with hwd := { s.hwd with restarting := false, muted := false, hangAlert := false, nextStage := false } } : State).updAlert
  else s

/-- A beat of Dravner: right when it carries the number of the present pound (R374). -/
def State.beat (s : State) (v : Word) : State :=
  let ok := v == BitVec.ofNat 32 s.lkp.now
  ({ s with hwd := { s.hwd with beatOk := s.hwd.beatOk || ok, beatWrong := s.hwd.beatWrong || !ok, lastBeat := v } } : State).firstBeat

/-- HWD_BEAT: Dravner's heartbeat; a write from any other source is discarded and sets BAD_VALUE (R374). -/
def execHwdBeat (src : Source) (v : Word) (s : State) : Host.Outcome State Fault Refusal :=
  .next (if !s.reachesBlock src then s
    else if src = .dravner then s.beat v
    else s.accessError ⟨.hwd, 0⟩ 0x03)

/-- HWD_FW_CTX: Dravner names the context it is handling; any other source sets BAD_VALUE (R374). -/
def execHwdFwCtx (src : Source) (v : Word) (s : State) : Host.Outcome State Fault Refusal :=
  .next (if s.reachesBlock src then s.writeReg src ⟨.hwd, 0⟩ Off.hwdFwCtx v else s)

/-- FW_FIRST_BEAT: the first beat after a firmware restart, which carries the present tick (R374, R376). -/
def execFwFirstBeat (s : State) : Host.Outcome State Fault Refusal :=
  .next (if s.hwd.restarting ∧ !s.hwd.restartPend ∧ s.rst.drv.isSome then s.beat (BitVec.ofNat 32 s.lkp.now) else s)

/-- FW_RESTART_TIMEOUT: 50 ms without a beat; counting resumes from MISSED = 0, and a further declaration takes the next stage (R376). -/
def execFwRestartTimeout (s : State) : Host.Outcome State Fault Refusal :=
  .next (if s.hwd.restarting ∧ s.hwd.muted then { s with hwd := { s.hwd with muted := false, missed := 0, nextStage := true, beatOk := false, beatWrong := false } } else s)

/-! ### Hang declaration (R375) -/

/-- `HWD_FW_CTX` as Dravner left it: the context it handles, when VALID. -/
def State.fwCtx (s : State) : Option Nat :=
  if s.fld .hwd 0 Off.hwdFwCtx 8 1 = 1 then some (s.fld .hwd 0 Off.hwdFwCtx 0 8) else none

/-- The stage of a hang declared now (R375, R376). -/
def State.hangStage (s : State) : Nat :=
  let near := match s.hwd.lastHang with
    | some t => decide (s.lkp.now - t ≤ s.fld .hwd 0 Off.hwdCfg 16 16)
    | none => false
  if near || s.hwd.nextStage then min 3 (s.hwd.stage + 1) else 1

/-- What a declared hang of a stage does with AUTO = 1, and HANG_ESCALATED at stage 3 in every case (R375). -/
def State.escalate (s : State) (stage : Nat) : State :=
  if stage = 3 then s.raisePage .hwd 0 0x12 2
  else if s.fld .hwd 0 Off.hwdCfg 8 1 = 0 then s
  else
    let s := match s.fwCtx with
      | some k => if stage = 2 ∧ k ≠ 0 then s.condemn k 0x1D11 0 0xFFFF else s
      | none => s
    s.askRestart

/-- A hang is declared: HANG, the alert, a capture and the action of its stage; during a stop it is only recorded (R372, R375, R377). -/
def State.declareHang (s : State) : State :=
  let s := s.raise { page := ⟨.hwd, 0⟩, cond := 0x11, ctx := s.fwCtx }
  let s := s.count .hwd 0 Off.hwdHangs
  let s := { s with hwd := { s.hwd with missed := 0 } }
  if s.isStopped then s
  else
    let stage := s.hangStage
    let s := { s with hwd := { s.hwd with stage := stage, lastHang := some s.lkp.now, hangAlert := true, nextStage := false } }
    let s := (s.trigCapture 1 (BitVec.ofNat 32 (0x1D11 + 2 ^ 31))).updAlert
    s.escalate stage

/-- HANG: MISSED has reached `HWD_CFG.MISS_LIMIT` (R375). -/
def execHang (s : State) : Host.Outcome State Fault Refusal :=
  .next (if s.fld .hwd 0 Off.hwdCfg 0 8 ≤ s.hwd.missed ∧ !s.rst.inReset then s.declareHang else s)

/-- The heartbeat check of step 7 of an edge (R374). -/
def State.beatCheck (s : State) : State :=
  let ok := s.hwd.beatOk
  let wrong := s.hwd.beatWrong
  let s := { s with hwd := { s.hwd with beatOk := false, beatWrong := false } }
  if s.hwd.muted then s
  else if ok then { s with hwd := { s.hwd with missed := 0 } }
  else
    let s := { s with hwd := { s.hwd with missed := min 255 (s.hwd.missed + 1) } }
    let s := s.raisePage .hwd 0 0x10 0
    if wrong then s.raisePage .hwd 0 0x18 0 else s

/-! ### HWD_CTRL (R376, R377, R389) -/

/-- CAPTURE: `HWD_CTRL.CAPTURE` triggers a capture (R377). -/
def execCapture (src : Source) (v : Word) (s : State) : Host.Outcome State Fault Refusal :=
  .next (if s.reachesBlock src then
      let s := s.writeReg src ⟨.hwd, 0⟩ Off.hwdCtrl v
      if bitAt v.toNat 0 then s.trigCapture 4 0 else s
    else s)

/-- FW_RESTART: `HWD_CTRL.FW_RESTART` restarts the firmware; BAD_VALUE during a stop (R376). -/
def execFwRestart (src : Source) (v : Word) (s : State) : Host.Outcome State Fault Refusal :=
  .next (if s.reachesBlock src then
      let s := s.writeReg src ⟨.hwd, 0⟩ Off.hwdCtrl v
      if !bitAt v.toNat 1 then s
      else if s.isStopped then s.accessError ⟨.hwd, 0⟩ 0x03
      else s.askRestart
    else s)

/-- SCRUB_CMD: `HWD_CTRL.SCRUB` condemns SCRUB_CTX by a CONTAINED error; refused for context 0 (R389, R392). -/
def execScrubCmd (src : Source) (v : Word) (s : State) : Host.Outcome State Fault Refusal :=
  .next (if s.reachesBlock src then
      let s := s.writeReg src ⟨.hwd, 0⟩ Off.hwdCtrl v
      if !bitAt v.toNat 2 then s
      else
        let k := s.fld .hwd 0 Off.hwdCtrl 8 8
        if k = 0 then s.accessError ⟨.hwd, 0⟩ 0x03 else s.raiseCtx .hwd 0 0x19 1 k
    else s)

/-- DRV_CONDITION: Dravner raises a condition of type 0xF0 in the `HWD` page (R392). -/
def execDrvCondition (cond : DrvCond) (s : State) : Host.Outcome State Fault Refusal :=
  .next (if s.rst.inReset ∨ s.rst.drv.isNone then s
    else match cond with
      | .fwAssert => s.raise { page := ⟨.hwd, 0⟩, cond := 0x10, sev := 2, type := some 0xF0 }
      | .fwEventLost => s.raise { page := ⟨.hwd, 0⟩, cond := 0x11, type := some 0xF0 }
      | .fwContextFault k => s.raise { page := ⟨.hwd, 0⟩, cond := 0x12, sev := 1, ctx := some k.val, type := some 0xF0 })

/-! ### The end of a capture (R377, R378) -/

/-- The page of a page index (R373). -/
def pageNo (p : Nat) : PageRef :=
  if p < 16 then xdieRef p
  else if p < 34 then ⟨.lpt, p - 16⟩
  else if p < 52 then ⟨.lnk, p - 34⟩
  else if p < 128 then mdiePage ((p - 52) / 19) ((p - 52) % 19)
  else if p < 224 then (clusterPages ((p - 128) / 3)).getD ((p - 128) % 3) ⟨.csq, 0⟩
  else (corePages ((p - 224) / 8)).getD ((p - 224) % 8) ⟨.scb, 0⟩

/-- The words of the capture header (R378). -/
def State.capHeader (s : State) (c : CapTrig) (start dur : Nat) : List Nat :=
  let pf := fun (k : PageKind) off => (s.regValue .pf ⟨k, 0⟩ off).toNat
  [1 + c.cause * 256, c.tick, c.tick / 2 ^ 32, start, dur, c.err.toNat, pf .hwd Off.hwdFwCtx,
    pf .hwd Off.hwdStatus, pf .hwdsum Off.hwdSumTop, s.hwd.lastBeat.toNat]

/-- The common registers of a page, offsets 0x000 to 0x028 (R378); a FATAL error leaves only the X-die's (R377). -/
def State.capPage (s : State) (fatal : Bool) (p : PageRef) : List Nat :=
  if fatal && p.die != 6 then [] else (List.range 11).map fun i => (s.regValue .pf p (4 * i)).toNat

/-- Bytes of a list of words. -/
def natBytes (ws : List Nat) : List Byte := ws.flatMap (toBytes 4)

/-- The nonzero bytes of a list, from an address on, as cells. -/
def cellsFrom (a : Nat) (bs : List Byte) : List Cell :=
  (bs.zipIdx.filter fun b => b.1 != 0).map fun b => (a + b.2, b.1)

/-- The header and common-register section of a capture (R378). -/
def State.capCells (s : State) (c : CapTrig) (start dur : Nat) : List Cell :=
  cellsFrom 0 (natBytes (s.capHeader c start dur)) ++
    (List.range 4320).flatMap fun p => cellsFrom (0x1000 + 64 * p) (natBytes (s.capPage (c.cause == 3) (pageNo p)))

/-- CAPTURE_END: HELD reads 1, and a restart that waited for the capture begins (R376, R377). -/
def execCaptureEnd (start dur : BitVec 32) (s : State) : Host.Outcome State Fault Refusal :=
  .next (match s.hwd.capturing with
    | none => s
    | some c =>
      let cells := s.capCells c start.toNat dur.toNat
      let (n, s) := s.draw
      let s := { s with hwd := { s.hwd with cap := cells, capNo := n + 1, capturing := none } }
      let s := s.setFld .hwd 0 Off.hwdCapStatus 0 1 1
      let s := s.setFld .hwd 0 Off.hwdCapStatus 1 3 c.cause
      let s := s.wr .hwd 0 Off.hwdCapTick (BitVec.ofNat 32 c.tick)
      if s.hwd.restartPend then s.fwRestart else s)

/-! ### GAUGE records (R380 to R388) -/

/-- A record being built: its draw for what has no layout, its scope (none = device) and its berth page. -/
structure GaugeOf where
  draw : Nat
  scope : Option Nat
  page : Nat
  full : Bool
  deriving DecidableEq, Repr

/-- The entry or field of a context is shown in this scope (R381). -/
def GaugeOf.shows (g : GaugeOf) (k : Nat) : Bool := g.scope.isNone || g.scope == some k

/-- Hottest domain in °C (R383 TJ_MAX). -/
def State.tjMax (s : State) : Nat := (List.range 7).foldl (fun a d => max a (s.fld .thm 0 (Off.thmDomMax + 4 * d) 0 8)) 0

/-- Least guard band remaining over the domains (R383, R421). -/
def State.gbMin (s : State) : Nat := (List.range 7).foldl (fun a d => min a (s.dom d).gb) (s.dom 0).gb

/-- Words 0 to 63 of a record (R383). -/
def State.gaugeBrief (s : State) (g : GaugeOf) : List Nat :=
  let tick := if s.ticking then s.lkp.now else 0
  let w := s.worst
  let ws : List Nat := [
    packFields [(0, 8, 1), (8, 1, b2n g.scope.isSome), (16, 8, g.scope.getD 0), (24, 2, g.page)],
    if g.full then 65536 else 256,
    tick % 2 ^ 32, tick / 2 ^ 32 % 2 ^ 16,
    packFields [(0, 4, s.devstate), (4, 2, s.pwr.st.toNat), (6, 2, s.dbg.st.toNat), (8, 1, b2n s.rst.fallback), (9, 1, b2n s.fuses.lab),
      (10, 1, b2n s.ticking), (11, 2, s.fld .lkp 0 Off.lkpSyncStatus 0 2), (13, 2, w.getD 0), (15, 1, b2n w.isSome),
      (16, 1, b2n s.hwd.alert), (17, 2, s.hwd.stage)],
    s.fuses.serial.toNat % 2 ^ 32, s.fuses.serial.toNat / 2 ^ 32,
    s.bkp.resets % 2 ^ 32,
    (s.rst.drv.map fun i => i.version.toNat).getD 0,
    (s.rd .rst 0 Off.rstOptVersion).toNat,
    packFields [(0, 16, s.fuses.svnDrv), (16, 16, s.fuses.svnOpt)],
    packFields [(0, 8, s.rst.optCopy.toNat), (8, 8, s.bkp.optFails)],
    s.hwd.gaugeSeq % 2 ^ 32,
    packFields [(0, 9, ((List.range 256).filter fun k => (s.ctx k).st == .active).length),
      (10, 6, ((List.range 256).filter fun j => s.grantOf j != 0).length), (16, 6, ((List.range 32).filter fun c => (s.cluster c).granted.isSome).length)],
    ((s.srv.berths.filter fun e => e.2.st != .free).length) % 2 ^ 15,
    packFields [(0, 6, ((List.range 32).filter fun i => (s.plan i).st == .armed).length), (6, 6, ((List.range 32).filter fun i => (s.plan i).st == .stopped).length),
      (12, 18, bitSet 18 fun l => (s.link l).st == .up)],
    if g.scope.isSome then 0 else packFields [(0, 16, s.pwr.avg1ms), (16, 16, 10 * s.fld .pwr 0 Off.pwrCap 0 9)],
    s.tjMax % 2 ^ 8, s.gbMin % 2 ^ 16, s.hwd.lastBeat.toNat,
    bitsAt (s.rd .hwd 0 Off.hwdFwCtx).toNat 0 9,
    s.sumTop]
  fit 64 0 ws

/-- The sixteen words of a context entry (R384). -/
def State.gaugeCtx (s : State) (k : Nat) : List Nat :=
  let c := s.ctx k
  let w := s.worstIn k
  let lkp := fun off => (s.rd .vlkp k off).toNat
  [packFields [(0, 2, c.st.code), (2, 2, s.ringMode k), (4, 1, b2n (s.ctxStopped k)), (5, 1, s.fld .vlkp k Off.lkpCtxCtrl 1 1), (6, 1, b2n (s.isCondemned k)),
      (7, 2, w.getD 0), (9, 1, b2n (s.flush32 k)), (10, 1, b2n (s.nanHalt k)), (16, 2, if c.active.isSome then 2 else if c.sessions.isEmpty then 0 else 1)],
    packFields [(0, 4, s.fld .vlkp k Off.lkpCtxRingCfg 0 4), (4, 2, c.stepCode), (8, 3, c.lastOutcome.toNat), (11, 1, b2n c.lateSent), (16, 16, s.fld .vlkp k Off.lkpCtxDeficit 0 16)],
    lkp Off.lkpCtxRingBaseLo, lkp Off.lkpCtxRingBaseHi, lkp Off.lkpCtxAdmitted,
    packFields [(0, 16, lkp Off.lkpCtxSkipped), (16, 16, lkp Off.lkpCtxAhead)],
    c.lastSeq % 2 ^ 32, s.grantOf k, s.yard.used k % 2 ^ 24, (s.rd .vcyd k Off.cydCtxQuota).toNat % 2 ^ 24,
    (s.rd .vcyd k Off.cydCtxBerths).toNat,
    packFields [(0, 5, (s.slotOf k).getD 0), (5, 1, b2n (s.slotOf k).isSome), (8, 8, s.fld .vpwr k Off.pwrCtxShare 0 8)],
    (s.rd .vpwr k Off.pwrCtxEnergyLo).toNat, (s.rd .vhwd k Off.hwdCtxScrubs).toNat, (s.rd .vsec k Off.secCtxDrops).toNat, c.lastScrub % 2 ^ 32]

/-- The flight section (R385): links, ports and plan slots, 768 words. -/
def State.gaugeFlight (s : State) (g : GaugeOf) : List Nat :=
  let links := (List.range 18).flatMap fun l =>
    let k := s.link l
    [packFields [(0, 3, k.st.code), (4, 3, k.qreason.toNat), (8, 5, (s.portOf l).getD 0x1F), (13, 12, k.peerMember), (25, 5, k.peerLink)],
      (s.rd .lnk l Off.lnkDowns).toNat, (s.rd .lnk l Off.lnkFecUncorr).toNat, (s.rd .lnk l Off.lnkLastDown).toNat]
  let ports := (List.range 18).flatMap fun p =>
    [packFields [(0, 2, s.role p), (2, 18, bitSet 18 (s.active p))], (s.rd .lpt p Off.lptDrops).toNat, 0, 0]
  let slots := (List.range 32).flatMap fun i =>
    let p := s.plan i
    let mine := match g.scope with
      | none => true
      | some k => s.slotOf k == some i
    if !mine then List.replicate 8 0
    else
      let hash := if p.held then ofBytes (planHash p.plan) else 0
      [packFields [(0, 2, p.st.code), (8, 8, (s.boundCtx i).getD 0), (16, 16, if p.held then planFlight p.plan else 0)],
        if p.held then packFields [(0, 13, planN p.plan), (13, 12, planSelf p.plan)] else 0,
        (s.rd .fce 0 Off.fcePlanErr i).toNat, hash % 2 ^ 32, hash / 2 ^ 32 % 2 ^ 32,
        (s.rd .fce 0 Off.fceAbortRec0 i).toNat, (s.rd .fce 0 Off.fceAbortRec1 i).toNat, (s.rd .fce 0 Off.fceAbortRec2 i).toNat]
  fit 768 0 (links ++ ports ++ slots)

/-- Most severe severity a page holds (R386). -/
def State.pageSev (s : State) (p : PageRef) : Option Nat :=
  worse (heldSev (s.rd p.kind p.inst Off.blkFirst)) (heldSev (s.rd p.kind p.inst Off.blkSecond))

/-- The nibble of a page (R386). -/
def State.pageNibble (s : State) (p : PageRef) : Nat :=
  (match s.pageSev p with
    | some v => 1 + v
    | none => 0) + 8 * b2n (s.pageErr p)

/-- The four words of a page's entry; bit 16 of word 1 carries ATTRIBUTED and bit 0 of the SECOND code, and is free where they differ (R386). -/
def State.pageEntry (s : State) (g : GaugeOf) (slot idx : Nat) : List Nat :=
  let p := pageNo idx
  let f := (s.rd p.kind p.inst Off.blkFirst).toNat
  let n := (s.rd p.kind p.inst Off.blkSecond).toNat
  let c := (s.rd p.kind p.inst Off.blkFirstCtx).toNat
  let code := if bitAt n 31 then bitsAt n 0 16 else 0
  let shared := if bitAt c 8 == bitAt code 0 then bitAt code 0 else (Config.gaugeByte g.draw (0x5904 + 16 * slot)).getLsbD 0
  [packFields [(0, 13, idx), (16, 16, if bitAt f 31 then bitsAt f 0 16 else 0)],
    packFields [(0, 2, if bitAt f 31 then bitsAt f 16 2 else 0), (2, 2, if bitAt n 31 then bitsAt n 16 2 else 0), (4, 1, b2n (bitAt n 31)), (8, 8, bitsAt c 0 8),
      (16, 1, b2n shared), (17, 15, code / 2)],
    (s.rd p.kind p.inst Off.blkFirstTick).toNat, 0]

/-- Page indices of the pages that hold captures, most severe first and then by index (R386). -/
def State.heldPages (s : State) : List Nat :=
  let held := (List.range 4320).filter fun p => (s.pageSev (pageNo p)).isSome
  [3, 2, 1, 0].flatMap fun v => held.filter fun p => s.pageSev (pageNo p) == some v

/-- The errors section (R386), 4,096 bytes. -/
def State.gaugeErrors (s : State) (g : GaugeOf) : List Byte :=
  match g.scope with
  | some k => fit 4096 0 (natBytes [s.hwdWord .vhwd k Off.hwdCtxSum])
  | none =>
    let sum := natBytes ((List.range 27).map fun i => (s.regValue .pf ⟨.hwdsum, 0⟩ (0x100 + 4 * i)).toNat)
    let nibs := (List.range 2160).map fun i => BitVec.ofNat 8 (s.pageNibble (pageNo (2 * i)) + 16 * s.pageNibble (pageNo (2 * i + 1)))
    let ents := (s.heldPages.take 64).zipIdx.flatMap fun e => s.pageEntry g e.2 e.1
    fit 4096 0 (fit 128 0 sum ++ fit 2176 0 nibs ++ natBytes ents)

/-- The power section (R387), 512 words; 0 in a context-scope record (R381). -/
def State.gaugePower (s : State) (g : GaugeOf) : List Nat :=
  if g.scope.isSome then List.replicate 512 0
  else
    let d := List.range 7
    fit 512 0 ([10 * s.fld .pwr 0 Off.pwrCap 0 9, s.pwr.avg1ms, s.pwr.avg1s]
      ++ d.map (fun i => packFields [(0, 4, (s.dom i).point), (16, 10, (s.dom i).volt)])
      ++ d.map (fun i => s.fld .thm 0 (Off.thmDomMax + 4 * i) 0 8)
      ++ d.map (fun i => (s.dom i).gb)
      ++ [s.age.poh / 60, (s.rd .pwr 0 Off.pwrSluices).toNat])

/-- The context whose berth range holds a berth (R206, R381). -/
def State.berthOf (s : State) (k b : Nat) : Bool :=
  let base := s.fld .vcyd k Off.cydCtxBerths 0 14
  decide (base ≤ b ∧ b < base + s.fld .vcyd k Off.cydCtxBerths 16 15)

/-- The two words of a berth entry (R388). -/
def State.gaugeBerth (s : State) (g : GaugeOf) (b : Nat) : List Nat :=
  let r := s.berth b
  let mine := match g.scope with
    | none => true
    | some k => s.berthOf k b
  if !mine ∨ r.st = .free then [0, 0]
  else
    [packFields [(0, 3, r.st.code), (3, 8, r.ctx), (11, 1, b2n r.split), (12, 1, b2n r.cancelled.isSome), (13, 1, b2n r.sampledLast), (14, 18, min r.gen (2 ^ 18 - 1))], r.pos]

/-- A whole record, or its brief (R382). -/
def State.gaugeRecord (s : State) (g : GaugeOf) : List Byte :=
  let brief := natBytes (s.gaugeBrief g)
  if !g.full then brief
  else
    let detail := (List.range 768).map fun i => Config.gaugeByte g.draw (0x100 + i)
    let ctxs := (List.range 256).flatMap fun k => if g.shows k then s.gaugeCtx k else List.replicate 16 0
    brief ++ detail ++ natBytes ctxs ++ natBytes (s.gaugeFlight g) ++ s.gaugeErrors g ++ natBytes (s.gaugePower g)
      ++ List.replicate 6144 0 ++ natBytes ((List.range 4096).flatMap fun i => s.gaugeBerth g (4096 * g.page + i))

/-- Every pending request is snapshotted at this instant (R380). -/
def State.gaugeSnap (s : State) : State :=
  if s.hwd.gaugeReq.isNone ∧ s.hwd.gaugeTow.isNone ∧ !s.ctxs.any (fun e => e.2.gaugeReq.isSome) then s
  else
    let (n, t) := s.draw
    let rec_ := fun (scope : Option Nat) (r : Bool × BitVec 2) => s.gaugeRecord ⟨n, scope, r.2.toNat, r.1⟩
    let pf := s.hwd.gaugeReq.map (rec_ none)
    let tow := s.hwd.gaugeTow.map (rec_ none)
    let t := { t with hwd := { t.hwd with gaugeReq := none, gaugeRec := pf.or t.hwd.gaugeRec, gaugeTow := none, gaugeTowRec := tow.or t.hwd.gaugeTowRec } }
    { t with ctxs := t.ctxs.map fun e => (e.1, { e.2 with gaugeReq := none, gaugeRec := (e.2.gaugeReq.map (rec_ (some e.1))).or e.2.gaugeRec }) }

/-- A requester has a request that is not DONE (R380). -/
def State.gaugeBusy (s : State) : GaugeReq → Bool
  | .pf _ _ => s.hwd.gaugeReq.isSome || s.hwd.gaugeRec.isSome
  | .view _ k _ => (s.ctx k).gaugeReq.isSome || (s.ctx k).gaugeRec.isSome
  | .towpath _ => s.hwd.gaugeTow.isSome || s.hwd.gaugeTowRec.isSome

/-- A request is accepted; while the tick is stopped its snapshot is taken at once (R380). -/
def State.gaugeAccept (s : State) (req : GaugeReq) (full : Bool) : State :=
  let s := match req with
    | .pf _ _ => { s with hwd := { s.hwd with gaugeReq := some (full, BitVec.ofNat 2 (s.fld .hwd 0 Off.hwdGaugeCmd 4 2)) } }
    | .view _ k _ => s.modCtx k fun c => { c with gaugeReq := some (full, BitVec.ofNat 2 (s.fld .vhwd k Off.hwdCtxGaugeCmd 4 2)) }
    | .towpath p => { s with hwd := { s.hwd with gaugeTow := some (full, p) } }
  if s.ticking then s else s.gaugeSnap

/-- The page of a requester's registers. -/
def gaugePage : GaugeReq → PageRef
  | .view _ k _ => ⟨.vhwd, k⟩
  | _ => ⟨.hwd, 0⟩

/-- A GAUGE request: refused as BAD_VALUE before the last one is DONE, and in full before READY (R380, R405). -/
def State.gaugeRequest (s : State) (req : GaugeReq) (full : Bool) : State :=
  let bit := if full then 0 else 1
  let (reach, asked, s) : Bool × Bool × State := match req with
    | .pf src v => (s.reachesBlock src, bitAt v.toNat bit, if s.reachesBlock src then s.writeReg src ⟨.hwd, 0⟩ Off.hwdGaugeCmd v else s)
    | .view src k v => (s.reachesView src k, bitAt v.toNat bit, if s.reachesView src k then s.writeReg src ⟨.vhwd, k⟩ Off.hwdCtxGaugeCmd v else s)
    | .towpath _ => (!s.rst.inReset, true, s)
  if !reach ∨ !asked then s
  else if s.gaugeBusy req ∨ (full ∧ !s.rst.ready) then s.accessError (gaugePage req) 0x03
  else s.gaugeAccept req full

/-- GAUGE: a request for a full record (R380). -/
def execGauge (req : GaugeReq) (s : State) : Host.Outcome State Fault Refusal := .next (s.gaugeRequest req true)

/-- GAUGE_BRIEF: a request for bytes 0x0000 to 0x00FF (R380, R382). -/
def execGaugeBrief (req : GaugeReq) (s : State) : Host.Outcome State Fault Refusal := .next (s.gaugeRequest req false)

/-- The record is written to memory: DONE and the interrupt, or FAULT and GAUGE_FAULT with nothing written (R372, R380). -/
def State.gaugeWrite (s : State) (p : PageRef) (addrLo status ctx : Nat) (bs : List Byte) : State :=
  let dva := s.rd64 p.kind p.inst addrLo
  let fault := fun (s : State) =>
    (s.setFld p.kind p.inst status 2 1 1).raise { page := ⟨.hwd, 0⟩, cond := 0x15, ctx := if p.kind.isView then some p.inst else none }
  if !s.diesOn ∨ (s.keyOf ctx).isNone ∨ !s.mapped ctx dva bs.length .write then fault s
  else match s.memWrite 517 ctx dva bs with
    | (s, .error _) => fault s
    | (s, .ok _) =>
      let s := { s with hwd := { s.hwd with gaugeSeq := s.hwd.gaugeSeq + 1 } }
      (s.setFld p.kind p.inst status 1 1 1).emit (.msix ctx 0)

/-- GAUGE_WRITE_DONE: the snapshot of a requester reaches it (R380). -/
def execGaugeWriteDone (req : GaugeFor) (s : State) : Host.Outcome State Fault Refusal :=
  .next (match req with
    | .pf =>
      match s.hwd.gaugeRec with
      | none => s
      | some bs => State.gaugeWrite { s with hwd := { s.hwd with gaugeRec := none } } ⟨.hwd, 0⟩ Off.hwdGaugeAddrLo Off.hwdGaugeStatus 0 bs
    | .vf k =>
      match (s.ctx k).gaugeRec with
      | none => s
      | some bs => State.gaugeWrite (s.modCtx k fun c => { c with gaugeRec := none }) ⟨.vhwd, k⟩ Off.hwdCtxGaugeAddrLo Off.hwdCtxGaugeStatus k bs
    | .towpath =>
      match s.hwd.gaugeTowRec with
      | none => s
      | some bs => ({ s with hwd := { s.hwd with gaugeTowRec := none, gaugeSeq := s.hwd.gaugeSeq + 1 } } : State).emit (.mctp bs))

end Sys2Proof.Machine
end

