-- ==== Sys2Proof/Machine/Merge.lean ====
section
/-! DEFINITION. The merge unit of a cluster: contributions, completion and delivery (R167 to R170, R179, R184). -/

namespace Sys2Proof.Machine

/-- Bytes of the partial buffer (R167). -/
def mergeBuffer : Nat := 2 ^ 20

/-- Lanes named by EXPECT. -/
def expectLanes (raw : Nat) : List Nat := (List.range 16).filter (bitAt (atExpect raw))

/-- The slot configuration of a descriptor (R167): MSLOT, EXPECT, TARGET, TCORE, MNORM, MDST, SYNC, MCOLL, HEADS × rows, HDIM, VFMT and OFMT. -/
def mergeConfig (raw : Nat) : List Nat :=
  [descFld raw 8 0 26, descFld raw 9 0 21, descFld raw 10 0 8, descFld raw 10 16 16, atRecs raw, descFld raw 0 15 2, b2n (atBf raw), atOfmt raw]

/-- Slot `k` of a cluster. -/
def Cluster.slot (c : Cluster) (k : Nat) : Option MergeSlot := Tbl.get c.slots k none

/-- Bytes reserved by the armed slots. -/
def Cluster.reserved (c : Cluster) : Nat :=
  c.slots.foldl (fun a e => a + match e.2 with
    | some m => mergeReserve m.raw.toNat
    | none => 0) 0

/-- The condition that refuses a contribution, in the order of R170. -/
def Cluster.mergeRefusal (c : Cluster) (x : Contribution) : Option Nat :=
  let raw := x.raw.toNat
  let armed := c.slot (atSlot raw)
  if (match armed with
      | some m => mergeConfig m.raw.toNat != mergeConfig raw
      | none => false) then some 0x10
  else if !bitAt (atExpect raw) x.lane then some 0x11
  else match armed with
  | some m => if m.got.any fun g => g.lane == x.lane then some 0x12 else none
  | none => if mergeBuffer < c.reserved + mergeReserve raw then some 0x14 else none

/-- The slot with one more contribution. -/
def Cluster.mergeStored (c : Cluster) (x : Contribution) : MergeSlot :=
  match c.slot (atSlot x.raw.toNat) with
  | some m => { m with got := m.got ++ [x] }
  | none => ⟨x.raw, [x]⟩

/-- Every core of EXPECT has contributed (R167). -/
def MergeSlot.complete (m : MergeSlot) : Bool := (expectLanes m.raw.toNat).all fun l => m.got.any fun g => g.lane.val == l

/-- MRG_CONTRIBUTION (R167, R170): the oldest contribution on its way arrives. A completing one waits while the slot's last root has not been delivered. -/
def State.mergeArrive (s : State) (cl : Nat) : State :=
  let c := s.cluster cl
  match c.inbox, c.granted with
  | x :: rest, some ctx =>
    let k := atSlot x.raw.toNat
    let s0 := s.modCluster cl fun c => { c with inbox := rest }
    if !s.diesOn ∨ s.isResetting ⟨.mrg, cl⟩ then s
    else match c.mergeRefusal x with
    | some cond => s0.raiseCtx .mrg cl cond 1 ctx (16 * cl + x.lane)
    | none =>
      let m := c.mergeStored x
      if m.complete = false then s0.modCluster cl fun c => { c with slots := Tbl.put c.slots k (some m) }
      else if (Tbl.get c.roots k none).isSome then s
      else
        (s0.modCluster cl fun c => { c with slots := Tbl.erase k c.slots, roots := Tbl.put c.roots k (some m) }).count .mrg cl Off.mrgCompleted
  | _, _ => s

/-- MRG_CONTRIBUTION (R167). -/
def execMrgContribution (cluster : Fin 32) (s : State) : Host.Outcome State Fault Refusal := .next (s.mergeArrive cluster)

/-- Leaves of a completed slot in ascending lane order (R168). -/
def MergeSlot.leafList (m : MergeSlot) : List Leaf :=
  (expectLanes m.raw.toNat).filterMap fun l => (m.got.find? fun g => g.lane.val == l).map fun g => ⟨l, g.seq.toNat, g.recs⟩

/-- Counts of a merge and its first NaN, reported in the `DRN` page of lane 0 (R124, R184). -/
def State.mergeTally (s : State) (cl ctx slot : Nat) (t : Tally) : State :=
  let core := 16 * cl
  let s := (s.count .mrg cl Off.mrgNancnt t.nan).countAtp core Off.atpCtxNancnt t.nan
  let s := (s.countAtp core Off.atpCtxFlush t.flush).countAtp core Off.atpCtxClamp t.clamp
  match t.first with
  | none => s
  | some (seq, ops, row, col) => s.reportCore core ctx
      { engine := 5, cause := 1, core := core, unit := slot, seq := seq, opa := ops % 65536, opb := ops / 65536, row := row, col := col }

/-- The roots of a TARGET = 0 slot go to the wharf, then the counter is incremented as a delivery to TCORE (R169, R243, R247). -/
def State.mergeToWharf (s : State) (cl ctx raw : Nat) (rs : List PartialRec) (t : Tally) : State :=
  let core := 16 * cl + atTcore raw
  let (bs, t, empty) :=
    if atNorm raw then normBytes (s.flush32 ctx) (atOfmt raw) (0, 0, 0, 0) rs t
    else let (rs, t) := recsInFormat (atBf raw) rs t; (rs.flatMap fun r => r.bytes (atBf raw), t, 0)
  let s := (s.mergeTally cl ctx (atSlot raw) t).countAtp (16 * cl) Off.atpCtxEmpty empty
  let s := s.wharfWrite core (descFld raw 9 0 21) bs
  if descFld raw 10 0 8 = 0xFF then s
  else s.syncInc cl (descFld raw 10 0 8) 1 { agentMark with delivery := some (atTcore raw) }

/-- MRG_DELIVER (R168, R169): a completed slot's roots are formed and delivered. -/
def State.mergeDeliver (s : State) (cl k : Nat) : State :=
  let c := s.cluster cl
  match Tbl.get c.roots k none, c.granted with
  | some m, some ctx =>
    if !s.diesOn then s else
    let raw := m.raw.toNat
    let ls := m.leafList
    let s := s.modCluster cl fun c => { c with roots := Tbl.erase k c.roots }
    let (rs, t) := mergeTree (s.flush32 ctx) 4 ls {}
    let s := s.count64 .mrg cl Off.mrgMergesLo ((ls.length - 1) * rs.length)
    if atTarget raw = 0 then s.mergeToWharf cl ctx raw rs t
    else (s.mergeTally cl ctx k t).collLeaf ctx cl (descFld raw 10 16 16) rs
  | _, _ => s

/-- MRG_DELIVER (R169). -/
def execMrgDeliver (cluster : Fin 32) (slot : Fin 16) (s : State) : Host.Outcome State Fault Refusal := .next (s.mergeDeliver cluster slot)

/-- Slots still armed when a context's step is judged raise MRG_INCOMPLETE and are disarmed (R170). -/
def State.mergeJudge (s : State) (cl ctx : Nat) : State :=
  let armed := (s.cluster cl).slots.filter (·.2.isSome)
  let s := s.modCluster cl fun c => { c with slots := [] }
  armed.foldl (fun s _ => s.raiseCtx .mrg cl 0x13 1 ctx) s

/-- The merge unit is cleared (R179): nothing armed, nothing delivered. -/
def Cluster.clearMrg (c : Cluster) : Cluster := { c with slots := [], roots := [], inbox := [] }

end Sys2Proof.Machine
end

