-- ==== Sys2Proof/Machine/Power.lean ====
section
/-! DEFINITION. Power, heat and ageing: points and rails, the cap and its controller, power states, the sluice, meters, sensors, the margin plan and the lifetime log (R412 to R439). -/

namespace Sys2Proof.Machine

/-! ### Points and rails (R412, R413) -/

/-- VF[p] of a domain in mV, where a VF_POINTS record gives it (R400, R413). -/
def State.vf (s : State) (d p : Nat) : Option Nat := (s.trim 0x01 d).map fun b => ofBytes ((b.drop (2 * p)).take 2)

/-- The fixed or default point of a domain (R403, R412). -/
def basePoint (d : Nat) : Nat := if d < 2 then 4 else if d < 6 then 10 else 6

/-- Rail voltage of a domain at a point: VF + MARGIN within 600 to 850 mV, 800 mV on the defaults (R403, R413). -/
def State.railAt (s : State) (d p : Nat) : Nat :=
  match s.vf d p with
  | some v => max 600 (min 850 (v + (s.dom d).margin))
  | none => 800

/-- Highest point of a domain whose VF + MARGIN fits 850 mV; the default point when no record gives VF (R403, R413). -/
def State.topPoint (s : State) (d : Nat) : Nat :=
  let m := max (s.dom d).margin (s.dom d).plan
  (((List.range 15).filter fun p => match s.vf d p with
    | some v => decide (v + m ≤ 850)
    | none => decide (p ≤ basePoint d)).getLast?).getD 0

/-- Points that no longer fit are retired; a re-plan also restores (R413, R430). -/
def State.fitPoints (s : State) (d : Nat) (restore : Bool) : State :=
  let old := (s.dom d).maxPoint
  let top := s.topPoint d
  let new := if restore then top else min old top
  let s := s.modDom d fun x => { x with maxPoint := new }
  if new < old then
    ((List.range old).filter fun p => decide (new ≤ p)).foldl (fun s p => s.logEvent 0x03 [d, p + 1]) (s.raisePage .age 0 0x11 0)
  else s

/-- The planned MARGIN of a domain changes; the change is logged with its trigger: 1 re-plan, 2 droop step (R430, R433). -/
def State.setPlan (s : State) (d new trigger : Nat) : State :=
  let old := (s.dom d).plan
  if new = old then s
  else (s.modDom d fun x => { x with plan := new }).logEvent 0x02 [d, old, new, trigger]

/-! ### The controller (R416, R420, R422) -/

/-- Clusters of a C-die by class IDLE, PREFILL, DECODE, EXPERT of the manifest they are granted to; ungranted ones are IDLE (R422). -/
def State.classes (s : State) (d : Nat) : List Nat :=
  let cls := (List.range 16).map fun i => match (s.cluster (16 * d + i)).granted with
    | none => 0
    | some k => ((s.ctx k).step.map fun x => x.cls.toNat).getD 0
  (List.range 4).map fun c => (cls.filter (· == c)).length

/-- DYN of a class (R422). -/
def PwrSig.dyn (g : PwrSig) (c : Nat) : Q := match c with
  | 0 => g.dyn0
  | 1 => g.dyn1
  | 2 => g.dyn2
  | _ => g.dyn3

/-- DYN of a class replaced. -/
def PwrSig.setDyn (g : PwrSig) (c : Nat) (q : Q) : PwrSig := match c with
  | 0 => { g with dyn0 := q }
  | 1 => { g with dyn1 := q }
  | 2 => { g with dyn2 := q }
  | _ => { g with dyn3 := q }

/-- The signature of C-die `d`. -/
def State.sig (s : State) (d : Nat) : PwrSig := Tbl.get s.pwr.sigs d {}

/-- (f / 2.0) × (v / 0.85)²: what normalises DYN (R422). -/
def dynScale (p mv : Nat) : Q := (Q.mk' (6 + p) 20).mul ((Q.mk' mv 850).mul (Q.mk' mv 850))

/-- Sum of n[c] × DYN[c] over the classes. -/
def dynSum (g : PwrSig) (ns : List Nat) : Q :=
  (ns.zipIdx).foldl (fun a x => a.add ((Q.ofNat x.1).mul (g.dyn x.2))) ⟨0, 1⟩

/-- Predicted power of C-die `d` at a point, in W (R422). -/
def State.dieWatts (s : State) (d p : Nat) : Q :=
  let v := s.railAt d p
  ((s.sig d).leak.mul (Q.mk' v 850)).add ((dynSum (s.sig d) (s.classes d)).mul (dynScale p v))

/-- Predicted package power in W (R422). -/
def State.packageWatts (s : State) (p0 p1 : Nat) : Q :=
  ((s.dieWatts 0 p0).add (s.dieWatts 1 p1)).add (Q.mk' (s.pwr.m1ms + s.pwr.x1ms) 10)

/-- Contexts granted clusters on C-die `d` (R420). -/
def State.onDie (s : State) (d : Nat) : List Nat :=
  ((List.range 16).filterMap fun i => (s.cluster (16 * d + i)).granted).eraseDups

/-- Lower the two points until the power fits: the die with the higher point first, C1 when they are equal, and below a floor only when no die is above its own (R420). -/
def lowerPoints (exceeds : Nat → Nat → Bool) (f0 f1 : Nat) : Nat → Nat × Nat → Nat × Nat
  | 0, p => p
  | n + 1, (a, b) =>
    if !exceeds a b then (a, b)
    else
      let ca := decide (f0 < a)
      let cb := decide (f1 < b)
      if ca || cb then
        if cb && (!ca || decide (a ≤ b)) then lowerPoints exceeds f0 f1 n (a, b - 1) else lowerPoints exceeds f0 f1 n (a - 1, b)
      else if a = 0 ∧ b = 0 then (a, b)
      else if a ≤ b then lowerPoints exceeds f0 f1 n (a, b - 1) else lowerPoints exceeds f0 f1 n (a - 1, b)

/-- A field as in effect, or as most recently written (R416). -/
def State.pick (s : State) (staged : Bool) (k : PageKind) (i off lo w : Nat) (bank : Nat := 0) : Nat :=
  if staged then s.latestFld k i off lo w bank else s.fld k i off lo w bank

/-- The highest FLOOR of the contexts granted clusters on a die (R420). -/
def State.floorOf (s : State) (staged : Bool) (d : Nat) : Nat :=
  (s.onDie d).foldl (fun a k => max a (s.pick staged .vpwr k Off.pwrCtxFloor 0 4)) 0

/-- Highest point a die may take before the cap is judged: FMAX, MAXPOINT, the thermal limit, two above the present one, and its ceiling (R412, R414, R420). -/
def State.pointLimit (s : State) (staged : Bool) (d : Nat) : Nat :=
  let x := s.dom d
  let top := min (min (s.pick staged .pwr 0 Off.pwrDomCtrl 0 4 d) x.maxPoint) (min x.thermMax (x.point + 2))
  let ceil := Q.ofNat (10 * s.pick staged .pwr 0 Off.pwrDomCtrl 8 8 d)
  (((List.range (top + 1)).filter fun p => (s.dieWatts d p).le ceil).getLast?).getD 0

/-- The points of C0 and C1 the controller plans: target cap × HEADROOM / 100 − max(0, A1s − cap) (R420). -/
def State.planPoints (s : State) (staged : Bool) : Nat × Nat :=
  let cap := 10 * s.pick staged .pwr 0 Off.pwrCap 0 9
  let target := (Q.mk' (cap * s.fld .pwr 0 Off.pwrCtrl 8 8) 100).sub (Q.ofNat (s.pwr.avg1s - cap))
  lowerPoints (fun a b => !(s.packageWatts a b).le target) (s.floorOf staged 0) (s.floorOf staged 1) 32 (s.pointLimit staged 0, s.pointLimit staged 1)

/-- POWER_PLAN_COMPUTE: at T_P the points for the next edge are planned with what will then be in effect, and the rails are raised for them (R415, R416). -/
def execPowerPlanCompute (s : State) : Host.Outcome State Fault Refusal :=
  .next (if s.ticking ∧ s.diesOn ∧ s.pwr.st = 0 then
      let (a, b) := s.planPoints true
      let set := fun (s : State) (d p : Nat) => s.modDom d fun x => { x with planned := some p, volt := max x.volt (s.railAt d p) }
      set (set s 0 a) 1 b
    else s)

/-- Every context on die `d` whose FLOOR a point breaks has FLOOR_FORCED, unless only the rise of two points per edge holds the point down (R414, R420). -/
def State.forceFloors (s : State) (d p : Nat) : State :=
  if (s.dom d).point + 2 ≤ p then s
  else (s.onDie d).foldl (fun s k =>
    if p < s.fld .vpwr k Off.pwrCtxFloor 0 4 then (s.raiseCtx .pwr 0 0x11 0 k).count .vpwr k Off.pwrCtxForced else s) s

/-- Step 3 of an edge: the plan is recomputed under the values now in effect and never above what was prepared (R416). -/
def State.powerRecompute (s : State) : State :=
  if s.pwr.st ≠ 0 then s
  else
    let (a, b) := s.planPoints false
    let set := fun (s : State) (d p : Nat) =>
      let q := min p ((s.dom d).planned.getD (s.dom d).point)
      (s.forceFloors d q).modDom d fun x => { x with planned := some q }
    set (set s 0 a) 1 b

/-! ### Learning (R422) -/

/-- One sixteenth of the way from `a` toward `b`. -/
def toward (a b : Q) : Q := a.add ((b.sub a).mul ⟨1, 16⟩)

/-- A signature after a pound at a point and rail, with the measured power of the domain in mW (R422): an idle pound moves LEAK. -/
def PwrSig.learn (g : PwrSig) (idle : Bool) (ns : List Nat) (p mv mw : Nat) : PwrSig :=
  let meas := Q.mk' mw 1000
  let rest := meas.sub (g.leak.mul (Q.mk' mv 850))
  let sum := dynSum g ns
  let g' := (ns.zipIdx).foldl (fun h x =>
    if x.1 = 0 then h else h.setDyn x.2 (toward (g.dyn x.2) ((rest.mul ((g.dyn x.2).div sum)).div (dynScale p mv)))) g
  let g' := if idle then { g' with leak := toward g.leak (meas.div (Q.mk' mv 850)) } else g'
  { g' with samples := g.samples + 1 }

/-- After an edge, the signatures move toward the pound that ended (R422). -/
def State.powerLearn (s : State) (mw : List Nat) : State :=
  if s.pwr.st ≠ 0 ∨ s.fld .pwr 0 Off.pwrCtrl 0 1 = 0 then s
  else (List.range 2).foldl (fun s d =>
    let x := s.dom d
    let g := (s.sig d).learn ((s.onDie d).isEmpty) (s.classes d) x.point x.volt (mw.getD d 0)
    { s with pwr := { s.pwr with sigs := Tbl.put s.pwr.sigs d g } }) s

/-- SIG_RESET: `PWR_SIG_RESET` restores the defaults of R422. -/
def execSigReset (src : Source) (v : Word) (s : State) : Host.Outcome State Fault Refusal :=
  .next (if s.reachesBlock src ∧ bitAt v.toNat 0 then
      { s with pwr := { s.pwr with sigs := s.pwr.sigs.map fun e => (e.1, { ({} : PwrSig) with samples := e.2.samples }) } }
    else s)

/-! ### Step 6: points, margins and refresh (R414, R415, R426, R429 to R432) -/

/-- VSTEP_FAULT: the second within 1,024 edges is DEVICE (R415, R439). -/
def State.vstepFault (s : State) (d : Nat) : State :=
  let again := match (s.dom d).vstepAge with
    | some n => decide (n < 1024)
    | none => false
  (s.modDom d fun x => { x with vstepAge := some 0 }).raisePage .pwr 0 0x12 (if again then 2 else 0)

/-- A C-die takes its planned point; a rail that has not reached its raised target keeps the old one (R414, R415). -/
def State.applyPoint (s : State) (d : Nat) (late : Bool) : State :=
  let x := s.dom d
  let p := min (x.planned.getD x.point) x.maxPoint
  let stuck := late && decide (x.point < p)
  let q := if stuck then x.point else p
  let s := s.modDom d fun x => { x with planned := none, vstepAge := x.vstepAge.map (· + 1) }
  let s := if stuck then s.vstepFault d else s
  s.modDom d fun x => { x with point := q, volt := s.railAt d q }

/-- The applied MARGIN moves at most 5 mV toward the plan; below GB_MIN it rises 5 mV whatever the plan holds (R430). -/
def State.marginStep (s : State) (d : Nat) : State :=
  let x := s.dom d
  let m := if x.gbLow then min 100 (x.margin + 5)
    else if x.margin < x.plan then min x.plan (x.margin + 5)
    else max x.plan (x.margin - 5)
  (s.modDom d fun x => { x with margin := m }).fitPoints d false

/-- The guard band of a domain sampled at an edge; MARGIN_LOW when it falls below GB_MIN (R429, R430). -/
def State.guardBand (s : State) (d gb ro : Nat) : State :=
  let low := decide (gb < s.fld .age 0 Off.ageGb 8 8)
  let was := (s.dom d).gbLow
  let s := s.modDom d fun x => { x with gb := gb, ro := ro, gbLow := low }
  if low && !was then s.raisePage .age 0 0x10 0 else s

/-- The droop step of a C-die after a pound: 5 mV up to 20 mV beyond LIMIT sluices, 5 mV down after 1,024 calm edges (R426). -/
def State.droopStep (s : State) (d : Nat) : State :=
  let x := s.dom d
  if s.fld .pwr 0 Off.pwrSluiceCfg 8 16 < x.sluices then
    let up := min 20 (x.droop + 5)
    let s := s.setPlan d (min 100 (x.plan + (up - x.droop))) 2
    (s.modDom d fun x => { x with droop := up, sluices := 0, calm := 0 }).raisePage .pwr 0 0x15 0
  else if x.sluices ≠ 0 then s.modDom d fun x => { x with sluices := 0, calm := 0 }
  else if x.calm + 1 < 1024 then s.modDom d fun x => { x with calm := x.calm + 1 }
  else
    let down := x.droop - 5
    let s := s.setPlan d (x.plan - (x.droop - down)) 2
    s.modDom d fun x => { x with droop := down, calm := 0 }

/-- The refresh multiplier the sentinels chose is applied and logged (R431 to R433). -/
def State.applyRefresh (s : State) : State :=
  (List.range 4).foldl (fun s m =>
    let new := Tbl.get s.age.refresh m 0
    if s.fld .age 0 (Off.ageRetention + 4 * m) 16 2 = new then s
    else (s.setFld .age 0 (Off.ageRetention + 4 * m) 16 2 new).logEvent 0x07 [m, new]) s

/-- The readings of a domain's working sensors, those of the stack left out or not. -/
def State.temps (s : State) (d : Nat) (stack : Bool) : List Int :=
  let lo := if d < 2 then 64 * d else if d < 6 then 128 + 16 * (d - 2) else 192
  let n := if d < 2 then 64 else if d < 6 ∧ !stack then 8 else 16
  (List.range n).filterMap fun i => if s.thm.failed.contains (lo + i) then none else some (sext (Tbl.get s.thm.reading (lo + i) 0).toNat 12)

/-- The thermal limit of the C-dies at an edge: down one point from 105 °C, up one per 100 edges at 100 °C and below (R428). -/
def State.thermalLimit (s : State) : State :=
  let ts := (List.range 6).flatMap fun d => s.temps d false
  let hot := ts.any fun t => decide (420 ≤ t)
  let cool := ts.all fun t => decide (t ≤ 400)
  let s := (List.range 2).foldl (fun s d => s.modDom d fun x =>
    if hot then { x with thermMax := x.thermMax - 1, coolEdges := 0 }
    else if cool then
      if x.coolEdges + 1 < 100 then { x with coolEdges := x.coolEdges + 1 } else { x with thermMax := min 14 (x.thermMax + 1), coolEdges := 0 }
    else x) s
  let s := (List.range 2).foldl (fun s d => if (s.temps d true).isEmpty then s.modDom d fun x => { x with thermMax := 0 } else s) s
  if (s.dom 0).thermMax < 14 ∨ (s.dom 1).thermMax < 14 then s.count .thm 0 Off.thmThrottleEdges else s

/-- Step 6 of an edge: points, margins, refresh (R56, R414, R430, R431). -/
def State.powerStep6 (s : State) (e : EdgeIn) : State :=
  let s := if s.pwr.st = 0 then (List.range 2).foldl (fun s d => s.applyPoint d (e.railLate.toNat.testBit d)) s else s
  let s := (List.range 7).foldl (fun s d => s.guardBand d (e.gb.getD d 0) (e.ro.getD d 0)) s
  let s := (List.range 2).foldl State.droopStep s
  ((List.range 7).foldl State.marginStep s).applyRefresh

/-- MARGIN_STEP_WHILE_STOPPED: while the tick is stopped the margins move every 10 µs (R430). -/
def execMarginStepWhileStopped (s : State) : Host.Outcome State Fault Refusal :=
  .next (if s.ticking ∨ !s.diesOn then s else (List.range 7).foldl State.marginStep s)

/-! ### Energy meters (R427) -/

/-- ENERGY_METER_TICK: every 1 µs the energy is charged to the contexts' meters; the package meter sums them (R427, R433). -/
def execEnergyMeterTick (uJ : List (Nat × Nat)) (s : State) : Host.Outcome State Fault Refusal :=
  .next (if s.rst.inReset then s
    else
      let s := uJ.foldl (fun s x => s.modCtx (x.1 % 256) fun c => { c with poundEnergy := c.poundEnergy + x.2 }) s
      let all := s.pwr.energyRem + (uJ.map (·.2)).sum
      let s := { s with pwr := { s.pwr with energyRem := all % 1000 }, age := { s.age with energy := s.age.energy + all / 1000 } }
      s.count64 .pwr 0 Off.pwrEnergyLo (all / 1000))

/-- At an edge every meter adds the pound's charge, and LAST_POUND reports it (R427). -/
def State.meterEdge (s : State) : State :=
  (List.range 256).foldl (fun s k =>
    let c := s.ctx k
    let v := BitVec.ofNat 32 c.poundEnergy
    let s := if s.rd .vpwr k Off.pwrCtxLastPound = v then s else s.wr .vpwr k Off.pwrCtxLastPound v
    if c.poundEnergy = 0 then s
    else
      let all := c.energyRem + c.poundEnergy
      (s.count64 .vpwr k Off.pwrCtxEnergyLo (all / 1000)).modCtx k fun c => { c with poundEnergy := 0, energyRem := all % 1000 }) s

/-! ### The cap, the brake and the sluice (R417 to R419, R426) -/

/-- A cap takes effect at step 3: the previous cap's bounds continue for their times (R417). -/
def State.capChanged (s : State) (old : Nat) : State :=
  if s.fld .pwr 0 Off.pwrCap 0 9 = old then s else { s with pwr := { s.pwr with capSamples := 0 } }

/-- POWER_SAMPLE: every 10 µs the averages are measured and held against the bounds; a breach raises CAP_EXCEEDED once (R417, R418). -/
def execPowerSample (p : PowerIn) (s : State) : Host.Outcome State Fault Refusal :=
  .next (if s.rst.inReset then s
    else
      let cap := s.fld .pwr 0 Off.pwrCap 0 9
      let n := min 100000 (s.pwr.capSamples + 1)
      let q := s.pwr
      let s := { s with pwr := { q with
        avg1ms := p.avg1ms, avg1s := p.avg1s, m1ms := ((p.dom.drop 2).take 4).sum, x1ms := p.dom.getD 6 0, capSamples := n,
        capMs := if 100 ≤ n then cap else q.capMs,
        capS := if 100000 ≤ n then cap else q.capS } }
      let s := s.wr .pwr 0 Off.pwrAvg (BitVec.ofNat 32 (packFields [(0, 16, p.avg1ms), (16, 16, p.avg1s)]))
      let s := (List.range 7).foldl (fun s d => s.wr .pwr 0 Off.pwrDomPower (BitVec.ofNat 16 (p.dom.getD d 0 / 10) |>.setWidth 32) d) s
      let breach := decide (s.pwr.capMs * 1050 < p.avg1ms * 100) || decide (s.pwr.capS * 10 < p.avg1s)
      let was := s.pwr.capBreach
      let s := { s with pwr := { s.pwr with capBreach := breach } }
      if breach && !was then (s.raisePage .pwr 0 0x10 0).logEvent 0x08 [p.avg1ms, p.avg1s, 10 * cap] else s)

/-- BRAKE_ADJUST: the duty rises above cap × 1.04 and falls below the cap, never under what heat imposes (R419, R428). -/
def execBrakeAdjust (s : State) : Host.Outcome State Fault Refusal :=
  .next (if s.rst.inReset then s
    else
      let cap := 10 * s.fld .pwr 0 Off.pwrCap 0 9
      let a := s.pwr.avg1ms
      let d := s.pwr.brake
      let d := if cap * 104 < a * 100 then min 15 (d + 1) else if a < cap then d - 1 else d
      { s with pwr := { s.pwr with brake := max d s.pwr.brakeMin } })

/-- SLUICE: a droop doubles a cluster's clock period and is counted (R426). -/
def execSluice (cluster : Fin 32) (s : State) : Host.Outcome State Fault Refusal :=
  .next (if !s.diesOn ∨ s.pwr.sluiced.getLsbD cluster then s
    else
      let s := { s with pwr := { s.pwr with sluiced := s.pwr.sluiced ||| BitVec.ofNat 32 (2 ^ cluster.val) } }
      (s.count .pwr 0 Off.pwrSluices).modDom (cluster / 16) fun x => { x with sluices := x.sluices + 1 })

/-- SLUICE_END: the cluster's clock is restored (R426). -/
def execSluiceEnd (cluster : Fin 32) (s : State) : Host.Outcome State Fault Refusal :=
  .next { s with pwr := { s.pwr with sluiced := s.pwr.sluiced &&& ~~~(BitVec.ofNat 32 (2 ^ cluster.val)) } }

/-- AVS_READBACK: a Status fault, or two readings in a row more than 15 mV off the target, raise REG_FAULT (R414, R439, R445). -/
def execAvsReadback (mv : List (Nat × Bool)) (s : State) : Host.Outcome State Fault Refusal :=
  .next (if s.rst.inReset ∨ !s.rst.ready then s
    else (List.range 7).foldl (fun s d =>
      let x := s.dom d
      let (r, fault) := mv.getD d (x.volt, false)
      if x.point = 15 then s
      else
        let off := decide (x.volt + 15 < r) || decide (r + 15 < x.volt)
        let bad := fault || (off && decide (1 ≤ x.avsOff))
        let s := s.modDom d fun x => { x with avsOff := if off then x.avsOff + 1 else 0 }
        if bad then s.raisePage .pwr 0 0x13 2 else s) s)

/-! ### Power states (R423 to R425) -/

/-- IDLE_ENTRY: after `PWR_IDLE_AFTER` µs with the tick stopped and no step running, the move to D0-IDLE begins (R424). -/
def execIdleEntry (s : State) : Host.Outcome State Fault Refusal :=
  .next (if s.rst.ready ∧ !s.rst.inReset ∧ s.pwr.st = 0 ∧ s.pwr.pend = none ∧ !s.ticking ∧ s.lkp.starting = none
      ∧ (s.ctxs.all fun e => e.2.step.isNone) ∧ !s.hwd.fatal
    then { s with pwr := { s.pwr with pend := some 1 } } else s)

/-- PWR_STATE_REQ.GO: a D3 request is accepted only from D0-IDLE, outside a stop and with no plan ARMED (R424). -/
def execPwrStateReq (src : Source) (v : Word) (s : State) : Host.Outcome State Fault Refusal :=
  .next (if !s.reachesBlock src then s
    else
      let s := s.writeReg src ⟨.pwr, 0⟩ Off.pwrStateReq v
      let t := bitsAt v.toNat 0 2
      if !bitAt v.toNat 8 ∨ t = 1 ∨ t = 3 then s
      else if t = 0 then (if s.pwr.st = 2 ∧ s.pwr.pend = none then { s with pwr := { s.pwr with pend := some 1 } } else s)
      else if s.pwr.st = 1 ∧ s.pwr.pend = none ∧ s.rst.ready ∧ !s.isStopped ∧ (List.range 32).all (fun i => (s.plan i).st != .armed)
      then { s with pwr := { s.pwr with pend := some 2 } }
      else s.raisePage .pwr 0 0x14 0)

/-- A register of a C-die or M-die page; the coach-table registers go with the coach-yard tables (R425). -/
def dieReg (a : Nat) : Bool :=
  let a := a % 2 ^ 26
  (decide (0x400000 ≤ a) && decide (a < 0x3000000)) &&
    !((a / 0x1000 == 0x412) && decide (Off.cydTableLo ≤ a % 0x1000) && decide (a % 0x1000 ≤ Off.cydTableSize))

/-- Rails of the idle dies: C-dies at their point 0, M-dies at their point-0 voltage (R423). -/
def State.idleRails (s : State) : State :=
  let s := (List.range 2).foldl (fun s d => s.modDom d fun x => { x with point := if (s.vf d 0).isSome then 0 else basePoint d, volt := s.railAt d 0, planned := none }) s
  (List.range 4).foldl (fun s m => s.modDom (2 + m) fun x => { x with point := 10, volt := s.railAt (2 + m) 0 }) s

/-- Entry to D3-RETAIN: C-dies and M-die logic off, cluster state, wharfs, translation and data caches discarded, link transmitters off (R425). -/
def State.enterRetain (s : State) : State :=
  let s := { s with cores := [], clusters := [], regs := s.regs.filter fun r => !dieReg r.1 }
  let s := s.modMem fun m => { m with tlb := [] }
  let s := (List.range 6).foldl (fun s d => s.modDom d fun x => { x with point := 15, volt := 0, planned := none }) s
  let s := (List.range 18).foldl State.dropLink s
  { s with pwr := { s.pwr with st := 2, pend := none, sluiced := 0 } }

/-- POWER_STATE_DONE: the transition in progress completes (R424, R425). -/
def execPowerStateDone (s : State) : Host.Outcome State Fault Refusal :=
  .next (match s.pwr.pend with
    | none => s
    | some t =>
      if t = 2 then s.enterRetain
      else
        let s := if t = 1 then s.idleRails else (List.range 4).foldl (fun s m => s.modDom (2 + m) fun x => { x with volt := s.railAt (2 + m) 10 }) s
        { s with pwr := { s.pwr with st := t, pend := none } })

/-! ### Sensors (R428) -/

/-- The hottest of some readings. -/
def hottest (ts : List Int) : Option Int := ts.foldl (fun a t => match a with
  | none => some t
  | some m => some (max m t)) none

/-- A reading in quarter degrees as whole °C of 8 bits. -/
def degrees (t : Int) : Nat := (t / 4).toNat % 256

/-- The part trips: THERMTRIP_N falls, the dies freeze, THERMTRIP is raised once (R428). -/
def State.trip (s : State) : State :=
  if s.thm.trip then s
  else
    let s := { s with thm := { s.thm with trip := true } }
    if s.rst.inReset then s else (s.logEvent 0x06 [1]).raisePage .thm 0 0x14 3

/-- The sensors are read: failed ones are excluded and raise SENSOR_FAULT (R428). -/
def State.readSensors (s : State) (rs : List (Option (BitVec 12))) : State :=
  (rs.zipIdx).foldl (fun s x =>
    let t := s.thm
    match x.1 with
    | some v => { s with thm := { t with reading := Tbl.set t.reading x.2 v 0, failed := t.failed.filter (· != x.2) } }
    | none =>
      if t.failed.contains x.2 then s
      else ({ s with thm := { t with failed := insertBy (fun a b => decide (a ≤ b)) x.2 t.failed } } : State).raisePage .thm 0 0x13 0) s

/-- The responses of a domain: its maximum, THERMAL_WARN once per crossing, point 0 with every sensor failed (R428, R437). -/
def State.domainHeat (s : State) (d : Nat) : State :=
  match hottest (s.temps d true) with
  | none => s.modDom d fun x => { x with thermMax := 0 }
  | some t =>
    let s := s.wr .thm 0 (Off.thmDomMax + 4 * d) (BitVec.ofNat 32 (degrees t))
    let warm := decide ((4 * s.fld .thm 0 Off.thmWarn 0 8 : Nat) ≤ t)
    let was := (s.dom d).warned
    let s := s.modDom d fun x => { x with warned := warm }
    if warm && !was then s.raisePage .thm 0 0x10 0 else s

/-- A stack's hottest sensor: refresh doubles from 85 °C until below 80 °C (R428). -/
def State.stackHeat (s : State) (m : Nat) : State :=
  match hottest ((s.temps (2 + m) true).drop (s.temps (2 + m) false).length) with
  | none => s
  | some t =>
    let s := s.setFld .thm 0 Off.thmStackMax (8 * m) 8 (degrees t)
    let was := s.thm.hot.getLsbD m
    let hot := if was then decide (320 ≤ t) else decide (340 ≤ t)
    let bit := BitVec.ofNat 4 (2 ^ m)
    let s := { s with thm := { s.thm with hot := if hot then s.thm.hot ||| bit else s.thm.hot &&& ~~~bit } }
    if hot && !was then s.raisePage .thm 0 0x12 0 else s

/-- One more sample of 100 µs: each full minute counts power-on time and the domains' temperature bins (R433). -/
def State.minute (s : State) : State :=
  let n := s.thm.samples + 1
  if n < 600000 then { s with thm := { s.thm with samples := n } }
  else
    let bin := fun d => let t := s.fld .thm 0 (Off.thmDomMax + 4 * d) 0 8
      if t < 45 then 0 else if 115 ≤ t then 15 else (t - 40) / 5
    let h := (List.range 7).foldl (fun h d => Tbl.set h (16 * d + bin d) (Tbl.get h (16 * d + bin d) 0 + 1) 0) s.age.histo
    { s with thm := { s.thm with samples := 0 }, age := { s.age with poh := s.age.poh + 1, histo := h } }

/-- Some reading reaches a number of quarter degrees. -/
def anyAtLeast (ts : List Int) (q : Int) : Bool := ts.any fun t => decide (q ≤ t)

/-- THROTTLE is raised when a C-die or M-die logic sensor reaches 105 °C, and again only after all were back at 100 °C (R428). -/
def State.throttleHeat (s : State) : State :=
  let dies := (List.range 6).flatMap fun d => s.temps d false
  let hot := anyAtLeast dies (if s.thm.throttling then 401 else 420)
  let t := { s with thm := { s.thm with throttling := hot } }
  if hot && !s.thm.throttling then (t.raisePage .thm 0 0x11 0).logEvent 0x06 [0] else t

/-- At 110 °C the brake duty is at least 8, until every domain is below 108 °C (R428). -/
def State.brakeHeat (s : State) (all : List Int) : State :=
  let least := if anyAtLeast all (if s.pwr.brakeMin = 8 then 432 else 440) then 8 else 0
  { s with pwr := { s.pwr with brakeMin := least, brake := max least s.pwr.brake } }

/-- The readings of every working sensor. -/
def State.allTemps (s : State) : List Int := (List.range 7).flatMap fun d => s.temps d true

/-- THERMAL_SAMPLE: every 100 µs all sensors are read and the responses applied (R428). -/
def execThermalSample (readings : List (Option (BitVec 12))) (s : State) : Host.Outcome State Fault Refusal :=
  .next (if s.rst.inReset then s
    else
      let s := s.readSensors readings
      let s := (List.range 7).foldl State.domainHeat s
      let s := ((List.range 4).foldl State.stackHeat s).throttleHeat
      let s := s.brakeHeat s.allTemps
      (if anyAtLeast s.allTemps 460 then s.trip else s).minute)

/-- THERMTRIP_N_ASSERT: the hardware path of a sensor at 115 °C, independent of firmware and kept through a reset hold (R394, R428). -/
def execThermtripNAssert (_sensor : BitVec 8) (s : State) : Host.Outcome State Fault Refusal := .next s.trip

/-! ### Ageing (R429 to R432) -/

/-- REPLAN: `AGE_CMD.REPLAN` starts a re-plan (R430). -/
def execReplan (src : Source) (v : Word) (s : State) : Host.Outcome State Fault Refusal :=
  .next (if s.reachesBlock src ∧ bitAt v.toNat 0 then { s with age := { s.age with busy := true } } else s)

/-- REPLAN_DONE: the new MARGINs are the plan; points are retired or restored (R413, R430). -/
def execReplanDone (plan : List Nat) (s : State) : Host.Outcome State Fault Refusal :=
  .next (if !s.age.busy then s
    else
      let s := { s with age := { s.age with busy := false } }
      (List.range 7).foldl (fun s d => (s.setPlan d (plan.getD d (s.dom d).plan) 1).fitPoints d true) s)

/-- The multiplier a retention calls for: 0 = 1, 1 = 1.25, 2 = 1.5, 3 = 2 (R432). -/
def refreshCode (ms regular : Nat) : Nat := if 4 * regular ≤ ms then 0 else if 3 * regular ≤ ms then 1 else if 2 * regular ≤ ms then 2 else 3

/-- RETENTION_SAMPLE: the hourly sentinels choose each M-die's multiplier for the next step 6; a new hour of corrections begins (R220, R429, R432). -/
def execRetentionSample (ms : List Nat) (s : State) : Host.Outcome State Fault Refusal :=
  .next (if !s.diesOn then s
    else
      let s := s.modMem fun m => { m with ceHour := [] }
      (ms.zipIdx).foldl (fun s x =>
        let c := refreshCode x.1 Config.refreshInterval
        let s := s.setFld .age 0 (Off.ageRetention + 4 * x.2) 0 16 x.1
        let s := { s with age := { s.age with refresh := Tbl.put s.age.refresh x.2 c } }
        if c = 3 then s.raisePage .age 0 0x12 0 else s) s)

/-- EYE_SAMPLE: every second the eyes of the lanes of UP links; one below `AGE_EYE_MIN` raises EYE_LOW for its link (R429, R432). -/
def execEyeSample (eyes : List (Nat × Nat)) (s : State) : Host.Outcome State Fault Refusal :=
  .next (if s.rst.inReset then s
    else (List.range 18).foldl (fun s l =>
      if (s.link l).st ≠ .up then s
      else
        let mine := (List.range 4).map fun i => (4 * l + i, eyes.getD (4 * l + i) (0, 0))
        let s := { s with age := { s.age with eyes := mine.foldl (fun t e => Tbl.put t e.1 (e.2.1 % 1024, e.2.2 % 1024)) s.age.eyes } }
        if mine.any fun e => decide (e.2.1 < s.fld .age 0 Off.ageEyeMin 0 10) then s.raisePage .age 0 0x13 0 else s) s)

/-! ### The lifetime log (R433, R434) -/

/-- Dravner works: released, running and not restarting (R376, R404). -/
def State.dravnerUp (s : State) : Bool := !s.rst.inReset && s.rst.ready && s.rst.drv.isSome && !s.hwd.restarting

/-- The summary block (R433). -/
def State.summaryBlock (s : State) : List Byte :=
  let a := s.age
  let head : List Byte := [Config.summaryMagic.toNat, a.sumSeq + 1, 4092, a.poh].flatMap (toBytes 4)
  let energy := toBytes 8 a.energy
  let counts := toBytes 4 s.bkp.resets ++ toBytes 4 a.unlocks
  let doms : List Byte := fit 32 0 ((List.range 7).flatMap fun d => [BitVec.ofNat 8 (s.dom d).plan, BitVec.ofNat 8 (s.dom d).droop, BitVec.ofNat 8 (s.dom d).maxPoint, 0])
  let histo := (List.range 112).flatMap fun i => toBytes 4 (Tbl.get a.histo i 0)
  let codes : List Byte := fit 1024 0 (a.codes.flatMap fun c => toBytes 2 c.1 ++ toBytes 2 c.2.1 ++ toBytes 4 c.2.2)
  let body : List Byte := fit 4092 0 (head ++ energy ++ counts ++ doms ++ histo ++ codes)
  body ++ toBytes 4 (crc32c body)

/-- LOG_SUMMARY_WRITE: Dravner writes the copy that is not current; deferred during a restart (R433, R434). -/
def execLogSummaryWrite (s : State) : Host.Outcome State Fault Refusal :=
  .next (if !s.dravnerUp then s
    else
      let b := s.summaryBlock
      let s := { s with age := { s.age with sumSeq := s.age.sumSeq + 1 } }
      if s.flash.summary = s.flash.sum0 ∧ s.flash.sum0 ≠ [] then { s with flash := { s.flash with sum1 := b } } else { s with flash := { s.flash with sum0 := b } })

/-- LOG_RING_RECORD_WRITE: the oldest waiting event becomes a ring record; a failed read-back raises LOG_FAULT (R433, R434, R439). -/
def execLogRingRecordWrite (readBackOk : Bool) (s : State) : Host.Outcome State Fault Refusal :=
  .next (if !s.dravnerUp then s
    else match s.age.events with
      | [] => s
      | (typ, tick, ws) :: rest =>
        let body := fit 60 0 (toBytes 4 (typ.toNat + s.age.poh % 2 ^ 24 * 256) ++ toBytes 8 tick ++ ws.flatMap fun w => toBytes 4 w.toNat)
        let (n, s) := s.draw
        let b := if readBackOk then body ++ toBytes 4 (crc32c body) else (List.range 64).map (Config.flashByte n)
        let s := { s with
          flash := { s.flash with ring := Tbl.put s.flash.ring (s.age.logHead % 16384) b },
          age := { s.age with events := rest, logHead := s.age.logHead + 1 } }
        if readBackOk then s else s.raisePage .age 0 0x14 0)

/-! ### The rack manager (R421) -/

/-- A PLDM answer: a completion code (0 success, 1 error) and data (PRESUMED DSP0240). -/
def State.pldmSay (s : State) (code : Byte) (data : List Byte) : State := s.emit (.mctp (code :: data))

/-- SET_NUMERIC_EFFECTER_VALUE: effecter 1 writes `PWR_CAP` in W; anything outside its range or its steps is refused (R417, R421). -/
def execSetNumericEffecterValue (id : BitVec 16) (value : Word) (s : State) : Host.Outcome State Fault Refusal :=
  .next (if !s.dravnerUp then s
    else if id = 1 ∧ 900 ≤ value.toNat ∧ value.toNat ≤ 3000 ∧ value.toNat % 10 = 0 then
      (s.writeReg .towpath ⟨.pwr, 0⟩ Off.pwrCap (BitVec.ofNat 32 (value.toNat / 10))).pldmSay 0 []
    else s.pldmSay 1 [])

/-- The reading of a sensor by ID (R421). -/
def State.sensorValue (s : State) (id : Nat) : Option Nat :=
  if id = 2 then some s.pwr.avg1ms
  else if id = 3 then some s.pwr.avg1s
  else if 4 ≤ id ∧ id ≤ 10 then some (s.fld .thm 0 (Off.thmDomMax + 4 * (id - 4)) 0 8)
  else if id = 11 then some s.gbMin
  else if id = 12 then some s.pwr.st.toNat
  else none

/-- GET_SENSOR_READING: the rack manager reads a sensor (R421). -/
def execGetSensorReading (id : BitVec 16) (s : State) : Host.Outcome State Fault Refusal :=
  .next (if !s.dravnerUp then s
    else match s.sensorValue id.toNat with
      | some v => s.pldmSay 0 (toBytes 4 v)
      | none => s.pldmSay 1 [])

end Sys2Proof.Machine
end

