-- ==== Sys2Proof/Machine/Staged.lean ====
section
/-! DEFINITION. Step 3 of an edge: staged T fields and commands take effect (R11, R12, R54, R310, R333, R334, R340, R350, R352), the clearing of a cluster that changes hands (R336), and the start and stop of the tick (R73). -/

namespace Sys2Proof.Machine

/-! ### Clearing a cluster (R101, R125, R151, R179, R336) -/

/-- What every clearing event does to a core: engines cleared, queues emptied, no kernel (R101, R125, R151, R179, R258); the data cache invalidated. -/
def Core.clearWork (c : Core) : Core :=
  { (c.clearMxa.clearDrn.clearVec.clearAtp.clearDma) with kernel := none, wait := .running, scb := [], port := [], dcache := [], carts := [] }

/-- A core whose cluster changes hands: the wharf and the scalar registers are zeroed as well (R336). -/
def Core.handOver (c : Core) : Core := { c.clearWork with wharf := [], sregs := [] }

/-- The merge unit and the sync counters of a cluster are cleared (R179, R245). -/
def Cluster.clearWork (c : Cluster) : Cluster := { c.clearMrg with sync := [] }

/-- The cores of a cluster (R16). -/
def coresOf (c : Nat) : List Nat := (List.range 16).map fun i => 16 * c + i

/-- The hand-over clearing of R336: every core and the cluster's own units; the cores' cached translations are dropped. -/
def State.zeroCluster (s : State) (c : Nat) : State :=
  let s := (coresOf c).foldl (fun s n => (s.modCore n Core.handOver).count .dch n Off.dchInval) s
  (s.modCluster c Cluster.clearWork).modMem fun m => { m with tlb := m.tlb.filter fun e => e.unit / 16 != c }

/-! ### Staged fields -/

/-- The word of a register at a stored address. -/
def State.regAtAddr (s : State) (addr : Nat) : Word :=
  match pageOf (addr % 2 ^ 26) with
  | some p => Tbl.get s.regs addr (resetOf p.kind (addr % 0x1000))
  | none => 0

/-- A field of a register becomes the staged value. -/
def State.putStaged (s : State) (addr : Nat) (mask val : Word) : State :=
  { s with regs := Tbl.put s.regs addr ((s.regAtAddr addr &&& ~~~mask) ||| (val &&& mask)) }

/-- A staged field waits beyond edge `t`: PERIOD and GUARD for `LKP_SWITCH_AT`, ROLE and LINKS for their port's `LPT_SWITCH_AT` (R54, R310). -/
def State.staysStaged (s : State) (t : Nat) (addr : Nat) : Bool :=
  match pageOf addr with
  | some ⟨.lkp, _⟩ =>
    (addr % 0x1000 == Off.lkpTickPeriod || addr % 0x1000 == Off.lkpGuard) && decide (t < s.rd64 .lkp 0 Off.lkpSwitchAtLo)
  | some ⟨.lpt, p⟩ =>
    (addr % 0x1000 == Off.lptCfg || addr % 0x1000 == Off.lptLinks) && decide (t < s.rd64 .lpt p Off.lptSwitchAtLo)
  | _ => false

/-- The plan-binding field is written: the plan's OVR_POLICY goes to the context (R295). -/
def State.bindPolicy (s : State) (k : Nat) : State :=
  match s.slotOf k with
  | some i => if (s.plan i).held then s.setFld .vlkp k Off.lkpCtxCtrl 1 1 (b2n (planAbort (s.plan i).plan)) else s
  | none => s

/-- Cache registers of a context, as one number: a change frees its slots (R263). -/
def State.cacheRegs (s : State) (k : Nat) : Nat × Nat × Nat :=
  (s.rd64 .rte 0 Off.rteCtxCacheLo k, s.fld .rte 0 Off.rteCtxCacheCfg 0 5 k, s.rtSlots k)

/-- A staged field takes effect, with what its new value entails. -/
def State.applyStagedField (s : State) (addr : Nat) (mask val : Word) : State :=
  let k := addr / 2 ^ 26
  match pageOf (addr % 2 ^ 26) with
  | some ⟨.fce, _⟩ =>
    let t := s.putStaged addr mask val
    if addr % 0x1000 = Off.fceCtxPlan then t.bindPolicy k else t
  | some ⟨.rte, _⟩ =>
    let t := s.putStaged addr mask val
    if t.cacheRegs k = s.cacheRegs k then t else (s.rtFlushCache k).putStaged addr mask val
  | some ⟨.lpt, _⟩ => (s.putStaged addr mask val).portsCheck
  | _ => s.putStaged addr mask val

/-! ### Staged commands -/

/-- DEACTIVATE takes effect (R334). -/
def State.deactivateNow (s : State) (k : Nat) : State :=
  (s.modCtx k fun c => { c with
    st := .inactive, key := none, psk := [], sessions := [], active := none, prevReq := none, keySwitch := none,
    openMark := 0, dropsAtEdge := 0, preread := none, trace := [] }).wr .vsec k Off.secCtxDrops 0

/-- ACTIVATE takes effect: a key is drawn and loaded into the slot (R333, R334). -/
def State.activateNow (s : State) (k : Nat) : State :=
  if s.dbg.st = 2 ∨ !s.sec.rngOk then s.modCtx k fun c => { c with st := .inactive }
  else
    let s := { s with sec := { s.sec with keyGen := s.sec.keyGen + 1 } }
    s.modCtx k fun c => { c with st := .active, key := some s.sec.keyGen }

/-- Entry to FIELD: every tenant's key is destroyed, tenants' clusters are cleared, the capture buffer, the retransmit buffer and the sampler are zeroed (R352); the entry is logged (R359, R433). -/
def State.enterField (s : State) : State :=
  let tenants := (s.ctxs.map (·.1)).filter fun k => k != 0 && ((s.ctx k).st == .active || (s.ctx k).st == .activating)
  let s := tenants.foldl State.deactivateNow s
  let s := ((List.range 32).filter fun c => match (s.cluster c).lastOwner with
    | some k => k != 0
    | none => false).foldl State.zeroCluster s
  let s := { s with
    hwd := { s.hwd with cap := [], capNo := 0 },
    fce := { s.fce with retx := [] },
    srv := { s.srv with smpQ := [], units := [], berths := s.srv.berths.map fun (e : Nat × SrvBerth) => (e.1, { e.2 with drbg := {}, drbgW := {} }) },
    age := { s.age with unlocks := s.age.unlocks + 1 } }
  s.logEvent 0x05 []

/-- A debug-state change takes effect; leaving TENANT zeroes every trace window (R350). -/
def State.debugNow (s : State) (target : BitVec 2) : State :=
  let s := if s.dbg.st = 1 ∧ target ≠ 1 then { s with ctxs := s.ctxs.map fun e => (e.1, { e.2 with trace := [] }) } else s
  let s := if target = 2 ∧ s.dbg.st ≠ 2 then s.enterField else s
  { s with dbg := { s.dbg with st := target, pend := none } }

/-- One staged item takes effect. -/
def State.applyItem (s : State) (x : Staged) : State :=
  match x with
  | .field a m v => s.applyStagedField a m v
  | .activate k => s.activateNow k
  | .deactivate k => s.deactivateNow k
  | .xlatInv none => s.modMem fun m => { m with tlb := [] }
  | .xlatInv (some k) => s.modMem fun m => { m with tlb := m.tlb.filter fun e => e.ctx != k }
  | .debug t => s.debugNow t

/-- The keys of the newest finished session become active (R340). -/
def State.switchKeys (s : State) (k : Nat) : State :=
  let c := s.ctx k
  match c.keySwitch.bind fun sid => c.sessions.find? fun x => x.sid == sid with
  | none => s
  | some x => s.modCtx k fun c => { c with
      active := some ⟨x.sid, x.kman, x.kreq, x.krsp⟩, prevReq := c.active.map (·.kreq), keySwitch := none, openMark := 0,
      preread := c.preread.map fun r => { r with tagOk := none } }

/-- Every staged item that may take effect at edge `t` does, in acceptance order; `LKP_SWITCH_AT` before the values that wait for it (R11, R12, R54). -/
def State.applyStaged (s : State) (t : Nat) : State :=
  let isSwitch := fun (x : Staged) => match x with
    | .field a _ _ => a == regKey .lkp 0 Off.lkpSwitchAtLo 0 || a == regKey .lkp 0 Off.lkpSwitchAtHi 0
    | _ => false
  let items := s.staged
  let s := (items.filter isSwitch).foldl State.applyItem s
  let waits := fun (x : Staged) => match x with
    | .field a _ _ => s.staysStaged t a
    | _ => false
  let rest := items.filter fun x => !isSwitch x
  let s := { s with staged := rest.filter waits }
  let s := (rest.filter fun x => !waits x).foldl State.applyItem s
  (s.ctxs.map (·.1)).foldl State.switchKeys s

/-! ### The tick starts and stops (R12, R73, R424) -/

/-- A number no edge carries: tick numbers have 48 bits (R51). -/
def noEdge : Nat := 2 ^ 48

/-- While the tick is stopped every staged item but those that wait for an edge takes effect (R12, R414). -/
def State.applyStopped (s : State) : State :=
  let cap := s.fld .pwr 0 Off.pwrCap 0 9
  let s := (s.applyStaged 0).planStep3 noEdge
  let s := if s.pwr.st = 0 ∧ s.diesOn then (s.powerRecompute) else s
  let s := if s.pwr.st = 0 ∧ s.diesOn then (List.range 2).foldl (fun s d => s.applyPoint d false) s else s
  s.capChanged cap

/-- STAGED_APPLY_WHILE_STOPPED (R12). -/
def execStagedApplyWhileStopped (s : State) : Host.Outcome State Fault Refusal :=
  .next (if s.ticking ∨ s.lkp.starting.isSome ∨ s.rst.inReset then s else s.applyStopped)

/-- LKP_TICK_LOAD (R73). -/
def State.tickLoad (s : State) : Nat := s.rd64 .lkp 0 Off.lkpTickLoadLo

/-- The tick is to start: what was staged before takes effect first, the device leaves D0-IDLE (R12, R73, R424). -/
def State.startTick (s : State) : State :=
  let s := s.applyStopped
  let lkp : Lkp := { s.lkp with starting := some s.tickLoad, stopping := false }
  let pwr : Pwr := if s.pwr.st = 1 ∨ s.pwr.pend = some 1 then { s.pwr with pend := some 0 } else s.pwr
  State.setFld { s with lkp := lkp, pwr := pwr } .lkp 0 Off.lkpSyncStatus 0 2 0

/-- TICK_START: a stopped tick starts; one that runs or is to start refuses it (R73). -/
def State.tickStart (s : State) (src : Source) (v : Word) : State :=
  if !s.reachesBlock src || !bitAt v.toNat 0 || s.hwd.fatal then s
    else if s.isResetting ⟨.lkp, 0⟩ then { s with held := s.held ++ [.tickStart src v] }
    else if s.ticking || s.lkp.starting.isSome then s.accessError ⟨.lkp, 0⟩ 0x03
    else s.startTick

/-- TICK_START. -/
def execTickStart (src : Source) (v : Word) (s : State) : Host.Outcome State Fault Refusal := .next (s.tickStart src v)

/-- TICK_STOP: the next edge is the last (R73). -/
def State.tickStop (s : State) (src : Source) (v : Word) : State :=
  if !s.reachesBlock src ∨ bitAt v.toNat 1 = false then s
    else if s.isResetting ⟨.lkp, 0⟩ then { s with held := s.held ++ [.tickStop src v] }
    else if s.ticking ∨ s.lkp.starting.isSome then { s with lkp := { s.lkp with stopping := true } }
    else s.accessError ⟨.lkp, 0⟩ 0x03

/-- TICK_STOP. -/
def execTickStop (src : Source) (v : Word) (s : State) : Host.Outcome State Fault Refusal := .next (s.tickStop src v)

end Sys2Proof.Machine
end

