-- ==== Sys2Proof/Machine/Manifest.lean ====
section
/-! DEFINITION. Manifest slots and bodies: pre-read, classification, tag verification, grants and admission at step 5 (R47, R48, R58 to R62, R203, R275). -/

namespace Sys2Proof.Machine

/-! ### A slot's words (R47) -/

/-- Word `i` of a slot. -/
def slotWord (w : List Word) (i : Nat) : Nat := (w.getD i 0).toNat
/-- VALID. -/
def slotValid (w : List Word) : Bool := bitAt (slotWord w 0) 0
/-- SEQ. -/
def slotSeq (w : List Word) : Nat := slotWord w 1 + bitsAt (slotWord w 2) 0 16 * 2 ^ 32
/-- BODY_LEN. -/
def slotLen (w : List Word) : Nat := bitsAt (slotWord w 3) 0 21
/-- BODY_ADDR. -/
def slotAddr (w : List Word) : Nat := slotWord w 4 + bitsAt (slotWord w 5) 0 16 * 2 ^ 32
/-- SLOT_VER is not 1 or a reserved bit of words 0 to 7 is set (R48 row 5). -/
def slotBadVersion (w : List Word) : Bool :=
  bitsAt (slotWord w 0) 4 4 != 1 || bitsAt (slotWord w 0) 1 3 != 0 || bitsAt (slotWord w 0) 8 24 != 0 || bitsAt (slotWord w 2) 16 16 != 0 ||
    bitsAt (slotWord w 3) 21 11 != 0 || bitsAt (slotWord w 5) 16 16 != 0 || slotWord w 6 != 0 || slotWord w 7 != 0
/-- Words of a slot as bytes. -/
def slotSpan (w : List Word) (i n : Nat) : List Byte := ((w.drop i).take n).flatMap fun x => toBytes 4 x.toNat
/-- A slot from its 64 bytes. -/
def slotOfBytes (b : List Byte) : List Word := (wordsOf 16 b).map (BitVec.ofNat 32)
/-- The slot was already admitted or skipped: STATE ≠ 0 and STAMP at or after SEQ (R48 row 2). -/
def slotSpent (w : List Word) : Bool :=
  bitsAt (slotWord w 12) 0 8 != 0 && decide (bitsAt (slotWord w 13 + 2 ^ 32 - slotWord w 1) 0 32 < 2 ^ 31)

/-- The rows of R48 that need the slot alone, at edge `t`. -/
inductive SlotRow where
  | empty | late | ahead | due
  deriving DecidableEq, Repr

/-- The first of rows 1 to 4 of R48 that matches; `due` where none does. -/
def slotRow (w : List Word) (t : Nat) : SlotRow :=
  if !slotValid w then .empty
  else if slotSeq w < t then (if slotSpent w then .empty else .late)
  else if t < slotSeq w then .ahead
  else .due

/-! ### A body's fields (R59) -/

/-- CLASS. -/
def bodyClass (b : List Byte) : Nat := bitsAt (planWord b 0) 8 2
/-- CLUSTERS. -/
def bodyClusters (b : List Byte) : Nat := bitsAt (planWord b 0) 10 6
/-- FLIGHT_STEP. -/
def bodyFlight (b : List Byte) : Bool := bitAt (planWord b 0) 16
/-- BUDGET. -/
def bodyBudget (b : List Byte) : Nat := bitsAt (planWord b 1) 0 24
/-- LAUNCH_COUNT. -/
def bodyLaunches (b : List Byte) : Nat := bitsAt (planWord b 2) 0 16
/-- COACH_NEW. -/
def bodyCoachNew (b : List Byte) : Nat := bitsAt (planWord b 2) 16 16
/-- FETCH_SLOTS. -/
def bodyFetch (b : List Byte) : Nat := bitsAt (planWord b 3) 0 16
/-- PAIRS. -/
def bodyPairs (b : List Byte) : Nat := planWord b 4

/-- BAD_HEADER (R60 0x20). -/
def badHeader (b : List Byte) : Bool :=
  bitsAt (planWord b 0) 0 8 != 1 || bodyClusters b == 0 || decide (32 < bodyClusters b) || bodyLaunches b == 0 ||
    decide (b.length < 64 + 32 * bodyLaunches b) || bitsAt (planWord b 0) 17 15 != 0 || bitsAt (planWord b 1) 24 8 != 0 ||
    bitsAt (planWord b 3) 16 16 != 0 || (List.range 11).any fun i => planWord b (5 + i) != 0

/-- The 32 bytes of launch entry `j`. -/
def launchBytes (b : List Byte) (j : Nat) : List Byte := (b.drop (64 + 32 * j)).take 32

/-- A launch entry from its bytes (R59). -/
def launchOf (e : List Byte) : Launch :=
  { start := bitsAt (planWord e 0) 0 24, lcluster := bitsAt (planWord e 0) 24 5, bcast := bitAt (planWord e 0) 29,
    mask := BitVec.ofNat 16 (planWord e 1), entry := BitVec.ofNat 48 (planNum e 8 8), args := BitVec.ofNat 48 (planNum e 16 8) }

/-- A reserved bit of a launch entry is set (R60). -/
def launchReserved (e : List Byte) : Bool :=
  bitsAt (planWord e 0) 30 2 != 0 || bitsAt (planWord e 1) 16 16 != 0 || bitsAt (planWord e 3) 16 16 != 0 || bitsAt (planWord e 5) 16 16 != 0 ||
    planWord e 6 != 0 || planWord e 7 != 0

/-- Launch entries of a body, in body order. -/
def bodyEntries (b : List Byte) : List Launch := (List.range (bodyLaunches b)).map fun j => launchOf (launchBytes b j)

/-- ENTRY or ARGS of a launch is misaligned or unmapped in the context (R60). -/
def State.launchUnmapped (s : State) (k : Nat) (l : Launch) : Bool :=
  l.entry.toNat % 4 != 0 || l.args.toNat % 64 != 0 || !s.mapped k l.entry.toNat 4 .fetch || !s.mapped k l.args.toNat 64 .read

/-- START never falls (R59). -/
def startsRise : List Launch → Bool
  | a :: b :: ls => decide (a.start ≤ b.start) && startsRise (b :: ls)
  | _ => true

/-- BAD_LAUNCH (R60 0x21). With BCAST = 1 LCLUSTER is ignored (R59). -/
def State.badLaunch (s : State) (k : Nat) (b : List Byte) : Bool :=
  (List.range (bodyLaunches b)).any (fun j => launchReserved (launchBytes b j)) || !startsRise (bodyEntries b) ||
  (bodyEntries b).any fun l => decide (bodyBudget b ≤ l.start) || (!l.bcast && decide (bodyClusters b ≤ l.lcluster)) || l.mask == 0 || s.launchUnmapped k l

/-- A pair of PAIRS is outside the allowed-pairs table (R60 0x24); 0 is unused. -/
def badPairs (b : List Byte) : Bool :=
  (List.range 4).any fun i => bitsAt (bodyPairs b) (8 * i) 8 != 0 && !allowedPair (bitsAt (bodyPairs b) (8 * i) 8)

/-- The flight of a context is stopped: its slot is not ARMED, waits to be re-armed, or the tick is UNLOCKED (R53, R60, R295). -/
def State.flightStopped (s : State) (k : Nat) : Bool :=
  match s.slotOf k with
  | some i => (s.plan i).st != .armed || (s.plan i).stopNext || s.fld .lkp 0 Off.lkpSyncStatus 0 2 == 3
  | none => true

/-- The first pass of R60; 0 where every check passes. -/
def State.firstPass (s : State) (k : Nat) (b : List Byte) : Nat :=
  if badHeader b then 0x20
  else if s.badLaunch k b then 0x21
  else if badPairs b then 0x24
  else if s.quota k - s.yard.used k < bodyCoachNew b then 0x25
  else if s.ctxStopped k then 0x27
  else if s.spilling k then 0x28
  else if bodyFlight b && s.flightStopped k then 0x29
  else 0

/-! ### Writing back (R47, R48) -/

/-- The lock-keeper writes words 12 to 15 of a slot; a write that faults is lost. -/
def State.slotBack (s : State) (k dva state reason t : Nat) : State :=
  (s.memWrite 517 k (dva + 48) (toBytes 4 (state + reason * 2 ^ 8) ++ toBytes 4 t ++ List.replicate 8 0)).1

/-- A slot is skipped with a reason: written back, counted and raised; a bad tag is a dropped command, FORMAT_PAIR is CONTAINED as well (R45, R48, R60, R342). -/
def State.skipSlot (s : State) (k t dva reason : Nat) : State :=
  let s := s.slotBack k dva 2 reason t
  let s := s.count .vlkp k Off.lkpCtxSkipped
  let s := s.wr .vlkp k Off.lkpCtxSkipLast (BitVec.ofNat 32 (packFields [(0, 8, reason), (8, 24, t)]))
  let s := s.raiseCtx .lkp 0 (0x10 + reason) 0 k
  let s := if reason = 5 then s.ctxDrop k else s
  let s := if reason = 0x24 then s.raiseCtx .lkp 0 0x56 1 k else s
  s.trace k 2 (arg := reason)

/-! ### Admission -/

/-- Physical clusters granted to a context become its own: it has run in them (R61). -/
def State.ownClusters (s : State) (k : Nat) : State :=
  (s.grantList k).foldl (fun s c => s.modCluster c fun x => { x with lastOwner := some k }) s

/-- The manifest is admitted: written back, counted, its batch is the step's (R48 row 10, R319, R354). -/
def State.admitStep (s : State) (k t dva : Nat) : State :=
  let s := (s.slotBack k dva 1 0 t).count .vlkp k Off.lkpCtxAdmitted
  let s := s.ownClusters k
  let start := match (s.ctx k).step with
    | some st => st.runStart
    | none => 0
  let s := s.wr .vlkp k Off.lkpCtxRunStart (BitVec.ofNat 32 (start % 2 ^ 24))
  let self := s.ringMode k == 2
  let s := s.modCtx k fun c => { c with
    lastSeq := t, step := c.step.map fun st => { st with verifying := false },
    batch := if self && c.nextBatch.any (fun b => b.tick == t) then c.nextBatch else none }
  s.trace k 1

/-- LKP_CTX_DEFICIT rises, saturating at 0xFFFF (R61). -/
def State.addDeficit (s : State) (k n : Nat) : State :=
  s.setFld .vlkp k Off.lkpCtxDeficit 0 16 (min 0xFFFF (s.fld .vlkp k Off.lkpCtxDeficit 0 16 + n))

/-- The verification of a context's tag ends: the final classification (R58). -/
def State.finishVerify (s : State) (k time : Nat) : State :=
  match (s.ctx k).verify with
  | none => s
  | some v =>
    let ok := s.manifestTag k (slotSpan v.words 0 8 ++ v.body) (slotSpan v.words 8 4)
    let s := s.modCtx k fun c => { c with verify := none }
    if v.reason ≠ 0 then
      if ok then (s.skipSlot k v.tick v.slotDva v.reason).addDeficit k v.deficit else s.skipSlot k v.tick v.slotDva 5
    else if ok then
      (s.modCtx k fun c => { c with step := c.step.map fun st => { st with runStart := max st.runStart time } }).admitStep k v.tick v.slotDva
    else (s.modCtx k fun c => { c with step := none }).skipSlot k v.tick v.slotDva 5

/-- Every verification still running ends: each is final before guard open (R58). -/
def State.finishVerifies (s : State) (time : Nat) : State := (s.ctxs.map (·.1)).foldl (fun s k => s.finishVerify k time) s

/-- TAG_VERIFY_DONE: the verification of a pre-read or of a step-5 tag ends (R58). -/
def execTagVerifyDone (ctx : Fin 256) (time : BitVec 24) (s : State) : Host.Outcome State Fault Refusal :=
  .next (
    let c := s.ctx ctx
    if c.verify.isSome then s.finishVerify ctx time.toNat
    else match c.preread with
    | some r =>
      if r.tagOk.isNone && !r.fault && s.ringMode ctx == 1 then
        let ok := s.manifestTag ctx (slotSpan r.words 0 8 ++ r.body) (slotSpan r.words 8 4)
        s.modCtx ctx fun c => { c with preread := some { r with tagOk := some ok } }
      else s
    | none => s)

/-! ### Pre-reading (R58) -/

/-- BODY_LEN or BODY_ADDR out of rule, or a body beyond mapped pages (R48 row 6). -/
def State.badBody (s : State) (k : Nat) (w : List Word) : Bool :=
  slotLen w % 64 != 0 || !decide (64 ≤ slotLen w ∧ slotLen w ≤ 1048576) || slotAddr w % 64 != 0 || !s.mapped k (slotAddr w) (slotLen w) .read

/-- The ring of a context is read: ACTIVE, MODE in effect not OFF (R48), outside a stop (R370). -/
def State.readsRing (s : State) (k : Nat) : Bool := (s.ctx k).st == .active && s.ringMode k != 0 && !s.isStopped

/-- LKP_TICK_PERIOD − LKP_GUARD in effect: guard open, in 10 ns after the edge (R55). -/
def State.guardAt (s : State) : Nat := s.fld .lkp 0 Off.lkpTickPeriod 0 23 - s.fld .lkp 0 Off.lkpGuard 0 23

/-- The slot of the next edge is pre-read, and the body of a valid one fetched where the copy held is of other words (R58). -/
def State.preread (s : State) (k : Nat) : State :=
  let t := s.lkp.now + 1
  match s.memRead 517 k (s.slotDva k (t % s.ringSlots k)) 64 with
  | (s, .error _) => s
  | (s, .ok b) =>
    let w := slotOfBytes b
    let held : Bool := match (s.ctx k).preread with
      | some r => r.tick == t && r.words == w.take 12
      | none => false
    if slotRow w t ≠ .due ∨ held ∨ slotBadVersion w ∨ s.badBody k w then s
    else
      let (s, r) := s.memRead 517 k (slotAddr w) (slotLen w)
      let rec_ : PreRead := match r with
        | .ok body => ⟨t, w.take 12, body, false, none⟩
        | .error _ => ⟨t, w.take 12, [], true, none⟩
      s.modCtx k fun c => { c with preread := some rec_ }

/-- MANIFEST_PREREAD: in the guard band, once every 1.0 µs (R58). -/
def execManifestPreread (ctx : Fin 256) (time : BitVec 24) (s : State) : Host.Outcome State Fault Refusal :=
  .next (if s.lkp.phase = .guard ∧ s.diesOn ∧ s.readsRing ctx ∧ s.guardAt ≤ time.toNat ∧ (time.toNat - s.guardAt) % 100 = 0
    then s.preread ctx else s)

/-! ### Classification at step 5 (R48, R58) -/

/-- A slot that has passed rows 1 to 8 of R48 and the first pass of R60 (R61). -/
structure Cand where
  ctx : Nat
  dva : Nat
  words : List Word
  body : List Byte
  /-- its tag is known good, or ignored -/
  tagged : Bool
  deriving DecidableEq, Repr

/-- The verification of a candidate goes on after step 5, with what it decides (R58). -/
def State.verifyLater (s : State) (c : Cand) (t reason deficit : Nat) : State :=
  s.modCtx c.ctx fun x => { x with verify := some ⟨c.words, c.dva, c.body, t, reason, deficit⟩ }

/-- A slot skipped at step 5, or once its tag has been verified (R58). -/
def State.skipCand (s : State) (c : Cand) (t reason deficit : Nat) : State :=
  if c.tagged then (s.skipSlot c.ctx t c.dva reason).addDeficit c.ctx deficit else s.verifyLater c t reason deficit

/-- The body of a due slot: the pre-read copy of the same words, or a fetch; with what is known of its tag. -/
def State.slotBody (s : State) (k t : Nat) (w : List Word) : State × Option (List Byte) × Option Bool :=
  let fetch : State × Option (List Byte) × Option Bool := match s.memRead 517 k (slotAddr w) (slotLen w) with
    | (s, .ok b) => (s, some b, none)
    | (s, .error _) => (s, none, none)
  match (s.ctx k).preread with
  | some r => if r.tick = t ∧ r.words = w.take 12 then (s, if r.fault then none else some r.body, r.tagOk) else fetch
  | none => fetch

/-- A due slot: rows 5 to 9 of R48. -/
def State.classifyDue (s : State) (k t dva : Nat) (w : List Word) : State × Option Cand :=
  if slotBadVersion w then (s.skipSlot k t dva 2, none)
  else if s.badBody k w then (s.skipSlot k t dva 3, none)
  else
    let (s, body, tag) := s.slotBody k t w
    match body with
    | none => (s.skipSlot k t dva 4, none)
    | some b =>
      let tag := if s.ringMode k = 1 then tag else some true
      if tag = some false then (s.skipSlot k t dva 5, none)
      else
        let c : Cand := ⟨k, dva, w, b, tag.isSome⟩
        let r := s.firstPass k b
        if r ≠ 0 then (s.skipCand c t r 0, none) else (s, some c)

/-- The step-5 read of a context's slot and its classification (R48); a read that faults counts as an empty slot. -/
def State.classify (s : State) (k t : Nat) : State × Option Cand :=
  let dva := s.slotDva k (t % s.ringSlots k)
  match s.memRead 517 k dva 64 with
  | (s, .error _) => (s, none)
  | (s, .ok b) =>
    let w := slotOfBytes b
    match slotRow w t with
    | .empty => (s, none)
    | .late => (s.skipSlot k t dva 1, none)
    | .ahead => (s.count .vlkp k Off.lkpCtxAhead, none)
    | .due => s.classifyDue k t dva w

/-- Classification of several contexts in turn. -/
def State.classifyAll (s : State) (t : Nat) : List Nat → State × List Cand
  | [] => (s, [])
  | k :: ks =>
    let (s, c) := s.classify k t
    let (s, cs) := s.classifyAll t ks
    (s, c.toList ++ cs)

/-! ### Grants (R61, R62, R275) -/

/-- The grant order: flight steps first, then the higher deficit, then the lower context. -/
def State.grantBefore (s : State) (a b : Cand) : Bool :=
  let f := bodyFlight a.body
  let g := bodyFlight b.body
  let d := s.fld .vlkp a.ctx Off.lkpCtxDeficit 0 16
  let e := s.fld .vlkp b.ctx Off.lkpCtxDeficit 0 16
  (f && !g) || (f == g && (decide (e < d) || (d == e && decide (a.ctx ≤ b.ctx))))

/-- Clusters granted to nobody. -/
def State.freeClusters (s : State) : List Nat := (List.range 32).filter fun c => (s.cluster c).granted.isNone

/-- Free clusters in the order in which a candidate takes them: held in the pound before, last its own, the others; `tight` leaves out those that need zeroing (R61). -/
def State.clusterOrder (s : State) (held : List (Nat × Nat)) (k : Nat) (tight : Bool) : List Nat :=
  let own := fun (c : Nat) => (s.cluster c).lastOwner == some k
  let had := fun (c : Nat) => held.contains (c, k)
  let free := s.freeClusters.filter fun c => !tight || own c
  free.filter had ++ free.filter (fun c => !had c && own c) ++ free.filter fun c => !had c && !own c

/-- What the second pass of R60 says of a candidate in its turn: 0 granted, else the reason; and whether the deficit rises (R61). -/
def State.secondPass (s : State) (c : Cand) (pool : Nat) : Nat × Bool :=
  let need := bodyClusters c.body
  let free := s.freeClusters
  let kept := free.filter fun x => (s.cluster x).lastOwner == some c.ctx
  if s.guardAt < bodyBudget c.body + 200 then (0x22, false)
  else if free.length < need then (0x23, true)
  else if s.guardAt < bodyBudget c.body + 360 ∧ kept.length < need then (0x22, true)
  else if pool < bodyFetch c.body then (0x26, false)
  else (0, false)

/-- The clusters a candidate receives, ascending. -/
def State.takeClusters (s : State) (c : Cand) (held : List (Nat × Nat)) : List Nat :=
  sortBy (fun a b => decide (a ≤ b)) ((s.clusterOrder held c.ctx (decide (s.guardAt < bodyBudget c.body + 360))).take (bodyClusters c.body))

/-- A cluster is granted as logical cluster `j`; one that changes hands is zeroed and counted (R61, R78, R336). -/
def State.grantCluster (s : State) (k : Nat) (c : Nat × Nat) : State :=
  let new := (s.cluster c.1).lastOwner != some k
  let s := if new then (s.zeroCluster c.1).count .csq c.1 Off.csqHandovers else s
  s.modCluster c.1 fun x => { x with granted := some k, logical := c.2, zeroed := new }

/-- The step of a granted candidate (R59, R61). -/
def Cand.toStep (c : Cand) (t start : Nat) : Step :=
  { tick := t, cls := BitVec.ofNat 2 (bodyClass c.body), flight := bodyFlight c.body, budget := bodyBudget c.body,
    pairs := BitVec.ofNat 32 (bodyPairs c.body), coachLeft := bodyCoachNew c.body, fetchSlots := bodyFetch c.body,
    launches := bodyEntries c.body, runStart := start, verifying := !c.tagged }

/-- A candidate is granted its clusters; the manifest is admitted now, or once its tag has been verified (R58, R61). -/
def State.grantCand (s : State) (held : List (Nat × Nat)) (t : Nat) (c : Cand) : State :=
  let cs := s.takeClusters c held
  let zero := cs.any fun x => (s.cluster x).lastOwner != some c.ctx
  let s := cs.zipIdx.foldl (fun s x => s.grantCluster c.ctx x) s
  let s := s.setFld .vlkp c.ctx Off.lkpCtxDeficit 0 16 0
  let s := s.modCtx c.ctx fun x => { x with step := some (c.toStep t (if zero then 360 else 200)), insts := [], lateSent := false }
  let s := s.trace c.ctx 3 (arg2 := bitSet 32 fun i => cs.contains i)
  if c.tagged then s.admitStep c.ctx t c.dva else s.verifyLater c t 0 0

/-- Candidates in grant order, each judged in its turn; what is left of the fetch reservation. -/
def State.grantAll (s : State) (held : List (Nat × Nat)) (t : Nat) : List Cand → Nat → State × Nat
  | [], pool => (s, pool)
  | c :: cs, pool =>
    let r := s.secondPass c pool
    if r.1 = 0 then (s.grantCand held t c).grantAll held t cs (pool - bodyFetch c.body)
    else (s.skipCand c t r.1 (if r.2 then s.fld .vlkp c.ctx Off.lkpCtxWeight 0 8 else 0)).grantAll held t cs pool

/-- The free expert-fetch reservation before any grant: POOL less that of spilling steps (R275). -/
def State.poolFree (s : State) : Nat :=
  s.fld .rte 0 Off.rteCfg 0 12 - (s.ctxs.foldl (fun a e => match e.2.step with
    | some st => if st.spilled then a + st.fetchSlots else a
    | none => a) 0)

/-- Step 5 of edge `t`: rings are read and classified, clusters granted; `unread` are contexts whose slots are not read at this edge (R48, R61, R366). -/
def State.edgeAdmit (s : State) (t : Nat) (open_ : Bool) (unread : List Nat) (held : List (Nat × Nat)) : State :=
  let ks := if open_ then (s.ctxs.map (·.1)).filter fun k => s.readsRing k && !unread.contains k else []
  let (s, cs) := s.classifyAll t ks
  let s := { s with ctxs := s.ctxs.map fun (e : Nat × Ctx) => (e.1, { e.2 with preread := none }) }
  let order := sortBy s.grantBefore cs
  let (s, pool) := s.grantAll held t order s.poolFree
  let zeroed := ((List.range 32).filter fun c => (s.cluster c).zeroed).length
  State.setFld { s with lkp := { s.lkp with zeroed := zeroed } } .rte 0 Off.rtePoolFree 0 12 pool

end Sys2Proof.Machine
end

