-- ==== Sys2Proof/Machine/Judge.lean ====
section
/-! DEFINITION. Running and judging steps: launches, kernel ends, guard open, the checks of a flight step, the verdict at the cut-off, and the removal of work (R63 to R68, R124, R150, R252, R280, R305, R306, R366 to R369). -/

namespace Sys2Proof.Machine

/-! ### Launching (R63) -/

/-- Cores of a context's grant that a launch entry names (R59, R63). -/
def State.entryCores (s : State) (k : Nat) (l : Launch) : List Nat :=
  ((s.grantList k).filter fun c => l.bcast || (s.cluster c).logical == l.lcluster).flatMap l.coresOn

/-- The entry has started on every core it names. -/
def State.entryStarted (s : State) (k : Nat) (l : Launch) : Bool := (s.entryCores k l).all l.started.contains

/-- Every launch entry of a step has started (R64). -/
def State.allStarted (s : State) (k : Nat) (st : Step) : Bool := st.launches.all (s.entryStarted k)

/-- A step's launch entry `i` changed by `f`. -/
def State.modLaunch (s : State) (k i : Nat) (f : Launch → Launch) : State :=
  s.modCtx k fun c => { c with step := c.step.map fun st => { st with launches := st.launches.modify i f } }

/-- The slip of a start is kept as the pound's largest; SLIP above the threshold (R78). -/
def State.slipAt (s : State) (c k slip : Nat) : State :=
  let s := s.highWater .csq c Off.csqSlip 0 24 slip
  if s.fld .csq c Off.csqSlipAlert 0 24 < slip then s.raiseCtx .csq c 0x10 0 k else s

/-- The registers and engine state a kernel starts with (R63, R150). -/
def Core.begin (c : Core) (k i : Nat) (l : Launch) (logical tick : Nat) : Core :=
  let c := (c.setSreg 10 (BitVec.ofNat 32 l.args.toNat)).setSreg 11 (BitVec.ofNat 32 (l.args.toNat / 2 ^ 32))
  let c := (c.setSreg 12 (BitVec.ofNat 32 logical)).setSreg 13 (BitVec.ofNat 32 tick)
  { c with kernel := some { ctx := k, entry := i }, pc := l.entry, wait := .running, vl := 1024, vstat := 0 }

/-- A launch entry starts on one core; a fault of ENTRY or ARGS is LAUNCH_FAULT, and the core is not started (R63, R78). -/
def State.launchCore (s : State) (k i slip : Nat) (l : Launch) (n : Nat) : State :=
  let c := n / 16
  if s.isCondemned k then s
  else if s.launchUnmapped k l then s.raiseCtx .csq c 0x11 1 k n
  else
    let s := (s.modCore n fun x => x.begin k i l (s.cluster c).logical s.lkp.now).dcacheInval n
    let s := s.modLaunch k i fun l => { l with started := l.started ++ [n] }
    (s.slipAt c k slip).trace k 4 n i

/-- A core is free for entry `i`: no kernel on it, and every earlier entry that names it has started there (R63). -/
def State.coreReady (s : State) (k i : Nat) (st : Step) (n : Nat) : Bool :=
  (s.core n).kernel.isNone && (st.launches.take i).all fun m => !(s.entryCores k m).contains n || m.started.contains n

/-- Entry `i` of a step starts on each of its cores that is ready, from its time on (R63); an entry held back over a spill is due at run start (R66). -/
def State.launch (s : State) (k i time : Nat) (st : Step) (l : Launch) : State :=
  let due := if st.spilled then st.runStart else st.runStart + l.start
  if time < due then s
  else
    let ns := (s.entryCores k l).filter fun n => !l.started.contains n && s.coreReady k i st n
    ns.foldl (State.launchCore · k i (time - (st.runStart + l.start)) l) s

/-- LAUNCH_ENTRY: before guard open, of a step that is admitted and whose context is not condemned (R63, R366). -/
def execLaunchEntry (ctx : Fin 256) (entry : BitVec 16) (time : BitVec 24) (s : State) : Host.Outcome State Fault Refusal :=
  .next (match (s.ctx ctx).step with
    | none => s
    | some st =>
      match st.launches[entry.toNat]? with
      | none => s
      | some l =>
        if s.lkp.phase = .guard ∨ st.verifying ∨ s.isCondemned ctx ∨ !s.diesOn ∨ s.isStopped then s
        else s.launch ctx entry.toNat time.toNat st l)

/-! ### The end of a kernel (R64, R150) -/

/-- The merge units of a context's clusters disarm what is still armed (R170). -/
def State.mergeJudgeAll (s : State) (k : Nat) : State := (s.grantList k).foldl (fun s c => s.mergeJudge c k) s

/-- The step is complete once every entry has started and every kernel has ended (R64). -/
def State.checkDone (s : State) (k time : Nat) : State :=
  match (s.ctx k).step with
  | none => s
  | some st =>
    let busy := (s.grantList k).any fun c => (coresOf c).any fun n => (s.core n).kernel.isSome
    if st.done.isSome || busy || !s.allStarted k st then s
    else
      let d := time - st.runStart
      let s := s.modCtx k fun c => { c with step := some { st with done := some d } }
      (s.wr .vlkp k Off.lkpCtxLastDone (BitVec.ofNat 32 (d % 2 ^ 24))).mergeJudgeAll k

/-- Carts the kernel left behind are discarded and counted; CART_ORPHAN (R150). -/
def State.dropCarts (s : State) (core k : Nat) : State :=
  let c := s.core core
  let n := c.carts.length + b2n c.heldCart.isSome
  let s := (s.modCore core fun c => { c with carts := [], heldCart := none }).count .vec core Off.vecCtxOrphan n k
  if n = 0 then s else s.raiseCtx .vec core 0x14 0 k core

/-- The kernel-end instruction takes effect when the vector engine, the drain path and the scoreboard are empty; before that it waits (R64, R150). -/
def State.kernelEnd (s : State) (core k time : Nat) : State :=
  let c := s.core core
  if !c.iq.isEmpty || !c.drainQ.isEmpty || !c.scb.isEmpty then s.stall core .queue
  else
    let s := s.dropCarts core k
    let s := s.modCore core fun c => { c with kernel := none, wait := .running, vl := 1024, vstat := 0 }
    (s.trace k 5 core).checkDone k time

/-- KERNEL_END (R64, R150). -/
def execKernelEnd (core : Fin 512) (time : BitVec 24) (s : State) : Host.Outcome State Fault Refusal :=
  .next (match (s.core core).kernel with
    | none => s
    | some x => if s.scalarRuns core then s.kernelEnd core x.ctx time.toNat else s)

/-! ### Guard open and the checks of a flight step (R65, R305) -/

/-- The armed slot of a context's flight step. -/
def State.flightOf (s : State) (k : Nat) : Option Nat :=
  match (s.ctx k).step, s.rtFlight k with
  | some st, some (i, _, _) => if st.flight then some i else none
  | _, _ => none

/-- A context's step is LATE: an entry has not started at guard open; a flight's member sends the notice (R64, R65). -/
def State.judgeLate (s : State) (k : Nat) : State :=
  match (s.ctx k).step with
  | none => s
  | some st =>
    if s.allStarted k st then s
    else
      let s := s.modCtx k fun c => { c with lateSent := true, step := some { st with late := true } }
      match s.flightOf k with
      | some i => s.sendNotice i 6 s.lkp.now []
      | none => s

/-- Instances and exchanges of a context that a check fails, with the members they lack. -/
structure Failing where
  insts : List (CollInst × List Nat)
  exchs : List (RteExch × List Nat)

/-- What of a context is incomplete in the present pound: instances, and exchanges that lack a request barge (R305). -/
def State.incomplete (s : State) (k slot : Nat) : Failing :=
  let p := (s.plan slot).plan
  let self := planSelf p
  { insts := (s.fce.insts.filter fun x => x.ctx == k && decide (x.tick ≤ s.lkp.now) && x.incomplete).map fun x => (x, x.missing self),
    exchs := ((s.rte.exchs.filter fun x => x.ctx == k && decide (x.tick ≤ s.lkp.now) && !x.failed).map fun x => (x, x.missing self (planN p))).filter
      fun x => !x.2.isEmpty }

/-- The least of some numbers. -/
def least (xs : List Nat) : Nat := (sortBy (fun a b => decide (a ≤ b)) xs).headD 0

/-- What a check fails is FAILED and counted; EXCH_FAILED for exchanges; the first failure of the tick records FLIGHT_ABORT, naming the lowest member missing (R273, R305). -/
def State.failAll (s : State) (k slot cause : Nat) (f : Failing) : State :=
  let n := f.insts.length + f.exchs.length
  let s := { s with
    fce := { s.fce with insts := s.fce.insts.map fun x => if f.insts.any (·.1 == x) then { x with failed := true } else x },
    rte := { s.rte with exchs := s.rte.exchs.map fun x => if f.exchs.any (·.1 == x) then { x with failed := true } else x } }
  let s := s.count .fce 0 Off.fceCtxFailed n k
  let s := f.exchs.foldl (fun s _ => s.rteError 0x14 0 k 0) s
  let m := least ((f.insts.map (·.2)).flatten ++ (f.exchs.map (·.2)).flatten)
  let at_ : Nat × Nat × Nat := match f.insts, f.exchs with
    | x :: _, _ => (cause, x.1.coll, x.1.inst)
    | [], x :: _ => (6, x.1.exch, 0)
    | [], [] => (cause, 0, 0)
  (List.range n).foldl (fun s _ => s.flightAbort slot at_.1 m at_.2.1 at_.2.2) s

/-- The check at tG: what lacks a barge from an unreachable member is FAILED (R305). -/
def State.checkGuard (s : State) (k : Nat) : State :=
  match s.flightOf k with
  | none => s
  | some i =>
    let f := s.incomplete k i
    let lost := fun (ms : List Nat) => ms.any (s.unreachable i)
    s.failAll k i 1 { insts := f.insts.filter fun x => lost x.2, exchs := f.exchs.filter fun x => lost x.2 }

/-- The check at tF: what is incomplete is FAILED, but for a first overrun under SPILL and for exchanges that wait only for LATE members under ABORT (R305). -/
def State.checkFlight (s : State) (k : Nat) : State :=
  match s.flightOf k, (s.ctx k).step with
  | some i, some st =>
    let f := s.incomplete k i
    let late := ((s.plan i).late.filter fun n => n.2 == s.lkp.now).map (·.1)
    if s.ovrAbort k then
      s.failAll k i 2 { insts := f.insts, exchs := f.exchs.filter fun x => !x.2.all late.contains }
    else if !st.spilled && (st.late || !late.isEmpty) then s
    else s.failAll k i 2 f
  | _, _ => s

/-- Contexts with state of their own, ascending. -/
def State.ctxKeys (s : State) : List Nat := s.ctxs.map (·.1)

/-- Guard open: verifications are final, no entry starts any more, steps are judged LATE, and the check at tG is made (R55, R58, R64, R65, R305). -/
def State.guardOpen (s : State) : State :=
  let s := s.finishVerifies s.guardAt
  let s := { s with
    lkp := { s.lkp with phase := .guard },
    clusters := s.clusters.map fun (e : Nat × Cluster) => (e.1, if e.2.granted.isSome then { e.2 with phase := 4 } else e.2) }
  s.ctxKeys.foldl State.checkGuard (s.ctxKeys.foldl State.judgeLate s)

/-- GUARD_OPEN (R65). -/
def execGuardOpen (s : State) : Host.Outcome State Fault Refusal := .next (if s.lkp.phase = .run then s.guardOpen else s)

/-- The check at tF of the pound, once (R305). -/
def State.flightCheck (s : State) : State :=
  if s.lkp.tfDone then s
  else
    let s := { s with lkp := { s.lkp with tfDone := true } }
    s.ctxKeys.foldl State.checkFlight s

/-- FLIGHT_CHECK_TF (R305). -/
def execFlightCheckTf (s : State) : Host.Outcome State Fault Refusal := .next (if s.lkp.phase = .guard then s.flightCheck else s)

/-! ### The verdict at the cut-off (R64 to R68, R306, R366) -/

/-- What the cut-off finds of a context's step. -/
inductive Fate where
  | idle | complete | spill | late | flight | hard | scrub
  deriving DecidableEq, Repr

/-- A LATE notice for the pound has reached the member of the step's flight (R65). -/
def State.noticed (s : State) (k : Nat) : Bool :=
  match s.flightOf k with
  | some i => (s.plan i).late.any fun n => n.2 == s.lkp.now
  | none => false

/-- The slot's flight step of the pound is judged aborted (R306). -/
def PlanSlot.aborting (p : PlanSlot) (t : Nat) : Bool := p.st == .armed && (p.abortTick == some t || p.abortN.any fun n => n.2 == t)

/-- The context's flight step is judged aborted (R306). -/
def State.flightAborting (s : State) (k : Nat) : Bool :=
  match s.flightOf k with
  | some i => (s.plan i).aborting s.lkp.now
  | none => false

/-- The verdict on a context's step at the cut-off: condemnation, then a flight abort, then overruns, before completion (R65 to R68, R306, R366). -/
def State.fate (s : State) (k : Nat) : Fate :=
  match (s.ctx k).step with
  | none => if s.isCondemned k then .scrub else .idle
  | some st =>
    if s.isCondemned k then .scrub
    else if s.flightAborting k then .flight
    else if !st.spilled && !s.ovrAbort k && (st.late || s.noticed k) then .spill
    else if st.late then .late
    else if st.done.isSome then .complete
    else .hard

/-- Work of the fate is removed. -/
def Fate.removes (f : Fate) : Bool := f == .late || f == .flight || f == .hard || f == .scrub

/-- The edge is the context's scrub (R68, R366). -/
def Fate.scrubs (f : Fate) : Bool := f == .hard || f == .scrub

/-- What step 4 does with the journal (R199). -/
def Fate.verdict (f : Fate) : Verdict := if f.removes then .discard else if f = .spill then .undecided else .commit

/-- The step is judged with an outcome: the register, the counter of aborts, the trace, the berths, and armed merge slots of an aborted step (R76, R170, R321, R354). -/
def State.endStep (s : State) (k : Nat) (outcome : Nat) : State :=
  let s := s.trace k 6 (arg := outcome)
  let s := if 3 ≤ outcome then (s.count .vlkp k Off.lkpCtxAborts).mergeJudgeAll k else s
  let s := s.srvJudge k (decide (outcome < 3))
  s.modCtx k fun c => { c with step := none, lateSent := false, lastOutcome := BitVec.ofNat 3 outcome }

/-- A step spills: its grant is kept, run start of the new pound is 2.0 µs (R66). -/
def State.spillStep (s : State) (k : Nat) : State :=
  let s := (s.count .vlkp k Off.lkpCtxSpills).count .lkp 0 Off.lkpOverruns
  let s := s.raiseCtx .lkp 0 0x57 0 k
  let s := s.wr .vlkp k Off.lkpCtxRunStart 200
  s.modCtx k fun c => { c with step := c.step.map fun st => { st with
    spilled := true, late := false, runStart := 200, launches := st.launches.map fun l => { l with before := l.started } } }

/-- The verdict takes effect. -/
def State.judge (s : State) (k : Nat) (f : Fate) (overrun : Bool) : State :=
  let beyond := fun (s : State) => s.count .lkp 0 Off.lkpOverruns
  match f with
  | .idle => s
  | .complete =>
    let s := if overrun then beyond s else s
    s.endStep k (if s.spilling k then 2 else 1)
  | .spill => s.spillStep k
  | .late => ((beyond s).raiseCtx .lkp 0 0x58 0 k).endStep k 3
  | .flight => s.endStep k 3
  | .hard => ((beyond s).raiseCtx .lkp 0 0x52 1 k).endStep k 4
  | .scrub => if (s.ctx k).step.isSome then s.endStep k 3 else s

/-! ### Removal (R67, R252, R280, R367) -/

/-- A store the memory port had not delivered: each byte keeps its old value or takes the new one (R252). -/
def State.tearStore (s : State) (g : Nat) (p : Nat × List Byte) : State :=
  let (s, bs) := s.torn (s.mem.readBytes g p.1 p.2.length) p.2
  s.modMem fun m => m.writeBytes g p.1 bs

/-- The work of a context leaves a core: writes in flight are torn, the engines are cleared, the wharf is kept (R101, R252, R367). -/
def State.removeCore (s : State) (k n : Nat) : State :=
  let c := s.core n
  let s := c.dmaRun.foldl (fun s r => s.dmTear n k r) s
  let g := (s.keyOf k).getD 0
  let s := c.port.foldl (fun s p => s.tearStore g p) s
  s.modCore n Core.clearWork

/-- A barge of the context's flight that this member sent, notices left out (R367). -/
def State.ownBarge (s : State) (k : Nat) (b : Barge) : Bool :=
  match s.slotOf k with
  | some i => (s.plan i).held && b.flight == planFlight (s.plan i).plan && b.src == planSelf (s.plan i).plan && !b.control
  | none => false

/-- The work of a context's step is removed from every engine; its clusters stay its own until granted to another (R367). `t` is the tick of the edge. -/
def State.removeWork (s : State) (k t : Nat) : State :=
  let s := (s.grantList k).foldl (fun s c => ((coresOf c).foldl (State.removeCore · k) s).modCluster c Cluster.clearWork) s
  let s := ((s.yardDrop k).rtRemove k).smpDrop k
  let retx := s.fce.retx.filter fun e => !s.ownBarge k e.barge
  { s with fce := { s.fce with insts := s.fce.insts.filter (fun x => x.ctx != k || decide (t ≤ x.tick)), retx := retx } }

/-- The scrub record of a context, and the virtual function is told (R366, R372, R391); work of context 0 removed by a firmware restart leaves none (R376). -/
def State.scrubRecord (s : State) (k t : Nat) : State :=
  match (s.ctx k).condemned with
  | none => s
  | some c =>
    let s := s.modCtx k fun x => { x with condemned := none }
    if c.code = 0 then s
    else
      let s := s.wr .vhwd k Off.hwdCtxScrub0 (BitVec.ofNat 32 (packFields [(0, 16, c.code.toNat), (16, 2, c.sev.toNat), (31, 1, 1)]))
      let s := (s.wr .vhwd k Off.hwdCtxScrubRaised c.tick).wr .vhwd k Off.hwdCtxScrubEdge (BitVec.ofNat 32 t)
      let s := s.wr .vhwd k Off.hwdCtxScrubCore (c.core.setWidth 32)
      let s := (s.count .vhwd k Off.hwdCtxScrubs).count .hwd 0 Off.hwdScrubs
      let s := s.modCtx k fun x => { x with
        lastScrub := t, scrubTicks := x.scrubTicks.filter (fun u => decide (t < u + 1024)) ++ [t] }
      if k = 0 then s else s.emit (.msix k 0)

/-- More than `HWD_CTX_SCRUB_LIMIT` scrubs within 1,024 ticks: HELD is staged and SCRUB_STORM raised (R369). -/
def State.scrubStorm (s : State) (k : Nat) : State :=
  if (s.ctx k).scrubTicks.length ≤ s.fld .vhwd k Off.hwdCtxScrubLimit 0 8 then s
  else
    let s := { s with staged := s.staged ++ [Staged.field (regKey .vlkp k Off.lkpCtxCtrl 0) 4 4] }
    s.raiseCtx .hwd 0 0x13 0 k

/-! ### The fence and the totals of step 2 (R124, R252) -/

/-- The counts of R124 and the registers that total them. -/
def drainCounts : List (Nat × Nat) :=
  [(Off.drnCtxCrush, Off.hwdCtxCrush), (Off.drnCtxSatcnt, Off.hwdCtxSatcnt), (Off.drnCtxClamp, Off.hwdCtxClamp),
    (Off.drnCtxFlush, Off.hwdCtxFlush), (Off.drnCtxNancnt, Off.hwdCtxNancnt)]

/-- What a core has counted for a context since it last did so is added to the context's device total; bank k + 256 keeps what has been added. -/
def State.addTotal (s : State) (k n : Nat) (o : Nat × Nat) : State :=
  let now := s.rd .drn n o.1 k
  let had := s.rd .drn n o.1 (k + 256)
  if now = had then s else (s.count .vhwd k o.2 (now.toNat - had.toNat)).wr .drn n o.1 now (k + 256)

/-- Every core's counts of the pound are added into the totals of its context (R124). -/
def State.addTotals (s : State) : State :=
  (List.range 32).foldl (fun s c => match (s.cluster c).granted with
    | none => s
    | some k => (coresOf c).foldl (fun s n => drainCounts.foldl (State.addTotal · k n) s) s) s

/-- The fence of step 2: what the memory ports hold reaches memory, and no data cache holds a line (R252). -/
def State.edgeFence (s : State) : State :=
  let ns := s.cores.map (·.1)
  let s := ns.foldl State.portFlushAll s
  { s with cores := s.cores.map fun (e : Nat × Core) => (e.1, { e.2 with dcache := [] }) }

end Sys2Proof.Machine
end

