-- ==== Sys2Proof/Machine/Edge.lean ====
section
/-! DEFINITION. The tick edge and what follows the tick's reference (R51 to R57, R73, R75). -/

namespace Sys2Proof.Machine

/-! ### The reference of the tick (R52, R53) -/

/-- SRC in effect: 0 INTERNAL, 1 PIN, 2 PTP (R52). -/
def State.tickSrc (s : State) : Nat := s.fld .lkp 0 Off.lkpTickCfg 0 2

/-- LKP_SYNC_STATUS.STATE: 0 FREE, 1 LOCKED, 2 HOLDOVER, 3 UNLOCKED (R53). -/
def State.syncState (s : State) : Nat := s.fld .lkp 0 Off.lkpSyncStatus 0 2

/-- STATE becomes HOLDOVER, with TICK_HOLDOVER (R53). -/
def State.enterHoldover (s : State) : State := (s.setFld .lkp 0 Off.lkpSyncStatus 0 2 2).raisePage .lkp 0 0x50 0

/-- OFFSET of an edge, in ns, saturating at ±32,767 (R75). -/
def offsetField (o : Int) : Nat := toBits 16 (max (-32767) (min 32767 o))

/-- An edge against its reference: OFFSET, and STATE under PIN and PTP; an edge filled in under HOLDOVER is counted (R53, R75). -/
def State.edgeSync (s : State) (o : Int) (filled : Bool) : State :=
  if s.tickSrc = 0 then (s.setFld .lkp 0 Off.lkpSyncStatus 0 2 0).setFld .lkp 0 Off.lkpSyncStatus 16 16 0
  else
    let s := s.setFld .lkp 0 Off.lkpSyncStatus 16 16 (offsetField o)
    let far := decide (o < -50) || decide (50 < o)
    match s.syncState with
    | 0 => if far then s.enterHoldover else s.setFld .lkp 0 Off.lkpSyncStatus 0 2 1
    | 1 => if far && s.tickSrc == 2 then s.enterHoldover else s
    | 2 => if filled then s.count .lkp 0 Off.lkpMissedEdges else s
    | _ => s

/-- SYNC_REFERENCE_LOST (R53). -/
def execSyncReferenceLost (s : State) : Host.Outcome State Fault Refusal := .next s.toHoldover

/-- SYNC_REFERENCE_RESTORED: LOCKED again (R53). -/
def execSyncReferenceRestored (s : State) : Host.Outcome State Fault Refusal :=
  .next (if s.ticking && s.tickSrc != 0 && decide (2 ≤ s.syncState) then s.setFld .lkp 0 Off.lkpSyncStatus 0 2 1 else s)

/-- UNLOCKED: TICK_UNLOCKED is raised, the running flight steps abort, and no flight step is admitted until the flight is re-armed (R53, R305). -/
def State.unlock (s : State) : State :=
  let s := (s.setFld .lkp 0 Off.lkpSyncStatus 0 2 3).raisePage .lkp 0 0x51 0
  let s := s.ctxKeys.foldl (fun s k => match s.flightOf k with
    | some i => s.flightAbort i 5 (planSelf (s.plan i).plan)
    | none => s) s
  (List.range 32).foldl (fun s i => if (s.plan i).st = .armed then s.modPlan i fun p => { p with stopNext := true } else s) s

/-- HOLDOVER_LIMIT_EXPIRED (R53). -/
def execHoldoverLimitExpired (s : State) : Host.Outcome State Fault Refusal :=
  .next (if s.ticking && s.tickSrc != 0 && s.syncState == 2 then s.unlock else s)

/-! ### The cut-off: step 1 (R64 to R68) -/

/-- A context with the verdict on its step, and whether the step is judged overrun (R65). -/
structure Verdicts where
  ctx : Nat
  fate : Fate
  overrun : Bool
  deriving DecidableEq, Repr

/-- The verdicts of the cut-off on every context. -/
def State.verdicts (s : State) : List Verdicts := s.ctxKeys.map fun k => ⟨k, s.fate k, s.noticed k⟩

/-- Step 4's decision on a context's journal. -/
def verdictOf (vs : List Verdicts) (k : Nat) : Verdict :=
  match vs.find? fun v => v.ctx == k with
  | some v => v.fate.verdict
  | none => .commit

/-- Tick number of the edge: the first one's as the source gives it, else the next (R51, R73). -/
def State.edgeNumber (s : State) (e : EdgeIn) : Nat :=
  match s.lkp.starting with
  | none => (s.lkp.now + 1) % 2 ^ 48
  | some n => if s.tickSrc = 2 ∨ (s.tickSrc = 0 ∧ s.fld .lkp 0 Off.lkpTickCfg 3 1 = 1) then e.number.toNat else n

/-- The serving engine owes the manifest of edge `t`: one was due and has not been written (R72, R321). -/
def State.owes (s : State) (v : Verdicts) (t : Nat) : Bool :=
  s.ringMode v.ctx == 2 && (s.ctx v.ctx).st == .active && !s.isStopped && v.fate != .spill && !v.fate.scrubs &&
    !((s.ctx v.ctx).nextBatch.any fun b => b.tick == t) && !(s.planBerths v.ctx false).isEmpty

/-- What ends with the pound before the number changes: pins and exchanges of judged steps, and a flight step's hard overrun stops its flight (R68, R262). -/
def State.closePound (s : State) (vs : List Verdicts) : State :=
  vs.foldl (fun s v =>
    let s := if v.fate = .idle ∨ v.fate = .spill then s else s.rtJudge v.ctx
    match v.fate, s.flightOf v.ctx with
    | .hard, some i => s.flightAbort i 4 (planSelf (s.plan i).plan)
    | _, _ => s) s

/-- Per-pound records of every context start anew (R321, R323, R342). -/
def State.openPound (s : State) (owing : List Nat) : State :=
  s.ctxKeys.foldl (fun s k =>
    let drops := (s.rd .vsec k Off.secCtxDrops).toNat
    s.modCtx k fun c => { c with spqd := [], dropsAtEdge := drops, stormRaised := false, owed := owing.contains k }) s

/-! ### Steps 2 to 4 -/

/-- Slots of aborted flight steps are STOPPED, and every slot's records of the pound end (R292, R306). -/
def State.stopPlans (s : State) (stops : List Nat) (t : Nat) : State :=
  (s.fce.plans.map (·.1)).foldl (fun s i => s.modPlan i fun p => { p with
    st := if stops.contains i then .stopped else p.st, unreach := [],
    late := p.late.filter fun n => decide (t ≤ n.2), abortN := p.abortN.filter fun n => decide (t ≤ n.2) }) s

/-- The oldest tick whose instances and exchanges a context still keeps at edge `t`: that of a spilling step, else `t`. -/
def State.keepFrom (s : State) (k t : Nat) : Nat :=
  match (s.ctx k).step with
  | some st => min st.tick t
  | none => t

/-- Instances and exchanges of pounds that are over are forgotten (R302, R305). -/
def State.forgetPounds (s : State) (t : Nat) : State :=
  { s with
    fce := { s.fce with insts := s.fce.insts.filter fun x => decide (s.keepFrom x.ctx t ≤ x.tick) },
    rte := { s.rte with exchs := s.rte.exchs.filter fun x => decide (s.keepFrom x.ctx t ≤ x.tick) } }

/-- Step 2: totals, removal, the fence, stopped flights and scrub records (R124, R252, R306, R367). -/
def State.edgeStep2 (s : State) (vs : List Verdicts) (stops : List Nat) (t : Nat) : State :=
  let s := s.addTotals
  let s := (vs.filter (·.fate.removes)).foldl (fun s v => s.removeWork v.ctx t) s
  let s := ((s.edgeFence).stopPlans stops t).forgetPounds t
  (vs.filter (·.fate.scrubs)).foldl (fun s v => s.scrubRecord v.ctx t) s

/-- Step 3: staged values and commands, plans, the thermal limit, the recomputed power plan and cap; then SCRUB_STORM stages HELD for the next edge (R11, R295, R369, R416, R428). -/
def State.edgeStep3 (s : State) (vs : List Verdicts) (t : Nat) : State :=
  let cap := s.fld .pwr 0 Off.pwrCap 0 9
  let s := ((s.applyStaged t).planStep3 t).thermalLimit
  let s := (s.powerRecompute).capChanged cap
  (vs.filter fun v => v.fate.scrubs && (s.ctx v.ctx).scrubTicks.getLast? == some t).foldl (fun s v => s.scrubStorm v.ctx) s

/-- Durations of the yard's edge work (R205). -/
def State.cydTimes (s : State) (ns : List Nat) : State :=
  (List.range 4).foldl (fun s m =>
    let n := min 0xFFFF (ns.getD m 0)
    (s.setFld .cyd m Off.cydEdgeTime 0 16 n).highWater .cyd m Off.cydEdgeTime 16 16 n) s

/-- Step 4: journals are decided, limbo is reclaimed, and the serving engine sees what its berths became (R199, R328). -/
def State.edgeStep4 (s : State) (vs : List Verdicts) (t : Nat) (ns : List Nat) : State :=
  let s := (s.yardEdge (verdictOf vs) t).cydTimes ns
  (vs.filter fun v => v.fate != .spill).foldl (fun s v => s.srvAfterYard v.ctx) s

/-! ### Steps 5 to 7 -/

/-- Clusters that a spilling step does not keep are free again (R61). -/
def State.releaseGrants (s : State) : State :=
  { s with clusters := s.clusters.map fun (e : Nat × Cluster) => (e.1, { e.2 with
      zeroed := false, granted := match e.2.granted with
        | some k => if s.spilling k then some k else none
        | none => none }) }

/-- Grants in force, as (cluster, context). -/
def State.grants (s : State) : List (Nat × Nat) :=
  (List.range 32).filterMap fun c => ((s.cluster c).granted).map fun k => (c, k)

/-- Each cluster's phase and slip for the pound that opens (R78). -/
def State.openClusters (s : State) : State :=
  let s := { s with clusters := s.clusters.map fun (e : Nat × Cluster) => (e.1, { e.2 with phase := if e.2.granted.isSome then 3 else 0 }) }
  (s.clusters.map (·.1)).foldl (fun s c => s.setFld .csq c Off.csqSlip 0 24 0) s

/-- Step 5: the contexts scrubbed at this edge are not read; the last edge, a stopped device or idle dies let nothing in (R61, R73, R366, R370, R424). -/
def State.edgeStep5 (s : State) (vs : List Verdicts) (t : Nat) (last : Bool) : State :=
  let unread := (vs.filter fun v => v.fate.scrubs).map (·.ctx)
  let held := s.grants
  ((s.releaseGrants).edgeAdmit t (!last && s.pwr.st == 0 && s.diesOn) unread held).openClusters

/-- Step 7: its time, the heartbeat and the pending GAUGE snapshots (R75, R374, R380); a step 7 not ended 10 µs after the edge is EDGE_OVERRUN. -/
def State.edgeStep7 (s : State) (n : Nat) (first : Bool) : State :=
  let v := min 0xFFFF n
  let s := (s.setFld .lkp 0 Off.lkpEdgeTime 0 16 v).highWater .lkp 0 Off.lkpEdgeTime 16 16 v
  let s := if 1000 < n then s.raisePage .hwd 0 0x16 2 else s
  (if first then s else s.beatCheck).gaugeSnap

/-- The tick number of edge `t` is in force. -/
def State.setTick (s : State) (t : Nat) : State := { s with lkp := { s.lkp with now := t, starting := none, tfDone := false } }

/-- The phase after an edge: the run phase, or the tick stopped by its last edge (R55, R73). -/
def State.setPhase (s : State) (last : Bool) : State :=
  { s with lkp := { s.lkp with phase := if last then .stopped else .run, stopping := if last then false else s.lkp.stopping } }

/-- The seven steps of an edge once the pound before it has met its guard open and its checks (R56). -/
def State.edgeSteps (s : State) (e : EdgeIn) (filled first : Bool) : State :=
  let last := s.lkp.stopping
  let t := s.edgeNumber e
  let vs := s.verdicts
  let owing := (vs.filter fun v => s.owes v t).map (·.ctx)
  let s := s.closePound vs
  let stops := (List.range 32).filter fun i => (s.plan i).aborting s.lkp.now
  let s := ((s.setTick t).edgeSync e.offset filled).meterEdge
  let s := if s.fld .lkp 0 Off.lkpTickCfg 2 1 = 1 then s.emit .tickOut else s
  let s := if first then s else s.powerLearn e.domPower
  let s := vs.foldl (fun s v => s.judge v.ctx v.fate v.overrun) s
  let s := (s.openPound owing).edgeStep2 vs stops t
  let s := (s.edgeStep3 vs t).edgeStep4 vs t e.cydNs
  let s := (s.edgeStep5 vs t last).powerStep6 e
  (s.edgeStep7 e.lastEnd first).setPhase last

/-- A tick edge; guard open and the check at tF of the pound it ends come before it (R55, R56, R305). -/
def State.edge (s : State) (e : EdgeIn) (filled : Bool) : State :=
  let first := s.lkp.starting.isSome
  let s := if s.lkp.phase = .run then s.guardOpen else s
  let s := if first then s else s.flightCheck
  s.edgeSteps e filled first

/-- An edge may fall: the tick runs or is to start, and nothing froze it (R73, R371). -/
def State.edgeDue (s : State) : Bool := (s.ticking || s.lkp.starting.isSome) && !s.hwd.fatal && !s.rst.inReset

/-- TICK_EDGE: an edge the lock-keeper makes itself; under PIN only while the reference is lost (R52, R53, R56). -/
def execTickEdge (e : EdgeIn) (s : State) : Host.Outcome State Fault Refusal :=
  .next (if !s.edgeDue then s
    else if s.tickSrc == 1 && (!s.ticking || decide (s.syncState < 2)) then s
    else s.edge e true)

/-- TICK_IN_TRANSITION: under PIN a transition of the chosen polarity is an edge inside its window, the first one after START always; outside it PIN_STRAY (R52, R73). -/
def execTickInTransition (rising inWindow : Bool) (e : EdgeIn) (s : State) : Host.Outcome State Fault Refusal :=
  .next (if !s.edgeDue || s.tickSrc != 1 || rising != (s.fld .lkp 0 Off.lkpPinCfg 0 1 == 0) then s
    else if inWindow || s.lkp.starting.isSome then s.edge e false
    else s.raisePage .lkp 0 0x54 0)

end Sys2Proof.Machine
end

