-- ==== Sys2Proof/Machine/Reset.lean ====
section
/-! DEFINITION. Single-block resets (R42, R204, R407, R408). -/

namespace Sys2Proof.Machine

/-- RO status fields a page keeps of its own, as (offset, low bit, width): those that are not counters and do not follow from the block's state. -/
def statusFields : PageKind → List (Nat × Nat × Nat)
  | .lkp => [(Off.lkpSyncStatus, 0, 32), (Off.lkpEdgeTime, 0, 32)]
  | .csq => [(Off.csqSlip, 0, 24)]
  | .scb => [(Off.scbState, 8, 6), (Off.scbFenceMax, 0, 26)]
  | .mxa => [(Off.mxaQueue, 8, 5), (Off.mxaCmdSeq, 0, 32), (Off.mxaReject, 0, 32)]
  | .drn => (List.range 8).flatMap fun i => [(Off.drnNanRec0 + 4 * i, 0, 32), (Off.drnSatRec0 + 4 * i, 0, 32)]
  | .vec => [(Off.vecQueue, 0, 13), (Off.vecInsnSeq, 0, 32), (Off.vecReject, 0, 32), (Off.vecRejectSeq, 0, 32)]
  | .atp => [(Off.atpJobSeq, 0, 32), (Off.atpReject, 0, 32), (Off.atpPosLo, 0, 32), (Off.atpPosHi, 0, 32)]
  | .dma => [(Off.dmaCmdSeq, 0, 32), (Off.dmaReject, 0, 32)]
  | .syc => [(Off.sycMismatch, 0, 32)]
  | .cyd => [(Off.cydState, 8, 2), (Off.cydEdgeTime, 0, 32)]
  | .mem => [(Off.memRaaTop, 0, 32), (Off.memImbLast, 0, 32)]
  | .memch => (List.range 4).map fun j => (Off.memChOcc + 0x10 * j, 0, 16)
  | .rte => [(Off.rtePoolFree, 0, 12), (Off.rteJobSeq, 0, 32), (Off.rteReject, 0, 32)]
  | .lnk => [(Off.lnkLastDown, 0, 32)]
  | .lpt => [(Off.lptMacsec, 0, 1)]
  | .fce => [(Off.fcePlanErr, 0, 8), (Off.fceAbortRec0, 0, 32), (Off.fceAbortRec1, 0, 32), (Off.fceAbortRec2, 0, 32), (Off.fceAbortRec3, 0, 32)]
  | .age => (List.range 4).map fun j => (Off.ageRetention + 4 * j, 0, 18)
  | _ => []

/-- The status fields of a page at their reset values, in every bank of the plan slots (R407). -/
def State.clearStatus (s : State) (p : PageRef) : State :=
  (List.range (if p.kind = .fce then 32 else 1)).foldl (fun s b =>
    (statusFields p.kind).foldl (fun s f =>
      s.setFld p.kind p.inst f.1 f.2.1 f.2.2 (bitsAt (resetOf p.kind f.1).toNat f.2.1 f.2.2) b) s) s

/-- A domain's guard-band and oscillator readings at their reset values, the applied margin at the plan (R438). -/
def PwrDom.clearAge (d : PwrDom) : PwrDom := { d with gb := 0, ro := 0, droop := 0, margin := d.plan }

/-- A link at its reset values: DOWN, or DISABLED while it is not enabled (R309). -/
def State.clearLink (s : State) (l : Nat) : State :=
  let s := s.dropLink l
  s.modLink l fun k => { st := if k.st = .disabled then .disabled else .down }

/-- What a single-block reset restores of its block (R407): commands discarded, state machines and buffers at reset, every value of a context cleared; the tables of the coach yard (R204), the berths' generators and DRAM are kept (log 83). -/
def State.clearBlock (s : State) (p : PageRef) : State :=
  let n := p.inst
  match p.kind with
  | .csq => s.modCluster n fun c => { c with granted := none, lastOwner := none, logical := 0, zeroed := false, phase := 0 }
  | .scb => s.modCore n fun c => { c with scb := [], wait := .running }
  | .mxa => s.modCore n Core.clearMxa
  | .drn => s.modCore n Core.clearDrn
  | .vec => s.modCore n Core.clearVec
  | .atp => s.modCore n Core.clearAtp
  | .dma => s.modCore n Core.clearDma
  | .whf => (s.modCore n fun c => { c with wharf := [] }).count .whf n Off.whfZeroed
  | .dch => s.dcacheInval n
  | .mrg => s.modCluster n Cluster.clearMrg
  | .syc => s.modCluster n fun c => { c with sync := [] }
  | .mem => s.modMem fun m =>
      { m with
        raa := Tbl.erase n m.raa
        poisonLog := Tbl.erase n m.poisonLog
        imb := m.imb.filter fun e => e.1 / 64 != n }
  | .lkp => { s with lkp := { s.lkp with now := 0, zeroed := 0, tfDone := false } }
  | .rte => { s with rte := {} }
  | .fce => { s with fce := { ptpTime := s.fce.ptpTime } }
  | .lnk => s.clearLink n
  | .lpt => s.modPort n fun _ => {}
  | .srv => { s with srv := { s.srv with berths := [], opens := 0 } }
  | .smp => { s with srv := { s.srv with smpQ := [], units := [] } }
  | .age => (List.range 7).foldl (fun s d => s.modDom d PwrDom.clearAge)
      { s with age := { s.age with busy := false, eyes := [], refresh := [], events := [] } }
  | _ => s

/-- Pages that refuse BLK_RESET in every state (R408). -/
def noBlockReset : PageKind → Bool
  | .pci | .mgt | .sec | .dbg | .pwr | .thm | .rst | .bkp | .hwd | .hwdsum => true
  | _ => false

/-- A single-block reset is requested (R36, R42, R408): ignored in a view, refused when the block is not idle or never resets, else accepted. -/
def State.blockReset (s : State) (p : PageRef) : State :=
  if p.kind.isView then s
  else if noBlockReset p.kind || !s.idle p then s.accessError p 0x02
  else
    let s := (s.clearBlock p).clearStatus p
    { s with resetting := p.base :: s.resetting }

/-- BLK_RESET: a write of `BLK_CTRL` with BLK_RESET set; its L fields first (R14, R42). -/
def execBlkReset (src : Source) (page : BitVec 32) (v : Word) (s : State) : Host.Outcome State Fault Refusal :=
  .next (match s.reaches src page.toNat with
    | none => s
    | some p => if bitAt v.toNat 0 then (s.writeReg src p Off.blkCtrl v).blockReset p else s)

/-- A held command runs as if it arrived now (R408). -/
def State.rerun (s : State) (c : Instr) : State :=
  match c with
  | .dataBarge l h p => s.dataBarge l h p
  | .mergeBarge l h p => s.mergeBarge l h p
  | .fetchReqBarge l h p => s.fetchReqBarge l h p
  | .weightBarge l h p => s.weightBarge l h p
  | .rwriteBarge l h p => s.rwriteBarge l h p
  | .rwackBarge l h p => s.rwackBarge l h p
  | .lateBarge l h p => s.lateBarge l h p
  | .abortBarge l h p => s.abortBarge l h p
  | .ackBarge l h p => s.ackBarge l h p
  | .planLoad a v => s.planLoad a v
  | .planArm a v => s.planArm a v
  | .planDisarm a v => s.planDisarm a v
  | .planClear a v => s.planClear a v
  | .openFrame a f => s.openFrame a f
  | .appendFrame a f => s.appendFrame a f
  | .cancelFrame a f => s.cancelFrame a f
  | .tickStart a v => s.tickStart a v
  | .tickStop a v => s.tickStop a v
  | _ => s

/-- BLK_RESET_END: RESETTING returns to 0, and what waited at the block's input proceeds in its order of arrival (R407, R408). -/
def execBlkResetEnd (page : BitVec 32) (s : State) : Host.Outcome State Fault Refusal :=
  .next (match pageOf page.toNat with
    | none => s
    | some p =>
      if !s.isResetting p then s
      else
        let waiting := s.held
        waiting.foldl State.rerun { s with resetting := s.resetting.filter (· != p.base), held := [] })

end Sys2Proof.Machine
end

