-- ==== Sys2Proof/Machine/Scalar.lean ====
section
/-! DEFINITION. The scalar unit: loads and stores (R224, R235 to R239, R258) and ordinary RV32IMC instructions (R233). -/

namespace Sys2Proof.Machine

/-! ### Loads and stores -/

/-- A scalar address on a core: a wharf offset, or a DVA. -/
inductive ScalarPlace where
  | wharf (off : Nat)
  | dva (a : Nat)
  deriving DecidableEq, Repr

/-- What a 32-bit scalar address names (log 26). -/
def scalarPlace (core : Nat) (a : Word) : ScalarPlace :=
  let x := Config.scalarAddr core a
  if x / 2 ^ 48 % 2 = 1 then .wharf (x % 2 ^ 21) else .dva (x % 2 ^ 48)

/-- Ranges of a scalar access of `n` bytes. -/
def ScalarPlace.ranges (p : ScalarPlace) (n : Nat) (wr : Bool) : List ScbRange :=
  match p with
  | .wharf o => wharfRange o n wr
  | .dva a => dvaRange a n wr

/-- The access is aligned. -/
def ScalarPlace.aligned (p : ScalarPlace) (n : Nat) : Bool :=
  match p with
  | .wharf o => o % n == 0
  | .dva a => a % n == 0

/-- SCALAR_FAULT (R258). -/
def State.scalarFault (s : State) (core len : Nat) : State :=
  match s.coreCtx core with
  | some ctx => (s.raiseCtx .scb core 0x11 1 ctx core).retire core len
  | none => s

/-- Bytes of a load width. -/
def loadBytes : LoadWidth → Nat
  | .lb | .lbu => 1
  | .lh | .lhu => 2
  | .lw => 4

/-- A loaded value extended to a register. -/
def loadExtend (w : LoadWidth) (x : Nat) : Word :=
  match w with
  | .lb => BitVec.ofInt 32 (sext x 8)
  | .lh => BitVec.ofInt 32 (sext x 16)
  | _ => BitVec.ofNat 32 x

/-- Bytes of a store width. -/
def storeBytes : StoreWidth → Nat
  | .sb => 1
  | .sh => 2
  | .sw => 4

/-- A scalar load by an instruction of `len` bytes: from the wharf, or from a DVA through the data cache (R223, R224, R239). -/
def State.loadOp (s : State) (core : Nat) (w : LoadWidth) (rd : BitVec 5) (a : Word) (len : Nat) : State :=
  match s.coreCtx core with
  | none => s
  | some ctx =>
    let p := scalarPlace core a
    let rs := p.ranges (loadBytes w) false
    if s.waitsVec core [rd] then s.stall core .queue
    else if !p.aligned (loadBytes w) then s.scalarFault core len
    else if s.scalarBlocked core rs then s.stall core .conflict
    else match p with
      | .wharf o =>
        (s.modCore core fun k => k.setSreg rd.toNat (loadExtend w (ofBytes (k.wharfRead o (loadBytes w))))).retire core len
      | .dva d =>
        match (s.portBefore core ctx rs).dcacheRead core ctx d (loadBytes w) with
        | (s, .error _) => s.scalarFault core len
        | (s, .ok bs) => (s.modCore core fun k => k.setSreg rd.toNat (loadExtend w (ofBytes bs))).retire core len

/-- A scalar store by an instruction of `len` bytes: to the wharf, or to a DVA through the data cache and the memory port (R223, R224, R235). -/
def State.storeOp (s : State) (core : Nat) (w : StoreWidth) (v a : Word) (len : Nat) : State :=
  match s.coreCtx core with
  | none => s
  | some ctx =>
    let p := scalarPlace core a
    let bs := toBytes (storeBytes w) v.toNat
    if !p.aligned (storeBytes w) then s.scalarFault core len
    else if s.scalarBlocked core (p.ranges (storeBytes w) true) then s.stall core .conflict
    else match p with
      | .wharf o => (s.wharfWrite core o bs).retire core len
      | .dva d =>
        match s.portStore core ctx [(d, bs)] with
        | (s, .error _) => s.scalarFault core len
        | (s, .ok ()) => s.retire core len

/-- Address of a scalar load or store: rs1 + sign-extended offset. -/
def State.scalarEa (s : State) (core : Nat) (rs1 : BitVec 5) (imm : BitVec 12) : Word := (s.core core).sreg rs1.toNat + imm.signExtend 32

/-- SCALAR_LOAD (R239). -/
def execScalarLoad (core : Fin 512) (width : LoadWidth) (rd rs1 : BitVec 5) (imm : BitVec 12) (s : State) : Host.Outcome State Fault Refusal :=
  .next (if !s.scalarRuns core then s
    else if s.waitsVec core [rs1] then s.stall core .queue
    else s.loadOp core width rd (s.scalarEa core rs1 imm) 4)

/-- SCALAR_STORE (R235). -/
def execScalarStore (core : Fin 512) (width : StoreWidth) (rs1 rs2 : BitVec 5) (imm : BitVec 12) (s : State) : Host.Outcome State Fault Refusal :=
  .next (if !s.scalarRuns core then s
    else if s.waitsVec core [rs1, rs2] then s.stall core .queue
    else s.storeOp core width ((s.core core).sreg rs2.toNat) (s.scalarEa core rs1 imm) 4)

/-! ### RV32C (the 16-bit forms) as their 32-bit equivalents -/

/-- I-type encoding. -/
def encI (op f3 rd rs1 imm : Nat) : Nat := op + rd * 2 ^ 7 + f3 * 2 ^ 12 + rs1 * 2 ^ 15 + (imm % 2 ^ 12) * 2 ^ 20
/-- R-type encoding. -/
def encR (op f3 f7 rd rs1 rs2 : Nat) : Nat := op + rd * 2 ^ 7 + f3 * 2 ^ 12 + rs1 * 2 ^ 15 + rs2 * 2 ^ 20 + f7 * 2 ^ 25
/-- S-type encoding. -/
def encS (op f3 rs1 rs2 imm : Nat) : Nat := op + bitsAt imm 0 5 * 2 ^ 7 + f3 * 2 ^ 12 + rs1 * 2 ^ 15 + rs2 * 2 ^ 20 + bitsAt imm 5 7 * 2 ^ 25
/-- B-type encoding. -/
def encB (f3 rs1 rs2 imm : Nat) : Nat :=
  0x63 + bitsAt imm 11 1 * 2 ^ 7 + bitsAt imm 1 4 * 2 ^ 8 + f3 * 2 ^ 12 + rs1 * 2 ^ 15 + rs2 * 2 ^ 20 + bitsAt imm 5 6 * 2 ^ 25 + bitsAt imm 12 1 * 2 ^ 31
/-- J-type encoding. -/
def encJ (rd imm : Nat) : Nat :=
  0x6F + rd * 2 ^ 7 + bitsAt imm 12 8 * 2 ^ 12 + bitsAt imm 11 1 * 2 ^ 20 + bitsAt imm 1 10 * 2 ^ 21 + bitsAt imm 20 1 * 2 ^ 31

/-- The 6-bit signed immediate of CI forms, as 12 bits. -/
def cImm6 (c : Nat) : Nat := toBits 12 (sext (bitsAt c 2 5 + bitsAt c 12 1 * 32) 6)

/-- The jump offset of C.J and C.JAL, as 21 bits. -/
def cJump (c : Nat) : Nat :=
  toBits 21 (sext (bitsAt c 3 3 * 2 + bitsAt c 11 1 * 16 + bitsAt c 2 1 * 32 + bitsAt c 7 1 * 64 + bitsAt c 6 1 * 128
    + bitsAt c 9 2 * 256 + bitsAt c 8 1 * 1024 + bitsAt c 12 1 * 2048) 12)

/-- The branch offset of C.BEQZ and C.BNEZ, as 13 bits. -/
def cBranch (c : Nat) : Nat :=
  toBits 13 (sext (bitsAt c 3 2 * 2 + bitsAt c 10 2 * 8 + bitsAt c 2 1 * 32 + bitsAt c 5 2 * 64 + bitsAt c 12 1 * 256) 9)

/-- Quadrant 0 of RV32C. -/
def expandC0 (c : Nat) : Option Nat :=
  let rd := 8 + bitsAt c 2 3
  let rs := 8 + bitsAt c 7 3
  let uimm := bitsAt c 6 1 * 4 + bitsAt c 10 3 * 8 + bitsAt c 5 1 * 64
  match bitsAt c 13 3 with
  | 0 =>
    let imm := bitsAt c 6 1 * 4 + bitsAt c 5 1 * 8 + bitsAt c 11 2 * 16 + bitsAt c 7 4 * 64
    if imm = 0 then none else some (encI 0x13 0 rd 2 imm)
  | 2 => some (encI 0x03 2 rd rs uimm)
  | 6 => some (encS 0x23 2 rs rd uimm)
  | _ => none

/-- Quadrant 1 of RV32C. -/
def expandC1 (c : Nat) : Option Nat :=
  let rd := bitsAt c 7 5
  let r := 8 + bitsAt c 7 3
  let r2 := 8 + bitsAt c 2 3
  match bitsAt c 13 3 with
  | 0 => some (encI 0x13 0 rd rd (cImm6 c))
  | 1 => some (encJ 1 (cJump c))
  | 2 => some (encI 0x13 0 rd 0 (cImm6 c))
  | 3 =>
    if rd = 2 then
      let imm := bitsAt c 6 1 * 16 + bitsAt c 2 1 * 32 + bitsAt c 5 1 * 64 + bitsAt c 3 2 * 128 + bitsAt c 12 1 * 512
      if imm = 0 then none else some (encI 0x13 0 2 2 (toBits 12 (sext imm 10)))
    else if cImm6 c = 0 then none
    else some (0x37 + rd * 2 ^ 7 + toBits 20 (sext (cImm6 c) 12) * 2 ^ 12)
  | 4 =>
    match bitsAt c 10 2 with
    | 0 => if bitsAt c 12 1 = 1 then none else some (encI 0x13 5 r r (bitsAt c 2 5))
    | 1 => if bitsAt c 12 1 = 1 then none else some (encI 0x13 5 r r (bitsAt c 2 5 + 0x400))
    | 2 => some (encI 0x13 7 r r (cImm6 c))
    | _ =>
      if bitsAt c 12 1 = 1 then none
      else match bitsAt c 5 2 with
        | 0 => some (encR 0x33 0 0x20 r r r2)
        | 1 => some (encR 0x33 4 0 r r r2)
        | 2 => some (encR 0x33 6 0 r r r2)
        | _ => some (encR 0x33 7 0 r r r2)
  | 5 => some (encJ 0 (cJump c))
  | 6 => some (encB 0 r 0 (cBranch c))
  | _ => some (encB 1 r 0 (cBranch c))

/-- Quadrant 2 of RV32C. -/
def expandC2 (c : Nat) : Option Nat :=
  let rd := bitsAt c 7 5
  let r2 := bitsAt c 2 5
  match bitsAt c 13 3 with
  | 0 => if bitsAt c 12 1 = 1 then none else some (encI 0x13 1 rd rd r2)
  | 2 => if rd = 0 then none else some (encI 0x03 2 rd 2 (bitsAt c 4 3 * 4 + bitsAt c 12 1 * 32 + bitsAt c 2 2 * 64))
  | 4 =>
    if bitsAt c 12 1 = 0 then
      if r2 = 0 then (if rd = 0 then none else some (encI 0x67 0 0 rd 0)) else some (encR 0x33 0 0 rd 0 r2)
    else if r2 = 0 then (if rd = 0 then some 0x00100073 else some (encI 0x67 0 1 rd 0))
    else some (encR 0x33 0 0 rd rd r2)
  | 6 => some (encS 0x23 2 2 r2 (bitsAt c 9 4 * 4 + bitsAt c 7 2 * 64))
  | _ => none

/-- A 16-bit form as its 32-bit equivalent; none = reserved or outside RV32IMC. -/
def expandC (c : Nat) : Option Nat :=
  match c % 4 with
  | 0 => expandC0 c
  | 1 => expandC1 c
  | _ => expandC2 c

/-! ### RV32I and RV32M -/

/-- An ALU operation of OP and OP-IMM. -/
def rvAlu (f3 : Nat) (alt : Bool) (a b : Word) : Word :=
  let sh := b.toNat % 32
  match f3 with
  | 0 => if alt then a - b else a + b
  | 1 => a <<< sh
  | 2 => if a.toInt < b.toInt then 1 else 0
  | 3 => if a.toNat < b.toNat then 1 else 0
  | 4 => a ^^^ b
  | 5 => if alt then a.sshiftRight sh else a >>> sh
  | 6 => a ||| b
  | _ => a &&& b

/-- Quotient rounded towards zero. -/
def quotZero (a b : Int) : Int := Int.tdiv a b

/-- A multiply or divide of RV32M. -/
def rvMul (f3 : Nat) (a b : Word) : Word :=
  let high (x : Int) : Word := BitVec.ofInt 32 (x / (2 ^ 32 : Nat))
  match f3 with
  | 0 => a * b
  | 1 => high (a.toInt * b.toInt)
  | 2 => high (a.toInt * (b.toNat : Int))
  | 3 => high ((a.toNat : Int) * (b.toNat : Int))
  | 4 => if b = 0 then BitVec.allOnes 32 else BitVec.ofInt 32 (quotZero a.toInt b.toInt)
  | 5 => if b = 0 then BitVec.allOnes 32 else BitVec.ofNat 32 (a.toNat / b.toNat)
  | 6 => if b = 0 then a else BitVec.ofInt 32 (a.toInt - b.toInt * quotZero a.toInt b.toInt)
  | _ => if b = 0 then a else BitVec.ofNat 32 (a.toNat % b.toNat)

/-- A branch is taken. -/
def rvTaken (f3 : Nat) (a b : Word) : Bool :=
  match f3 with
  | 0 => a == b
  | 1 => a != b
  | 4 => decide (a.toInt < b.toInt)
  | 5 => decide (b.toInt ≤ a.toInt)
  | 6 => decide (a.toNat < b.toNat)
  | _ => decide (b.toNat ≤ a.toNat)

/-- The width of a load by funct3. -/
def loadWidth : Nat → Option LoadWidth
  | 0 => some .lb
  | 1 => some .lh
  | 2 => some .lw
  | 4 => some .lbu
  | 5 => some .lhu
  | _ => none

/-- The width of a store by funct3. -/
def storeWidth : Nat → Option StoreWidth
  | 0 => some .sb
  | 1 => some .sh
  | 2 => some .sw
  | _ => none

/-- rd receives a value and the program counter moves to a target. -/
def State.jump (s : State) (core rd : Nat) (link : Word) (target : BitVec 48) : State :=
  s.modCore core fun k => { (k.setSreg rd link) with pc := target, wait := .running }

/-- rd receives a value and the program counter moves on. -/
def State.setRd (s : State) (core rd : Nat) (v : Word) (len : Nat) : State := (s.modCore core fun k => k.setSreg rd v).retire core len

/-- A fetched fence or sync instruction by its own encoding (R240). Other instructions of the custom opcodes have rows of their own, whose encodings the spec does not give: the word is left to them. -/
def State.customOp (s : State) (core w : Nat) : State :=
  let rd := BitVec.ofNat 5 (bitsAt w 7 5)
  let rs1 := BitVec.ofNat 5 (bitsAt w 15 5)
  let rs2 := BitVec.ofNat 5 (bitsAt w 20 5)
  let f7 := bitsAt w 25 7
  let scope := BitVec.ofNat 2 (bitsAt f7 2 2)
  match bitsAt w 12 3 with
  | 0 => if rd = 0 ∧ rs1 = 0 ∧ rs2 = 0 ∧ bitsAt f7 4 3 = 0 then s.fenceOp core (f7 % 4) scope else s.badFence core
  | 1 => if rd = 0 ∧ f7 % 4 = 0 ∧ bitsAt f7 4 3 = 0 then s.syiOp core rs1 rs2 scope else s.badFence core
  | 2 => if rd = 0 ∧ f7 % 4 = 0 ∧ bitsAt f7 4 3 = 0 then s.sywOp core rs1 rs2 scope else s.badFence core
  | 3 => if rs2 = 0 ∧ f7 = 0 then s.syrOp core rd rs1 else s.badFence core
  | 4 => if f7 = 0 then s.lduOp core rd rs1 rs2 else s.badFence core
  | _ => s

/-- One RV32IM instruction of `len` bytes as fetched; `w` its 32-bit form. -/
def State.rvExec (s : State) (core w len : Nat) : Host.Outcome State Fault Refusal :=
  let k := s.core core
  let rdN := bitsAt w 7 5
  let rd := BitVec.ofNat 5 rdN
  let f3 := bitsAt w 12 3
  let rs1 := BitVec.ofNat 5 (bitsAt w 15 5)
  let rs2 := BitVec.ofNat 5 (bitsAt w 20 5)
  let f7 := bitsAt w 25 7
  let a := k.sreg rs1.toNat
  let b := k.sreg rs2.toNat
  let immI : Word := BitVec.ofInt 32 (sext (bitsAt w 20 12) 12)
  let immS : Word := BitVec.ofInt 32 (sext (bitsAt w 7 5 + bitsAt w 25 7 * 32) 12)
  let immU : Word := BitVec.ofNat 32 (bitsAt w 12 20 * 2 ^ 12)
  let next := k.pc + BitVec.ofNat 48 len
  let bad : Host.Outcome State Fault Refusal := .fault (.undefinedInstruction core (BitVec.ofNat 32 w))
  match w % 128 with
  | 0x37 => .next (s.setRd core rdN immU len)
  | 0x17 => .next (s.setRd core rdN (Config.pcWord core k.pc + immU) len)
  | 0x6F =>
    let off := sext (bitsAt w 21 10 * 2 + bitsAt w 20 1 * 2 ^ 11 + bitsAt w 12 8 * 2 ^ 12 + bitsAt w 31 1 * 2 ^ 20) 21
    .next (s.jump core rdN (Config.pcWord core next) (k.pc + BitVec.ofInt 48 off))
  | 0x67 =>
    if f3 = 0 then .next (s.jump core rdN (Config.pcWord core next) (BitVec.ofNat 48 (Config.scalarAddr core ((a + immI) &&& 0xFFFFFFFE))))
    else bad
  | 0x63 =>
    if f3 = 2 ∨ f3 = 3 then bad
    else
      let off := sext (bitsAt w 8 4 * 2 + bitsAt w 25 6 * 2 ^ 5 + bitsAt w 7 1 * 2 ^ 11 + bitsAt w 31 1 * 2 ^ 12) 13
      .next (if rvTaken f3 a b then s.jump core 0 0 (k.pc + BitVec.ofInt 48 off) else s.retire core len)
  | 0x03 =>
    match loadWidth f3 with
    | some lwidth => .next (s.loadOp core lwidth rd (a + immI) len)
    | none => bad
  | 0x23 =>
    match storeWidth f3 with
    | some swidth => .next (s.storeOp core swidth b (a + immS) len)
    | none => bad
  | 0x13 =>
    if f3 = 1 then (if f7 = 0 then .next (s.setRd core rdN (rvAlu 1 false a immI) len) else bad)
    else if f3 = 5 then (if f7 = 0 ∨ f7 = 0x20 then .next (s.setRd core rdN (rvAlu 5 (f7 == 0x20) a immI) len) else bad)
    else .next (s.setRd core rdN (rvAlu f3 false a immI) len)
  | 0x33 =>
    if f7 = 1 then .next (s.setRd core rdN (rvMul f3 a b) len)
    else if f7 = 0 then .next (s.setRd core rdN (rvAlu f3 false a b) len)
    else if f7 = 0x20 ∧ (f3 = 0 ∨ f3 = 5) then .next (s.setRd core rdN (rvAlu f3 true a b) len)
    else bad
  | 0x0F => if f3 = 0 then .next (s.retire core len) else bad
  | 0x73 => .fault (.environmentCall core (BitVec.ofNat 32 w))
  | 0x2B => .next (s.customOp core w)
  | _ => bad

/-- The registers a 32-bit form names. -/
def rvFields (w : Nat) : List (BitVec 5) :=
  let rd := BitVec.ofNat 5 (bitsAt w 7 5)
  let rs1 := BitVec.ofNat 5 (bitsAt w 15 5)
  let rs2 := BitVec.ofNat 5 (bitsAt w 20 5)
  match w % 128 with
  | 0x37 | 0x17 | 0x6F => [rd]
  | 0x67 | 0x03 | 0x13 => [rd, rs1]
  | 0x63 | 0x23 => [rs1, rs2]
  | 0x33 => [rd, rs1, rs2]
  | _ => []

/-- Instruction fetch of `n` bytes at the program counter under the X permission (R212, R233). -/
def State.fetchBytes (s : State) (core ctx n : Nat) : State × Except MemErr (List Byte) :=
  let pc := (s.core core).pc.toNat
  (s.portBefore core ctx (dvaRange pc n false)).memRead core ctx pc n .fetch

/-- SCALAR_INSTRUCTION (R233): the instruction at the program counter executes. A vector instruction word is handed to the vector engine; a fetch fault raises SCALAR_FAULT. -/
def execScalarInstruction (core : Fin 512) (s : State) : Host.Outcome State Fault Refusal :=
  if !s.scalarRuns core then .next s else
  match s.coreCtx core with
  | none => .next s
  | some ctx =>
    match s.fetchBytes core ctx 2 with
    | (s, .error _) => .next (s.raiseCtx .scb core 0x11 1 ctx core)
    | (s, .ok lo) =>
      let c := ofBytes lo
      if c % 4 ≠ 3 then
        match expandC c with
        | some w => if s.waitsVec core (rvFields w) then .next (s.stall core .queue) else s.rvExec core w 2
        | none => .fault (.undefinedInstruction core (BitVec.ofNat 32 c))
      else
        let n := if c % 128 = 0x3F then 8 else 4
        match s.fetchBytes core ctx n with
        | (s, .error _) => .next (s.raiseCtx .scb core 0x11 1 ctx core)
        | (s, .ok bs) =>
          let w := ofBytes bs
          if n = 8 then .next (s.vecOp core (BitVec.ofNat 64 w) (bitsAt w 7 4) (bitsAt w 11 6))
          else if s.waitsVec core (rvFields w) then .next (s.stall core .queue)
          else s.rvExec core w 4

end Sys2Proof.Machine
end

