-- ==== Sys2Proof/Machine/Scrub.lean ====
section
/-! DEFINITION. What the memory controllers do on their own: the patrol scrubber, targeted refresh and the imbalance monitor (R217 to R220). -/

namespace Sys2Proof.Machine

/-- Instance of the channel page of a device channel (R26, R229): page 1 + j / 4 of M-die m for local channel j. -/
def chPage (ch : Nat) : Nat := 16 * (ch / 64) + ch % 64 / 4

/-- Offset of a register of a device channel in its page (R229), from that of local channel 0 of the page. -/
def chOff (ch base : Nat) : Nat := base + 0x10 * (ch % 4)

/-- A corrected line (R220): counted, CE raised, and CE_STORM when the channel reaches `MEM_CE_LIMIT` corrections in the hour. -/
def State.lineCorrected (s : State) (ch : Nat) : State :=
  let m := ch / 64
  let n := Tbl.get s.mem.ceHour ch 0 + 1
  let s := s.modMem fun x => { x with ceHour := Tbl.put x.ceHour ch n }
  let s := (s.count .mem m Off.memCeCount).count .memch (chPage ch) (chOff ch Off.memChCe)
  let s := s.raisePage .mem m 0x10 0
  if n = s.fld .mem m Off.memCeLimit 0 16 then s.raisePage .mem m 0x15 0 else s

/-- A line found uncorrectable by the scrubber (R220): poisoned and logged unless it already is; UE, CORRECTED and unattributed. -/
def State.linePoisoned (s : State) (m line : Nat) : State :=
  let s := if s.mem.poisoned line then s
    else (s.modMem fun x =>
      { x with
        poison := line :: x.poison
        poisonLog := Tbl.put x.poisonLog m ((line :: Tbl.get x.poisonLog m []).take 16) }).count .mem m Off.memUeCount
  s.raisePage .mem m 0x11 0

/-- PATROL_SCRUB: one line is read and a corrected one written back (R219, R220); a line that is already poisoned stays so and is reported again. A number beyond the device's lines names none. -/
def execPatrolScrub (line : BitVec 31) (found : EccFound) (s : State) : Host.Outcome State Fault Refusal :=
  .next (
    let dpa := 64 * line.toNat
    let ch := channelOf s.mem.ikey dpa
    if !s.diesOn ∨ dramEnd ≤ dpa then s
    else if s.mem.poisoned line.toNat then s.linePoisoned (ch / 64) line.toNat
    else match found with
      | .clean => s
      | .corrected => s.lineCorrected ch
      | .uncorrectable => s.linePoisoned (ch / 64) line.toNat)

/-- The context with the most triggers in a list, and how many; the lowest of several (R217). -/
def raaTop (xs : List Nat) : Nat × Nat :=
  (List.range 256).foldl (fun b k => let n := (xs.filter (· == k)).length; if b.2 < n then (k, n) else b) (0, 0)

/-- TARGETED_REFRESH: a row of a channel reaches `MEM_RAA_LIMIT` under a context's activations; triggers that have left the rolling 32 ms are dropped (R217). -/
def execTargetedRefresh (ch : Fin 256) (ctx : Fin 256) (expired : Nat) (s : State) : Host.Outcome State Fault Refusal :=
  .next (if !s.diesOn then s
    else
      let m := ch.val / 64
      let xs := (Tbl.get s.mem.raa m []).drop expired ++ [ctx.val]
      let s := s.modMem fun x => { x with raa := Tbl.put x.raa m xs }
      let s := (s.count .mem m Off.memTrefresh).count .memch (chPage ch) (chOff ch Off.memChTref)
      s.wr .mem m Off.memRaaTop (BitVec.ofNat 32 ((raaTop xs).1 + 256 * (min (raaTop xs).2 0xFFFFFF))))

/-- IMBALANCE_WINDOW: the mean occupancy of a channel over 10 µs, the mean of its M-die, and the context with the most queued requests. IMBALANCE is raised when WINDOWS windows in a row exceed RATIO × the mean (R218). -/
def execImbalanceWindow (ch : Fin 256) (occ mean : BitVec 16) (ctx : Fin 256) (s : State) : Host.Outcome State Fault Refusal :=
  .next (if !s.diesOn then s
    else
      let m := ch.val / 64
      let above : Bool := decide (s.fld .mem m Off.memImb 0 4 * mean.toNat < occ.toNat)
      let n := if above then Tbl.get s.mem.imb ch 0 + 1 else 0
      let s := (s.modMem fun x => { x with imb := Tbl.set x.imb ch n 0 }).wr .memch (chPage ch) (chOff ch Off.memChOcc) (occ.zeroExtend 32)
      if above ∧ n = s.fld .mem m Off.memImb 8 8 then
        (s.wr .mem m Off.memImbLast (BitVec.ofNat 32 (ch.val % 64 + 256 * ctx.val))).raisePage .mem m 0x14 0
      else s)

end Sys2Proof.Machine
end

