-- ==== Sys2Proof/Machine/Start.lean ====
section
/-! DEFINITION. Reset sources, start-up, the backup domain, option and firmware copies (R344, R345, R393 to R406, R443). -/

namespace Sys2Proof.Machine

/-! ### Reset sources (R393 to R396, R443) -/

/-- What every reset source leaves: all at the reset values but flash, fuses, the backup domain, the pins, and what is the model's own (R396). -/
def State.cleared (s : State) : State :=
  { State.reset with
    flash := s.flash,
    fuses := s.fuses,
    bkp := s.bkp,
    rst := { perst := s.rst.perst },
    age := { logHead := s.age.logHead },
    out := s.out,
    freeCtr := s.freeCtr,
    pending := s.pending }

/-- POWER_ON: the power-on reset source; the backup domain is kept while VBAK held (R393, R396, R397). -/
def execPowerOn (vbakHeld : Bool) (s : State) : Host.Outcome State Fault Refusal :=
  let t := s.cleared
  .next { t with bkp := { t.bkp with held := t.bkp.held && vbakHeld, lastReset := 0 } }

/-- `BKP_LAST_RESET` at a RESET_N assertion: CAUSE, PRIOR_DEVSTATE and PRIOR_TICK (R394, R410). -/
def State.lastResetWord (s : State) : Word := BitVec.ofNat 32 (packFields [(0, 1, 1), (4, 4, s.devstate), (8, 24, s.lkp.now)])

/-- RESET_N_ASSERT: RESET_N has been low for 0.5 µs; the capture contents and THERMTRIP_N are kept through the hold (R394, R396). -/
def execResetNAssert (s : State) : Host.Outcome State Fault Refusal :=
  .next (if s.rst.resetN then s
    else
      let t := s.cleared
      let kept := s.fld .hwd 0 Off.hwdCapStatus 0 1 == 1 || (s.rst.inReset && s.rst.capKept)
      { t with
        bkp := { t.bkp with lastReset := s.lastResetWord },
        hwd := { t.hwd with cap := s.hwd.cap, capNo := s.hwd.capNo },
        thm := { t.thm with trip := s.thm.trip },
        rst := { t.rst with resetN := true, capKept := kept } })

/-- SUPPLY_FAULT: the part behaves as if power had been removed, and its next release is a power-on (R443). -/
def execSupplyFault (s : State) : Host.Outcome State Fault Refusal :=
  let t := s.cleared
  .next { t with bkp := { t.bkp with lastReset := 0 }, pwr := { t.pwr with st := 3 } }

/-- PERST_N: while low the PCIe port is in reset, and its BARs are left unassigned; nothing else is affected (R395). -/
def execPerstN (low : Bool) (s : State) : Host.Outcome State Fault Refusal :=
  .next (if low then { s with rst := { s.rst with perst := true }, pci := { s.pci with bars := [] } } else { s with rst := { s.rst with perst := false } })

/-! ### The backup domain (R397 to R399, R402, R410) -/

/-- A history entry, newest first, at most eight (R402, R410). -/
def State.histEntry (s : State) (result a b copy ver : Nat) : State :=
  let w := packFields [(0, 4, result), (4, 3, a), (7, 3, b), (10, 2, copy), (12, 8, ver), (20, 12, s.bkp.resets)]
  { s with bkp := { s.bkp with hist := (BitVec.ofNat 32 w :: s.bkp.hist).take 8 } }

/-- A tamper flag is set and raises TAMPER once (R399). -/
def State.tamper (s : State) (bit : Nat) : State :=
  if s.bkp.tamper.getLsbD bit then s
  else
    let s := { s with bkp := { s.bkp with tamper := s.bkp.tamper ||| BitVec.ofNat 5 (2 ^ bit) } }
    if s.rst.inReset then s else s.raisePage .bkp 0 0x11 0

/-- TAMPER: a tamper event (R399, R410). -/
def execTamper (flag : TamperFlag) (s : State) : Host.Outcome State Fault Refusal :=
  .next (s.tamper (match flag with
    | .vbakLow => 0
    | .voltGlitch => 1
    | .clockGlitch => 2
    | .attRollback => 3
    | .optRollback => 4))

/-- TAMPER_CLEAR: a write of 1 clears a flag in FIELD or LAB; in any other state it is ignored and sets BAD_VALUE (R399). -/
def execTamperClear (src : Source) (v : Word) (s : State) : Host.Outcome State Fault Refusal :=
  .next (if !s.reachesBlock src ∨ bitsAt v.toNat 0 5 = 0 then s
    else if s.dbg.st.toNat < 2 then s.accessError ⟨.bkp, 0⟩ 0x03
    else { s with bkp := { s.bkp with tamper := s.bkp.tamper &&& ~~~(v.setWidth 5) } })

/-- CLEAR_FAILS: `RST_OPT_CTRL.CLEAR_FAILS` sets OPT_FAILS to 0 (R402). -/
def execClearFails (src : Source) (v : Word) (s : State) : Host.Outcome State Fault Refusal :=
  .next (if s.reachesBlock src ∧ bitAt v.toNat 0 then { s with bkp := { s.bkp with optFails := 0 } } else s)

/-- OPT_FAILS counts one more, saturating at 255 (R402, R410). -/
def State.optFailed (s : State) : State := { s with bkp := { s.bkp with optFails := min 255 (s.bkp.optFails + 1) } }

/-- Phase BACKUP: the integrity check, the reset counter, and LOAD_MARK (R397, R398, R402). -/
def State.startBackup (s : State) : State :=
  let log := s.flash.summary
  let s :=
    if s.bkp.held then { s with bkp := { s.bkp with valid := true, resets := min (s.bkp.resets + 1) (2 ^ 32 - 1) } }
    else
      let copy := ofBytes ((log.drop 24).take 4)
      ({ s with bkp := { held := true, restored := true, resets := min (copy + 1) (2 ^ 32 - 1) } } : State).raisePage .bkp 0 0x10 0
  if s.bkp.loadMark then
    let (a, b, copy, ver) := s.bkp.markInfo.getD (6, 6, 2, 0)
    let s := (s.histEntry 3 a.toNat b.toNat copy.toNat ver.toNat).optFailed
    ({ s with bkp := { s.bkp with loadMark := false, markInfo := none } } : State).raisePage .rst 0 0x10 0
  else s

/-! ### Option copies (R400 to R403) -/

/-- The record block of an option copy (R400). -/
def optBlock (b : List Byte) : List Byte := (b.drop 2048).take 4096

/-- VERSION of a copy whose MAGIC reads right; 0 when it is unreadable (R409). -/
def optVersion (b : List Byte) : Nat := if b.length = 6144 ∧ imgWord (optBlock b) 0 = 0x524F5A47 then imgWord (optBlock b) 2 else 0

/-- MAGIC, FORMAT, matching VERSION words and CRC of a copy: 0 OK, 1 FORMAT, 2 CRC (R401, R409). -/
def optRead (b : List Byte) : Nat :=
  let k := optBlock b
  if b.length ≠ 6144 ∨ imgWord k 0 ≠ 0x524F5A47 ∨ imgWord k 1 % 2 ^ 16 ≠ 1 ∨ imgWord k 2 ≠ imgWord b 1 ∨ imgWord b 0 % 256 ≠ 2 then 1
  else if imgWord k 1023 ≠ crc32c (k.take 4092) then 2
  else 0

/-- A record's value is one its die accepts (R400, R401). -/
def optRecordOk (typ die : Nat) (p : List Byte) : Bool :=
  (decide (die ≤ 6) || die == 15) && match typ with
  | 1 => p.length == 30 && (List.range 15).all fun i => decide (600 ≤ ofBytes ((p.drop (2 * i)).take 2) ∧ ofBytes ((p.drop (2 * i)).take 2) ≤ 850)
  | 4 => p.length == 6
  | 7 => (p.length == 4 || p.length == 8) && (let l := powerLimits p; decide (900 ≤ l.2 ∧ l.2 ≤ 3000 ∧ l.2 ≤ l.1 ∧ l.1 ≤ 3000))
  | _ => true

/-- The records of a block from an offset, unknown types counted apart; none when one overruns the block or is not accepted (R400, R401). -/
def optRecords : Nat → Nat → List Byte → Option (List (BitVec 8 × BitVec 4 × List Byte) × Nat)
  | 0, _, _ => some ([], 0)
  | n + 1, off, k =>
    let w := ofBytes ((k.drop off).take 4)
    let typ := bitsAt w 0 8
    let len := bitsAt w 12 12
    let p := (k.drop (off + 4)).take len
    if 4092 < off + 4 + len then none
    else if 1 ≤ typ ∧ typ ≤ 7 ∧ !optRecordOk typ (bitsAt w 8 4) p then none
    else (optRecords n (off + 4 + (len + 3) / 4 * 4) k).map fun r =>
      if 1 ≤ typ ∧ typ ≤ 7 then ((BitVec.ofNat 8 typ, BitVec.ofNat 4 (bitsAt w 8 4), p) :: r.1, r.2) else (r.1, r.2 + 1)

/-- `RST_OPT_RESULT` after an attempt (R409). -/
def State.optResult (s : State) (result a b skipped : Nat) : State :=
  s.wr .rst 0 Off.rstOptResult (BitVec.ofNat 32 (packFields [(0, 4, result), (4, 3, a), (7, 3, b), (12, 8, min skipped 255)]))

/-- `LPT_MAC` of every port from a base (R400, R403). -/
def State.setMacs (s : State) (mac : Nat → Nat) : State :=
  (List.range 18).foldl (fun s p => (s.wr .lpt p Off.lptMacLo (BitVec.ofNat 32 (mac p))).wr .lpt p Off.lptMacHi (BitVec.ofNat 32 (mac p / 2 ^ 32 % 2 ^ 16))) s

/-- `LPT_MAC` of port `p` without a MAC_BASE record: 0x02, bytes 0 to 3 of the serial, then p (R403). -/
def State.defaultMac (s : State) (p : Nat) : Nat := ofBytesBE (0x02 :: (toBytes 4 (s.fuses.serial.toNat % 2 ^ 32) ++ [BitVec.ofNat 8 p]))

/-- The trims that have a register of their own: MAC addresses and the default cap (R400, R403). -/
def State.applyTrims (s : State) : State :=
  let s := s.setMacs (match (s.rst.trims.filter fun r => r.1 == 0x04).getLast? with
    | some r => fun p => ofBytes r.2.2 + p
    | none => s.defaultMac)
  let cap := match (s.rst.trims.filter fun r => r.1 == 0x07).getLast? with
    | some r => (powerLimits r.2.2).2 / 10
    | none => 90
  ({ s with pwr := { s.pwr with capMs := cap, capS := cap } } : State).wr .pwr 0 Off.pwrCap (BitVec.ofNat 32 cap)

/-- The factory-safe defaults (R402, R403). -/
def State.fallBack (s : State) : State :=
  let s := { s with rst := { s.rst with fallback := true, optCopy := 0xFF, trims := [], opt := none, retryDue := false } }
  ((s.wr .rst 0 Off.rstOptVersion 0).raisePage .rst 0 0x12 0).applyTrims

/-- A copy that failed a check raises OPT_COPY_BAD, or FW_ROLLBACK with its tamper flag (R401, R410). -/
def State.copyBad (s : State) (check : Nat) : State :=
  if check = 0 ∨ check = 6 then s
  else if check = 4 then (s.raisePage .sec 0 0x16 0).tamper 4
  else s.raisePage .rst 0 0x11 0

/-- Selection of R401: the checks of A and B and the copy selected; what was never verified is NOT_TRIED. -/
def State.optSelect (s : State) : Nat × Nat × Option Nat :=
  let read : Nat → Nat := fun c => optRead (if c = 0 then s.flash.optA else s.flash.optB)
  let bytes : Nat → List Byte := fun c => if c = 0 then s.flash.optA else s.flash.optB
  let order : List Nat := (if optVersion s.flash.optA < optVersion s.flash.optB then [1, 0] else [0, 1]).filter fun c => read c == 0
  let verify : Nat → Nat := fun c => match s.imageCheck 2 (bytes c) with
    | 0 => 0
    | 1 => 3
    | _ => 4
  let first : Option Nat := order.head?
  let ok1 := first.map verify == some 0
  let sel := if ok1 then first else (order.drop 1).find? fun c => verify c == 0
  let check : Nat → Nat := fun c =>
    if read c ≠ 0 then read c
    else if ok1 ∧ first ≠ some c then 6
    else verify c
  (check 0, check 1, sel)

/-- A failed attempt: counted, entered in the history; a new one 1.0 ms later, or the defaults after the third (R402). The flag says whether the loader is done. -/
def State.attemptFailed (s : State) (result a b copy ver skipped : Nat) : State × Bool :=
  let s := (s.optFailed.histEntry result a b copy ver).optResult result a b skipped
  let s := { s with bkp := { s.bkp with loadMark := false, markInfo := none }, rst := { s.rst with trims := [] } }
  if s.bkp.optFails < 3 then ({ s with rst := { s.rst with retryDue := true } }, false)
  else (((s.histEntry 6 a b 3 0).optResult 6 a b skipped).fallBack, true)

/-- One load attempt (R401, R402). -/
def State.loadAttempt (s : State) : State × Bool :=
  let s := { s with bkp := { s.bkp with loadMark := true, markInfo := none }, rst := { s.rst with retryDue := false } }
  let s := s.wr .rst 0 Off.rstVerA (BitVec.ofNat 32 (optVersion s.flash.optA))
  let s := s.wr .rst 0 Off.rstVerB (BitVec.ofNat 32 (optVersion s.flash.optB))
  let (a, b, sel) := s.optSelect
  let s := (s.copyBad a).copyBad b
  match sel with
  | none => s.attemptFailed 2 a b 2 0 0
  | some c =>
    let bytes := if c = 0 then s.flash.optA else s.flash.optB
    let ver := optVersion bytes
    let s := { s with bkp := { s.bkp with markInfo := some (BitVec.ofNat 3 a, BitVec.ofNat 3 b, BitVec.ofNat 2 c, BitVec.ofNat 8 ver) } }
    match optRecords (imgWord (optBlock bytes) 1 / 2 ^ 16) 0x10 (optBlock bytes) with
    | none => (s.raisePage .rst 0 0x13 0).attemptFailed 4 a b c ver 0
    | some (recs, skipped) =>
      let s := { s with
        bkp := { s.bkp with loadMark := false, markInfo := none, optFails := 0 },
        rst := { s.rst with trims := recs, optCopy := BitVec.ofNat 8 c, opt := some (imageOf bytes) } }
      let s := (s.histEntry 1 a b c ver).optResult 1 a b skipped
      ((s.wr .rst 0 Off.rstOptVersion (BitVec.ofNat 32 ver)).applyTrims, true)

/-! ### The start-up sequence (R404 to R406) -/

/-- The attestation state is recovered (R347): NEXT is RESERVE when the backup domain was lost; beyond RESERVE the flash was rolled back. -/
def State.startAttest (s : State) : State :=
  let r := s.attReserve
  if !s.bkp.valid then { s with bkp := { s.bkp with attNext := r } }
  else if r < s.bkp.attNext then (s.raisePage .sec 0 0x17 0).tamper 3
  else s

/-- What the lifetime log's current summary gives the part (R430, R433): counts, histories and the stored margin plan, the widest margin on the defaults or without a summary. -/
def State.startLog (s : State) : State :=
  let b := s.flash.summary
  let num := fun off n => ofBytes ((b.drop off).take n)
  let codes := ((List.range 128).map fun i => (num (512 + 8 * i) 2, num (514 + 8 * i) 2, num (516 + 8 * i) 4)).filter fun c => c.1 != 0
  let histo := (List.range 112).foldl (fun h i => Tbl.set h i (num (64 + 4 * i) 4) 0) []
  let s := { s with age := { s.age with poh := num 12 4, energy := num 16 8, unlocks := num 28 4, sumSeq := num 4 4, histo := histo, codes := codes } }
  (List.range 7).foldl (fun s d =>
    let stored := !b.isEmpty && !s.rst.fallback
    let m := if stored then num (32 + 4 * d) 1 else 100
    let s := s.modDom d fun x => { x with
      margin := m, plan := m,
      droop := if stored then num (33 + 4 * d) 1 else 0,
      maxPoint := if stored then num (34 + 4 * d) 1 else 14 }
    s.fitPoints d false) s

/-- Phase POWER: rails at the loaded points, the M-dies and the X-die at their fixed ones; the ceilings of R412. -/
def State.startPower (s : State) : State :=
  let s := (s.startLog).idleRails
  let s := s.modDom 6 fun x => { x with point := 6, volt := s.railAt 6 6 }
  (List.range 5).foldl (fun s i => s.setFld .pwr 0 Off.pwrDomCtrl 8 8 (if i < 4 then 8 else 35) (2 + i)) s

/-- The last phases: MEMORY, COMPUTE and KEYS end, context 0's key is drawn, and the part is READY in D0-IDLE with its tick stopped (R334, R405, R424). -/
def State.startReady (s : State) : State :=
  let s := s.modCtx 0 fun c => { c with st := .active, key := some (s.sec.keyGen + 1) }
  let s := { s with
    sec := { s.sec with keyGen := s.sec.keyGen + 1, ready := true },
    rst := { s.rst with phase := 9, ready := true },
    pwr := { s.pwr with st := 1, pend := none } }
  let t := fun (s : State) (off i : Nat) => s.wr .rst 0 off (s.rst.times.getD i 0)
  (t (t (t s Off.rstTOptions 0) Off.rstTMemory 1) Off.rstTReady 2).logEvent 0x01 [s.bkp.lastReset.toNat, s.bkp.resets]

/-- Start-up stops in FW_RECOVERY: no copy of an image was accepted (R404). -/
def State.stuck (s : State) : State := { s with rst := { s.rst with phase := 10 } }

/-- After OPTIONS: POWER, the attestation state, FIRMWARE, and the rest (R405). -/
def State.startRest (s : State) : State :=
  let s := (s.startPower).startAttest.pickImage 1
  if s.rst.drv.isNone then s.stuck else s.startReady

/-- Phase OPTIONS: no attempt with OPT_FAILS at 3 or more, else one (R402). -/
def State.startOptions (s : State) : State :=
  let s := { s with rst := { s.rst with phase := 3 } }
  if 3 ≤ s.bkp.optFails then ((s.optResult 6 6 6 0).fallBack).startRest
  else match s.loadAttempt with
    | (s, true) => s.startRest
    | (s, false) => s

/-- Phases FUSES and ENTROPY: the pages answer, the interleave key and the nonce are drawn, the security-engine image is chosen (R209, R351, R404, R405). -/
def State.startEntropy (s : State) : State :=
  let (n, s) := s.draw
  let (m, s) := s.draw
  let s := s.modMem fun x => { x with ikey := Config.free128 n }
  let s := { s with dbg := { s.dbg with nonce := Config.free128 m }, sec := { s.sec with rngOk := true } }
  let s := s.pickImage 3
  if s.rst.sece.isNone then s.stuck else s.startOptions

/-- RELEASE: the straps are sampled and start-up runs, to READY, to a failed option load, or to FW_RECOVERY (R393, R405, R449). -/
def execRelease (r : ReleaseIn) (s : State) : Host.Outcome State Fault Refusal :=
  .next (if !s.rst.inReset then s
    else
      let s := { s with rst := { s.rst with inReset := false, resetN := false, straps := r.straps, times := [r.tOptions, r.tMemory, r.tReady] } }
      s.startBackup.startEntropy)

/-- OPTION_LOAD_RETRY: 1.0 ms after a failed attempt, a new one (R402). -/
def execOptionLoadRetry (s : State) : Host.Outcome State Fault Refusal :=
  .next (if s.rst.inReset ∨ !s.rst.retryDue then s
    else match s.loadAttempt with
      | (s, true) => s.startRest
      | (s, false) => s)

/-! ### Firmware update (R345, R404) -/

/-- The image goes to the inactive copy of its TYPE; of an option image, to the copy that is not selected (R345, R401). -/
def State.stageImage (s : State) (b : List Byte) : State :=
  let typ := imgWord b 0 % 256
  if typ = 1 ∨ typ = 3 then { s with flash := s.flash.setCopies typ ((s.flash.copies typ).1, b) }
  else if typ = 2 then
    if s.rst.optCopy = 1 then { s with flash := { s.flash with optA := b } } else { s with flash := { s.flash with optB := b } }
  else s

/-- An image written in FW_RECOVERY that passes R344 is run, and start-up continues (R404). -/
def State.recover (s : State) (b : List Byte) : State :=
  let typ := if s.rst.sece.isNone then 3 else 1
  let s := s.stageImage b
  match s.imageCheck typ b with
  | 0 =>
    let (x, y) := s.flash.copies typ
    let s := State.runImage { s with flash := s.flash.setCopies typ (y, x) } typ (some (imageOf b))
    (if typ = 3 then s.startOptions else s.startReady).pldmSay 0 []
  | c => (s.imageRefused c).pldmSay 1 []

/-- PLDM_FW_UPDATE: an image is staged to the inactive copy and verified; no answer during a firmware restart (R345, R376, R404). -/
def execPldmFwUpdate (image : List Byte) (s : State) : Host.Outcome State Fault Refusal :=
  .next (if s.rst.inReset then s
    else if s.rst.phase = 10 then s.recover image
    else if !s.dravnerUp then s
    else
      let s := s.stageImage image
      let c := s.imageCheck (imgWord image 0 % 256) image
      let ok := c == 0 && decide (1 ≤ imgWord image 0 % 256 ∧ imgWord image 0 % 256 ≤ 3)
      let s := { s with sec := { s.sec with pldm := some image, pldmOk := ok } }
      if ok then s.pldmSay 0 [] else (s.imageRefused c).pldmSay 1 [])

/-- ACTIVATE_FIRMWARE: acknowledged once the staged image verifies; it becomes the active copy and runs at the next firmware restart or reset source, and for an option image OPT_FAILS becomes 0 (R345, R402). -/
def execActivateFirmware (s : State) : Host.Outcome State Fault Refusal :=
  .next (if !s.dravnerUp then s
    else match s.sec.pldm with
      | none => s.pldmSay 1 []
      | some b =>
        if !s.sec.pldmOk then s.pldmSay 1 []
        else
          let typ := imgWord b 0 % 256
          let s := { s with sec := { s.sec with pldm := none, pldmOk := false } }
          let s := if typ = 2 then { s with bkp := { s.bkp with optFails := 0 } }
            else { s with flash := s.flash.setCopies typ ((s.flash.copies typ).2, (s.flash.copies typ).1) }
          s.pldmSay 0 [])

/-- DYNAMIC_ADDRESS_ASSIGNMENT: strapped to I3C, the towpath takes the address the controller assigns (R449). -/
def execDynamicAddressAssignment (addr : BitVec 7) (s : State) : Host.Outcome State Fault Refusal :=
  .next (if !s.rst.inReset ∧ s.rst.straps.getLsbD 0 then { s with mgt := { s.mgt with dynAddr := some addr } } else s)

end Sys2Proof.Machine
end

