-- ==== Sys2Proof/Machine/Dispatch.lean ====
section
/-! DEFINITION. One arm per command: each calls its meaning. -/

namespace Sys2Proof.Machine

def exec (i : Instr) (s : State) : Host.Outcome State Fault Refusal :=
  match i with
  | .registerWrite src off acc => Sys2Proof.Machine.execRegisterWrite src off acc s
  | .badAccess src off bytes => Sys2Proof.Machine.execBadAccess src off bytes s
  | .unmapped src off acc => Sys2Proof.Machine.execUnmapped src off acc s
  | .poweredDown src off acc => Sys2Proof.Machine.execPoweredDown src off acc s
  | .blkReset src page v => Sys2Proof.Machine.execBlkReset src page v s
  | .blkResetEnd page => Sys2Proof.Machine.execBlkResetEnd page s
  | .inject src page v => Sys2Proof.Machine.execInject src page v s
  | .blkFirstClear src page v => Sys2Proof.Machine.execBlkFirstClear src page v s
  | .apertureAccess ctx off acc => Sys2Proof.Machine.execApertureAccess ctx off acc s
  | .ringWindowAccess ctx off acc => Sys2Proof.Machine.execRingWindowAccess ctx off acc s
  | .configRequest fn req => Sys2Proof.Machine.execConfigRequest fn req s
  | .drnCtxModeWrite src core idx v => Sys2Proof.Machine.execDrnCtxModeWrite src core idx v s
  | .tickStart src v => Sys2Proof.Machine.execTickStart src v s
  | .tickStop src v => Sys2Proof.Machine.execTickStop src v s
  | .tickEdge e => Sys2Proof.Machine.execTickEdge e s
  | .launchEntry ctx entry time => Sys2Proof.Machine.execLaunchEntry ctx entry time s
  | .guardOpen => Sys2Proof.Machine.execGuardOpen s
  | .flightCheckTf => Sys2Proof.Machine.execFlightCheckTf s
  | .manifestPreread ctx time => Sys2Proof.Machine.execManifestPreread ctx time s
  | .tagVerifyDone ctx time => Sys2Proof.Machine.execTagVerifyDone ctx time s
  | .tickInTransition rising inWindow e => Sys2Proof.Machine.execTickInTransition rising inWindow e s
  | .syncReferenceLost => Sys2Proof.Machine.execSyncReferenceLost s
  | .syncReferenceRestored => Sys2Proof.Machine.execSyncReferenceRestored s
  | .holdoverLimitExpired => Sys2Proof.Machine.execHoldoverLimitExpired s
  | .mxqSload core rs => Sys2Proof.Machine.execMxqSload core rs s
  | .mxqSwap core rs => Sys2Proof.Machine.execMxqSwap core rs s
  | .mxqWsmul core rs => Sys2Proof.Machine.execMxqWsmul core rs s
  | .mxqOsmul core rs => Sys2Proof.Machine.execMxqOsmul core rs s
  | .mxqForm core rs => Sys2Proof.Machine.execMxqForm core rs s
  | .mxaCmdStart core idx => Sys2Proof.Machine.execMxaCmdStart core idx s
  | .shadowFull core arr => Sys2Proof.Machine.execShadowFull core arr s
  | .swapEffect core arr => Sys2Proof.Machine.execSwapEffect core arr s
  | .bankHandover core => Sys2Proof.Machine.execBankHandover core s
  | .osSwapOut core => Sys2Proof.Machine.execOsSwapOut core s
  | .dset core rs idx => Sys2Proof.Machine.execDset core rs idx s
  | .drainBank core => Sys2Proof.Machine.execDrainBank core s
  | .cartEnter core => Sys2Proof.Machine.execCartEnter core s
  | .nanReport => Sys2Proof.Machine.execNanReport s
  | .vecIssue core => Sys2Proof.Machine.execVecIssue core s
  | .vecSetvlI core word => Sys2Proof.Machine.execVecSetvlI core word s
  | .vecSetvlS core word => Sys2Proof.Machine.execVecSetvlS core word s
  | .vecGetvl core word => Sys2Proof.Machine.execVecGetvl core word s
  | .vecStatR core word => Sys2Proof.Machine.execVecStatR core word s
  | .vecStatC core word => Sys2Proof.Machine.execVecStatC core word s
  | .vecMvxs core word => Sys2Proof.Machine.execVecMvxs core word s
  | .vecMvsx core word => Sys2Proof.Machine.execVecMvsx core word s
  | .vecFadd core word => Sys2Proof.Machine.execVecFadd core word s
  | .vecFsub core word => Sys2Proof.Machine.execVecFsub core word s
  | .vecFmul core word => Sys2Proof.Machine.execVecFmul core word s
  | .vecFma core word => Sys2Proof.Machine.execVecFma core word s
  | .vecFmin core word => Sys2Proof.Machine.execVecFmin core word s
  | .vecFmax core word => Sys2Proof.Machine.execVecFmax core word s
  | .vecAbs core word => Sys2Proof.Machine.execVecAbs core word s
  | .vecNeg core word => Sys2Proof.Machine.execVecNeg core word s
  | .vecMuls core word => Sys2Proof.Machine.execVecMuls core word s
  | .vecAdds core word => Sys2Proof.Machine.execVecAdds core word s
  | .vecIadd core word => Sys2Proof.Machine.execVecIadd core word s
  | .vecIsub core word => Sys2Proof.Machine.execVecIsub core word s
  | .vecImul core word => Sys2Proof.Machine.execVecImul core word s
  | .vecAddsat core word => Sys2Proof.Machine.execVecAddsat core word s
  | .vecSubsat core word => Sys2Proof.Machine.execVecSubsat core word s
  | .vecImin core word => Sys2Proof.Machine.execVecImin core word s
  | .vecImax core word => Sys2Proof.Machine.execVecImax core word s
  | .vecAnd core word => Sys2Proof.Machine.execVecAnd core word s
  | .vecOr core word => Sys2Proof.Machine.execVecOr core word s
  | .vecXor core word => Sys2Proof.Machine.execVecXor core word s
  | .vecShl core word => Sys2Proof.Machine.execVecShl core word s
  | .vecShrl core word => Sys2Proof.Machine.execVecShrl core word s
  | .vecShra core word => Sys2Proof.Machine.execVecShra core word s
  | .vecEq core word => Sys2Proof.Machine.execVecEq core word s
  | .vecNe core word => Sys2Proof.Machine.execVecNe core word s
  | .vecLt core word => Sys2Proof.Machine.execVecLt core word s
  | .vecLe core word => Sys2Proof.Machine.execVecLe core word s
  | .vecGt core word => Sys2Proof.Machine.execVecGt core word s
  | .vecGe core word => Sys2Proof.Machine.execVecGe core word s
  | .vecUnord core word => Sys2Proof.Machine.execVecUnord core word s
  | .vecExp core word => Sys2Proof.Machine.execVecExp core word s
  | .vecExp2 core word => Sys2Proof.Machine.execVecExp2 core word s
  | .vecLn core word => Sys2Proof.Machine.execVecLn core word s
  | .vecLog2 core word => Sys2Proof.Machine.execVecLog2 core word s
  | .vecRcp core word => Sys2Proof.Machine.execVecRcp core word s
  | .vecRsqrt core word => Sys2Proof.Machine.execVecRsqrt core word s
  | .vecSqrt core word => Sys2Proof.Machine.execVecSqrt core word s
  | .vecTanh core word => Sys2Proof.Machine.execVecTanh core word s
  | .vecSigmoid core word => Sys2Proof.Machine.execVecSigmoid core word s
  | .vecErf core word => Sys2Proof.Machine.execVecErf core word s
  | .vecSin core word => Sys2Proof.Machine.execVecSin core word s
  | .vecCos core word => Sys2Proof.Machine.execVecCos core word s
  | .vecCvt core word => Sys2Proof.Machine.execVecCvt core word s
  | .vecCvts core word => Sys2Proof.Machine.execVecCvts core word s
  | .vecQmx core word => Sys2Proof.Machine.execVecQmx core word s
  | .vecPerm core word => Sys2Proof.Machine.execVecPerm core word s
  | .vecSlideup core word => Sys2Proof.Machine.execVecSlideup core word s
  | .vecSlidedn core word => Sys2Proof.Machine.execVecSlidedn core word s
  | .vecBcast core word => Sys2Proof.Machine.execVecBcast core word s
  | .vecCompress core word => Sys2Proof.Machine.execVecCompress core word s
  | .vecSum core word => Sys2Proof.Machine.execVecSum core word s
  | .vecProd core word => Sys2Proof.Machine.execVecProd core word s
  | .vecRmax core word => Sys2Proof.Machine.execVecRmax core word s
  | .vecRmin core word => Sys2Proof.Machine.execVecRmin core word s
  | .vecLse core word => Sys2Proof.Machine.execVecLse core word s
  | .vecArgmax core word => Sys2Proof.Machine.execVecArgmax core word s
  | .vecArgmin core word => Sys2Proof.Machine.execVecArgmin core word s
  | .maskAnd core word => Sys2Proof.Machine.execMaskAnd core word s
  | .maskOr core word => Sys2Proof.Machine.execMaskOr core word s
  | .maskXor core word => Sys2Proof.Machine.execMaskXor core word s
  | .maskAndn core word => Sys2Proof.Machine.execMaskAndn core word s
  | .maskNot core word => Sys2Proof.Machine.execMaskNot core word s
  | .maskSetn core word => Sys2Proof.Machine.execMaskSetn core word s
  | .maskPopc core word => Sys2Proof.Machine.execMaskPopc core word s
  | .maskFirst core word => Sys2Proof.Machine.execMaskFirst core word s
  | .vecLdw core word => Sys2Proof.Machine.execVecLdw core word s
  | .vecStw core word => Sys2Proof.Machine.execVecStw core word s
  | .vecLdws core word => Sys2Proof.Machine.execVecLdws core word s
  | .vecStws core word => Sys2Proof.Machine.execVecStws core word s
  | .vecLdd core word => Sys2Proof.Machine.execVecLdd core word s
  | .vecStd core word => Sys2Proof.Machine.execVecStd core word s
  | .ctag core word => Sys2Proof.Machine.execCtag core word s
  | .crd core word => Sys2Proof.Machine.execCrd core word s
  | .cpop core word => Sys2Proof.Machine.execCpop core word s
  | .kernelEnd core time => Sys2Proof.Machine.execKernelEnd core time s
  | .atqDecode core rs => Sys2Proof.Machine.execAtqDecode core rs s
  | .atqPrefill core rs => Sys2Proof.Machine.execAtqPrefill core rs s
  | .atpJobStart core => Sys2Proof.Machine.execAtpJobStart core s
  | .atpJobEnd core => Sys2Proof.Machine.execAtpJobEnd core s
  | .mrgContribution cluster => Sys2Proof.Machine.execMrgContribution cluster s
  | .mrgDeliver cluster slot => Sys2Proof.Machine.execMrgDeliver cluster slot s
  | .scoreIncrement => Sys2Proof.Machine.execScoreIncrement s
  | .cyqOpen core rs => Sys2Proof.Machine.execCyqOpen core rs s
  | .cyqAppend core rs => Sys2Proof.Machine.execCyqAppend core rs s
  | .cyqClaim core rs => Sys2Proof.Machine.execCyqClaim core rs s
  | .cyqFork core rs => Sys2Proof.Machine.execCyqFork core rs s
  | .cyqRelease core rs => Sys2Proof.Machine.execCyqRelease core rs s
  | .cyqEvict core rs => Sys2Proof.Machine.execCyqEvict core rs s
  | .cyqList core rs => Sys2Proof.Machine.execCyqList core rs s
  | .cyqInfo core rs => Sys2Proof.Machine.execCyqInfo core rs s
  | .cyqBinfo core rs => Sys2Proof.Machine.execCyqBinfo core rs s
  | .dmqCopy core rs => Sys2Proof.Machine.execDmqCopy core rs s
  | .dmqFill core rs => Sys2Proof.Machine.execDmqFill core rs s
  | .dmqCoach core rs => Sys2Proof.Machine.execDmqCoach core rs s
  | .dmqAtomic core rs => Sys2Proof.Machine.execDmqAtomic core rs s
  | .dmqRwrite core rs => Sys2Proof.Machine.execDmqRwrite core rs s
  | .dmaCmdStart core => Sys2Proof.Machine.execDmaCmdStart core s
  | .dmaCmdComplete core idx => Sys2Proof.Machine.execDmaCmdComplete core idx s
  | .scalarLoad core width rd rs1 imm => Sys2Proof.Machine.execScalarLoad core width rd rs1 imm s
  | .scalarStore core width rs1 rs2 imm => Sys2Proof.Machine.execScalarStore core width rs1 rs2 imm s
  | .ldu core rd rs1 rs2 => Sys2Proof.Machine.execLdu core rd rs1 rs2 s
  | .rel core scope => Sys2Proof.Machine.execRel core scope s
  | .acq core scope => Sys2Proof.Machine.execAcq core scope s
  | .fence core scope => Sys2Proof.Machine.execFence core scope s
  | .syi core rs1 rs2 scope => Sys2Proof.Machine.execSyi core rs1 rs2 scope s
  | .syw core rs1 rs2 scope => Sys2Proof.Machine.execSyw core rs1 rs2 scope s
  | .sywWaitEnd core => Sys2Proof.Machine.execSywWaitEnd core s
  | .syr core rd rs1 => Sys2Proof.Machine.execSyr core rd rs1 s
  | .dcinv core => Sys2Proof.Machine.execDcinv core s
  | .rtq core rs => Sys2Proof.Machine.execRtq core rs s
  | .rteSelect => Sys2Proof.Machine.execRteSelect s
  | .fetchLanded idx => Sys2Proof.Machine.execFetchLanded idx s
  | .fcq core rs => Sys2Proof.Machine.execFcq core rs s
  | .collectiveComplete idx => Sys2Proof.Machine.execCollectiveComplete idx s
  | .spq core rs => Sys2Proof.Machine.execSpq core rs s
  | .sampleComplete unit => Sys2Proof.Machine.execSampleComplete unit s
  | .buildManifest ctx => Sys2Proof.Machine.execBuildManifest ctx s
  | .openFrame arr frame => Sys2Proof.Machine.execOpenFrame arr frame s
  | .appendFrame arr frame => Sys2Proof.Machine.execAppendFrame arr frame s
  | .cancelFrame arr frame => Sys2Proof.Machine.execCancelFrame arr frame s
  | .intakePoll ctx => Sys2Proof.Machine.execIntakePoll ctx s
  | .linkAlignLost link => Sys2Proof.Machine.execLinkAlignLost link s
  | .linkFecFail link => Sys2Proof.Machine.execLinkFecFail link s
  | .linkAligned link lanes => Sys2Proof.Machine.execLinkAligned link lanes s
  | .lldpTx link => Sys2Proof.Machine.execLldpTx link s
  | .lldpRx link tlvs => Sys2Proof.Machine.execLldpRx link tlvs s
  | .dataBarge link hdr payload => Sys2Proof.Machine.execDataBarge link hdr payload s
  | .mergeBarge link hdr payload => Sys2Proof.Machine.execMergeBarge link hdr payload s
  | .fetchReqBarge link hdr payload => Sys2Proof.Machine.execFetchReqBarge link hdr payload s
  | .weightBarge link hdr payload => Sys2Proof.Machine.execWeightBarge link hdr payload s
  | .rwriteBarge link hdr payload => Sys2Proof.Machine.execRwriteBarge link hdr payload s
  | .rwackBarge link hdr payload => Sys2Proof.Machine.execRwackBarge link hdr payload s
  | .lateBarge link hdr payload => Sys2Proof.Machine.execLateBarge link hdr payload s
  | .abortBarge link hdr payload => Sys2Proof.Machine.execAbortBarge link hdr payload s
  | .ackBarge link hdr payload => Sys2Proof.Machine.execAckBarge link hdr payload s
  | .ackTx link => Sys2Proof.Machine.execAckTx link s
  | .ackTimeout idx => Sys2Proof.Machine.execAckTimeout idx s
  | .arpRequest port addr v6 => Sys2Proof.Machine.execArpRequest port addr v6 s
  | .pfcRx link cls pause => Sys2Proof.Machine.execPfcRx link cls pause s
  | .ptpMessageRx port msg => Sys2Proof.Machine.execPtpMessageRx port msg s
  | .ptpSyncTx port kind => Sys2Proof.Machine.execPtpSyncTx port kind s
  | .planLoad src v => Sys2Proof.Machine.execPlanLoad src v s
  | .planArm src v => Sys2Proof.Machine.execPlanArm src v s
  | .planDisarm src v => Sys2Proof.Machine.execPlanDisarm src v s
  | .planClear src v => Sys2Proof.Machine.execPlanClear src v s
  | .activate src v => Sys2Proof.Machine.execActivate src v s
  | .deactivate src v => Sys2Proof.Machine.execDeactivate src v s
  | .memXlatInv src v => Sys2Proof.Machine.execMemXlatInv src v s
  | .memXlatInvAll src v => Sys2Proof.Machine.execMemXlatInvAll src v s
  | .pskWrite src ctx idx v => Sys2Proof.Machine.execPskWrite src ctx idx v s
  | .sakInstall src v => Sys2Proof.Machine.execSakInstall src v s
  | .fwCommit src v => Sys2Proof.Machine.execFwCommit src v s
  | .pskExchange t req => Sys2Proof.Machine.execPskExchange t req s
  | .pskFinish t sid macOk => Sys2Proof.Machine.execPskFinish t sid macOk s
  | .endSession t sid => Sys2Proof.Machine.execEndSession t sid s
  | .keyUpdate t sid => Sys2Proof.Machine.execKeyUpdate t sid s
  | .heartbeat t sid => Sys2Proof.Machine.execHeartbeat t sid s
  | .spdmUnsupported t code => Sys2Proof.Machine.execSpdmUnsupported t code s
  | .evidenceRequest t sid nonce => Sys2Proof.Machine.execEvidenceRequest t sid nonce s
  | .publicKeyRequest t sid => Sys2Proof.Machine.execPublicKeyRequest t sid s
  | .pldmFwUpdate image => Sys2Proof.Machine.execPldmFwUpdate image s
  | .activateFirmware => Sys2Proof.Machine.execActivateFirmware s
  | .setNumericEffecterValue id value => Sys2Proof.Machine.execSetNumericEffecterValue id value s
  | .getSensorReading id => Sys2Proof.Machine.execGetSensorReading id s
  | .gauge req => Sys2Proof.Machine.execGauge req s
  | .gaugeBrief req => Sys2Proof.Machine.execGaugeBrief req s
  | .gaugeWriteDone req => Sys2Proof.Machine.execGaugeWriteDone req s
  | .dbgReq src v => Sys2Proof.Machine.execDbgReq src v s
  | .tokenVerifyDone => Sys2Proof.Machine.execTokenVerifyDone s
  | .jtagInstruction name => Sys2Proof.Machine.execJtagInstruction name s
  | .rngFail => Sys2Proof.Machine.execRngFail s
  | .hwdBeat src v => Sys2Proof.Machine.execHwdBeat src v s
  | .hwdFwCtx src v => Sys2Proof.Machine.execHwdFwCtx src v s
  | .hang => Sys2Proof.Machine.execHang s
  | .capture src v => Sys2Proof.Machine.execCapture src v s
  | .captureEnd start dur => Sys2Proof.Machine.execCaptureEnd start dur s
  | .fwRestart src v => Sys2Proof.Machine.execFwRestart src v s
  | .fwRestartTimeout => Sys2Proof.Machine.execFwRestartTimeout s
  | .fwFirstBeat => Sys2Proof.Machine.execFwFirstBeat s
  | .scrubCmd src v => Sys2Proof.Machine.execScrubCmd src v s
  | .powerOn vbakHeld => Sys2Proof.Machine.execPowerOn vbakHeld s
  | .resetNAssert => Sys2Proof.Machine.execResetNAssert s
  | .release r => Sys2Proof.Machine.execRelease r s
  | .optionLoadRetry => Sys2Proof.Machine.execOptionLoadRetry s
  | .perstN low => Sys2Proof.Machine.execPerstN low s
  | .supplyFault => Sys2Proof.Machine.execSupplyFault s
  | .clearFails src v => Sys2Proof.Machine.execClearFails src v s
  | .tamperClear src v => Sys2Proof.Machine.execTamperClear src v s
  | .tamper flag => Sys2Proof.Machine.execTamper flag s
  | .pwrStateReq src v => Sys2Proof.Machine.execPwrStateReq src v s
  | .powerStateDone => Sys2Proof.Machine.execPowerStateDone s
  | .idleEntry => Sys2Proof.Machine.execIdleEntry s
  | .powerPlanCompute => Sys2Proof.Machine.execPowerPlanCompute s
  | .powerSample p => Sys2Proof.Machine.execPowerSample p s
  | .brakeAdjust => Sys2Proof.Machine.execBrakeAdjust s
  | .sluice cluster => Sys2Proof.Machine.execSluice cluster s
  | .sluiceEnd cluster => Sys2Proof.Machine.execSluiceEnd cluster s
  | .sigReset src v => Sys2Proof.Machine.execSigReset src v s
  | .energyMeterTick uJ => Sys2Proof.Machine.execEnergyMeterTick uJ s
  | .avsReadback mv => Sys2Proof.Machine.execAvsReadback mv s
  | .thermalSample readings => Sys2Proof.Machine.execThermalSample readings s
  | .replan src v => Sys2Proof.Machine.execReplan src v s
  | .retentionSample ms => Sys2Proof.Machine.execRetentionSample ms s
  | .eyeSample eyes => Sys2Proof.Machine.execEyeSample eyes s
  | .logSummaryWrite => Sys2Proof.Machine.execLogSummaryWrite s
  | .patrolScrub line found => Sys2Proof.Machine.execPatrolScrub line found s
  | .targetedRefresh ch ctx expired => Sys2Proof.Machine.execTargetedRefresh ch ctx expired s
  | .imbalanceWindow ch occ mean ctx => Sys2Proof.Machine.execImbalanceWindow ch occ mean ctx s
  | .stagedApplyWhileStopped => Sys2Proof.Machine.execStagedApplyWhileStopped s
  | .marginStepWhileStopped => Sys2Proof.Machine.execMarginStepWhileStopped s
  | .cydResultWritten slice => Sys2Proof.Machine.execCydResultWritten slice s
  | .planLoadDone slot => Sys2Proof.Machine.execPlanLoadDone slot s
  | .replanDone plan => Sys2Proof.Machine.execReplanDone plan s
  | .signatureReleased => Sys2Proof.Machine.execSignatureReleased s
  | .thermtripNAssert sensor => Sys2Proof.Machine.execThermtripNAssert sensor s
  | .logRingRecordWrite readBackOk => Sys2Proof.Machine.execLogRingRecordWrite readBackOk s
  | .drvCondition cond => Sys2Proof.Machine.execDrvCondition cond s
  | .scalarInstruction core => Sys2Proof.Machine.execScalarInstruction core s
  | .ideKm t sid stream => Sys2Proof.Machine.execIdeKm t sid stream s
  | .getVersion t => Sys2Proof.Machine.execGetVersion t s
  | .getCapabilities t => Sys2Proof.Machine.execGetCapabilities t s
  | .negotiateAlgorithms t => Sys2Proof.Machine.execNegotiateAlgorithms t s
  | .heartbeatTimeout ctx sid => Sys2Proof.Machine.execHeartbeatTimeout ctx sid s
  | .dynamicAddressAssignment addr => Sys2Proof.Machine.execDynamicAddressAssignment addr s

end Sys2Proof.Machine
end

