-- ==== Sys2Proof/Safety.lean ====
section
/-! DEFINITION. The terms in which claims about the block are stated. -/

namespace Sys2Proof.Machine

/-- What only the host's queue and the fuse box hold: the waiting commands and the fuses (R344). -/
def State.kept (s : State) : List Instr × Fuses := (s.pending, s.fuses)

/-- Device memory is in its canonical form. -/
def State.memOk (s : State) : Prop := s.mem.wf = true

/-- Every table of the state in its canonical form, so that equal states are equal data. -/
def State.canonical (s : State) : Bool :=
  s.mem.wf && Tbl.wf s.regs && Tbl.wf s.cores && Tbl.wf s.clusters && Tbl.wf s.ctxs && Tbl.wf s.links && Tbl.wf s.ports

/-- The clusters, the logical ports and the engines: yard, routing, collectives, serving. -/
def State.engines (s : State) : Tbl Cluster × Tbl Port × Yard × Rte × Fce × Srv := (s.clusters, s.ports, s.yard, s.rte, s.fce, s.srv)

/-- Security, debug, the backup domain, power, the sensors, the towpath and the host interface. -/
def State.management (s : State) : Sec × Dbg × Bkp × Pwr × Thm × Mgt × Pci := (s.sec, s.dbg, s.bkp, s.pwr, s.thm, s.mgt, s.pci)

/-- Every core's own state. -/
def State.coresOf (s : State) : Tbl Core := s.cores

/-- Every core's own state but that of core `n`. -/
def State.others (s : State) (n : Nat) : Tbl Core := Tbl.erase n s.cores

/-- The lock-keeper and the links. -/
def State.clockwork (s : State) : Lkp × Tbl Link := (s.lkp, s.links)

/-- The bytes of device memory and the keys of its lines, beside the debug state: a TENANT trace may spill into memory (R354). -/
def State.dram (s : State) : BitVec 2 × Tbl Byte × Tbl Nat := (s.dbg.st, s.mem.cells, s.mem.tags)

/-! ### Registers and memory -/

/-- Bit `b` of `BLK_STICKY` of a page (R36). -/
def State.sticky (s : State) (k : PageKind) (i b : Nat) : Bool := (s.rd k i Off.blkSticky).getLsbD b

/-- Where an access of `n` bytes by a unit lies when nothing is free about it: the range is within one line, the unit caches no other translation than the tables', the context has a key, and the line is not poisoned (R211 to R214, R220): the key and the DPA. -/
def State.placed (s : State) (unit ctx dva n : Nat) (k : AccKind) : Option (Nat × Nat) :=
  match s.keyOf ctx, s.leaf ctx dva with
  | some g, .ok e =>
    if 0 < n ∧ dva % 64 + n ≤ 64 ∧ (s.mem.cached unit ctx (dva / 2 ^ 21)).all (fun c => c.toNat == e) then
      match leafAddr e dva k with
      | .ok a => if s.mem.poisoned (a / 64) then none else some (g, a)
      | .error _ => none
    else none
  | _, _ => none

/-! ### Queued commands -/

/-- The row of an `mxq` by its OP (R97). -/
def mxqRow (op : Nat) (core : Fin 512) (rs : BitVec 5) : Option Instr :=
  match op with
  | 1 => some (.mxqSload core rs)
  | 2 => some (.mxqSwap core rs)
  | 3 => some (.mxqWsmul core rs)
  | 4 => some (.mxqOsmul core rs)
  | 5 => some (.mxqForm core rs)
  | _ => none

/-- The tile command `raw` as a core's queue would take it (R97, R102). -/
def State.mxCmd (s : State) (core raw : Nat) : MxCmd :=
  let c : MxCmd := ⟨BitVec.ofNat 256 raw, s.rd .mxa core Off.mxaCmdSeq + 1, 0, false⟩
  { c with desc := if c.op = 3 ∨ c.op = 4 then Tbl.get (s.core core).desc c.dsel 0 else 0 }

/-- A core after a 4-byte scalar instruction: only the program counter has moved. -/
def Core.stepped (k : Core) : Core := { k with pc := k.pc + 4, wait := .running }

/-- The sum of `f 0` to `f (n − 1)`. -/
def sumTo (n : Nat) (f : Nat → Int) : Int := (List.range n).foldl (fun x i => x + f i) 0

/-- Byte `a` of a wharf. -/
def Core.wharfByte (k : Core) (a : Nat) : Byte := Tbl.get k.wharf a 0

/-- The row of a yard command by its OP (R192). -/
def cyqRow (op : Nat) (core : Fin 512) (rs : BitVec 5) : Option Instr :=
  match op with
  | 1 => some (.cyqOpen core rs)
  | 2 => some (.cyqAppend core rs)
  | 3 => some (.cyqClaim core rs)
  | 4 => some (.cyqFork core rs)
  | 5 => some (.cyqRelease core rs)
  | 6 => some (.cyqEvict core rs)
  | 7 => some (.cyqList core rs)
  | 8 => some (.cyqInfo core rs)
  | 9 => some (.cyqBinfo core rs)
  | _ => none

/-- The row of an attention job by its OP (R176). -/
def atqRow (op : Nat) (core : Fin 512) (rs : BitVec 5) : Option Instr :=
  match op with
  | 0 => some (.atqDecode core rs)
  | 1 => some (.atqPrefill core rs)
  | _ => none

/-- The row of a DMA command by its OP (R226). -/
def dmqRow (op : Nat) (core : Fin 512) (rs : BitVec 5) : Option Instr :=
  match op with
  | 1 => some (.dmqCopy core rs)
  | 2 => some (.dmqFill core rs)
  | 3 => some (.dmqCoach core rs)
  | 4 => some (.dmqAtomic core rs)
  | 5 => some (.dmqRwrite core rs)
  | _ => none

/-! ### Barges -/

/-- A link accepts the barge `b` of a kind as new for the armed plan in slot `i`: no reset holds it, the port is a FLIGHT port, the header is well formed, the plan matches, and the barge is no repetition (R291, R292). -/
def State.accepts (s : State) (kind link : Nat) (b : Barge) (i : Nat) : Bool :=
  let w := (s.plan i).window b
  b.kind == kind && !s.fceHolds link && (match s.portOf link with
    | some p => s.role p == 1
    | none => false) && (s.link link).st == .up && !s.rst.inReset && b.wellFormed && s.armedSlot b.flight == some i &&
    b.fld 0 16 16 == planTag (s.plan i).plan &&
    (kind == 8 || (if b.notice then !(s.plan i).seen.contains (b.kind, b.src, b.step)
      else !decide (b.seq < w.low) && !w.above.contains b.seq && decide (b.seq < w.low + 4096)))

/-- A link accepts the barge for this member and for context `k`, in the turn of its SEQ, with no remote write waiting (R291 to R293). -/
def State.delivers (s : State) (kind link : Nat) (b : Barge) (i k : Nat) : Bool :=
  let w := (s.plan i).window b
  s.accepts kind link b i && b.dst == planSelf (s.plan i).plan && s.boundCtx i == some k && b.seq == w.low && w.above.isEmpty &&
    (s.plan i).rwHold.isEmpty

/-! ### Serving -/

/-- A request frame reaches the serving engine and keeps R313 and R314: it arrives on a port that is up or a ring, its context takes requests and its binding allows the context, and its tag verifies under the active k_req. -/
def State.admits (s : State) (a : Arrival) (f : List Byte) (kind : Nat) : Bool :=
  !s.rst.inReset && s.arrives a && frOk f && frKind f == kind && !s.isResetting ⟨.srv, 0⟩ && !s.isStopped && s.ringMode (frCtx f) == 2 &&
    !((arrBound a).any fun j => j != frCtx f) && (match (s.ctx (frCtx f)).active with
      | some ks => tagOf ks.kreq (f.take (f.length - 16)) == f.drop (f.length - 16)
      | none => false)

/-! ### Vector instructions -/

/-- The command of a group and function of the vector engine (R132). -/
def vecRow (grp fn : Nat) (core : Fin 512) (word : BitVec 64) : Option Instr :=
  match grp, fn with
  | 0, 0 => some (.vecSetvlI core word)
  | 0, 1 => some (.vecSetvlS core word)
  | 0, 2 => some (.vecGetvl core word)
  | 0, 3 => some (.vecStatR core word)
  | 0, 4 => some (.vecStatC core word)
  | 0, 5 => some (.vecMvxs core word)
  | 0, 6 => some (.vecMvsx core word)
  | 1, 0 => some (.vecFadd core word)
  | 1, 1 => some (.vecFsub core word)
  | 1, 2 => some (.vecFmul core word)
  | 1, 3 => some (.vecFma core word)
  | 1, 4 => some (.vecFmin core word)
  | 1, 5 => some (.vecFmax core word)
  | 1, 6 => some (.vecAbs core word)
  | 1, 7 => some (.vecNeg core word)
  | 1, 8 => some (.vecMuls core word)
  | 1, 9 => some (.vecAdds core word)
  | 2, 0 => some (.vecIadd core word)
  | 2, 1 => some (.vecIsub core word)
  | 2, 2 => some (.vecImul core word)
  | 2, 3 => some (.vecAddsat core word)
  | 2, 4 => some (.vecSubsat core word)
  | 2, 5 => some (.vecImin core word)
  | 2, 6 => some (.vecImax core word)
  | 2, 7 => some (.vecAnd core word)
  | 2, 8 => some (.vecOr core word)
  | 2, 9 => some (.vecXor core word)
  | 2, 10 => some (.vecShl core word)
  | 2, 11 => some (.vecShrl core word)
  | 2, 12 => some (.vecShra core word)
  | 3, 0 => some (.vecEq core word)
  | 3, 1 => some (.vecNe core word)
  | 3, 2 => some (.vecLt core word)
  | 3, 3 => some (.vecLe core word)
  | 3, 4 => some (.vecGt core word)
  | 3, 5 => some (.vecGe core word)
  | 3, 6 => some (.vecUnord core word)
  | 4, 0 => some (.vecExp core word)
  | 4, 1 => some (.vecExp2 core word)
  | 4, 2 => some (.vecLn core word)
  | 4, 3 => some (.vecLog2 core word)
  | 4, 4 => some (.vecRcp core word)
  | 4, 5 => some (.vecRsqrt core word)
  | 4, 6 => some (.vecSqrt core word)
  | 4, 7 => some (.vecTanh core word)
  | 4, 8 => some (.vecSigmoid core word)
  | 4, 9 => some (.vecErf core word)
  | 4, 10 => some (.vecSin core word)
  | 4, 11 => some (.vecCos core word)
  | 5, 0 => some (.vecCvt core word)
  | 5, 1 => some (.vecCvts core word)
  | 5, 2 => some (.vecQmx core word)
  | 6, 0 => some (.vecPerm core word)
  | 6, 1 => some (.vecSlideup core word)
  | 6, 2 => some (.vecSlidedn core word)
  | 6, 3 => some (.vecBcast core word)
  | 6, 4 => some (.vecCompress core word)
  | 7, 0 => some (.vecSum core word)
  | 7, 1 => some (.vecProd core word)
  | 7, 2 => some (.vecRmax core word)
  | 7, 3 => some (.vecRmin core word)
  | 7, 4 => some (.vecLse core word)
  | 7, 5 => some (.vecArgmax core word)
  | 7, 6 => some (.vecArgmin core word)
  | 8, 0 => some (.maskAnd core word)
  | 8, 1 => some (.maskOr core word)
  | 8, 2 => some (.maskXor core word)
  | 8, 3 => some (.maskAndn core word)
  | 8, 4 => some (.maskNot core word)
  | 8, 5 => some (.maskSetn core word)
  | 8, 6 => some (.maskPopc core word)
  | 8, 7 => some (.maskFirst core word)
  | 9, 0 => some (.vecLdw core word)
  | 9, 1 => some (.vecStw core word)
  | 9, 2 => some (.vecLdws core word)
  | 9, 3 => some (.vecStws core word)
  | 9, 4 => some (.vecLdd core word)
  | 9, 5 => some (.vecStd core word)
  | 10, 0 => some (.ctag core word)
  | 10, 1 => some (.crd core word)
  | 10, 2 => some (.cpop core word)
  | _, _ => none

/-- The instruction `word` as a core's engine would accept it (R131). -/
def State.vecCmd (s : State) (core : Fin 512) (word : BitVec 64) : VecCmd :=
  let k := s.core core
  let c0 : VecCmd := ⟨word, 0, 0, 0⟩
  ⟨word, k.sreg c0.sxNo, k.sreg ((c0.sxNo + 1) % 32), s.rd .vec core Off.vecInsnSeq + 1⟩

/-- The kernel's context when a core offers a vector word to its engine: the scalar unit runs, no queued instruction still writes the scalar registers named, and the engine is not being reset (R42, R131, R133). -/
def State.vecOffered (s : State) (core : Fin 512) (word : BitVec 64) : Option Nat :=
  let c := s.vecCmd core word
  if s.scalarRuns core && c.fld 0 7 == 0x3F && !(s.core core).sregPending c.sxNo && !(s.core core).sregPending (c.sxNo + 1)
    && !s.isResetting ⟨.vec, core⟩ then s.coreCtx core else none

/-- The context for which the vector instruction `word` issues at once on a core (R131, R133). -/
def State.issuesNow (s : State) (core : Fin 512) (word : BitVec 64) : Option Nat :=
  if (s.vecCmd core word).ok && (s.core core).iq.isEmpty && (s.core core).vecReady (s.vecCmd core word) then s.vecOffered core word else none

/-- Every instruction of a group and function that issues at once runs to a next state with the given effect, stated of the state before, the core, the context, the instruction and the state after. -/
def VecGives (grp fn : Nat) (P : State → Fin 512 → Nat → VecCmd → State → Prop) : Prop :=
  ∀ (s : State) (core : Fin 512) (word : BitVec 64) (i : Instr) (ctx : Nat),
    vecRow grp fn core word = some i → (s.vecCmd core word).grp = grp → (s.vecCmd core word).fn = fn → s.issuesNow core word = some ctx →
    ∃ t, exec i s = .next t ∧ P s core ctx (s.vecCmd core word) t

/-- A core after a vector instruction: only the parts named by `f` differ, and the scalar unit has moved past the 8-byte word. -/
def Core.passed (k : Core) : Core := { k with pc := k.pc + 8, wait := .running }

/-- Element `i` of width `w` of vector register `r`. -/
def Core.lane (k : Core) (w r i : Nat) : Nat := bitsAt (k.vreg r).toNat (w * i) w

/-- Each element of vd is `f` of its position where active, elsewhere 0 under ZM and unchanged without (R130); the other vector registers keep their values. -/
def LanesBecome (k k' : Core) (c : VecCmd) (f : Nat → Nat) : Prop :=
  (∀ i < lanesOf (typeWidth c.type), k'.lane (typeWidth c.type) c.vd i =
    if k.active c (k.el (typeWidth c.type)) i then f i % 2 ^ typeWidth c.type
    else if c.zm then 0 else k.lane (typeWidth c.type) c.vd i) ∧
  ∀ r < 32, r ≠ c.vd → k'.vreg r = k.vreg r

end Sys2Proof.Machine

/-! ### What a command may reach -/

namespace Sys2Proof

/-- The core a command is addressed to (R16). -/
def Instr.coreOf : Instr → Option (Fin 512)
  | .drnCtxModeWrite _ core _ _ => some core
  | .mxqSload core _ => some core
  | .mxqSwap core _ => some core
  | .mxqWsmul core _ => some core
  | .mxqOsmul core _ => some core
  | .mxqForm core _ => some core
  | .mxaCmdStart core _ => some core
  | .shadowFull core _ => some core
  | .swapEffect core _ => some core
  | .bankHandover core => some core
  | .osSwapOut core => some core
  | .dset core _ _ => some core
  | .drainBank core => some core
  | .cartEnter core => some core
  | .vecIssue core => some core
  | .vecSetvlI core _ => some core
  | .vecSetvlS core _ => some core
  | .vecGetvl core _ => some core
  | .vecStatR core _ => some core
  | .vecStatC core _ => some core
  | .vecMvxs core _ => some core
  | .vecMvsx core _ => some core
  | .vecFadd core _ => some core
  | .vecFsub core _ => some core
  | .vecFmul core _ => some core
  | .vecFma core _ => some core
  | .vecFmin core _ => some core
  | .vecFmax core _ => some core
  | .vecAbs core _ => some core
  | .vecNeg core _ => some core
  | .vecMuls core _ => some core
  | .vecAdds core _ => some core
  | .vecIadd core _ => some core
  | .vecIsub core _ => some core
  | .vecImul core _ => some core
  | .vecAddsat core _ => some core
  | .vecSubsat core _ => some core
  | .vecImin core _ => some core
  | .vecImax core _ => some core
  | .vecAnd core _ => some core
  | .vecOr core _ => some core
  | .vecXor core _ => some core
  | .vecShl core _ => some core
  | .vecShrl core _ => some core
  | .vecShra core _ => some core
  | .vecEq core _ => some core
  | .vecNe core _ => some core
  | .vecLt core _ => some core
  | .vecLe core _ => some core
  | .vecGt core _ => some core
  | .vecGe core _ => some core
  | .vecUnord core _ => some core
  | .vecExp core _ => some core
  | .vecExp2 core _ => some core
  | .vecLn core _ => some core
  | .vecLog2 core _ => some core
  | .vecRcp core _ => some core
  | .vecRsqrt core _ => some core
  | .vecSqrt core _ => some core
  | .vecTanh core _ => some core
  | .vecSigmoid core _ => some core
  | .vecErf core _ => some core
  | .vecSin core _ => some core
  | .vecCos core _ => some core
  | .vecCvt core _ => some core
  | .vecCvts core _ => some core
  | .vecQmx core _ => some core
  | .vecPerm core _ => some core
  | .vecSlideup core _ => some core
  | .vecSlidedn core _ => some core
  | .vecBcast core _ => some core
  | .vecCompress core _ => some core
  | .vecSum core _ => some core
  | .vecProd core _ => some core
  | .vecRmax core _ => some core
  | .vecRmin core _ => some core
  | .vecLse core _ => some core
  | .vecArgmax core _ => some core
  | .vecArgmin core _ => some core
  | .maskAnd core _ => some core
  | .maskOr core _ => some core
  | .maskXor core _ => some core
  | .maskAndn core _ => some core
  | .maskNot core _ => some core
  | .maskSetn core _ => some core
  | .maskPopc core _ => some core
  | .maskFirst core _ => some core
  | .vecLdw core _ => some core
  | .vecStw core _ => some core
  | .vecLdws core _ => some core
  | .vecStws core _ => some core
  | .vecLdd core _ => some core
  | .vecStd core _ => some core
  | .ctag core _ => some core
  | .crd core _ => some core
  | .cpop core _ => some core
  | .kernelEnd core _ => some core
  | .atqDecode core _ => some core
  | .atqPrefill core _ => some core
  | .atpJobStart core => some core
  | .atpJobEnd core => some core
  | .cyqOpen core _ => some core
  | .cyqAppend core _ => some core
  | .cyqClaim core _ => some core
  | .cyqFork core _ => some core
  | .cyqRelease core _ => some core
  | .cyqEvict core _ => some core
  | .cyqList core _ => some core
  | .cyqInfo core _ => some core
  | .cyqBinfo core _ => some core
  | .dmqCopy core _ => some core
  | .dmqFill core _ => some core
  | .dmqCoach core _ => some core
  | .dmqAtomic core _ => some core
  | .dmqRwrite core _ => some core
  | .dmaCmdStart core => some core
  | .dmaCmdComplete core _ => some core
  | .scalarLoad core _ _ _ _ => some core
  | .scalarStore core _ _ _ _ => some core
  | .ldu core _ _ _ => some core
  | .rel core _ => some core
  | .acq core _ => some core
  | .fence core _ => some core
  | .syi core _ _ _ => some core
  | .syw core _ _ _ => some core
  | .sywWaitEnd core => some core
  | .syr core _ _ => some core
  | .dcinv core => some core
  | .rtq core _ => some core
  | .fcq core _ => some core
  | .spq core _ => some core
  | .scalarInstruction core => some core
  | _ => none

/-- Commands whose own effect may reach the clusters, the ports or an engine. -/
def Instr.mayChangeEngines : Instr → Bool
  | .registerWrite _ _ _ | .blkReset _ _ _ | .blkResetEnd _ | .inject _ _ _ | .drnCtxModeWrite _ _ _ _ | .tickStart _ _ | .tickEdge _ | .guardOpen
  | .flightCheckTf | .tagVerifyDone _ _ | .tickInTransition _ _ _ | .holdoverLimitExpired | .kernelEnd _ _ | .atpJobEnd _ | .mrgContribution _
  | .mrgDeliver _ _ | .scoreIncrement | .cyqOpen _ _ | .cyqAppend _ _ | .cyqClaim _ _ | .cyqFork _ _ | .cyqRelease _ _ | .cyqEvict _ _ | .cyqList _ _
  | .cyqInfo _ _ | .cyqBinfo _ _ | .dmaCmdStart _ | .dmaCmdComplete _ _ | .syi _ _ _ _ | .rtq _ _ | .rteSelect | .fetchLanded _ | .fcq _ _
  | .collectiveComplete _ | .spq _ _ | .sampleComplete _ | .openFrame _ _ | .appendFrame _ _ | .cancelFrame _ _ | .intakePoll _ | .linkAlignLost _
  | .linkFecFail _ | .linkAligned _ _ | .lldpTx _ | .lldpRx _ _ | .dataBarge _ _ _ | .mergeBarge _ _ _ | .fetchReqBarge _ _ _ | .weightBarge _ _ _
  | .rwriteBarge _ _ _ | .rwackBarge _ _ _ | .lateBarge _ _ _ | .abortBarge _ _ _ | .ackBarge _ _ _ | .ackTx _ | .ackTimeout _ | .pfcRx _ _ _
  | .ptpMessageRx _ _ | .planLoad _ _ | .planArm _ _ | .planDisarm _ _ | .planClear _ _ | .sakInstall _ _ | .setNumericEffecterValue _ _ | .gauge _
  | .gaugeBrief _ | .dbgReq _ _ | .hwdFwCtx _ _ | .capture _ _ | .fwRestart _ _ | .scrubCmd _ _ | .powerOn _ | .resetNAssert | .supplyFault
  | .pwrStateReq _ _ | .powerStateDone | .stagedApplyWhileStopped | .cydResultWritten _ | .planLoadDone _ | .scalarInstruction _ => true
  | _ => false

/-- Commands whose own effect may reach security, debug, the backup domain, power, the sensors, the towpath or the host interface. -/
def Instr.mayChangeManagement : Instr → Bool
  | .blkReset _ _ _ | .blkResetEnd _ | .configRequest _ _ | .tickStart _ _ | .tickEdge _ | .tickInTransition _ _ _ | .pskFinish _ _ _
  | .evidenceRequest _ _ _ | .pldmFwUpdate _ | .activateFirmware | .dbgReq _ _ | .tokenVerifyDone | .jtagInstruction _ | .rngFail | .powerOn _
  | .resetNAssert | .release _ | .optionLoadRetry | .perstN _ | .supplyFault | .clearFails _ _ | .tamperClear _ _ | .tamper _ | .pwrStateReq _ _
  | .powerStateDone | .idleEntry | .powerPlanCompute | .powerSample _ | .brakeAdjust | .sluice _ | .sluiceEnd _ | .sigReset _ _ | .energyMeterTick _
  | .avsReadback _ | .thermalSample _ | .stagedApplyWhileStopped | .marginStepWhileStopped | .replanDone _ | .signatureReleased | .thermtripNAssert _
  | .ideKm _ _ _ | .getVersion _ | .getCapabilities _ | .negotiateAlgorithms _ | .dynamicAddressAssignment _ => true
  | _ => false

/-- Commands whose own effect may reach the lock-keeper or the links, or that may raise a FATAL error. -/
def Instr.mayChangeClockwork : Instr → Bool
  | .registerWrite _ _ _ | .blkReset _ _ _ | .blkResetEnd _ | .inject _ _ _ | .drnCtxModeWrite _ _ _ _ | .tickStart _ _ | .tickStop _ _ | .tickEdge _
  | .guardOpen | .flightCheckTf | .tickInTransition _ _ _ | .linkAlignLost _ | .linkFecFail _ | .linkAligned _ _ | .lldpTx _ | .lldpRx _ _ | .lateBarge _ _ _
  | .sakInstall _ _ | .setNumericEffecterValue _ _ | .gauge _ | .gaugeBrief _ | .dbgReq _ _ | .hwdFwCtx _ _ | .capture _ _ | .fwRestart _ _ | .scrubCmd _ _
  | .powerOn _ | .resetNAssert | .supplyFault | .pwrStateReq _ _ | .powerStateDone | .thermalSample _ | .stagedApplyWhileStopped | .planLoadDone _
  | .thermtripNAssert _ => true
  | _ => false

/-- Commands that may read or write device memory, whose accesses let earlier stores reach it, and those that may lose its contents. -/
def Instr.mayChangeMemory : Instr → Bool
  | .blkResetEnd _ | .inject _ _ _ | .apertureAccess _ _ _ | .ringWindowAccess _ _ _ | .tickStart _ _ | .tickEdge _ | .guardOpen | .tagVerifyDone _ _
  | .tickInTransition _ _ _ | .drainBank _ | .vecIssue _ | .vecLdw _ _ | .vecStw _ _ | .vecLdws _ _ | .vecStws _ _ | .vecLdd _ _ | .vecStd _ _
  | .atpJobStart _ | .mrgDeliver _ _ | .dmaCmdStart _ | .dmaCmdComplete _ _ | .scalarLoad _ _ _ _ _ | .ldu _ _ _ _ | .rel _ _ | .acq _ _ | .fence _ _
  | .syi _ _ _ _ | .rtq _ _ | .rteSelect | .fetchLanded _ | .fcq _ _ | .collectiveComplete _ | .spq _ _ | .sampleComplete _ | .buildManifest _
  | .openFrame _ _ | .appendFrame _ _ | .cancelFrame _ _ | .intakePoll _ | .dataBarge _ _ _ | .mergeBarge _ _ _ | .fetchReqBarge _ _ _ | .weightBarge _ _ _
  | .rwriteBarge _ _ _ | .rwackBarge _ _ _ | .lateBarge _ _ _ | .abortBarge _ _ _ | .gaugeWriteDone _ | .powerOn _ | .resetNAssert | .supplyFault
  | .thermalSample _ | .stagedApplyWhileStopped | .cydResultWritten _ | .thermtripNAssert _ | .scalarInstruction _ => true
  | _ => false

end Sys2Proof
end

