-- ==== Sys2Proof/Certificates/Slice0/Obligations.lean ====
section
/-! DEFINITION. The statements for the provers. Each docstring names the rule of the spec, or the section, the statement formalises. -/

open Sys2Proof Sys2Proof.Machine

/-! ### The whole machine -/

/-- A step takes the command at the front of the queue and runs it on the state with the queue's rest. -/
def Obligations.StepRunsFrontCommand : Prop :=
  ∀ (s : State) (c : Instr) (rest : List Instr), s.pending = c :: rest → step s = exec c { s with pending := rest }

/-- No command is refused, and no command but an instruction of the scalar unit ends in a fault. -/
def Obligations.OnlyScalarInstructionStops : Prop :=
  (∀ (i : Instr) (s : State) (r : Refusal), exec i s ≠ .refused r) ∧
  ∀ (i : Instr) (s : State), (∀ core, i ≠ .scalarInstruction core) → ∃ t, exec i s = .next t

/-- No command touches the queue of the commands that wait. With no command waiting the block idles (log 1: the model's choice). -/
def Obligations.QueueKept : Prop :=
  (∀ (i : Instr) (s t : State), exec i s = .next t → t.pending = s.pending) ∧
  (∀ s : State, s.pending = [] → step s = .next s)

/-- Every step keeps device memory in its canonical form. -/
def Obligations.MemoryStaysCanonical : Prop := ∀ s t : State, s.memOk → step s = .next t → t.memOk

/-- Over any step a fuse SVN never falls and no other fuse changes; and fuses change only by a commit at the front of the queue, which names TYPE and SVN of the image that runs, at most 63 (R345). -/
def Obligations.FusesOnlyRise : Prop :=
  ∀ s t : State, step s = .next t →
    s.fuses.svnDrv ≤ t.fuses.svnDrv ∧ s.fuses.svnOpt ≤ t.fuses.svnOpt ∧ s.fuses.svnSec ≤ t.fuses.svnSec ∧
    t.fuses = { s.fuses with svnDrv := t.fuses.svnDrv, svnOpt := t.fuses.svnOpt, svnSec := t.fuses.svnSec } ∧
    (t.fuses ≠ s.fuses → ∃ src v im, s.pending.head? = some (.fwCommit src v) ∧ s.reachesBlock src = true ∧
      s.running (bitsAt v.toNat 0 8) = some im ∧ im.svn.toNat = bitsAt v.toNat 8 16 ∧ im.svn.toNat ≤ 63 ∧
      t.fuses = s.fuses.raise (bitsAt v.toNat 0 8) im.svn.toNat)

/-! ### Registers -/

/-- In every register of every page the fields lie within the 32-bit word, do not overlap, and have reset values that fit them (R7, R10). -/
def Obligations.RegisterFieldsDisjoint : Prop :=
  ∀ (k : PageKind) (off : Nat) (r : Reg), regAt k off = some r →
    (∀ f ∈ r.fields, 0 < f.w ∧ f.lo + f.w ≤ 32 ∧ f.rst < 2 ^ f.w) ∧
    r.fields.Pairwise fun a b => a.lo + a.w ≤ b.lo ∨ b.lo + b.w ≤ a.lo

/-- A read of a register returns each field as its class says: 0 for a WO or hidden field, the block's own value for a derived one, the most recently written value otherwise (R10, R11, R30). A LO half latches its HI half, and the next read of that HI half returns the latched word once (R75). Nothing else changes. -/
def Obligations.RegisterReads : Prop :=
  ∀ (s : State) (src : Source) (off : BitVec 32) (p : PageRef),
    let o := off.toNat % 0x1000
    s.reaches src off.toNat = some p → off.toNat % 4 = 0 →
    (∀ v, Tbl.find (s.regAddr p o) s.latch = some v → ∃ t, exec (.registerWrite src off .read) s = .next t ∧
      t = { s with reply := v, latch := t.latch } ∧ Tbl.find (s.regAddr p o) t.latch = none ∧
      ∀ a, a ≠ s.regAddr p o → Tbl.find a t.latch = Tbl.find a s.latch) ∧
    (∀ r, Tbl.find (s.regAddr p o) s.latch = none → regAt p.kind o = some r → (mdieZeroOnly p o && p.kind == .mem) = false →
      ∃ t, exec (.registerWrite src off .read) s = .next t ∧ t = { s with reply := t.reply, latch := t.latch } ∧
        (∀ f ∈ r.fields, ∀ b, f.lo ≤ b → b < f.lo + f.w → t.reply.getLsbD b =
          if f.cls = .wo ∨ f.hides src then false
          else if f.derived then (s.derivedReg p o).testBit b
          else (overlay (s.regAddr p o) (s.rd p.kind (homeInst p o) o (s.bankOf p o)) s.staged).getLsbD b) ∧
        (r.latches = false → t.latch = s.latch) ∧
        (r.latches = true → Tbl.find (s.regAddr p (o + 4)) t.latch = some (s.regValue src p (o + 4))))

/-- A write of a register gives each field what its class says: an L or S field takes the value now, a T field is staged and keeps its value in effect, a W1C field loses the bits written as 1, and a field that is RO or refuses the value keeps what it holds (R10, R11, R39, R40); a refused value sets BAD_VALUE, a busy block CFG_BUSY (R36). A write of a `DRN_CTX_MODE` register through any core's page is staged once, for all cores together; the value in effect stays (R11, R113). -/
def Obligations.RegisterWritesFollowClass : Prop :=
  (∀ (s : State) (src : Source) (off : BitVec 32) (w : Word) (p : PageRef) (r : Reg),
    let o := off.toNat % 0x1000
    s.reaches src off.toNat = some p → off.toNat % 4 = 0 → regAt p.kind o = some r → keyWord p o = false →
    ∃ t, exec (.registerWrite src off (.write w)) s = .next t ∧
      (∀ f ∈ r.fields, ownRow p o f = false →
        let old := s.rd p.kind (homeInst p o) o (s.bankOf p o)
        let new := t.rd p.kind (homeInst p o) o (s.bankOf p o)
        match s.fieldWrite src p o w f with
        | .now v => bitsAt new.toNat f.lo f.w = v
        | .clear v => ∀ b < f.w, new.getLsbD (f.lo + b) = (old.getLsbD (f.lo + b) && !v.testBit b)
        | .stage v => bitsAt new.toNat f.lo f.w = bitsAt old.toNat f.lo f.w ∧
          .field (s.regAddr p o) f.mask (BitVec.ofNat 32 (v <<< f.lo)) ∈ t.staged
        | _ => bitsAt new.toNat f.lo f.w = bitsAt old.toNat f.lo f.w) ∧
      ((∃ f ∈ r.fields, ownRow p o f = false ∧ s.fieldWrite src p o w f = .badValue) → t.sticky p.kind p.inst 2 = true) ∧
      ((∃ f ∈ r.fields, ownRow p o f = false ∧ s.fieldWrite src p o w f = .busy) → t.sticky p.kind p.inst 0 = true)) ∧
  (∀ (s : State) (src : Source) (core : Fin 512) (idx : Fin 16) (v : Word),
    s.reachesBlock src = true → s.powered ⟨.drn, core⟩ = true →
    ∃ t, exec (.drnCtxModeWrite src core idx v) s = .next t ∧ t.regs = s.regs ∧
      t.staged = s.staged ++ [.field (regKey .drn 0 (Off.drnCtxMode + 4 * idx) 0) (BitVec.allOnes 32) v])

/-- An access of the wrong size or alignment, to an unassigned offset, or to a page in a powered-off domain reads 0, is discarded, and sets its bit of the `PCI` page, of the view's page too for a virtual function (R7, R27, R35, R36). -/
def Obligations.AccessFaultsAreRecorded : Prop :=
  ∀ (s : State) (src : Source) (off : BitVec 32), s.answers src = true →
    (∀ bytes, (bytes ≠ 4 ∨ off.toNat % 4 ≠ 0) → ∃ t, exec (.badAccess src off bytes) s = .next t ∧ t.reply = 0 ∧
      t.sticky .pci 0 5 = true ∧ (∀ k, src.fn = some k → t.sticky .vpci k 5 = true) ∧ t.staged = s.staged) ∧
    (∀ acc, off.toNat % 4 = 0 → s.unassigned src off.toNat = true → ∃ t, exec (.unmapped src off acc) s = .next t ∧
      (acc = .read → t.reply = 0) ∧ t.sticky .pci 0 3 = true ∧ (∀ k, src.fn = some k → t.sticky .vpci k 3 = true) ∧ t.staged = s.staged) ∧
    (∀ acc p a, off.toNat % 4 = 0 → pageAt src off.toNat = some (p, a) → s.powered p = false → ∃ t, exec (.poweredDown src off acc) s = .next t ∧
      (acc = .read → t.reply = 0) ∧ t.sticky .pci 0 4 = true ∧ t.staged = s.staged)

/-- An accepted injection raises the written code at the written severity as the block would: an empty `BLK_FIRST` of the page holds it with INJECTED set, and the page counts an error (R37, R38, R41). Writing 1 to `BLK_FIRST.VALID` clears that bit and nothing else of any register (R37). -/
def Obligations.InjectionAndFirstCapture : Prop :=
  (∀ (s : State) (src : Source) (page : BitVec 32) (v : Word) (p : PageRef),
    let cond := bitsAt v.toNat 8 8
    let sev := bitsAt v.toNat 16 2
    s.reaches src page.toNat = some p → v.getLsbD 1 = true → p.kind.isView = false →
    (s.mayInject src sev = true → (s.rd p.kind p.inst Off.blkFirst).getLsbD 31 = false →
      ∃ t, exec (.inject src page v) s = .next t ∧
        t.rd p.kind p.inst Off.blkFirst = BitVec.ofNat 32 (p.kind.type * 256 + cond + sev * 2 ^ 16 + 2 ^ 18 + 2 ^ 31) ∧
        ((s.rd p.kind p.inst Off.blkErrcnt).toNat < 0xFFFFFFFF → (s.rd p.kind p.inst Off.blkErrcnt).toNat < (t.rd p.kind p.inst Off.blkErrcnt).toNat) ∧
        (∀ b, stickyBit p.kind none cond = some b → t.sticky p.kind p.inst b = true)) ∧
    (s.mayInject src sev = false → ∃ t, exec (.inject src page v) s = .next t ∧ t.sticky p.kind p.inst 2 = true)) ∧
  (∀ (s : State) (src : Source) (page : BitVec 32) (v : Word) (p : PageRef),
    s.reaches src page.toNat = some p → v.getLsbD 31 = true →
    ∃ t, exec (.blkFirstClear src page v) s = .next t ∧
      (t.rd p.kind p.inst Off.blkFirst).getLsbD 31 = false ∧
      (∀ b < 31, (t.rd p.kind p.inst Off.blkFirst).getLsbD b = (s.rd p.kind p.inst Off.blkFirst).getLsbD b) ∧
      ∀ a, a ≠ regKey p.kind p.inst Off.blkFirst 0 → Tbl.find a t.regs = Tbl.find a s.regs)

/-- BLK_RESET of a block page is refused with RESET_REFUSED where the block never resets or is not idle; else the page is RESETTING until its end and the block is at reset, as a vector engine and a wharf show (R36, R42, R151, R407, R408). -/
def Obligations.BlockReset : Prop :=
  (∀ (s : State) (src : Source) (page : BitVec 32) (v : Word) (p : PageRef),
    s.reaches src page.toNat = some p → v.getLsbD 0 = true → p.kind.isView = false →
    ((noBlockReset p.kind || !s.idle p) = true → ∃ t, exec (.blkReset src page v) s = .next t ∧
      t.sticky p.kind p.inst 1 = true ∧ t.resetting = s.resetting) ∧
    ((noBlockReset p.kind || !s.idle p) = false → ∃ t, exec (.blkReset src page v) s = .next t ∧
      t.resetting = p.base :: s.resetting ∧ t.isResetting p = true ∧
      (p.kind = .vec → t.core p.inst = { s.core p.inst with
        iq := []
        carts := []
        v := []
        m := []
        vstat := 0
        vl := 1024
        scb := (s.core p.inst).scb.filter fun e => e.owner != .vec }) ∧
      (p.kind = .whf → t.core p.inst = { s.core p.inst with wharf := [] }))) ∧
  (∀ (s : State) (page : BitVec 32) (p : PageRef), pageOf page.toNat = some p → s.isResetting p = true → s.held = [] →
    ∃ t, exec (.blkResetEnd page) s = .next t ∧ t = { s with resetting := t.resetting } ∧ t.isResetting p = false ∧
      ∀ q, q.base ≠ p.base → t.isResetting q = s.isResetting q) ∧
  (∀ (s : State) (src : Source) (v : Word), s.isResetting ⟨.lkp, 0⟩ = true → s.resetting.all (· == (⟨.lkp, 0⟩ : PageRef).base) = true →
    s.reachesBlock src = true → v.getLsbD 1 = true → s.ticking = true → s.held = [.tickStop src v] →
    ∃ t, exec (.blkResetEnd 0x2000) s = .next t ∧ t.resetting = [] ∧ t.held = [] ∧ t.lkp = { s.lkp with stopping := true })

/-! ### Host interface -/

/-- A host access through BAR2 reads or writes the function's own context at the aperture base plus the offset; where the tables place no page it reads zeros or is discarded, with APERTURE_FAULT (R31, R214). Configuration requests: no answer while PERST_N is low, Request Retry Status until start-up has ended FUSES, else a completion; a request may assign the function's BARs (R395, R406). The ring window reads and writes the function's manifest ring; a write in SELF-MANIFEST mode and a write to words 12 to 15 are discarded and recorded (R46, R77). -/
def Obligations.HostAccess : Prop :=
  ((∀ (s : State) (ctx : Fin 256) (off : BitVec 32), s.hostReaches ctx = true → s.diesOn = true →
    let dva := (s.rd .vpci ctx Off.pciCtxApertureBaseHi).toNat % 2 ^ 16 * 2 ^ 32 + off.toNat
    (∀ n g a, s.placed hostUnit ctx dva n .read = some (g, a) →
      ∃ t, exec (.apertureAccess ctx off (.read n)) s = .next t ∧ t.out = s.out ++ [.hostData (s.mem.readBytes g a n)] ∧
        ∀ h x, t.mem.readByte h x = s.mem.readByte h x) ∧
    (∀ bs g a, s.placed hostUnit ctx dva bs.length .write = some (g, a) →
      ∃ t, exec (.apertureAccess ctx off (.write bs)) s = .next t ∧ t.out = s.out ∧
        t.mem.readBytes g a bs.length = bs ∧ ∀ h x, x / 64 ≠ a / 64 → t.mem.readByte h x = s.mem.readByte h x) ∧
    (∀ bs e, (s.keyOf ctx).isSome = true → s.leaf ctx dva = .error e → bs ≠ [] →
      ∃ t, exec (.apertureAccess ctx off (.write bs)) s = .next t ∧ t.sticky .vpci ctx 8 = true ∧ t.sticky .pci 0 8 = true ∧
        (s.dbg.st ≠ 1 → ∀ h x, t.mem.readByte h x = s.mem.readByte h x))) ∧
  (∀ (s : State) (fn : Fin 256) (req : ConfigReq),
    (s.rst.perst = true → exec (.configRequest fn req) s = .next s) ∧
    (s.rst.perst = false → s.rst.inReset = true → exec (.configRequest fn req) s = .next { s with out := s.out ++ [.config fn true] }) ∧
    (s.rst.perst = false → s.rst.inReset = false →
      ∃ t, exec (.configRequest fn req) s = .next t ∧ t = { s with
        out := s.out ++ [.config fn false]
        pci := t.pci } ∧
        ∀ f : Nat, Tbl.get t.pci.bars f false = (Tbl.get s.pci.bars f false || (req == .assignBars && f == fn.val))))) ∧
  (∀ (s : State) (ctx : Fin 256) (off : BitVec 18), ctx ≠ 0 → s.hostReaches ctx = true → s.diesOn = true → off.toNat % 4 = 0 →
    off.toNat < 64 * s.ringSlots ctx →
    let dva := s.rd64 .vlkp ctx Off.lkpCtxRingBaseLo + off.toNat
    (∀ g a, s.placed hostUnit ctx dva 4 .read = some (g, a) →
      ∃ t, exec (.ringWindowAccess ctx off .read) s = .next t ∧ t.reply = BitVec.ofNat 32 (ofBytes (s.mem.readBytes g a 4)) ∧
        t.out = s.out ++ [.hostData (s.mem.readBytes g a 4)]) ∧
    (∀ v g a, s.ringMode ctx ≠ 2 → off.toNat / 4 % 16 < 12 → s.placed hostUnit ctx dva 4 .write = some (g, a) →
      ∃ t, exec (.ringWindowAccess ctx off (.write v)) s = .next t ∧ ofBytes (t.mem.readBytes g a 4) = v.toNat ∧
        ∀ h x, x / 64 ≠ a / 64 → t.mem.readByte h x = s.mem.readByte h x) ∧
    (∀ v, s.ringMode ctx = 2 ∨ 12 ≤ off.toNat / 4 % 16 →
      ∃ t, exec (.ringWindowAccess ctx off (.write v)) s = .next t ∧ (s.ringMode ctx = 2 → t.sticky .vlkp ctx 13 = true) ∧
        (12 ≤ off.toNat / 4 % 16 → t.sticky .vlkp ctx 15 = true) ∧
        (s.dbg.st ≠ 1 → ∀ h x, t.mem.readByte h x = s.mem.readByte h x)))

/-! ### Vector engine -/

/-- An accepted vector instruction that cannot issue yet enters the 32-entry queue with the scalar values it read; with the queue full the scalar unit waits; an instruction that breaks a rule is discarded as BAD_INSN (R131, R146). Every vector instruction that issues at once runs: the scalar unit moves past its word, it takes the next `VEC_INSN_SEQ`, and it leaves nothing in the queue (R131, R133). -/
def Obligations.VectorInstructionQueues : Prop :=
  (∀ (s : State) (core : Fin 512) (word : BitVec 64) (i : Instr) (ctx : Nat),
    let c := s.vecCmd core word
    let k := s.core core
    vecRow c.grp c.fn core word = some i → s.vecOffered core word = some ctx →
    ((c.ok = true ∧ (k.iq.isEmpty && k.vecReady c) = false ∧ k.iq.length < 32 ∧ (c.grp = 9 → k.scbFull = false)) →
      ∃ t, exec i s = .next t ∧ (t.core core).iq = k.iq ++ [c] ∧ (t.core core).pc = k.pc + 8 ∧ (t.core core).v = k.v ∧
        t.rd .vec core Off.vecInsnSeq = s.rd .vec core Off.vecInsnSeq + 1) ∧
    ((c.ok = true ∧ 32 ≤ k.iq.length) → exec i s = .next (s.setCore core { k with wait := .queue })) ∧
    (c.ok = false → ∃ t, exec i s = .next t ∧ t.core core = k.passed ∧ t.sticky .vec core 8 = true ∧
      t.rd .vec core Off.vecInsnSeq = s.rd .vec core Off.vecInsnSeq ∧ (t.ctx ctx).condemned.isSome = true)) ∧
  (∀ grp fn, VecGives grp fn fun s core _ _ t =>
    (t.core core).pc = (s.core core).pc + 8 ∧ (t.core core).wait = .running ∧ (t.core core).iq = [] ∧
    t.rd .vec core Off.vecInsnSeq = s.rd .vec core Off.vecInsnSeq + 1)

/-- The oldest queued vector instruction leaves the queue when it is ready and takes its effect; while it is not ready nothing changes (R133, R149). -/
def Obligations.VecIssueTakesTheOldest : Prop :=
  ∀ (s : State) (core : Fin 512) (c : VecCmd) (rest : List VecCmd) (ctx : Nat),
    (s.core core).iq = c :: rest → s.coreCtx core = some ctx → c.ok = true →
    ((s.diesOn = true ∧ (s.core core).vecReady c = true) →
      ∃ t, exec (.vecIssue core) s = .next t ∧ (t.core core).iq = rest ∧ (t.core core).pc = (s.core core).pc ∧
        (c.grp ≠ 10 → (t.core core).carts = (s.core core).carts) ∧ (c.grp = 10 → c.fn = 2 → (t.core core).carts = (s.core core).carts.tail)) ∧
    ((s.core core).vecReady c = false → exec (.vecIssue core) s = .next s)

/-- VL, VSTAT and the moves between scalar and vector registers (R132, R144); nothing else of the core changes. -/
def Obligations.VectorControlInstructions : Prop :=
  VecGives 0 0 (fun s core _ c t => t.core core = { (s.core core).passed with vl := min c.imm 1024 }) ∧
  VecGives 0 1 (fun s core _ c t => t.core core = { (s.core core).passed with vl := min ((s.core core).sreg c.sxNo).toNat 1024 }) ∧
  VecGives 0 2 (fun s core _ c t => t.core core = (s.core core).passed.setSreg c.sxNo (BitVec.ofNat 32 (s.core core).vl)) ∧
  VecGives 0 3 (fun s core _ c t => t.core core = (s.core core).passed.setSreg c.sxNo ((s.core core).vstat.setWidth 32)) ∧
  VecGives 0 4 (fun s core _ c t => ∃ v, t.core core = { (s.core core).passed with vstat := v } ∧
    ∀ b < 7, v.getLsbD b = ((s.core core).vstat.getLsbD b && !c.imm.testBit b)) ∧
  VecGives 0 5 (fun s core _ c t => t.core core =
    (s.core core).passed.setSreg c.sxNo (BitVec.ofNat 32 ((s.core core).lane (typeWidth c.type) c.vs1 c.imm))) ∧
  VecGives 0 6 (fun s core _ c t => LanesBecome (s.core core) (t.core core) c (fun _ => ((s.core core).sreg c.sxNo).toNat) ∧
    t.core core = { (s.core core).passed with v := (t.core core).v })

/-- Float arithmetic and the transcendental functions act element by element under EL, the mask and ZM (R129, R130, R134, R137); of the core only vd and VSTAT change. -/
def Obligations.VectorFloatArithmetic : Prop :=
  (∀ fn, VecGives 1 fn fun s core ctx c t =>
    LanesBecome (s.core core) (t.core core) c (fun p =>
      (farith (s.flush32 ctx) c.type fn ((s.core core).lane (typeWidth c.type) c.vs1 p) ((s.core core).lane (typeWidth c.type) c.vs2 p)
        ((s.core core).lane (typeWidth c.type) c.vs3 p) ((s.core core).sreg c.sxNo).toNat).v) ∧
    t.core core = { (s.core core).passed with v := (t.core core).v, vstat := (t.core core).vstat }) ∧
  (∀ fn, VecGives 4 fn fun s core ctx c t =>
    LanesBecome (s.core core) (t.core core) c (fun p => (transElem (s.flush32 ctx) c.type fn ((s.core core).lane (typeWidth c.type) c.vs1 p)).v) ∧
    t.core core = { (s.core core).passed with v := (t.core core).v, vstat := (t.core core).vstat })

/-- What an integer instruction of width `w` makes of two operands and a shift amount, wrapping or saturating as the spec says (R132, R135). -/
def Obligations.VectorIntegerArithmetic : Prop :=
  let G := fun (fn : Nat) (f : Nat → Nat → Nat → Nat → Nat) => VecGives 2 fn fun s core _ c t =>
    LanesBecome (s.core core) (t.core core) c (fun p =>
      f (typeWidth c.type) ((s.core core).lane (typeWidth c.type) c.vs1 p) ((s.core core).lane (typeWidth c.type) c.vs2 p) (c.imm % 32)) ∧
    t.core core = { (s.core core).passed with v := (t.core core).v, vstat := (t.core core).vstat }
  let clamp := fun (w : Nat) (x : Int) => toBits w (max (-(2 ^ (w - 1) : Nat) : Int) (min x ((2 ^ (w - 1) : Nat) - 1)))
  G 0 (fun _ a b _ => a + b) ∧ G 1 (fun w a b _ => a + (2 ^ w - b)) ∧ G 2 (fun _ a b _ => a * b) ∧
  G 3 (fun w a b _ => clamp w (sext a w + sext b w)) ∧ G 4 (fun w a b _ => clamp w (sext a w - sext b w)) ∧
  G 5 (fun w a b _ => toBits w (min (sext a w) (sext b w))) ∧ G 6 (fun w a b _ => toBits w (max (sext a w) (sext b w))) ∧
  G 7 (fun _ a b _ => a &&& b) ∧ G 8 (fun _ a b _ => a ||| b) ∧ G 9 (fun _ a b _ => a ^^^ b) ∧
  G 10 (fun _ a _ n => a * 2 ^ n) ∧ G 11 (fun _ a _ n => a / 2 ^ n) ∧ G 12 (fun w a _ n => toBits w (sext a w / (2 ^ n : Nat))) ∧
  ∀ fn, fn = 3 ∨ fn = 4 → VecGives 2 fn fun s core _ c t =>
    ∀ b < 7, (t.core core).vstat.getLsbD b = ((s.core core).vstat.getLsbD b || (b == 5 &&
      (List.range (lanesOf (typeWidth c.type))).any fun p => (s.core core).active c ((s.core core).el (typeWidth c.type)) p &&
        let w := typeWidth c.type
        let x := sext ((s.core core).lane w c.vs1 p) w
        let y := sext ((s.core core).lane w c.vs2 p) w
        let r := if fn = 3 then x + y else x - y
        decide (r < -(2 ^ (w - 1) : Nat) ∨ ((2 ^ (w - 1) : Nat) : Int) - 1 < r)))

/-- Comparisons and mask logic write mask bits: active positions from the rule, the others 0 under ZM and unchanged without (R130, R132, R136); SETN ignores VL and ZM; POPC and FIRST write the scalar register. -/
def Obligations.VectorMasks : Prop :=
  let bitsBecome := fun (s : State) (core : Fin 512) (c : VecCmd) (t : State) (f : Nat → Bool) =>
    (∀ p < 1024, ((t.core core).mreg c.vd).getLsbD p =
      if (s.core core).active c ((s.core core).el (typeWidth c.type)) p then f p else !c.zm && ((s.core core).mreg c.vd).getLsbD p) ∧
    (∀ r < 8, r ≠ c.vd % 8 → (t.core core).mreg r = (s.core core).mreg r) ∧
    t.core core = { (s.core core).passed with m := (t.core core).m }
  let below := fun (s : State) (core : Fin 512) (c : VecCmd) =>
    (List.range ((s.core core).el (typeWidth c.type))).filter fun p => ((s.core core).mreg c.vs1).getLsbD p
  (∀ fn, VecGives 3 fn fun s core ctx c t => bitsBecome s core c t fun p => compare (s.flush32 ctx) c.type fn
    ((s.core core).lane (typeWidth c.type) c.vs1 p) ((s.core core).lane (typeWidth c.type) c.vs2 p)) ∧
  VecGives 8 0 (fun s core _ c t => bitsBecome s core c t fun p => ((s.core core).mreg c.vs1).getLsbD p && ((s.core core).mreg c.vs2).getLsbD p) ∧
  VecGives 8 1 (fun s core _ c t => bitsBecome s core c t fun p => ((s.core core).mreg c.vs1).getLsbD p || ((s.core core).mreg c.vs2).getLsbD p) ∧
  VecGives 8 2 (fun s core _ c t => bitsBecome s core c t fun p => ((s.core core).mreg c.vs1).getLsbD p ^^ ((s.core core).mreg c.vs2).getLsbD p) ∧
  VecGives 8 3 (fun s core _ c t => bitsBecome s core c t fun p => ((s.core core).mreg c.vs1).getLsbD p && !((s.core core).mreg c.vs2).getLsbD p) ∧
  VecGives 8 4 (fun s core _ c t => bitsBecome s core c t fun p => !((s.core core).mreg c.vs1).getLsbD p) ∧
  VecGives 8 5 (fun s core _ c t => t.core core = { (s.core core).passed with m := (t.core core).m } ∧
    (∀ p < 1024, ((t.core core).mreg c.vd).getLsbD p = decide (p < min ((s.core core).sreg c.sxNo).toNat 1024)) ∧
    ∀ r < 8, r ≠ c.vd % 8 → (t.core core).mreg r = (s.core core).mreg r) ∧
  VecGives 8 6 (fun s core _ c t => t.core core = (s.core core).passed.setSreg c.sxNo (BitVec.ofNat 32 (below s core c).length)) ∧
  VecGives 8 7 (fun s core _ c t => t.core core = (s.core core).passed.setSreg c.sxNo (BitVec.ofNat 32 ((below s core c).head?.getD 0xFFFF)))

/-- Conversions move element PART × N + j to element j when widening and the other way when narrowing, and quantisation writes codes to vd and scale codes to vs3 (R138, R139). -/
def Obligations.VectorConversions : Prop :=
  (∀ fn, fn = 0 ∨ fn = 1 → VecGives 5 fn fun s core ctx c t =>
    let k := s.core core
    let ws := typeWidth c.type
    let wd := typeWidth (c.imm % 8)
    let ns := lanesOf ws
    let nd := lanesOf wd
    let part := bitsAt c.imm 4 2
    let conv := fun x => (if fn = 1 then convScaled (s.flush32 ctx) (c.imm.testBit 3) c.type (c.imm % 8) x (k.sreg c.sxNo).toNat
      else convElem (s.flush32 ctx) (c.imm.testBit 3) (c.imm % 8) (convSource c.type x)).v
    let el := min k.vl (min ns nd)
    (∀ p < nd, (t.core core).lane wd c.vd p =
      if nd ≤ ns then
        if k.active c el p then conv (k.lane ws c.vs1 (if nd < ns then part * nd + p else p)) % 2 ^ wd else if c.zm then 0 else k.lane wd c.vd p
      else if p < part * ns ∨ part * ns + ns ≤ p then k.lane wd c.vd p
      else if k.active c el (p - part * ns) then conv (k.lane ws c.vs1 (p - part * ns)) % 2 ^ wd else if c.zm then 0 else k.lane wd c.vd p) ∧
    (∀ r < 32, r ≠ c.vd → (t.core core).vreg r = k.vreg r) ∧
    t.core core = { k.passed with v := (t.core core).v, vstat := (t.core core).vstat }) ∧
  VecGives 5 2 (fun s core _ c t =>
    let k := s.core core
    let el := k.el (typeWidth c.type)
    let nb := (el + 31) / 32
    let src := fun b => (List.range 32).map fun j => if 32 * b + j < el then widen32 c.type (k.lane (typeWidth c.type) c.vs1 (32 * b + j)) else 0
    ∃ f emax, blockOf (c.imm % 16) = some (f, emax) ∧
      (∀ b < 1024, (t.core core).lane 8 c.vs3 b = if b < nb then (toBlock f emax (src b)).1 % 256 else k.lane 8 c.vs3 b) ∧
      (∀ b, nb * (if c.imm % 16 = 9 then 16 else 32) ≤ b → b < 1024 → (t.core core).lane 8 c.vd b = 0) ∧
      (∀ r < 32, r ≠ c.vd → r ≠ c.vs3 → (t.core core).vreg r = k.vreg r) ∧
      t.core core = { k.passed with v := (t.core core).v })

/-- Permutations move elements by position; a source position at or beyond EL gives zero, with RANGE for PERM and BCAST (R140). -/
def Obligations.VectorPermutations : Prop :=
  let src := fun (k : Core) (c : VecCmd) (j : Nat) => if j < k.el (typeWidth c.type) then k.lane (typeWidth c.type) c.vs1 j else 0
  let idx := fun (k : Core) (c : VecCmd) (p : Nat) => if p < 512 then k.lane 16 c.vs2 p else k.lane 16 (c.vs2 + 1) (p - 512)
  let only := fun (s : State) (core : Fin 512) (t : State) => t.core core = { (s.core core).passed with v := (t.core core).v, vstat := (t.core core).vstat }
  VecGives 6 0 (fun s core _ c t => let k := s.core core
    LanesBecome k (t.core core) c (fun p => src k c (idx k c p)) ∧ only s core t ∧
    ((t.core core).vstat.getLsbD 1 = (k.vstat.getLsbD 1 ||
      (List.range (lanesOf (typeWidth c.type))).any fun p => k.active c (k.el (typeWidth c.type)) p && decide (k.el (typeWidth c.type) ≤ idx k c p)))) ∧
  VecGives 6 1 (fun s core _ c t => let k := s.core core
    LanesBecome k (t.core core) c (fun p => if (k.sreg c.sxNo).toNat ≤ p then src k c (p - (k.sreg c.sxNo).toNat) else 0) ∧ only s core t ∧
    (t.core core).vstat = k.vstat) ∧
  VecGives 6 2 (fun s core _ c t => let k := s.core core
    LanesBecome k (t.core core) c (fun p => src k c (p + (k.sreg c.sxNo).toNat)) ∧ only s core t ∧ (t.core core).vstat = k.vstat) ∧
  VecGives 6 3 (fun s core _ c t => let k := s.core core
    LanesBecome k (t.core core) c (fun _ => src k c c.imm) ∧ only s core t ∧
    (t.core core).vstat.getLsbD 1 = (k.vstat.getLsbD 1 || decide (k.el (typeWidth c.type) ≤ c.imm))) ∧
  VecGives 6 4 (fun s core _ c t => let k := s.core core
    let w := typeWidth c.type
    let xs := (List.range (k.el w)).filter fun p => k.active c (k.el w) p
    (∀ p < lanesOf w, (t.core core).lane w c.vd p = (xs[p]?.map fun j => k.lane w c.vs1 j).getD 0) ∧
    (∀ r < 32, r ≠ c.vd → (t.core core).vreg r = k.vreg r) ∧
    t.core core = { (k.passed.setSreg c.sxNo (BitVec.ofNat 32 xs.length)) with v := (t.core core).v })

/-- A reduction leaves its result in element 0 of vd and in s[SX], zeros in the other elements, and EMPTY as the active set says; integer MAX and MIN are the extremes, an integer SUM that cannot saturate is the sum, and ARGMAX and ARGMIN name the lowest position of the extreme (R141, R142). -/
def Obligations.VectorReductions : Prop :=
  let act := fun (k : Core) (c : VecCmd) => (List.range (lanesOf (typeWidth c.type))).filter fun p => k.active c (k.el (typeWidth c.type)) p
  let val := fun (k : Core) (c : VecCmd) (p : Nat) => sext (k.lane (typeWidth c.type) c.vs1 p) (typeWidth c.type)
  (∀ fn, VecGives 7 fn fun s core _ c t => let k := s.core core
    (t.core core).sreg c.sxNo = (if c.sxNo = 0 then 0 else BitVec.ofNat 32 ((t.core core).lane 32 c.vd 0)) ∧
    (∀ p, 0 < p → p < 256 → (t.core core).lane 32 c.vd p = 0) ∧ (∀ r < 32, r ≠ c.vd → (t.core core).vreg r = k.vreg r) ∧
    (∀ r, r ≠ c.sxNo → (t.core core).sreg r = k.sreg r) ∧ (t.core core).vstat.getLsbD 0 = (act k c).isEmpty ∧
    t.core core = { k.passed with v := (t.core core).v, vstat := (t.core core).vstat, sregs := (t.core core).sregs }) ∧
  VecGives 7 0 (fun s core _ c t => let k := s.core core
    3 ≤ c.type → ((act k c).foldl (fun n p => n + (val k c p).natAbs) 0) < 2 ^ 31 →
    sext ((t.core core).lane 32 c.vd 0) 32 = (act k c).foldl (fun n p => n + val k c p) 0) ∧
  VecGives 7 2 (fun s core _ c t => let k := s.core core
    3 ≤ c.type → act k c ≠ [] → (∀ p ∈ act k c, val k c p ≤ sext ((t.core core).lane 32 c.vd 0) 32) ∧
      ∃ p ∈ act k c, val k c p = sext ((t.core core).lane 32 c.vd 0) 32) ∧
  VecGives 7 3 (fun s core _ c t => let k := s.core core
    3 ≤ c.type → act k c ≠ [] → (∀ p ∈ act k c, sext ((t.core core).lane 32 c.vd 0) 32 ≤ val k c p) ∧
      ∃ p ∈ act k c, val k c p = sext ((t.core core).lane 32 c.vd 0) 32) ∧
  VecGives 7 5 (fun s core _ c t => let k := s.core core
    3 ≤ c.type → act k c ≠ [] → let r := (t.core core).lane 32 c.vd 0
      r ∈ act k c ∧ (∀ p ∈ act k c, val k c p ≤ val k c r) ∧ ∀ p ∈ act k c, p < r → val k c p < val k c r) ∧
  VecGives 7 6 (fun s core _ c t => let k := s.core core
    3 ≤ c.type → act k c ≠ [] → let r := (t.core core).lane 32 c.vd 0
      r ∈ act k c ∧ (∀ p ∈ act k c, val k c r ≤ val k c p) ∧ ∀ p ∈ act k c, p < r → val k c r < val k c p) ∧
  ∀ fn, fn = 5 ∨ fn = 6 → VecGives 7 fn fun s core _ c t => act (s.core core) c = [] → (t.core core).lane 32 c.vd 0 = 0xFFFF

/-- Wharf loads and stores of the vector engine move active elements only; an access outside the wharf writes nothing and raises WHARF_RANGE; a load of device memory brings the bytes the tables place, a store hands its bytes to the memory port (R143, R235). The cart group reads the head cart: its tag words, its bytes with zeros beyond its length, and CPOP discards it (R149). -/
def Obligations.VectorMemoryAndCarts : Prop :=
  ((∀ fn, fn = 0 ∨ fn = 2 → VecGives 9 fn fun s core _ c t => let k := s.core core
    c.wharfOk (k.el (typeWidth c.type)) = true →
      LanesBecome k (t.core core) c (fun p => ofBytes (k.wharfRead (c.wharfAt p).toNat (typeWidth c.type / 8))) ∧
      t.core core = { k.passed with v := (t.core core).v }) ∧
  (∀ fn, fn = 1 ∨ fn = 3 → VecGives 9 fn fun s core _ c t => let k := s.core core
    c.wharfOk (k.el (typeWidth c.type)) = true →
      t.core core = { k.passed with wharf := (t.core core).wharf } ∧
      (∀ a : Nat, (∀ p, k.active c (k.el (typeWidth c.type)) p = true → (a : Int) < c.wharfAt p ∨ c.wharfAt p + (typeWidth c.type / 8 : Nat) ≤ a) →
        Tbl.get (t.core core).wharf a 0 = Tbl.get k.wharf a 0) ∧
      ∀ p, k.active c (k.el (typeWidth c.type)) p = true →
        (∀ q, p < q → k.active c (k.el (typeWidth c.type)) q = true → c.wharfAt q ≠ c.wharfAt p) →
        ofBytes ((t.core core).wharfRead (c.wharfAt p).toNat (typeWidth c.type / 8)) = k.lane (typeWidth c.type) c.vs1 p) ∧
  (∀ fn, fn < 4 → VecGives 9 fn fun s core ctx c t => let k := s.core core
    c.wharfOk (k.el (typeWidth c.type)) = false →
      t.core core = k.passed ∧ t.sticky .vec core 9 = true ∧ (t.ctx ctx).condemned.isSome = true) ∧
  VecGives 9 4 (fun s core ctx c t => let k := s.core core
    let wb := typeWidth c.type / 8
    ∀ g dpa, s.placed core ctx c.dva (k.el (typeWidth c.type) * wb) .read = some (g, dpa) → k.port = [] → Tbl.find (c.dva / 64) k.dcache = none →
      LanesBecome k (t.core core) c (fun p => ofBytes (s.mem.readBytes g (dpa + p * wb) wb)) ∧
      t.core core = { k.passed with v := (t.core core).v, dcache := (t.core core).dcache }) ∧
  VecGives 9 5 (fun s core ctx c t => let k := s.core core
    let w := typeWidth c.type
    ∀ g dpa, s.placed core ctx c.dva (k.el w * (w / 8)) .write = some (g, dpa) → k.port = [] → c.men = false →
      t.core core = { k.passed with
        dcache := (t.core core).dcache
        port := [(dpa, (List.range (k.el w)).flatMap fun p => toBytes (w / 8) (k.lane w c.vs1 p))] } ∧
      ∀ h a, t.mem.readByte h a = s.mem.readByte h a)) ∧
  (∀ (h : Cart) (rest : List Cart),
    VecGives 10 0 (fun s core _ c t => (s.core core).carts = h :: rest →
      t.core core = (s.core core).passed.setSreg c.sxNo (if c.imm = 0 then h.tag0 else h.tag1)) ∧
    VecGives 10 1 (fun s core _ c t => (s.core core).carts = h :: rest →
      t.core core = { (s.core core).passed with v := (t.core core).v, vstat := (t.core core).vstat } ∧
      (∀ b < 1024, (t.core core).lane 8 c.vd b = (h.bytes.getD (c.imm + b) 0).toNat) ∧
      (∀ r < 32, r ≠ c.vd → (t.core core).vreg r = (s.core core).vreg r) ∧
      (t.core core).vstat.getLsbD 1 = ((s.core core).vstat.getLsbD 1 || decide (h.bytes.length ≤ c.imm))) ∧
    VecGives 10 2 (fun s core _ _ t => (s.core core).carts = h :: rest → t.core core = { (s.core core).passed with carts := rest }))

/-! ### Lock-keeper -/

/-- START of a stopped tick makes it start with the staged LKP_TICK_LOAD, STOP lets the next edge be the last, and each is refused in the other's place; while the tick is stopped a staged field and a staged ACTIVATE take effect; the reference's loss, its return and the holdover limit move `LKP_SYNC_STATUS.STATE` (R12, R53, R73, R334). -/
def Obligations.TickStartsAndStops : Prop :=
  (∀ (s : State) (src : Source) (v : Word), s.reachesBlock src = true → s.isResetting ⟨.lkp, 0⟩ = false →
    let running := s.ticking || s.lkp.starting.isSome
    (v.getLsbD 0 = true → s.hwd.fatal = false → running = false → ∃ t, exec (.tickStart src v) s = .next t ∧
      t.lkp.starting = some t.tickLoad ∧ t.lkp.stopping = false ∧ t.ticking = false ∧ t.syncState = 0) ∧
    (v.getLsbD 0 = true → s.hwd.fatal = false → running = true → ∃ t, exec (.tickStart src v) s = .next t ∧
      t.lkp = s.lkp ∧ t.sticky .lkp 0 2 = true) ∧
    (v.getLsbD 1 = true → running = true → exec (.tickStop src v) s = .next { s with lkp := { s.lkp with stopping := true } }) ∧
    (v.getLsbD 1 = true → running = false → ∃ t, exec (.tickStop src v) s = .next t ∧ t.lkp = s.lkp ∧ t.sticky .lkp 0 2 = true)) ∧
  (∀ s : State, s.ticking = false → s.lkp.starting = none → s.rst.inReset = false →
    (∀ (idx : Fin 16) (m v : Word), s.staged = [.field (regKey .drn 0 (Off.drnCtxMode + 4 * idx) 0) m v] →
      ∃ t, exec .stagedApplyWhileStopped s = .next t ∧ t.staged = [] ∧
        t.rd .drn 0 (Off.drnCtxMode + 4 * idx) = (s.rd .drn 0 (Off.drnCtxMode + 4 * idx) &&& ~~~m) ||| (v &&& m)) ∧
    (∀ k : Nat, s.staged = [.activate k] → s.dbg.st ≠ 2 → s.sec.rngOk = true →
      ∃ t, exec .stagedApplyWhileStopped s = .next t ∧ t.staged = [] ∧ (t.ctx k).st = .active ∧
        (t.ctx k).key = some (s.sec.keyGen + 1) ∧ ∀ j, j ≠ k → (t.ctx j).key = (s.ctx j).key)) ∧
  (∀ s : State, s.ticking = true → s.tickSrc ≠ 0 →
    (s.syncState = 1 → ∃ t, exec .syncReferenceLost s = .next t ∧ t.syncState = 2 ∧ t.sticky .lkp 0 8 = true ∧ t.lkp = s.lkp) ∧
    (2 ≤ s.syncState → ∃ t, exec .syncReferenceRestored s = .next t ∧ t.syncState = 1 ∧ t = { s with regs := t.regs } ∧
      ∀ a, a ≠ regKey .lkp 0 Off.lkpSyncStatus 0 → Tbl.find a t.regs = Tbl.find a s.regs) ∧
    (s.syncState = 2 → ∃ t, exec .holdoverLimitExpired s = .next t ∧ t.syncState = 3 ∧ t.sticky .lkp 0 9 = true ∧
      ∀ i < 32, (s.plan i).st = .armed → (t.plan i).stopNext = true))

/-- An edge gives the tick its next number, or the first one as its source says, opens the run phase unless STOP made it the last, and ends the step of every context that is condemned; under PIN a transition outside its window is PIN_STRAY (R51, R52, R55, R68, R73). -/
def Obligations.TickEdges : Prop :=
  let taken := fun (s : State) (e : EdgeIn) (t : State) =>
    (s.lkp.starting = none → t.lkp.now = (s.lkp.now + 1) % 2 ^ 48) ∧
    (∀ n, s.lkp.starting = some n → s.ticking = false → t.lkp.now =
      if s.tickSrc = 2 ∨ (s.tickSrc = 0 ∧ s.fld .lkp 0 Off.lkpTickCfg 3 1 = 1) then e.number.toNat else n) ∧
    t.lkp.starting = none ∧ t.lkp.phase = (if s.lkp.stopping then .stopped else .run) ∧
    t.lkp.stopping = false ∧ ∀ k, s.isCondemned k = true → (t.ctx k).step = none
  ∀ (s : State) (e : EdgeIn), s.edgeDue = true →
    (s.tickSrc ≠ 1 ∨ (s.ticking = true ∧ 2 ≤ s.syncState) → ∃ t, exec (.tickEdge e) s = .next t ∧ taken s e t) ∧
    ∀ rising inWindow : Bool, s.tickSrc = 1 → rising = (s.fld .lkp 0 Off.lkpPinCfg 0 1 == 0) →
      ((inWindow = true ∨ s.lkp.starting.isSome = true) → ∃ t, exec (.tickInTransition rising inWindow e) s = .next t ∧ taken s e t) ∧
      (inWindow = false → s.lkp.starting = none →
        ∃ t, exec (.tickInTransition rising inWindow e) s = .next t ∧ t.lkp = s.lkp ∧ t.sticky .lkp 0 12 = true)

/-- Guard open ends the run phase, shows it on every granted cluster, and judges LATE each step with an entry not started; the check at tF is made once (R55, R64, R65, R305). -/
def Obligations.GuardOpens : Prop :=
  (∀ s : State, s.lkp.phase = .run → ∃ t, exec .guardOpen s = .next t ∧ t.lkp = { s.lkp with phase := .guard } ∧
    (∀ c, (s.cluster c).granted.isSome = true → (t.cluster c).phase = 4 ∧ (t.cluster c).granted = (s.cluster c).granted) ∧
    ∀ k st, (s.ctx k).step = some st → (s.ctx k).verify = none →
      ((t.ctx k).step.map (·.late)) = some (st.late || !s.allStarted k st)) ∧
  (∀ s : State, s.lkp.phase = .guard →
    (s.lkp.tfDone = false → ∃ t, exec .flightCheckTf s = .next t ∧ t.lkp = { s.lkp with tfDone := true } ∧
      ∀ k st, (s.ctx k).step = some st → st.flight = false → (t.ctx k).step = some st) ∧
    (s.lkp.tfDone = true → exec .flightCheckTf s = .next s))

/-- A launch entry that is due starts on each of its free cores with s10 and s11 = ARGS, s12 the logical cluster and s13 the tick; a kernel end waits for the core's queues and then leaves the core without kernel and carts, and the last one completes the step (R63, R64, R150). -/
def Obligations.KernelsStartAndEnd : Prop :=
  (∀ (s : State) (ctx : Fin 256) (entry : BitVec 16) (time : BitVec 24) (st : Step) (l : Launch) (n : Nat),
    (s.ctx ctx).step = some st → st.launches[entry.toNat]? = some l → s.lkp.phase ≠ .guard → st.verifying = false →
    s.isCondemned ctx = false → s.diesOn = true → s.isStopped = false → s.dbg.st ≠ 1 →
    (if st.spilled then st.runStart else st.runStart + l.start) ≤ time.toNat →
    n ∈ s.entryCores ctx l → n ∉ l.started → s.coreReady ctx entry.toNat st n = true → s.launchUnmapped ctx l = false →
    ∃ t, exec (.launchEntry ctx entry time) s = .next t ∧
      (t.core n).kernel = some { ctx := ctx, entry := entry.toNat } ∧ (t.core n).pc = l.entry ∧ (t.core n).wait = .running ∧
      (t.core n).vl = 1024 ∧ (t.core n).vstat = 0 ∧ (t.core n).dcache = [] ∧
      (t.core n).sreg 10 = BitVec.ofNat 32 l.args.toNat ∧ (t.core n).sreg 11 = BitVec.ofNat 32 (l.args.toNat / 2 ^ 32) ∧
      (t.core n).sreg 12 = BitVec.ofNat 32 (s.cluster (n / 16)).logical ∧ (t.core n).sreg 13 = BitVec.ofNat 32 s.lkp.now ∧
      (t.core n).wharf = (s.core n).wharf ∧
      ∃ st', (t.ctx ctx).step = some st' ∧ ((st'.launches[entry.toNat]?).map fun l => l.started.contains n) = some true) ∧
  (∀ (s : State) (core : Fin 512) (time : BitVec 24) (x : Kernel),
    let c := s.core core
    c.kernel = some x → s.scalarRuns core = true →
    ((c.iq.isEmpty && c.drainQ.isEmpty && c.scb.isEmpty) = false → exec (.kernelEnd core time) s = .next (s.setCore core { c with wait := .queue })) ∧
    ((c.iq.isEmpty && c.drainQ.isEmpty && c.scb.isEmpty) = true → ∃ t, exec (.kernelEnd core time) s = .next t ∧
      t.core core = { c with kernel := none, wait := .running, vl := 1024, vstat := 0, carts := [], heldCart := none } ∧
      ((c.carts ≠ [] ∨ c.heldCart.isSome = true) → t.sticky .vec core 12 = true) ∧
      ∀ st, (s.ctx x.ctx).step = some st → st.done = none → s.allStarted x.ctx st = true →
        ((s.grantList x.ctx).all fun g => (coresOf g).all fun n => n == core.val || (s.core n).kernel.isNone) = true →
        ((t.ctx x.ctx).step.map (·.done)) = some (some (time.toNat - st.runStart))))

/-- In the guard band the slot of the next edge and its body are fetched ahead; the end of a tag's verification admits the step or takes it back as a bad tag (R48, R58, R342). -/
def Obligations.ManifestsAreVerified : Prop :=
  (∀ (s : State) (ctx : Fin 256) (time : BitVec 24) (g a g' a' : Nat),
    s.lkp.phase = .guard → s.diesOn = true → s.readsRing ctx = true → s.guardAt ≤ time.toNat → (time.toNat - s.guardAt) % 100 = 0 →
    let n := s.lkp.now + 1
    let w := slotOfBytes (s.mem.readBytes g a 64)
    s.placed 517 ctx (s.slotDva ctx (n % s.ringSlots ctx)) 64 .read = some (g, a) →
    (slotRow w n = .due → slotBadVersion w = false → s.badBody ctx w = false → slotLen w = 64 →
      (∀ r, (s.ctx ctx).preread = some r → r.tick ≠ n ∨ r.words ≠ w.take 12) →
      s.placed 517 ctx (slotAddr w) 64 .read = some (g', a') →
      ∃ t, exec (.manifestPreread ctx time) s = .next t ∧
        (t.ctx ctx).preread = some ⟨n, w.take 12, s.mem.readBytes g' a' 64, false, none⟩ ∧ t.regs = s.regs) ∧
    (slotRow w n ≠ .due → ∃ t, exec (.manifestPreread ctx time) s = .next t ∧ (t.ctx ctx).preread = (s.ctx ctx).preread ∧ t.regs = s.regs)) ∧
  (∀ (s : State) (ctx : Fin 256) (time : BitVec 24),
    let ok := fun (w : List Word) (b : List Byte) => s.manifestTag ctx (slotSpan w 0 8 ++ b) (slotSpan w 8 4)
    (∀ v, (s.ctx ctx).verify = some v → v.reason = 0 →
      (ok v.words v.body = true → ∃ t, exec (.tagVerifyDone ctx time) s = .next t ∧ (t.ctx ctx).verify = none ∧ (t.ctx ctx).lastSeq = v.tick ∧
        ((t.ctx ctx).step.map (·.verifying)) = (s.ctx ctx).step.map fun _ => false) ∧
      (ok v.words v.body = false → ∃ t, exec (.tagVerifyDone ctx time) s = .next t ∧ (t.ctx ctx).verify = none ∧ (t.ctx ctx).step = none ∧
        t.rd .vlkp ctx Off.lkpCtxSkipLast = BitVec.ofNat 32 (5 + v.tick % 2 ^ 24 * 2 ^ 8))) ∧
    (∀ r, (s.ctx ctx).verify = none → (s.ctx ctx).preread = some r → r.tagOk = none → r.fault = false → s.ringMode ctx = 1 →
      exec (.tagVerifyDone ctx time) s = .next (s.setCtx ctx { s.ctx ctx with preread := some { r with tagOk := some (ok r.words r.body) } })))

/-! ### Matrix arrays and drain path -/

/-- A tile command that passes the checks of R98 enters the 16-entry queue and the scoreboard with the next `MXA_CMD_SEQ`; with the queue or the scoreboard full the scalar unit waits; a command that fails is discarded, its condition raised against the context, and takes no number (R89, R97, R98, R236). -/
def Obligations.MatrixCommandsQueue : Prop :=
  ∀ (s : State) (core : Fin 512) (rs : BitVec 5) (op raw : Nat) (i : Instr) (ctx : Nat),
    let k := s.core core
    let c := s.mxCmd core raw
    mxqRow op core rs = some i → s.scalarRuns core = true → s.coreCtx core = some ctx → s.isResetting ⟨.mxa, core⟩ = false →
    s.readDesc core (s.sreg core rs) 32 32 = some raw → c.op = op →
    (s.mxRefusal core c = none → k.mxq.length < 16 → k.scbFull = false → ∃ t, exec i s = .next t ∧
      t.core core = { k.stepped with
        mxq := k.mxq ++ [c]
        scb := k.scb ++ [⟨.mxa, c.seq, k.mxRanges c⟩] } ∧ t.rd .mxa core Off.mxaCmdSeq = c.seq) ∧
    (s.mxRefusal core c = none → 16 ≤ k.mxq.length → exec i s = .next (s.setCore core { k with wait := .queue })) ∧
    (s.mxRefusal core c = none → k.mxq.length < 16 → k.scbFull = true → exec i s = .next (s.setCore core { k with wait := .full })) ∧
    (∀ cond, s.mxRefusal core c = some cond → ∃ t, exec i s = .next t ∧ t.core core = k.stepped ∧
      t.sticky .mxa core (8 + (cond - 0x10)) = true ∧ (t.ctx ctx).condemned.isSome = true ∧
      t.rd .mxa core Off.mxaCmdSeq = s.rd .mxa core Off.mxaCmdSeq)

/-- A queued tile command that nothing makes wait leaves the queue and starts: SLOAD fills the shadow sets with the tile and its scale codes and leaves them LOADING, SWAP waits for its effect, FORM reshapes the arrays, and an INT8 WSMUL or OSMUL that cannot saturate computes exact dot products (R82, R83, R86, R87, R93, R94, R95, R110). -/
def Obligations.MatrixCommandsStart : Prop :=
  ∀ (s : State) (core : Fin 512) (idx : Fin 16) (c : MxCmd) (ctx : Nat),
    let k := s.core core
    k.mxq[idx.val]? = some c → s.coreCtx core = some ctx → s.diesOn = true → k.mxStartable idx c = true → c.claim = false →
    ∃ t, exec (.mxaCmdStart core idx) s = .next t ∧ (t.core core).mxq = k.mxq.eraseIdx idx ∧ (t.core core).wharf = k.wharf ∧
      (∀ a < 4, c.names a = false → (t.core core).array a = k.array a) ∧
      (c.op = 1 → ∀ a < 4, c.names a = true →
        let x := (t.core core).array a
        let cls := weightClass (c.fld 1 21 4)
        x.shadow = .loading ∧ x.load = some c ∧ x.live = (k.array a).live ∧ ∀ i < 1024,
          bitsAt (x.shad.getD i {}).val.toNat 0 16 = ofBytes (k.wharfRead (c.fld 1 0 21 + i * cls.sb) cls.sb) ∧
          (isBlock (c.fld 1 21 4) = true → bitsAt (x.shad.getD i {}).val.toNat 24 8 =
            (k.wharfByte (c.fld 2 0 21 + cls.g * (i / colsOf c.form) / 32 * colsOf c.form + i % colsOf c.form)).toNat)) ∧
      (c.op = 2 → ∀ a < 4, c.names a = true → (t.core core).array a = { k.array a with swapPend := true }) ∧
      (c.op = 5 → ∀ a < 4, c.names a = true → ((t.core core).array a).shallow = c.form ∧ ((t.core core).array a).liveValid = false ∧
        ((t.core core).array a).shadow = .empty ∧ (t.core core).scb = k.scb.filter fun e => !(e.owner == .mxa && e.seq == c.seq)) ∧
      (c.op = 3 → c.fld 1 21 4 = 0xB →
        let live := fun a => if c.swapFirst then (k.array a).swap else k.array a
        (∀ a < 4, c.names a = true → (live a).liveFmt = 0xB) → ∀ a < 4, c.names a = true →
        ∀ m < c.fld 4 0 9, ∀ n < colsOf (k.array a).shallow,
          let key := c.fld 4 17 1 * 256 + c.fld 4 9 8 + m
          let d := rowsOf (k.array a).shallow
          let prod := fun r => sext ((live a).live.getD (r * colsOf (k.array a).shallow + n) {}).val.toNat 8 *
            sext (k.wharfByte (c.fld 1 0 21 + a * c.fld 2 0 21 + (m + r) * 32 + r)).toNat 8
          let old : Int := if c.fld 4 18 1 = 1 then ((Tbl.get (k.array a).banks key []).getD n {}).val.toInt else 0
          (old.natAbs : Int) + sumTo d (fun r => ((prod r).natAbs : Int)) < 2 ^ 31 →
          ((Tbl.get ((t.core core).array a).banks key []).getD n {}).val.toInt = old + sumTo d prod) ∧
      (c.op = 4 → c.fld 1 21 4 = 0xB → c.fld 2 21 4 = 0xB → ∀ a < 4, c.names a = true → ∀ i < 32, ∀ j < 32,
        let prod := fun r => sext (k.wharfByte (c.fld 1 0 21 + a * c.fld 3 0 21 + (r + i) * 32 + i)).toNat 8 *
          sext (k.wharfByte (c.fld 2 0 21 + a * c.fld 4 0 21 + (r + j) * 32 + j)).toNat 8
        let old : Int := if c.fld 5 12 1 = 1 then ((k.array a).live.getD (32 * i + j) {}).val.toInt else 0
        (old.natAbs : Int) + sumTo (c.fld 5 0 12) (fun r => ((prod r).natAbs : Int)) < 2 ^ 31 →
        (((t.core core).array a).live.getD (32 * i + j) {}).val.toInt = old + sumTo (c.fld 5 0 12) prod)

/-- What follows a start: a load ends FULL in every shadow set it fills, a swap exchanges live and shadow, a finished multiply hands its banks to the drain queue, and a finished output-stationary tile swaps out (R83, R84, R88, R91). -/
def Obligations.MatrixEvents : Prop :=
  ∀ (s : State) (core : Fin 512), s.diesOn = true →
    let k := s.core core
    (∀ (arr : Fin 4) (c : MxCmd), (k.array arr).load = some c → ∃ t, exec (.shadowFull core arr) s = .next t ∧
      (∀ a < 4, (t.core core).array a = if c.names a then { k.array a with shadow := .full, load := none } else k.array a) ∧
      (t.core core).scb = k.scb.filter fun e => !(e.owner == .mxa && e.seq == c.seq)) ∧
    (∀ arr : Fin 4, (k.array arr).swapPend = true → ∃ t, exec (.swapEffect core arr) s = .next t ∧
      (∀ a < 4, (t.core core).array a = if (k.array a).swapPend then (k.array a).swap else k.array a) ∧ (t.core core).mxq = k.mxq) ∧
    (∀ c rest, k.handPend = c :: rest → c.claim = false → ∃ t, exec (.bankHandover core) s = .next t ∧ (t.core core).handPend = rest ∧
      (∀ a < 4, (t.core core).array a = if c.names a then (k.array a).setBank (c.fld 4 17 1) .handed else k.array a) ∧
      (t.core core).drainQ = k.drainQ ++ c.arrs.map fun a =>
        { arr := Fin.ofNat 4 a, bank := Fin.ofNat 2 (c.fld 4 17 1), os := false, seq := c.seq, dsel := BitVec.ofNat 4 c.dsel, desc := c.desc,
          high := ((k.array a).high (c.fld 4 17 1)).getD 0, int := c.int }) ∧
    (∀ c rest, k.osPend = c :: rest → c.claim = false → (∀ a < 4, c.names a = true → (k.array a).shadow = .empty) →
      ∃ t, exec (.osSwapOut core) s = .next t ∧ (t.core core).osPend = rest ∧
      (∀ a < 4, (t.core core).array a =
        if c.names a then { k.array a with shad := (k.array a).live, live := [], shadow := .draining, lastOs := none } else k.array a) ∧
      (t.core core).drainQ = k.drainQ ++ c.arrs.map fun a =>
        { arr := Fin.ofNat 4 a, bank := 0, os := true, seq := c.seq, dsel := BitVec.ofNat 4 c.dsel, desc := c.desc, high := 31, int := c.int })

/-- `dset` loads an accepted descriptor and refuses any other as BAD_DESC; a bank drained in FP32 without stages writes its values row by row into the wharf and returns to FREE; a bank that fits one cart leaves as one, held while the queue is full (R91, R114, R115, R119, R120, R147). The oldest NaN report reaches the X-die: with the context's record armed it fills it and raises FIRST_NAN, or FIRST_NAN_HALT, which condemns the context; a later one changes nothing (R122, R123). -/
def Obligations.DrainPathAndNanReports : Prop :=
  ((∀ (s : State) (core : Fin 512) (rs : BitVec 5) (idx : BitVec 4) (d ctx : Nat),
    let k := s.core core
    s.scalarRuns core = true → s.coreCtx core = some ctx → s.isResetting ⟨.drn, core⟩ = false →
    s.readDesc core (s.sreg core rs) 64 64 = some d →
    (descOk d = true → exec (.dset core rs idx) s = .next (s.setCore core { k.stepped with
      desc := Tbl.put k.desc idx.toNat (BitVec.ofNat 512 d)
      descLoaded := k.descLoaded ||| BitVec.ofNat 16 (2 ^ idx.toNat) })) ∧
    (descOk d = false → ∃ t, exec (.dset core rs idx) s = .next t ∧ t.core core = k.stepped ∧ t.sticky .drn core 10 = true ∧
      (t.ctx ctx).condemned.isSome = true)) ∧
  (∀ (s : State) (core : Fin 512) (it : DrainItem) (rest : List DrainItem) (ctx : Nat),
    let k := s.core core
    let d := it.desc.toNat
    let shallow := (k.array it.arr).shallow
    let rb := rowBytes (descFld d 0 0 4) shallow
    k.drainQ = it :: rest → s.coreCtx core = some ctx → s.diesOn = true → k.heldCart = none → it.os = false →
    (descFld d 0 0 32 = 0x10 → it.int = false → it.next = 0 → it.high < 256 → rb ≤ descFld d 8 0 16 →
      descFld d 7 0 21 + it.high * descFld d 8 0 16 + rb ≤ 2 ^ 21 →
      ∃ t, exec (.drainBank core) s = .next t ∧ (t.core core).drainQ = rest ∧
        ((t.core core).array it.arr).bank it.bank = .free ∧
        ∀ m ≤ it.high, ∀ n < colsOf shallow,
          let y := ((Tbl.get (k.array it.arr).banks (it.bank.val * 256 + m) []).getD n {}).val.toNat
          bitsAt y 23 8 ≠ 255 → (s.flush32 ctx = false ∨ bitsAt y 23 8 ≠ 0) →
          ofBytes ((t.core core).wharfRead (descFld d 7 0 21 + m * descFld d 8 0 16 + 4 * n) 4) = y) ∧
    (descFld d 0 4 1 = 0 → it.next ≤ it.high → it.high < it.next + rowsPerCart rb →
      ∃ t, exec (.drainBank core) s = .next t ∧ (t.core core).drainQ = rest ∧ (t.core core).wharf = k.wharf ∧
        ((t.core core).array it.arr).bank it.bank = .free ∧ ∃ bytes,
          bytes.length = (it.high + 1 - it.next) * rb ∧
          let cart : Cart := ⟨it.seq, cartTag it shallow it.next (it.high + 1 - it.next), bytes⟩
          (k.carts.length < 16 → (t.core core).carts = k.carts ++ [cart] ∧ (t.core core).heldCart = none) ∧
          (16 ≤ k.carts.length → (t.core core).carts = k.carts ∧ (t.core core).heldCart = some cart))) ∧
  ∀ (s : State) (core : Fin 512) (c : Cart), (s.core core).heldCart = some c → s.diesOn = true →
    ((s.core core).carts.length < 16 → ∃ t, exec (.cartEnter core) s = .next t ∧
      t.core core = { s.core core with
        heldCart := none
        carts := (s.core core).carts ++ [c] }) ∧
    (16 ≤ (s.core core).carts.length → exec (.cartEnter core) s = .next s)) ∧
  (∀ (s : State) (r : Report) (rest : List Report) (p : PageRef),
    s.reports = r :: rest → pageOf r.page = some p → p.kind.isView = false →
    (s.fld .vhwd r.ctx Off.hwdCtxNan0 31 1 = 1 → exec .nanReport s = .next { s with reports := rest }) ∧
    (s.fld .vhwd r.ctx Off.hwdCtxNan0 31 1 = 0 → ∃ t, exec .nanReport s = .next t ∧ t.reports = rest ∧
      (∀ j < 8, t.rd .vhwd r.ctx (Off.hwdCtxNan0 + 4 * j) = r.record.extractLsb' (32 * j) 32) ∧
      (s.nanHalt r.ctx = true → (t.ctx r.ctx).condemned.isSome = true) ∧
      (s.nanHalt r.ctx = false → (t.ctx r.ctx).condemned = (s.ctx r.ctx).condemned) ∧
      (t.rd p.kind p.inst Off.blkErrcnt).toNat = min 0xFFFFFFFF ((s.rd p.kind p.inst Off.blkErrcnt).toNat + 1)))

/-! ### Scalar unit -/

/-- A scalar load writes rd, extended as its width says, from the wharf or from what the tables place in device memory; a store writes the wharf bytes named or hands its bytes to the memory port; a misaligned one is SCALAR_FAULT with no other effect, and one that conflicts with an earlier command waits (R224, R235, R237, R239, R258). `ldu` loads the word the tables place, past the data cache, and leaves the cache alone (R240). -/
def Obligations.ScalarLoadsAndStores : Prop :=
  ((∀ (s : State) (core : Fin 512) (w : LoadWidth) (rd rs1 : BitVec 5) (imm : BitVec 12) (ctx : Nat),
    let k := s.core core
    let p := scalarPlace core (s.scalarEa core rs1 imm)
    let n := loadBytes w
    let gets := fun (t : State) (bs : List Byte) => t.core core =
      ({ k.stepped with dcache := (t.core core).dcache }).setSreg rd.toNat (loadExtend w (ofBytes bs))
    s.scalarRuns core = true → s.coreCtx core = some ctx → s.waitsVec core [rs1] = false → s.waitsVec core [rd] = false →
    (p.aligned n = false → ∃ t, exec (.scalarLoad core w rd rs1 imm) s = .next t ∧ t.core core = k.stepped ∧ t.sticky .scb core 9 = true ∧
      (t.ctx ctx).condemned.isSome = true) ∧
    (p.aligned n = true → s.scalarBlocked core (p.ranges n false) = true →
      exec (.scalarLoad core w rd rs1 imm) s = .next (s.setCore core { k with wait := .conflict })) ∧
    (p.aligned n = true → s.scalarBlocked core (p.ranges n false) = false →
      (∀ o, p = .wharf o → ∃ t, exec (.scalarLoad core w rd rs1 imm) s = .next t ∧ gets t (k.wharfRead o n) ∧ (t.core core).dcache = k.dcache) ∧
      (∀ d g a, p = .dva d → s.placed core ctx d n .read = some (g, a) → k.port = [] → Tbl.find (d / 64) k.dcache = none →
        ∃ t, exec (.scalarLoad core w rd rs1 imm) s = .next t ∧ gets t (s.mem.readBytes g a n) ∧ ∀ h x, t.mem.readByte h x = s.mem.readByte h x))) ∧
  ∀ (s : State) (core : Fin 512) (w : StoreWidth) (rs1 rs2 : BitVec 5) (imm : BitVec 12) (ctx : Nat),
    let k := s.core core
    let p := scalarPlace core (s.scalarEa core rs1 imm)
    let n := storeBytes w
    let v := (k.sreg rs2.toNat).toNat
    s.scalarRuns core = true → s.coreCtx core = some ctx → s.waitsVec core [rs1, rs2] = false → p.aligned n = true →
    s.scalarBlocked core (p.ranges n true) = false →
    (∀ o, p = .wharf o → ∃ t, exec (.scalarStore core w rs1 rs2 imm) s = .next t ∧
      t.core core = { k.stepped with wharf := (t.core core).wharf } ∧ (∀ i < n, ((t.core core).wharfByte (o + i)).toNat = bitsAt v (8 * i) 8) ∧
      ∀ a, (a < o ∨ o + n ≤ a) → (t.core core).wharfByte a = k.wharfByte a) ∧
    (∀ d g a, p = .dva d → s.placed core ctx d n .write = some (g, a) → Tbl.find (d / 64) k.dcache = none →
      ∃ t, exec (.scalarStore core w rs1 rs2 imm) s = .next t ∧ t.core core = { k.stepped with port := k.port ++ [(a, toBytes n v)] } ∧
        ∀ h x, t.mem.readByte h x = s.mem.readByte h x)) ∧
  (∀ (s : State) (core : Fin 512) (rd rs1 rs2 : BitVec 5) (ctx g a : Nat),
    let k := s.core core
    let d := s.sreg core rs1 + 2 ^ 32 * (s.sreg core rs2 % 2 ^ 16)
    s.scalarRuns core = true → s.coreCtx core = some ctx → k.iq = [] →
    (d % 4 = 0 → s.scalarBlocked core (dvaRange d 4 false) = false → k.port = [] → s.placed core ctx d 4 .read = some (g, a) →
      ∃ t, exec (.ldu core rd rs1 rs2) s = .next t ∧
        t.core core = k.stepped.setSreg rd.toNat (BitVec.ofNat 32 (ofBytes (s.mem.readBytes g a 4)))) ∧
    (d % 4 ≠ 0 → ∃ t, exec (.ldu core rd rs1 rs2) s = .next t ∧ t.core core = k.stepped ∧ t.sticky .scb core 9 = true ∧
      (t.ctx ctx).condemned.isSome = true))

/-- Ordinary 32-bit instructions of the scalar unit fetched where the tables place them: ADDI, ADD, SUB, AND, OR, XOR, MUL and LUI write rd and step, BEQ and BNE branch, JAL jumps; an environment call ends in a fault, the spec giving no trap (R131, R212, R233; the fault is the model's choice). -/
def Obligations.ScalarInstructions : Prop :=
  ∀ (s : State) (core : Fin 512) (ctx g a : Nat),
    let k := s.core core
    let w := ofBytes (s.mem.readBytes g a 4)
    let rd := bitsAt w 7 5
    let x := k.sreg (bitsAt w 15 5)
    let y := k.sreg (bitsAt w 20 5)
    let gives := fun (v : Word) => ∃ t, exec (.scalarInstruction core) s = .next t ∧ t.core core = k.stepped.setSreg rd v ∧ t.regs = s.regs
    s.scalarRuns core = true → s.coreCtx core = some ctx → k.iq = [] → k.port = [] →
    s.placed core ctx k.pc.toNat 4 .fetch = some (g, a) →
    (w % 128 = 0x13 → bitsAt w 12 3 = 0 → gives (x + BitVec.signExtend 32 (BitVec.ofNat 12 (bitsAt w 20 12)))) ∧
    (w % 128 = 0x33 → bitsAt w 12 3 = 0 → bitsAt w 25 7 = 0 → gives (x + y)) ∧
    (w % 128 = 0x33 → bitsAt w 12 3 = 0 → bitsAt w 25 7 = 0x20 → gives (x - y)) ∧
    (w % 128 = 0x33 → bitsAt w 12 3 = 7 → bitsAt w 25 7 = 0 → gives (x &&& y)) ∧
    (w % 128 = 0x33 → bitsAt w 12 3 = 6 → bitsAt w 25 7 = 0 → gives (x ||| y)) ∧
    (w % 128 = 0x33 → bitsAt w 12 3 = 4 → bitsAt w 25 7 = 0 → gives (x ^^^ y)) ∧
    (w % 128 = 0x33 → bitsAt w 12 3 = 0 → bitsAt w 25 7 = 1 → gives (x * y)) ∧
    (w % 128 = 0x37 → gives (BitVec.ofNat 32 (bitsAt w 12 20 * 2 ^ 12))) ∧
    (w % 128 = 0x63 → bitsAt w 12 3 < 2 → ∃ t, exec (.scalarInstruction core) s = .next t ∧
      let off := BitVec.ofNat 13 (bitsAt w 8 4 * 2 + bitsAt w 25 6 * 2 ^ 5 + bitsAt w 7 1 * 2 ^ 11 + bitsAt w 31 1 * 2 ^ 12)
      t.core core = { k.stepped with pc := if (x = y) = (bitsAt w 12 3 = 0) then k.pc + off.signExtend 48 else k.pc + 4 }) ∧
    (w % 128 = 0x6F → rd = 0 → ∃ t, exec (.scalarInstruction core) s = .next t ∧
      let off := BitVec.ofNat 21 (bitsAt w 21 10 * 2 + bitsAt w 20 1 * 2 ^ 11 + bitsAt w 12 8 * 2 ^ 12 + bitsAt w 31 1 * 2 ^ 20)
      t.core core = { k.stepped with pc := k.pc + off.signExtend 48 }) ∧
    (w % 128 = 0x73 → exec (.scalarInstruction core) s = .fault (.environmentCall core (BitVec.ofNat 32 w)))

/-- `rel`, `acq` and `fence` count one fence operation: once every earlier access they order is done, the release side empties the memory port into memory and the acquire side empties the data cache, at DEVICE and FLIGHT scope only; `dcinv` empties the data cache at once (R224, R235, R241, R257, R258). -/
def Obligations.Fences : Prop :=
  (∀ (s : State) (core : Fin 512) (scope : BitVec 2) (ctx : Nat),
    let k := s.core core
    let row := fun kind : Fin 3 => match kind with
      | 0 => Instr.rel core scope
      | 1 => Instr.acq core scope
      | 2 => Instr.fence core scope
    s.scalarRuns core = true → s.coreCtx core = some ctx → ∀ kind : Fin 3,
    let ready := (kind = 1 || k.relReady scope) && (kind = 0 || k.acqReady)
    (scope ≠ 3 → ready = true → ∃ t, exec (row kind) s = .next t ∧
      t.core core = { k.stepped with
        port := if kind ≠ 1 ∧ scope ≠ 0 then [] else k.port
        dcache := if kind ≠ 0 ∧ scope ≠ 0 then [] else k.dcache } ∧
      (t.rd .scb core Off.scbFences).toNat = min 0xFFFFFFFF ((s.rd .scb core Off.scbFences).toNat + 1) ∧
      (∀ a bs, kind ≠ 1 → scope ≠ 0 → k.port = [(a, bs)] → t.mem.readBytes (s.coreKey core) a bs.length = bs)) ∧
    (scope ≠ 3 → ready = false → exec (row kind) s = .next (s.setCore core { k with wait := .fence })) ∧
    (scope = 3 → ∃ t, exec (row kind) s = .next t ∧ t.core core = k.stepped ∧ t.sticky .scb core 8 = true ∧ (t.ctx ctx).condemned.isSome = true)) ∧
  ∀ (s : State) (core : Fin 512), s.scalarRuns core = true →
    ∃ t, exec (.dcinv core) s = .next t ∧ t.core core = { (s.core core).stepped with dcache := [] }

/-- `syi` raises a sync counter by the wrapping sum and leaves its mark, `syw` ends at once or waits for `counter − target` to be non-negative, its end is the acquire, and `syr` reads the counter; a counter number of 255 or more is refused (R240, R243, R246, R247). -/
def Obligations.SyncCounters : Prop :=
  ∀ (s : State) (core : Fin 512) (rs1 rs2 : BitVec 5) (scope : BitVec 2) (ctx : Nat),
    let k := s.core core
    let n := s.sreg core rs1
    let cl := core.val / 16
    let v := k.sreg rs2.toNat
    let at_ := ((s.cluster cl).cnt n).value
    let ended := fun (t : State) => t.core core = { k.stepped with dcache := if scope = 0 then k.dcache else [] }
    s.coreCtx core = some ctx →
    (s.scalarRuns core = true → k.iq = [] → s.isResetting ⟨.syc, cl⟩ = false → scope ≠ 3 →
      (n < 255 → k.relReady scope = true → ∃ t, exec (.syi core rs1 rs2 scope) s = .next t ∧
        (t.cluster cl).cnt n = ⟨at_ + v, some { scope := scope, lane := core % 16 }⟩ ∧
        (∀ m, m ≠ n → (t.cluster cl).cnt m = (s.cluster cl).cnt m) ∧
        t.core core = { k.stepped with port := if scope = 0 then k.port else [] }) ∧
      (255 ≤ n → ∃ t, exec (.syi core rs1 rs2 scope) s = .next t ∧ t.core core = k.stepped ∧ t.clusters = s.clusters ∧
        t.sticky .syc cl 9 = true ∧ (t.ctx ctx).condemned.isSome = true) ∧
      (n < 255 → 0 ≤ (at_ - v).toInt → k.acqReady = true → ∃ t, exec (.syw core rs1 rs2 scope) s = .next t ∧ ended t ∧ t.clusters = s.clusters) ∧
      (n < 255 → (at_ - v).toInt < 0 → exec (.syw core rs1 rs2 scope) s = .next (s.setCore core { k with wait := .syw n v scope })) ∧
      (n < 255 → ∃ t, exec (.syr core rs2 rs1) s = .next t ∧ t.core core = k.stepped.setSreg rs2.toNat at_ ∧ t.clusters = s.clusters)) ∧
    ∀ m u, k.wait = .syw m u scope → s.diesOn = true → k.kernel.isSome = true →
      (0 ≤ (((s.cluster cl).cnt m).value - u).toInt → k.acqReady = true → ∃ t, exec (.sywWaitEnd core) s = .next t ∧ ended t) ∧
      ((((s.cluster cl).cnt m).value - u).toInt < 0 → exec (.sywWaitEnd core) s = .next s)

/-! ### Attention, merge unit and coach yard -/

/-- `atq` queues an accepted job, a prefill with its claim of two arrays, under the next `ATP_JOB_SEQ`; a refused one raises its condition against the context and takes no number; a prefill whose state does not fit the 256 KiB buffer is BAD_JOB (R163, R175, R177). The oldest job starts with the coaches its handles name and computes its records from their slots; without a coach they are identity partials, and a handle that names no coach is COACH_FAULT, which ends the job. Its end writes FP32 records to the wharf or sends them to the merge unit, and its scores leave for the yard (R155, R160, R161, R165, R174, R175). -/
def Obligations.AttentionJobs : Prop :=
  (∀ (s : State) (core : Fin 512) (rs : BitVec 5) (op raw : Nat) (i : Instr) (ctx : Nat),
    let k := s.core core
    let seq := s.rd .atp core Off.atpJobSeq + 1
    let verdict := atRefusal raw (core % 16) (s.pairDeclared ctx (atPair raw))
    atqRow op core rs = some i → s.scalarRuns core = true → s.coreCtx core = some ctx → s.isResetting ⟨.atp, core⟩ = false →
    s.readDesc core (s.sreg core rs) 64 64 = some raw → atOp raw = op →
    (verdict = none → k.jobs.length < 8 → (op = 1 → k.mxq.length < 16) → k.scbFull = false → ∃ t, exec i s = .next t ∧
      t.core core = { k.stepped with
        jobs := k.jobs ++ [⟨BitVec.ofNat 512 raw, seq⟩]
        mxq := if op = 1 then k.mxq ++ [⟨0, seq, 0, true⟩] else k.mxq
        scb := k.scb ++ [⟨.atp, seq, atRanges raw⟩] } ∧ t.rd .atp core Off.atpJobSeq = seq) ∧
    (verdict = none → 8 ≤ k.jobs.length → exec i s = .next (s.setCore core { k with wait := .queue })) ∧
    (∀ cond, verdict = some cond → ∃ t, exec i s = .next t ∧ t.core core = k.stepped ∧ t.sticky .atp core (8 + (cond - 0x10)) = true ∧
      (t.ctx ctx).condemned.isSome = true ∧ t.rd .atp core Off.atpJobSeq = s.rd .atp core Off.atpJobSeq) ∧
    (op = 1 → 262144 < atHeads raw * 32 * atHdim raw * 4 → verdict = some 0x10)) ∧
  ((∀ (s : State) (core : Fin 512) (j : AtJob) (rest : List AtJob) (ctx : Nat),
    let k := s.core core
    let raw := j.raw.toNat
    let hs := (List.range (atCount raw)).map fun i => ofBytes (k.wharfRead (descFld raw 3 0 21 + 4 * i) 4)
    let u := s.setCore core { k with jobs := rest }
    k.jobs = j :: rest → s.coreCtx core = some ctx → s.diesOn = true → k.atStartable j = true →
    (∀ cs v as, s.atResolve ctx raw hs = .ok cs → u.atCoaches core ctx raw cs [] = (v, .ok as) →
      ∃ t r, exec (.atpJobStart core) s = .next t ∧ (t.core core).jobs = rest ∧ (t.core core).job = some r ∧ r.job = j ∧
        r.recs = (atCompute (s.flush32 ctx) raw (k.wharfRead (descFld raw 1 0 21) (atQBytes raw)) as).1) ∧
    (atCount raw = 0 → ∃ t r, exec (.atpJobStart core) s = .next t ∧ (t.core core).job = some r ∧
      r.recs = List.replicate (atRecs raw) (identityRec (atHdim raw)) ∧ r.scores = []) ∧
    (∀ cond, s.atResolve ctx raw hs = .error cond → ∃ t, exec (.atpJobStart core) s = .next t ∧
      (t.core core).jobs = rest ∧ (t.core core).job = none ∧ (t.core core).wharf = k.wharf ∧
      t.sticky .atp core (8 + (cond - 0x10)) = true ∧ (t.ctx ctx).condemned.isSome = true)) ∧
  ∀ (s : State) (core : Fin 512) (r : AtRun) (ctx : Nat),
    let k := s.core core
    let raw := r.job.raw.toNat
    let bytes := r.recs.flatMap fun x => x.bytes false
    k.job = some r → s.coreCtx core = some ctx → s.diesOn = true →
    ∃ t, exec (.atpJobEnd core) s = .next t ∧ (t.core core).job = none ∧
      (t.core core).scb = (k.scb.filter fun e => !(e.owner == .atp && e.seq == r.job.seq)) ∧
      t.yard.scoreQ = s.yard.scoreQ ++ (r.scores.filter fun x => x.2 != 0).map (fun x => (ctx, x.1, x.2)) ∧
      (atDest raw = 0 → atBf raw = false → (t.core core).wharfRead (descFld raw 2 0 21) bytes.length = bytes) ∧
      (atDest raw = 2 → atBf raw = false → (t.cluster (core / 16)).inbox =
        (s.cluster (core / 16)).inbox ++ [⟨Fin.ofNat 16 core, r.job.raw, r.job.seq, r.recs⟩] ∧ (t.core core).wharf = k.wharf))

/-- A contribution is stored in its slot, completes it, or is refused against the context; a completed slot with one contributor delivers that contributor's records to the target core's wharf and increments the sync counter (R167, R169, R170). -/
def Obligations.MergeUnit : Prop :=
  (∀ (s : State) (cl : Fin 32) (x : Contribution) (rest : List Contribution) (ctx : Nat),
    let c := s.cluster cl
    let slot := atSlot x.raw.toNat
    let m := c.mergeStored x
    c.inbox = x :: rest → c.granted = some ctx → s.diesOn = true → s.isResetting ⟨.mrg, cl⟩ = false →
    (∀ cond, c.mergeRefusal x = some cond → ∃ t, exec (.mrgContribution cl) s = .next t ∧ t.cluster cl = { c with inbox := rest } ∧
      t.sticky .mrg cl (8 + (cond - 0x10)) = true ∧ (t.ctx ctx).condemned.isSome = true) ∧
    (c.mergeRefusal x = none → m.complete = false → ∃ t, exec (.mrgContribution cl) s = .next t ∧
      t.cluster cl = { c with
        inbox := rest
        slots := Tbl.put c.slots slot (some m) } ∧ t.regs = s.regs) ∧
    (c.mergeRefusal x = none → m.complete = true → Tbl.get c.roots slot none = none → ∃ t, exec (.mrgContribution cl) s = .next t ∧
      t.cluster cl = { c with
        inbox := rest
        slots := Tbl.erase slot c.slots
        roots := Tbl.put c.roots slot (some m) } ∧
      (t.rd .mrg cl Off.mrgCompleted).toNat = min 0xFFFFFFFF ((s.rd .mrg cl Off.mrgCompleted).toNat + 1))) ∧
  ∀ (s : State) (cl : Fin 32) (slot : Fin 16) (m : MergeSlot) (g : Contribution) (ctx : Nat),
    let c := s.cluster cl
    let raw := m.raw.toNat
    let core := 16 * cl.val + atTcore raw
    let bytes := g.recs.flatMap fun x => x.bytes false
    Tbl.get c.roots slot none = some m → c.granted = some ctx → s.diesOn = true →
    expectLanes raw = [g.lane.val] → m.got = [g] → atTarget raw = 0 → atNorm raw = false → atBf raw = false →
    ∃ t, exec (.mrgDeliver cl slot) s = .next t ∧ Tbl.get (t.cluster cl).roots slot none = none ∧
      (t.core core).wharfRead (descFld raw 9 0 21) bytes.length = bytes ∧
      ∀ n, ((t.cluster cl).cnt n).value = (c.cnt n).value + (if n = descFld raw 10 0 8 ∧ n ≠ 0xFF then 1 else 0)

/-- A yard command from a core goes to the slice of its berth or handle under the next `CYD_CMD_SEQ`; with eight of the core's commands waiting the scalar unit waits, and a malformed command is BAD_CMD (R191, R195). A slice carries out its oldest command: OPEN makes the berth and a second OPEN is refused with status 9, APPEND puts a fresh PENDING coach behind the chain, RELEASE cuts the working chains, INFO returns the coach entry, a foreign berth is refused; the result stands in the wharf with the command's number, and a score increment saturates (R188, R191, R193, R194, R201). -/
def Obligations.YardCommands : Prop :=
  (∀ (s : State) (core : Fin 512) (rs : BitVec 5) (op raw : Nat) (i : Instr) (ctx : Nat),
    let k := s.core core
    let c : YardCmd := ⟨BitVec.ofNat 256 raw, s.rd .vcyd ctx Off.cydCmdSeq + 1, ctx, .core core⟩
    cyqRow op core rs = some i → s.scalarRuns core = true → s.coreCtx core = some ctx →
    s.readDesc core (s.sreg core rs) 32 32 = some raw → c.op = op → s.isResetting ⟨.cyd, c.slice⟩ = false →
    (c.malformed = false → s.yard.queued core < 8 → k.scbFull = false → ∃ t, exec i s = .next t ∧
      t.core core = { k.stepped with scb := k.scb ++ [⟨.cyd, c.seq, wharfRange c.res (c.resBytes (s.yard.berth c.berth)) true⟩] } ∧
      t.yard.slice c.slice = s.yard.slice c.slice ++ [c] ∧ (∀ m, m ≠ c.slice → t.yard.slice m = s.yard.slice m) ∧
      t.yard.coaches = s.yard.coaches ∧ t.yard.berths = s.yard.berths ∧ t.rd .vcyd ctx Off.cydCmdSeq = c.seq) ∧
    (c.malformed = false → 8 ≤ s.yard.queued core → exec i s = .next (s.setCore core { k with wait := .queue })) ∧
    (c.malformed = true → ∃ t, exec i s = .next t ∧ t.core core = k.stepped ∧ t.yard = s.yard ∧ t.sticky .cyd c.slice 8 = true ∧
      (t.ctx ctx).condemned.isSome = true)) ∧
  ((∀ (s : State) (m : Fin 4) (c : YardCmd) (rest : List YardCmd) (n : Nat),
    let b := s.yard.berth c.berth
    let result := fun (t : State) (status : Nat) =>
      (t.core n).wharfRead c.res 8 = toBytes 4 status ++ toBytes 4 c.seq.toNat ∧ t.yard.slice m = rest ∧
      (t.core n).scb = (s.core n).scb.filter fun e => !(e.owner == .cyd && e.seq == c.seq)
    s.yard.slice m = c :: rest → s.diesOn = true → c.issuer = .core n →
    (c.op = 1 → s.ownsBerth c.ctx c.berth = true → c.res + 8 ≤ 2 ^ 21 →
      (b.openW = false → keyFormat (c.fld 4 0 4) = true → coachBytes (c.fld 4 0 4) (c.fld 4 4 2) ≤ s.frameSize c.ctx →
        (s.ctx c.ctx).journal.changes ≤ 262144 → ∃ t, exec (.cydResultWritten m) s = .next t ∧ result t 0 ∧
        t.yard.berth c.berth = { openW := true, ctx := c.ctx, layers := c.fld 4 8 8 + 1, groups := c.fld 4 16 6 + 1, base0 := BitVec.ofNat 32 c.arg } ∧
        t.yard.coaches = s.yard.coaches) ∧
      (b.openW = true → ∃ t, exec (.cydResultWritten m) s = .next t ∧ result t 9 ∧ t.yard.berths = s.yard.berths ∧
        t.yard.coaches = s.yard.coaches ∧ t.sticky .cyd c.slice 13 = true)) ∧
    (c.op = 2 → c.alll = false → c.allg = false → s.ownsBerth c.ctx c.berth = true → c.inBerth b = true → c.res + 12 ≤ 2 ^ 21 →
      s.yardStatus c b (s.planAppend c b) 0 = 0 → ∃ t i j g, exec (.cydResultWritten m) s = .next t ∧ result t 0 ∧
        let ch := c.fld 0 8 8 * b.groups + c.fld 0 16 6
        0 < i ∧ (s.yard.coach i).st = .free ∧ (t.yard.berth c.berth).work ch = b.work ch ++ [i] ∧
        (t.yard.berth c.berth).chainC = b.chainC ∧
        t.yard.coach i = { freshCoach c.ctx (BitVec.ofNat 4 (c.fld 4 0 4)) (BitVec.ofNat 2 (c.fld 4 4 2)) 0
            (match (b.work ch).getLast? with
              | some x => (s.yard.coach x).base + 64
              | none => b.base0)
            (BitVec.ofNat 32 (c.fld 5 0 32)) (BitVec.ofNat 32 (c.fld 6 0 32)) s.lkp.now with
          gen := g
          frame := j } ∧
        ∀ x, x ≠ i → t.yard.coach x = s.yard.coach x) ∧
    (c.op = 5 → s.ownsBerth c.ctx c.berth = true → c.res + 8 ≤ 2 ^ 21 → s.yardStatus c b (s.planRelease c b) 0 = 0 →
      ∃ t, exec (.cydResultWritten m) s = .next t ∧ result t 0 ∧ t.yard.coaches = s.yard.coaches ∧
        (∀ ch < b.layers * b.groups, (t.yard.berth c.berth).work ch =
          (b.work ch).filter fun i => decide ((s.yard.coach i).base.toNat < b.base0.toNat + c.arg)) ∧
        ((t.yard.berth c.berth).releasing = (b.releasing || c.arg == 0))) ∧
    (∀ i x, c.op = 8 → s.yard.named c.ctx c.arg = some (i, x) → c.res + 40 ≤ 2 ^ 21 → (s.ctx c.ctx).journal.changes ≤ 262144 →
      ∃ t, exec (.cydResultWritten m) s = .next t ∧ result t 0 ∧ (t.core n).wharfRead (c.res + 8) 32 = x.info ∧
        t.yard.coaches = s.yard.coaches ∧ t.yard.berths = s.yard.berths) ∧
    (c.op ≠ 6 → c.op ≠ 8 → s.ownsBerth c.ctx c.berth = false → ∃ t, exec (.cydResultWritten m) s = .next t ∧ t.yard.berths = s.yard.berths ∧
      t.yard.coaches = s.yard.coaches ∧ t.sticky .cyd m 9 = true ∧ (t.ctx c.ctx).condemned.isSome = true)) ∧
  ∀ (s : State) (ctx : Nat) (h : Word) (n i : Nat) (c : Coach) (rest : List (Nat × Word × Nat)),
    s.yard.scoreQ = (ctx, h, n) :: rest → s.diesOn = true → s.yard.named ctx h.toNat = some (i, c) → c.st = .live →
    ∃ t, exec .scoreIncrement s = .next t ∧ t.yard.scoreQ = rest ∧
      t.yard.coach i = { c with score := min 0xFFFFFFFF (c.score + n) } ∧ ∀ x, x ≠ i → t.yard.coach x = s.yard.coach x)

/-! ### DMA -/

/-- `dmq` queues an accepted command under the next `DMA_CMD_SEQ` with its ranges on the scoreboard; with sixteen queued the scalar unit waits; a descriptor that breaks a rule is BAD_CMD against the context (R225, R228, R236; that a refused command takes its number is the model's choice, log 47). The oldest DMA command starts when the scoreboard and the four places in flight allow it, reading its source: a plain COPY from wharf to wharf holds its rows, a FILL its pattern, an operand outside the wharf is WHARF_RANGE. Its completion makes its writes, increments its sync counter once and leaves; an atomic add returns to memory the wrapping sum, a coach write moves the working fill mark, a remote write completes by its acknowledgements alone, and a NAK stops it (R197, R222, R225, R228, R247, R293). -/
def Obligations.DmaCommands : Prop :=
  (∀ (s : State) (core : Fin 512) (rs : BitVec 5) (op raw : Nat) (i : Instr) (ctx : Nat),
    let k := s.core core
    let seq := s.rd .dma core Off.dmaCmdSeq + 1
    dmqRow op core rs = some i → s.scalarRuns core = true → s.coreCtx core = some ctx → s.isResetting ⟨.dma, core⟩ = false →
    s.readDesc core (s.sreg core rs) 64 64 = some raw → dmOp raw = op →
    (dmBad raw = false → k.dmq.length < 16 → k.scbFull = false → ∃ t, exec i s = .next t ∧
      t.core core = { k.stepped with
        dmq := k.dmq ++ [⟨BitVec.ofNat 512 raw, seq⟩]
        scb := k.scb ++ [⟨.dma, seq, s.dmRanges core ctx raw⟩] } ∧ t.rd .dma core Off.dmaCmdSeq = seq) ∧
    (dmBad raw = false → 16 ≤ k.dmq.length → exec i s = .next (s.setCore core { k with wait := .queue })) ∧
    (dmBad raw = true → ∃ t, exec i s = .next t ∧ t.core core = k.stepped ∧ t.sticky .dma core 8 = true ∧ (t.ctx ctx).condemned.isSome = true ∧
      t.rd .dma core Off.dmaCmdSeq = seq)) ∧
  ((∀ (s : State) (core : Fin 512) (c : DmaCmd) (rest : List DmaCmd) (ctx : Nat),
    let k := s.core core
    let raw := c.raw.toNat
    let row := fun r => (dmSrc raw + r * dmSrcPitch raw, dmDst raw + r * dmDstPitch raw)
    let held := (List.range (dmRows raw)).map fun r => ((core : Nat), (row r).2, k.wharfRead (row r).1 (dmRowBytes raw))
    k.dmq = c :: rest → s.coreCtx core = some ctx →
    (s.diesOn = true → k.scbBlocked .dma c.seq = false → k.dmaRun.length < 4 → dmRemote raw = false →
      (dmOp raw = 1 → dmSrcW raw = true → dmDstW raw = true → dmSkew raw = false → dmConv raw = 0 → k.port = [] →
        (∀ r < dmRows raw, (row r).1 + dmRowBytes raw ≤ 2 ^ 21 ∧ (row r).2 + dmRowBytes raw ≤ 2 ^ 21) →
        ∃ t, exec (.dmaCmdStart core) s = .next t ∧ t.core core = { k with
          dmq := rest
          dmaRun := k.dmaRun ++ [({ cmd := c, toWharf := held, toDva := [], atoms := [], unacked := [] } : DmaRun)] }) ∧
      (dmOp raw = 2 → dmDstW raw = false → dmSkew raw = false → dmConv raw = 0 → k.port = [] →
        ∃ t, exec (.dmaCmdStart core) s = .next t ∧ (t.core core).dmq = rest ∧ ∃ x, (t.core core).dmaRun = k.dmaRun ++ [x] ∧
          x.cmd = c ∧ x.toDva.map (·.1) = (List.range (dmRows raw)).map (fun r => (row r).2) ∧
          ∀ y ∈ x.toDva, y.2.length = dmRowBytes raw ∧ ∀ j < dmRowBytes raw, (y.2.getD j 0).toNat = descFld raw 1 (8 * (j % 4)) 8) ∧
      ((dmOp raw = 1 ∨ dmOp raw = 2) → dmDstW raw = true → dmSkew raw = false → (∃ r < dmRows raw, 0 < dmOutRow raw ∧ 2 ^ 21 < (row r).2 + dmOutRow raw) →
        ∃ t, exec (.dmaCmdStart core) s = .next t ∧ (t.core core).dmq = rest ∧ (t.core core).wharf = k.wharf ∧ t.sticky .dma core 10 = true ∧
          (t.ctx ctx).condemned.isSome = true)) ∧
    (4 ≤ k.dmaRun.length ∨ k.scbBlocked .dma c.seq = true → exec (.dmaCmdStart core) s = .next s)) ∧
  (∀ (s : State) (core : Fin 512) (idx : Fin 4) (r : DmaRun) (ctx : Nat),
    let k := s.core core
    let raw := r.cmd.raw.toNat
    let gone := fun (t : State) => (t.core core).dmaRun = (k.dmaRun.filter fun x => x.cmd.seq != r.cmd.seq) ∧
      (t.core core).scb = (k.scb.filter fun e => !(e.owner == .dma && e.seq == r.cmd.seq)) ∧
      ∀ n, ((t.cluster (core.val / 16)).cnt n).value = ((s.cluster (core.val / 16)).cnt n).value + (if n = dmSync raw ∧ n ≠ 0xFF then 1 else 0)
    k.dmaRun[idx.val]? = some r → s.coreCtx core = some ctx → s.diesOn = true → dmRemote raw = false →
    (∀ o bs, dmOp raw = 1 ∨ dmOp raw = 2 → r.toDva = [] → r.toWharf = [((core : Nat), o, bs)] → ∃ t, exec (.dmaCmdComplete core idx) s = .next t ∧
      gone t ∧ (t.core core).wharfRead o bs.length = bs ∧ ∀ a, (a < o ∨ o + bs.length ≤ a) → (t.core core).wharfByte a = k.wharfByte a) ∧
    (∀ d bs g a, dmOp raw = 1 ∨ dmOp raw = 2 → r.toWharf = [] → r.toDva = [(d, bs)] → s.placed core ctx d bs.length .write = some (g, a) →
      ∃ t, exec (.dmaCmdComplete core idx) s = .next t ∧ gone t ∧ (t.core core).wharf = k.wharf ∧ t.mem.readBytes g a bs.length = bs ∧
        ∀ h x, x / 64 ≠ a / 64 → t.mem.readByte h x = s.mem.readByte h x) ∧
    (∀ d x e g a, dmOp raw = 4 → dmAop raw = 1 → dmRet raw = false → r.atoms = [(d, x, e)] → s.placed core ctx d 4 .read = some (g, a) →
      s.placed core ctx d 4 .write = some (g, a) → ∃ t, exec (.dmaCmdComplete core idx) s = .next t ∧ gone t ∧ (t.core core).wharf = k.wharf ∧
        t.mem.readBytes g a 4 = toBytes 4 (BitVec.ofNat 32 (ofBytes (s.mem.readBytes g a 4)) + x).toNat) ∧
    (∀ i c u, dmOp raw = 3 → s.yard.writable ctx (dmHandle raw) (dmFirst raw) (dmN raw) = .ok (i, c) → s.dmWrite core ctx r.toDva = (u, .ok ()) →
      ∃ t, exec (.dmaCmdComplete core idx) s = .next t ∧ gone t ∧ t.mem = u.mem ∧
        t.yard.coach i = { c with fillW := max c.fillW (dmFirst raw + dmN raw) }) ∧
    (∀ cond, dmOp raw = 3 → s.yard.writable ctx (dmHandle raw) (dmFirst raw) (dmN raw) = .error cond →
      ∃ t, exec (.dmaCmdComplete core idx) s = .next t ∧ t.mem.cells = s.mem.cells ∧ t.yard.coaches = s.yard.coaches ∧
        t.sticky .cyd (dmHandle raw % 4) (8 + (cond - 0x10)) = true ∧ (t.ctx ctx).condemned.isSome = true) ∧
    (dmOp raw = 5 → r.unacked ≠ [] → exec (.dmaCmdComplete core idx) s = .next s) ∧
    (dmOp raw = 5 → r.unacked = [] → r.toWharf = [] → r.toDva = [] → ∃ t, exec (.dmaCmdComplete core idx) s = .next t ∧ gone t)) ∧
  ∀ (s : State) (link : Fin 18) (hdr : BitVec 256) (payload : List Byte) (i k n : Nat) (r : DmaRun),
    let b : Barge := ⟨hdr, payload⟩
    s.delivers 5 link b i k = true → s.rwWaiting k b.src (ofBytes payload) = some (n, r) →
    (b.fld 0 11 1 = 0 → ∃ t, exec (.rwackBarge link hdr payload) s = .next t ∧ t.core n = { s.core n with
      dmaRun := (s.core n).dmaRun.map fun x => if x = r then { x with unacked := x.unacked.filter (· != ofBytes payload) } else x }) ∧
    (b.fld 0 11 1 = 1 → ∃ t, exec (.rwackBarge link hdr payload) s = .next t ∧
      (t.core n).dmaRun = ((s.core n).dmaRun.filter fun x => x.cmd.seq != r.cmd.seq) ∧ t.sticky .dma n 9 = true ∧ (t.ctx k).condemned.isSome = true))

/-! ### Routing engine -/

/-- `rtq` hands a job to the routing engine as a release at device scope, waiting while 64 jobs or 4 of the core's own stand in the queue. The oldest job is selected: a descriptor that breaks a rule is BAD_JOB; a job of no rows writes its 64-byte table and increments RSYNC in the clusters of CMASK; no selection gives an expert more choices than CAP (R264, R265, R267, R270, R271). A request barge joins its exchange, and a request outside the layout is refused with an answer; a weight barge in its turn lands its bytes in the slot of its fetch, or frees it when the home refused; a fetch whose bytes are all there leaves, and its slot is no longer LANDING (R271, R273, R274). -/
def Obligations.RoutingAndWeightFetches : Prop :=
  ((∀ (s : State) (core : Fin 512) (rs : BitVec 5) (raw ctx : Nat),
    let k := s.core core
    let own := (s.rte.jobs.filter fun j => j.core == core.val).length
    s.scalarRuns core = true → s.coreCtx core = some ctx → s.waitsVec core [rs] = false → s.isResetting ⟨.rte, 0⟩ = false → k.relReady 1 = true →
    s.readDesc core (s.sreg core rs) 64 64 = some raw →
    (s.isCondemned ctx = false → s.rte.jobs.length < 64 → own < 4 → ∃ t, exec (.rtq core rs) s = .next t ∧
      t.core core = { k.stepped with port := [] } ∧
      t.rte = { s.rte with jobs := s.rte.jobs ++ [⟨BitVec.ofNat 512 raw, s.rd .rte 0 Off.rteJobSeq + 1, core, ctx⟩] } ∧
      t.rd .rte 0 Off.rteJobSeq = s.rd .rte 0 Off.rteJobSeq + 1) ∧
    (64 ≤ s.rte.jobs.length ∨ 4 ≤ own → exec (.rtq core rs) s = .next (s.setCore core { k with wait := .queue }))) ∧
  (∀ (s : State) (j : RteJob) (rest : List RteJob),
    let d := j.raw.toNat
    s.rte.jobs = j :: rest → s.diesOn = true →
    (s.rtBad j.ctx d = true → ∃ t, exec .rteSelect s = .next t ∧ t.rte = { s.rte with jobs := rest } ∧ t.sticky .rte 0 8 = true ∧
      (t.ctx j.ctx).condemned.isSome = true) ∧
    (∀ g a, s.rtBad j.ctx d = false → rtRows d = 0 → s.placed 517 j.ctx (rtDispatch d) 64 .write = some (g, a) →
      ∃ t, exec .rteSelect s = .next t ∧ t.rte.jobs = rest ∧
        t.mem.readBytes g a 64 = List.replicate 28 0 ++ toBytes 4 j.seq.toNat ++ List.replicate 32 0 ∧
        (∀ h x, x / 64 ≠ a / 64 → t.mem.readByte h x = s.mem.readByte h x) ∧
        ∀ i c, (s.grantList j.ctx)[i]? = some c → ∀ n, ((t.cluster c).cnt n).value =
          ((s.cluster c).cnt n).value + (if n = rtRsync d ∧ bitAt (rtCmask d) i = true then 1 else 0))) ∧
  ∀ (v : RtEnv) (x : RtSel) (rows : List (Nat × List (Nat × Nat))), (∀ e, x.load e ≤ rtCap v.d) →
    ∀ e, (rows.foldl (RtSel.row v) x).load e ≤ rtCap v.d) ∧
  ((∀ (s : State) (link : Fin 18) (hdr : BitVec 256) (payload : List Byte) (i k : Nat),
    let b : Barge := ⟨hdr, payload⟩
    s.isResetting ⟨.rte, 0⟩ = false →
    (s.delivers 2 link b i k = true → s.stepTick k ≤ b.step → ∃ t, exec (.fetchReqBarge link hdr payload) s = .next t ∧
      (∃ x ∈ t.rte.exchs, x.ctx = k ∧ x.exch = b.coll ∧ x.tick = b.step ∧ b.src ∈ x.got) ∧ t.rte.jobs = s.rte.jobs ∧ t.rte.fetches = s.rte.fetches) ∧
    (∀ r, s.delivers 2 link b i k = true → payload = toBytes 4 r → s.fld .rte 0 Off.rteCtxLayout 16 11 k ≤ bitsAt r 0 10 → r < 2 ^ 32 →
      ∃ t, exec (.fetchReqBarge link hdr payload) s = .next t ∧ t.sticky .rte 0 11 = true ∧
        Tbl.get (t.plan i).txSeq b.src 0 = (Tbl.get (s.plan i).txSeq b.src 0 + 1) % 2 ^ 32) ∧
    ∀ f, s.delivers 3 link b i k = true → s.slotOf k = some i → s.rte.weights = [] → s.rte.fetches = [f] → f.ctx = k → f.member = b.src → f.exch = b.coll →
      f.tick = b.step → f.arrived = false →
      (∀ g a, b.fld 0 10 1 = 0 → f.have_ = 0 → f.bytes = payload.length → s.placed 517 k (s.rtSlotDva k f.slot) payload.length .write = some (g, a) →
        ∃ t, exec (.weightBarge link hdr payload) s = .next t ∧ t.rte.weights = [] ∧
          t.rte.fetches = [f].map (fun x => { x with have_ := payload.length, arrived := true }) ∧ t.mem.readBytes g a payload.length = payload) ∧
      (b.fld 0 10 1 = 1 → ∃ t, exec (.weightBarge link hdr payload) s = .next t ∧ t.rte.fetches = [] ∧
        Tbl.find (4096 * k + f.slot) t.rte.slots = none ∧ t.sticky .rte 0 11 = true)) ∧
  ∀ (s : State) (idx : Nat) (f : RteFetch), s.diesOn = true → s.rte.weights = [] → s.rte.fetches[idx]? = some f →
    (f.arrived = false → exec (.fetchLanded idx) s = .next s) ∧
    (f.arrived = true → f.waiters = [] → ∃ t, exec (.fetchLanded idx) s = .next t ∧ t.rte.fetches = s.rte.fetches.erase f ∧
      (Tbl.get t.rte.slots (4096 * f.ctx + f.slot) {}) = { Tbl.get s.rte.slots (4096 * f.ctx + f.slot) {} with landing := false } ∧
      t.mem = (s.rtWriteDir f.ctx [(f.layer * s.rtStride f.ctx + f.expert, 2, f.slot, s.rtSlotDva f.ctx f.slot)]).1.mem))

/-! ### Collectives -/

/-- `fcq` reads an accepted contribution and gives its collective an instance; a record with a reserved bit set is BAD_COLL. DATA and MERGE barges join their instance unless their pound is past. An instance with its output ready writes it and increments its counter; ALL_REDUCE of two members over INT32 adds with saturation, and ALL_GATHER puts the contributions in member order (R300 to R303). -/
def Obligations.Collectives : Prop :=
  (∀ (s : State) (core : Fin 512) (rs : BitVec 5) (raw ctx i : Nat),
    let k := s.core core
    let coll := descFld raw 0 0 16
    let src := descFld raw 1 0 21
    let n := Tbl.get (s.ctx ctx).insts coll 0
    s.scalarRuns core = true → s.coreCtx core = some ctx → s.waitsVec core [rs] = false → s.isResetting ⟨.fce, 0⟩ = false →
    s.readDesc core (s.sreg core rs) 16 16 = some raw → s.slotOf ctx = some i →
    (∀ g a, descFld raw 0 16 16 = 0 → descFld raw 1 21 11 = 0 → descFld raw 2 0 32 = 0 → descFld raw 3 0 32 = 0 → n < 256 →
      k.relReady 1 = true → k.port = [] → coll < 2 ^ s.fld .fce 0 Off.fceCtxCtabLog2 0 5 ctx →
      s.placed 517 ctx (s.rd64 .fce 0 Off.fceCtxCtabLo ctx / 64 * 64 % 2 ^ 48 + coll * 64) 64 .read = some (g, a) →
      let d := ofBytes (s.mem.readBytes g a 64)
      clOk d (planN (s.plan i).plan) (planSelf (s.plan i).plan) = true → clOp d < 4 → clCluster d < (s.grantList ctx).length →
      src + clBytes d ≤ 2 ^ 21 → s.findInst ctx coll n (s.collTick ctx) = none →
      ∃ t, exec (.fcq core rs) s = .next t ∧ t.core core = k.stepped ∧ Tbl.get (t.ctx ctx).insts coll 0 = n + 1 ∧
        ∃ x ∈ t.fce.insts, x.ctx = ctx ∧ x.coll = coll ∧ x.inst = n ∧ x.tick = s.collTick ctx ∧ x.desc = some (BitVec.ofNat 512 d) ∧
          x.own = some (k.wharfRead src (clBytes d))) ∧
    (descFld raw 0 17 15 ≠ 0 → ∃ t, exec (.fcq core rs) s = .next t ∧ t.core core = k.stepped ∧ t.fce.insts = s.fce.insts ∧
      t.sticky .fce 0 9 = true ∧ (t.ctx ctx).condemned.isSome = true)) ∧
  (∀ (s : State) (link : Fin 18) (hdr : BitVec 256) (payload : List Byte) (i k : Nat) (kind : Fin 2),
    let b : Barge := ⟨hdr, payload⟩
    let row := if kind = 0 then Instr.dataBarge link hdr payload else .mergeBarge link hdr payload
    s.delivers kind link b i k = true →
    (s.collTick k ≤ b.step → ∃ t, exec row s = .next t ∧
      ∃ x ∈ t.fce.insts, x.ctx = k ∧ x.coll = b.coll ∧ x.inst = b.inst ∧ x.tick = b.step ∧ (b.src, b.phase, b.seq, payload) ∈ x.got) ∧
    (b.step < s.collTick k → ∃ t, exec row s = .next t ∧ t.fce.insts = s.fce.insts)) ∧
  (∀ (s : State) (idx i : Nat) (x : CollInst) (d : BitVec 512) (out : List Byte) (y : Tally),
    let dd := d.toNat
    let cl := (s.grantList x.ctx).getD (clCluster dd) 0
    let core := 16 * cl + clLane dd
    s.fce.insts[idx]? = some x → x.desc = some d → s.slotOf x.ctx = some i → x.failed = false → x.written = false → s.diesOn = true →
    x.tick = s.collTick x.ctx → clOp dd < 5 → clToDva dd = false →
    x.output (s.flush32 x.ctx) dd (planSelf (s.plan i).plan - clFirst dd) = some (out, y) →
    ∃ t z, exec (.collectiveComplete idx) s = .next t ∧ t.fce.insts[idx]? = some z ∧ z.written = true ∧ z.own = x.own ∧ z.got = x.got ∧
      (t.core core).wharfRead (clDoff dd) out.length = out ∧
      (∀ a, (a < clDoff dd ∨ clDoff dd + out.length ≤ a) → (t.core core).wharfByte a = (s.core core).wharfByte a) ∧
      ∀ n, ((t.cluster cl).cnt n).value = ((s.cluster cl).cnt n).value + (if n = clSync dd ∧ n ≠ 0xFF then 1 else 0)) ∧
  ∀ (x : CollInst) (d : Nat) (a b : List Byte) (fl : Bool), clAlgoFld d = 0 → clCount d = 2 → a.length = clBytes d → b.length = clBytes d → clBytes d % 4 = 0 →
    x.own = some a → x.msg d ⟨1, 0, clBytes d⟩ = some b →
    (clOp d = 0 → clType d = 3 → clRed d = 0 → ∃ out y, x.output fl d 0 = some (out, y) ∧ out.length = clBytes d ∧
      ∀ j < clBytes d / 4, let v := fun (l : List Byte) => sext (ofBytes ((l.drop (4 * j)).take 4)) 32
        v out = max (-(2 ^ 31 : Nat) : Int) (min (v a + v b) ((2 ^ 31 : Nat) - 1))) ∧
    (clOp d = 1 → ∃ y, x.output fl d 0 = some (a ++ b, y))

/-! ### Barges between members -/

/-- A remote write in its turn reaches memory whole and takes the next SEQ toward its source for its acknowledgement. A LATE notice is held for its tick, or stops the flight when its cut-off is past; an ABORT notice is held and, for the present tick, aborts the flight. A hop acknowledgement frees its entry of the retransmit buffer; pending ones leave together; an entry without one is sent again with RETRY, and when the retransmissions are used up its destination is unreachable (R65, R68, R292, R293, R296, R305, R306). -/
def Obligations.FabricBarges : Prop :=
  (∀ (s : State) (link : Fin 18) (hdr : BitVec 256) (payload : List Byte) (i : Nat),
    let b : Barge := ⟨hdr, payload⟩
    let p := s.plan i
    (∀ k g a, s.delivers 4 link b i k = true →
      s.placed 517 k (bitsAt (ofBytes (payload.take 8)) 0 48) (payload.length - 8) .write = some (g, a) →
      ∃ t, exec (.rwriteBarge link hdr payload) s = .next t ∧ t.mem.readBytes g a (payload.length - 8) = payload.drop 8 ∧
        (∀ h x, x / 64 ≠ a / 64 → t.mem.readByte h x = s.mem.readByte h x) ∧
        (s.slotMuted i = false → Tbl.get (t.plan i).txSeq b.src 0 = (Tbl.get p.txSeq b.src 0 + 1) % 2 ^ 32)) ∧
    (s.accepts 6 link b i = true →
      (s.lkp.now ≤ b.step → ∃ t, exec (.lateBarge link hdr payload) s = .next t ∧ (t.plan i).late = p.late ++ [(b.src, b.step)] ∧
        (t.plan i).abortTick = p.abortTick) ∧
      (b.step < s.lkp.now → ∃ t, exec (.lateBarge link hdr payload) s = .next t ∧ (t.plan i).late = p.late ∧
        (t.plan i).abortTick = some s.lkp.now ∧ t.sticky .lkp 0 11 = true)) ∧
    (s.accepts 7 link b i = true → ∃ t, exec (.abortBarge link hdr payload) s = .next t ∧
      (t.plan i).abortN = p.abortN ++ (if b.step < s.lkp.now then [] else [(b.src, b.step)]) ∧
      (t.plan i).abortTick = (if b.step ≤ s.lkp.now then some s.lkp.now else p.abortTick)) ∧
    ∀ e, s.accepts 8 link b i = true → s.fce.retx = [e] → e.link.isSome = true → s.portOf link = some e.port →
      payload = ackEntry (0, e.barge.flight, e.barge.src, e.barge.dst, e.barge.seq) →
      ∃ t, exec (.ackBarge link hdr payload) s = .next t ∧ t.fce.retx = []) ∧
  (∀ (s : State) (link : Fin 18),
    ((s.link link).st = .up ∨ (s.link link).st = .quarantined) → ∃ t, exec (.ackTx link) s = .next t ∧
      t.fce = { s.fce with acks := s.fce.acks.filter fun a => a.1 != link.val } ∧
      ∀ a ∈ s.fce.acks, a.1 = link.val → (s.portOf link).isSome = true → (s.armedSlot a.2.1).isSome = true →
        ∃ x, Out.barge link x ∈ t.out ∧ ackEntry a <:+: x.payload) ∧
  ∀ (s : State) (e : TxBarge), s.fce.retx = [e] → e.link.isSome = true →
    (∀ l, e.retries < s.fld .fce 0 Off.fceCfg 8 4 → e.barge.linkOf (s.linksFor e.barge e.port) = some l → ∃ t, exec (.ackTimeout 0) s = .next t ∧
      t.fce = { s.fce with retx := [⟨e.barge.setFld 0 9 1 1, e.port, some l, e.retries + 1⟩] } ∧ t.out = s.out ++ [.barge l (e.barge.setFld 0 9 1 1)]) ∧
    (∀ j, s.fld .fce 0 Off.fceCfg 8 4 ≤ e.retries → e.barge.notice = false → s.flightSlot e.barge.flight = some j → j < 32 →
      ∃ t, exec (.ackTimeout 0) s = .next t ∧ t.fce.retx = [] ∧ e.barge.dst ∈ (t.plan j).unreach)

/-! ### Links, ports, timing messages and plans -/

/-- A link that loses alignment or cannot correct goes DOWN; one aligned on four lanes is VERIFYING, or UP on a FRONT port; LLDP frames leave on their period and silence of four periods quarantines a FLIGHT link; a received frame takes a FLIGHT link UP or into quarantine by its verdict (R284, R297, R309). A port answers a request for its own address only; PFC pauses and resumes a FRONT port in its class and is dropped on a FLIGHT port; a message of the device's domain on the slave port sets the device time, and timing messages leave (R288, R299). -/
def Obligations.LinksAndPorts : Prop :=
  (∀ (s : State) (link : Fin 18), s.rst.inReset = false →
    let st := (s.link link).st
    (st ≠ .down → st ≠ .disabled →
      (∃ t, exec (.linkAlignLost link) s = .next t ∧ (t.link link).st = .down ∧ t.sticky .lnk link 8 = true) ∧
      (∃ t, exec (.linkFecFail link) s = .next t ∧ (t.link link).st = .down ∧ t.sticky .lnk link 8 = true ∧ t.sticky .lnk link 10 = true) ∧
      (∃ t, exec (.lldpTx link) s = .next t ∧ Out.lldp link (s.lldpTuples link) ∈ t.out ∧
        (t.link link).st = (if st = .up ∧ s.isFront link = false ∧ 3 ≤ (s.link link).lldpSilent then .quarantined else st)) ∧
      (∀ x : LldpTlvs, ∃ t, exec (.lldpRx link x) s = .next t ∧
        (t.link link).st = (if s.isFront link = true then st else if s.lldpJudge link x = 0 then .up else .quarantined) ∧
        (∀ serial pl ts, x.identity = some (serial, pl, ts) → (t.link link).peerValid = true ∧ (t.link link).peerSerial = serial))) ∧
    (st = .down ∨ st = .disabled → exec (.linkAlignLost link) s = .next s ∧ exec (.linkFecFail link) s = .next s) ∧
    (st = .down → s.hwd.fatal = false →
      (∃ t, exec (.linkAligned link 15) s = .next t ∧ (t.link link).st = if s.isFront link then .up else .verifying) ∧
      ∀ lanes, lanes ≠ 15 → ∃ t, exec (.linkAligned link lanes) s = .next t ∧ (t.link link).st = .down)) ∧
  ((∀ (s : State) (port : Fin 18) (addr : BitVec 128) (v6 : Bool),
    let ip := s.rd64 .lpt port Off.lptIp + s.rd64 .lpt port (Off.lptIp + 8) * 2 ^ 64
    let mine := addr.toNat = if v6 then ip else ip % 2 ^ 32
    s.rst.inReset = false → s.role port ≠ 0 → s.hasUp port = true → s.fld .lpt port Off.lptCfg 2 1 = b2n v6 →
    (mine → ∃ t, exec (.arpRequest port addr v6) s = .next t ∧ t = { s with out := t.out } ∧ t.out = s.out ++ [.arp port addr]) ∧
    (¬ mine → exec (.arpRequest port addr v6) s = .next s)) ∧
  (∀ (s : State) (link : Fin 18) (cls : BitVec 3) (pause : Bool) (p : Nat), s.portOf link = some p → s.rst.inReset = false → (s.link link).st = .up →
    (s.role p = 2 → cls.toNat = s.fld .lpt p Off.lptCfg 5 3 → ∃ t, exec (.pfcRx link cls pause) s = .next t ∧ (t.port p).paused = pause ∧
      (pause = true → t = { s with ports := t.ports }) ∧
      (pause = false → (s.port p).txq = [] → t = { s with ports := t.ports } ∧ (t.port p).txq = [])) ∧
    (s.role p = 2 → cls.toNat ≠ s.fld .lpt p Off.lptCfg 5 3 → exec (.pfcRx link cls pause) s = .next s) ∧
    (s.role p ≠ 2 → ∃ t, exec (.pfcRx link cls pause) s = .next t ∧ t = { s with regs := t.regs } ∧
      (t.rd .lpt p Off.lptDrops).toNat = min 0xFFFFFFFF ((s.rd .lpt p Off.lptDrops).toNat + 1))) ∧
  ∀ (s : State) (port : Fin 18), s.ptpOn port = true →
    (∀ msg : PtpMsg, msg.domain.toNat = s.fld .fce 0 Off.fceCfg 12 8 → (s.role port = 2 ∨ s.slavePort = some port.val) →
      exec (.ptpMessageRx port msg) s = .next { s with fce := { s.fce with ptpTime := msg.time } }) ∧
    (∀ msg : PtpMsg, msg.domain.toNat ≠ s.fld .fce 0 Off.fceCfg 12 8 → exec (.ptpMessageRx port msg) s = .next s) ∧
    ∀ kind : PtpTx, (kind ≠ .sync ∨ s.slavePort ≠ some port.val) → ∃ t, exec (.ptpSyncTx port kind) s = .next t ∧
      t = { s with out := t.out } ∧ Out.ptp port kind ∈ t.out)

/-- Each plan command takes effect in the states of its slot that allow it and is BAD_VALUE in the others; a plan that has been read and passes every check makes its slot LOADED, one that fails a check leaves it EMPTY with PLAN_FAIL and the check's number (R295, R311). -/
def Obligations.PlanCommands : Prop :=
  (∀ (s : State) (src : Source) (v : Word),
    let i := s.planSel
    let p := s.plan i
    let bad := fun (c : Instr) => ∃ t, exec c s = .next t ∧ t.fce = s.fce ∧ t.sticky .fce 0 2 = true
    s.reachesBlock src = true → s.isResetting ⟨.fce, 0⟩ = false →
    (v.getLsbD 0 = true →
      (p.st = .empty ∧ p.loading = false → ∃ t, exec (.planLoad src v) s = .next t ∧ t.plan i = { p with loading := true } ∧ t.regs = s.regs) ∧
      (p.st ≠ .empty ∨ p.loading = true → bad (.planLoad src v))) ∧
    (v.getLsbD 1 = true →
      (p.st = .loaded ∨ p.st = .stopped → ∃ t, exec (.planArm src v) s = .next t ∧ t.plan i = { p with
        armAt := some (s.latest .fce 0 Off.fcePlanArmAtLo i + s.latest .fce 0 Off.fcePlanArmAtHi i * 2 ^ 32) }) ∧
      (p.st = .empty ∨ p.st = .armed → bad (.planArm src v))) ∧
    (v.getLsbD 2 = true →
      (p.st = .armed → ∃ t, exec (.planDisarm src v) s = .next t ∧ t.plan i = { p with disarm := true }) ∧ (p.st ≠ .armed → bad (.planDisarm src v))) ∧
    (v.getLsbD 3 = true →
      (s.boundCtx i = none → p.st ≠ .armed → p.loading = false → ∃ t, exec (.planClear src v) s = .next t ∧ t.plan i = {}) ∧
      (s.boundCtx i ≠ none ∨ p.st = .armed → bad (.planClear src v)))) ∧
  ∀ (s : State) (i : Fin 32) (h b : List Byte) (u w : State),
    let p := s.plan i
    let a := s.rd64 .fce 0 Off.fcePlanAddrLo i
    let r := s.modPlan i fun p => { p with loading := false }
    p.loading = true → r.memRead 517 0 a 64 = (u, .ok h) → u.memRead 517 0 a (planSize (planN h)) = (w, .ok b) →
    0 < planN h → planN h ≤ 4096 → bitsAt (planWord h 0) 0 16 = 1 →
    (w.planCheck i b = 0 → ∃ t, exec (.planLoadDone i) s = .next t ∧ t.plan i = { p with
      st := .loaded
      plan := b
      loading := false } ∧ t.fld .fce 0 Off.fcePlanErr 0 8 i = 0) ∧
    (w.planCheck i b ≠ 0 → ∃ t, exec (.planLoadDone i) s = .next t ∧ t.plan i = { p with loading := false } ∧
      t.fld .fce 0 Off.fcePlanErr 0 8 i = w.planCheck i b ∧ t.sticky .fce 0 10 = true)

/-! ### Serving engine and sampler -/

/-- An OPEN frame with a REQ_ID above the mark opens the lowest free berth of its context with its parameters and prompt tokens, a repeated one is a REPLAY; an APPEND adds to the prompt; a CANCEL closes the berth; a malformed frame is dropped and counted as BAD_FRAME; an intake entry is read, carried out and marked, and an entry that is not valid is left (R313 to R315, R318, R327, R342). -/
def Obligations.RequestFrames : Prop :=
  (∀ (s : State) (a : Arrival) (f : List Byte),
    let k := frCtx f
    let ts := frToks f
    let p := BitVec.ofNat 1024 (ofBytes ((f.drop 32).take 128))
    (∀ b, s.admits a f 1 = true → (s.ctx k).openMark.toNat < (frReq f).toNat → frSplit f = false → paramsOk p = true → ts.length + 1 ≤ pMaxLen p →
      (frLast f = true → ts ≠ []) → s.freeBerth k = some b → s.tokRoom k ts.length = true →
      ∃ t, exec (.openFrame a f) s = .next t ∧ (t.ctx k).openMark = frReq f ∧ t.srv.opens = s.srv.opens + 1 ∧
        (t.berth b).st = .prefill ∧ (t.berth b).ctx = k ∧ (t.berth b).reqId = frReq f ∧ (t.berth b).params = p ∧ (t.berth b).toks = ts ∧
        (t.berth b).prompt = ts.length ∧ (t.berth b).promptDone = frLast f ∧ (t.berth b).pos = 0 ∧ (t.berth b).order = s.srv.opens ∧
        ∀ j, j ≠ b → t.berth j = s.berth j) ∧
    (s.admits a f 1 = true → (frReq f).toNat ≤ (s.ctx k).openMark.toNat → ∃ t, exec (.openFrame a f) s = .next t ∧ t.srv = s.srv ∧
      (t.ctx k).openMark = (s.ctx k).openMark ∧ t.sticky .sec 0 10 = true) ∧
    (∀ x, s.admits a f 2 = true → s.named k f = some x → x.st ≠ .closing → x.promptDone = false → fw f 5 = x.prompt →
      x.prompt + ts.length + 1 ≤ pMaxLen x.params → s.tokRoom k ts.length = true →
      ∃ t, exec (.appendFrame a f) s = .next t ∧ (t.berth (frBerth f)).toks = x.toks ++ ts ∧ (t.berth (frBerth f)).prompt = x.prompt + ts.length ∧
        (t.berth (frBerth f)).promptDone = frLast f ∧ (t.berth (frBerth f)).st = x.st ∧ ∀ j, j ≠ frBerth f → t.berth j = s.berth j) ∧
    (∀ x, s.admits a f 3 = true → s.named k f = some x → x.st ≠ .closing → ∃ t, exec (.cancelFrame a f) s = .next t ∧
      t.berth (frBerth f) = { x with
        st := .closing
        cancelled := some (s.stepTick k)
        reason := 3
        released := true } ∧ ∀ j, j ≠ frBerth f → t.berth j = s.berth j) ∧
    (s.rst.inReset = false → s.arrives a = true → s.isResetting ⟨.srv, 0⟩ = false → s.isStopped = false → frOk f = false →
      ∃ t, exec (.openFrame a f) s = .next t ∧ t.srv = s.srv ∧ t.sticky .srv 0 8 = true ∧
        (t.rd .srv 0 Off.srvDrops).toNat = min 0xFFFFFFFF ((s.rd .srv 0 Off.srvDrops).toNat + 1))) ∧
  ∀ (s : State) (ctx : Fin 256) (g a : Nat),
    let k := ctx.val
    let at_ := s.srvDva k Off.srvCtxInringLo + 16 * (s.ctx k).inNext
    let e := s.mem.readBytes g a 16
    s.diesOn = true → s.isResetting ⟨.srv, 0⟩ = false → (s.ctx k).outHeld = [] → s.ringMode k = 2 → s.isStopped = false → k ≠ 0 →
    s.placed 517 k at_ 16 .read = some (g, a) →
    (bitAt (fw e 0) 0 = false → ∃ t, exec (.intakePoll ctx) s = .next t ∧ t.ctxs = s.ctxs ∧ t.srv = s.srv) ∧
    (∀ g' a' x, bitAt (fw e 0) 0 = true → fw e 3 = 0 → bitsAt (fw e 0) 16 16 = 48 → s.placed 517 k at_ 16 .write = some (g, a) →
      s.placed 517 k ((fw e 1 + fw e 2 * 2 ^ 32) % 2 ^ 48) 48 .read = some (g', a') → s.admits (.ring ctx) (s.mem.readBytes g' a' 48) 3 = true →
      s.named k (s.mem.readBytes g' a' 48) = some x → x.st ≠ .closing →
      ∃ t, exec (.intakePoll ctx) s = .next t ∧ (t.berth (frBerth (s.mem.readBytes g' a' 48))).st = .closing ∧
        (t.ctx k).inNext = ((s.ctx k).inNext + 1) % 2 ^ s.fld .vsrv k Off.srvCtxRingLog2 0 4 ∧ t.mem.readBytes g (a + 12) 4 = toBytes 4 1)

/-- A batch holds at most MAX_DECODE decode entries and prefills at most its allowance; with a template, a body and room the manifest of the next tick is written and its batch recorded. `spq` for a berth the batch samples gives its logits to a unit or to the queue; a request out of turn is BAD_SAMPLE. A completed unit takes the oldest waiting request, and a greedy draw without penalty takes the lowest index of the largest logit (R319 to R321, R323). -/
def Obligations.BatchesAndSamples : Prop :=
  (∀ (s : State) (k : Nat) (after : Bool) (allow : Nat),
    ((s.batchFor k after allow).filter fun e => !e.prefill).length ≤ s.fld .vsrv k Off.srvCtxLimits 0 14 ∧
    (((s.batchFor k after allow).filter (·.prefill)).map (·.count)).sum ≤ min allow (s.fld .vsrv k Off.srvCtxLimits 16 16)) ∧
  (∀ (s s1 s2 s3 s4 : State) (ctx : Fin 256) (tm body : List Byte),
    let k := ctx.val
    let u := s.lkp.now + 1
    let es := s.batchFor k false (bitsAt (fw tm 7) 0 16)
    let i := if es.any (·.prefill) then 4 else 0
    let len := fw tm (i + 2)
    let data := (body.take 10 ++ toBytes 2 (s.coachNew k es false) ++ body.drop 12).take len ++ s.batchTable u false es
    let size := 2 ^ s.fld .vsrv k Off.srvCtxBatchLog2 0 5
    let buf := (s.srvDva k Off.srvCtxBatchLo + (u % s.ringSlots k) * size) % 2 ^ 48
    s.diesOn = true → s.isStopped = false → s.ringMode k = 2 → s.ticking = true → s.isCondemned k = false → s.isResetting ⟨.srv, 0⟩ = false →
    (s.ctx k).owed = false → (s.ctx k).nextBatch = none → (s.ctx k).step = none → s.memRead 517 k (s.srvDva k Off.srvCtxTemplateLo) 32 = (s1, .ok tm) →
    (es = [] → exec (.buildManifest ctx) s = .next s1) ∧
    (es ≠ [] → s1.memRead 517 k ((fw tm i + fw tm (i + 1) * 2 ^ 32) % 2 ^ 48) len = (s2, .ok body) → data.length ≤ size →
      s2.memWrite 517 k buf data = (s3, .ok ()) →
      s3.memWrite 517 k (s.slotDva k (u % s.ringSlots k)) (toBytes 4 0x11 ++ toBytes 8 (u % 2 ^ 48) ++ toBytes 4 len ++ toBytes 8 buf ++ List.replicate 24 0) = (s4, .ok ()) →
      ∃ t, exec (.buildManifest ctx) s = .next t ∧ (t.ctx k).nextBatch = some ⟨u, es⟩ ∧ t.mem = s4.mem ∧ t.srv = s.srv)) ∧
  (∀ (s : State) (core : Fin 512) (rs : BitVec 5) (raw k : Nat),
    let c := s.core core
    let b := descFld raw 0 0 14
    let bf := descFld raw 0 14 1 == 1
    let n := descFld raw 1 0 19
    let src := descFld raw 2 0 21
    let len := n * (if bf then 2 else 4)
    let q : SampleReq := ⟨b, k, logitsOf bf n (c.wharfRead src len)⟩
    s.scalarRuns core = true → s.coreCtx core = some k → s.waitsVec core [rs] = false → s.isResetting ⟨.smp, 0⟩ = false → c.relReady 1 = true →
    s.isCondemned k = false → s.readDesc core (s.sreg core rs) 16 16 = some raw →
    (∀ bt, (s.ctx k).batch = some bt → (∃ e ∈ bt.entries, e.berth = b ∧ e.sample = true) → (s.ctx k).spqd.contains b = false → descFld raw 0 15 1 = 1 →
      0 < n → n ≤ 262144 → src % 64 = 0 → src + len ≤ 2 ^ 21 →
      ∃ t, exec (.spq core rs) s = .next t ∧ t.core core = { c.stepped with port := [] } ∧ (t.ctx k).spqd = (s.ctx k).spqd ++ [b] ∧
        (∀ u, s.srv.smpQ = [] → s.srv.freeUnit = some u → Tbl.get t.srv.units u none = some q ∧ t.srv.smpQ = []) ∧
        (s.srv.smpQ ≠ [] ∨ s.srv.freeUnit = none → t.srv.smpQ = s.srv.smpQ ++ [q] ∧ t.srv.units = s.srv.units)) ∧
    ((s.ctx k).batch = none → ∃ t, exec (.spq core rs) s = .next t ∧ t.core core = { c.stepped with port := [] } ∧ t.srv = s.srv ∧
      t.sticky .smp 0 8 = true ∧ (t.ctx k).condemned.isSome = true)) ∧
  ∀ (s : State) (unit : Fin 16) (q : SampleReq),
    let r := s.berth q.berth
    let ls := q.logits.map (·.toNat)
    Tbl.get s.srv.units unit.val none = some q → s.diesOn = true →
    ∃ t, exec (.sampleComplete unit) s = .next t ∧ Tbl.get t.srv.units unit.val none = s.srv.smpQ.head? ∧ t.srv.smpQ = s.srv.smpQ.tail ∧
      (r.st ≠ .free → r.ctx = q.ctx → s.isCondemned q.ctx = false → pGreedy r.params = true → pWindow r.params = 0 → ls.length ≤ 262144 →
        (∀ x ∈ ls, isNan32 x = false) → (∃ x ∈ ls, x ≠ fninf) → ∃ j < ls.length, (t.berth q.berth).sampled = some (BitVec.ofNat 32 j) ∧
          (∀ i < ls.length, flt (ls.getD j 0) (ls.getD i 0) = false) ∧ ∀ i < j, flt (ls.getD i 0) (ls.getD j 0) = true)

/-! ### Security and debug -/

/-- ACTIVATE and DEACTIVATE of the selected context are staged for the edge, or refused with STATE_REFUSED; a write of `MEM_XLAT_INV` stages the invalidation of one context or of all; a PSK word is stored while no session exists; SAK_INSTALL gives the port its key and clears the key registers; a fuse commit raises the fuse SVN to that of the running image; a failure of the random bit generator stops the device and lets no key be created any more (R213, R288, R333, R339, R341, R343, R345). -/
def Obligations.ContextKeysAndFuses : Prop :=
  (∀ (s : State) (src : Source) (v : Word), s.reachesBlock src = true →
    let k := s.secSel
    let c := s.ctx k
    (v.getLsbD 0 = true → s.rst.ready = true →
      (c.st = .inactive ∧ s.inField = false ∧ s.sec.rngOk = true → ∃ t, exec (.activate src v) s = .next t ∧ t.ctx k = { c with st := .activating } ∧
        t.staged = s.staged ++ [.activate k] ∧ ∀ j, j ≠ k → t.ctx j = s.ctx j) ∧
      (c.st ≠ .inactive ∨ s.inField = true ∨ s.sec.rngOk = false → ∃ t, exec (.activate src v) s = .next t ∧ t.ctxs = s.ctxs ∧
        t.staged = s.staged ∧ t.sticky .sec 0 12 = true)) ∧
    (v.getLsbD 1 = true →
      (c.st = .active ∧ k ≠ 0 ∧ s.ringMode k = 0 ∧ s.grantOf k = 0 ∧ s.spilling k = false ∧ s.isStopped = false →
        ∃ t, exec (.deactivate src v) s = .next t ∧ t.ctx k = { c with st := .deactivating } ∧ t.staged = s.staged ++ [.deactivate k]) ∧
      (c.st ≠ .active ∨ k = 0 → ∃ t, exec (.deactivate src v) s = .next t ∧ t.ctxs = s.ctxs ∧ t.staged = s.staged ∧ t.sticky .sec 0 12 = true)) ∧
    (s.powered ⟨.mem, 0⟩ = true →
      (v.getLsbD 8 = false → exec (.memXlatInv src v) s = .next { s with staged := s.staged ++ [.xlatInv (some (bitsAt v.toNat 0 8))] }) ∧
      (v.getLsbD 8 = true → exec (.memXlatInvAll src v) s = .next { s with staged := s.staged ++ [.xlatInv none] })) ∧
    (v.getLsbD 9 = true → bitsAt v.toNat 0 5 < 18 → ∃ t, exec (.sakInstall src v) s = .next t ∧
      Tbl.get (t.port (bitsAt v.toNat 0 5)).saks (4 * bitsAt v.toNat 5 1 + bitsAt v.toNat 6 2) none =
        some ⟨BitVec.ofNat 256 (s.secWords Off.secSak 8), BitVec.ofNat 96 (s.secWords Off.secSalt 3), s.rd .sec 0 Off.secSsci, v.getLsbD 8⟩ ∧
      ∀ i < 12, t.rd .sec 0 (Off.secSak + 4 * i) = 0) ∧
    (∀ im, s.running (bitsAt v.toNat 0 8) = some im →
      (im.svn.toNat = bitsAt v.toNat 8 16 → im.svn.toNat ≤ 63 →
        exec (.fwCommit src v) s = .next { s with fuses := s.fuses.raise (bitsAt v.toNat 0 8) im.svn.toNat }) ∧
      (im.svn.toNat ≠ bitsAt v.toNat 8 16 → ∃ t, exec (.fwCommit src v) s = .next t ∧ t.fuses = s.fuses ∧ t.sticky .sec 0 2 = true))) ∧
  (∀ (s : State) (src : Source) (ctx : Fin 256) (idx : Fin 8) (v : Word), s.reachesView src ctx = true → (src.fn ≠ none ∨ ctx = 0) →
    ((s.ctx ctx).sessions = [] → ∃ t, exec (.pskWrite src ctx idx v) s = .next t ∧
      t.ctx ctx = { s.ctx ctx with psk := Tbl.put (s.ctx ctx).psk idx v } ∧ ∀ j, j ≠ ctx.val → t.ctx j = s.ctx j) ∧
    ((s.ctx ctx).sessions ≠ [] → ∃ t, exec (.pskWrite src ctx idx v) s = .next t ∧ (t.ctx ctx).psk = (s.ctx ctx).psk ∧ t.sticky .vsec ctx 2 = true)) ∧
  ∀ s : State, s.rst.inReset = false → ∃ t, exec .rngFail s = .next t ∧ t.sec.rngOk = false ∧ t.sticky .sec 0 8 = true ∧ t.isStopped = true

/-- The SPDM requests of a transport: version, capabilities and algorithms fix the connection in that order and a request out of order is answered with ERROR; a request outside the profile is unsupported; PSK_EXCHANGE opens a session, at most two a context; PSK_FINISH finishes it and names it for the key switch, or ends it when the verify data are wrong; KEY_UPDATE, HEARTBEAT and IDE_KM act in a finished session; END_SESSION and a missed heartbeat end one (R338 to R340, R343; the message encodings are the model's, log 60). -/
def Obligations.SpdmRequests : Prop :=
  (∀ (s : State) (via : Transport), s.spdmUp via = true → s.hwd.restarting = false →
    let c := s.conn via
    let replies := fun (t : State) (code p2 : Nat) (bs : List Byte) => t.out = s.out ++ [.spdm via ([0x13, BitVec.ofNat 8 code, 0, BitVec.ofNat 8 p2] ++ bs)]
    let errs := fun (t : State) (e : Nat) => t.out = s.out ++ [.spdm via [0x13, 0x7F, BitVec.ofNat 8 e, 0]] ∧ t.ctxs = s.ctxs ∧ t.sec = s.sec
    (∃ t, exec (.getVersion via) s = .next t ∧ replies t 0x04 0 [0, 1, 0, 0x13] ∧ t.conn via = { version := some 0x13 }) ∧
    (c.version.isSome = true → ∃ t, exec (.getCapabilities via) s = .next t ∧ replies t 0x61 0 (toBytes 4 capFlags) ∧ t.conn via = { c with caps := true }) ∧
    (c.version = none → ∃ t, exec (.getCapabilities via) s = .next t ∧ errs t 0x04) ∧
    (c.caps = true → ∃ t, exec (.negotiateAlgorithms via) s = .next t ∧ replies t 0x63 0 [] ∧ t.conn via = { c with algs := true }) ∧
    (c.caps = false → ∃ t, exec (.negotiateAlgorithms via) s = .next t ∧ errs t 0x04) ∧
    (∀ code : Byte, spdmSupported.contains code.toNat = false →
      exec (.spdmUnsupported via code) s = .next { s with out := s.out ++ [.spdm via [0x13, 0x7F, 0x07, code]] }) ∧
    (∀ req : PskExchange, req.summary = 0 → c.algs = true →
      let k := (req.hint.getD 0 0).toNat
      req.hint.length = 1 → viaAccepts via k = true → (s.ctx k).st = .active → (s.ctx k).pskSet = true →
      ((s.ctx k).sessions.length < 2 → s.sessionsOpen < 64 → s.sec.rngOk = true → ∃ t x, exec (.pskExchange via req) s = .next t ∧
        (t.ctx k).sessions = (s.ctx k).sessions ++ [x] ∧ x.sid.toNat % 2 ^ 16 = req.reqSid.toNat ∧ x.finished = false ∧ x.hbeat = req.hbeat ∧
        ∀ j, j ≠ k → t.ctx j = s.ctx j) ∧
      (2 ≤ (s.ctx k).sessions.length → ∃ t, exec (.pskExchange via req) s = .next t ∧ errs t 0x0A)) ∧
    ∀ (sid : Word) (k : Nat) (x : Session), s.sessionOf via sid = some (k, x) → x ∈ (s.ctx k).sessions → x.sid = sid →
      (x.finished = false →
        (∃ t, exec (.pskFinish via sid true) s = .next t ∧ (t.ctx k).keySwitch = some sid ∧
          (∃ y ∈ (t.ctx k).sessions, y.sid = sid ∧ y.finished = true) ∧ t.sec.finishes = s.sec.finishes + 1) ∧
        (∃ t, exec (.pskFinish via sid false) s = .next t ∧ (t.ctx k).sessions = (s.ctx k).sessions.filter (fun z => z.sid != sid) ∧
          t.sticky .sec 0 9 = true)) ∧
      (x.finished = true →
        (∃ t, exec (.keyUpdate via sid) s = .next t ∧ replies t 0x69 0 [] ∧ (t.ctx k).sessions =
          (s.ctx k).sessions.map fun z => if z.sid = sid then { z with updates := z.updates + 1 } else z) ∧
        (x.hbeat = true → ∃ t, exec (.heartbeat via sid) s = .next t ∧ replies t 0x68 0 [] ∧ t.ctxs = s.ctxs) ∧
        (k = 0 → ∃ t, exec (.ideKm via sid .link) s = .next t ∧ t.sec.ideLink = true ∧ t.ctxs = s.ctxs)) ∧
      (∃ t, exec (.endSession via sid) s = .next t ∧ (t.ctx k).sessions = (s.ctx k).sessions.filter (fun z => z.sid != sid) ∧
        ((∀ z ∈ (s.ctx k).sessions, z.sid = sid) → (t.ctx k).active = none ∧ (t.ctx k).keySwitch = none))) ∧
  ∀ (s : State) (ctx : Fin 256) (sid : Word) (x : Session), s.rst.inReset = false → x ∈ (s.ctx ctx).sessions → x.sid = sid → x.hbeat = true →
    ∃ t, exec (.heartbeatTimeout ctx sid) s = .next t ∧ (t.ctx ctx).sessions = (s.ctx ctx).sessions.filter (fun z => z.sid != sid)

/-- An evidence request takes the next signature index, never one beyond the reserve, and its record goes to the signer; the indices used up, it is EXHAUSTED; a released record leaves with its signature, and the public key is given out without an index. A debug-state request is accepted, refused with its reason, or reads its token, whose verification redraws the nonce and decides; the TAP loads an instruction it offers and BYPASS for any other (R346 to R353). -/
def Obligations.AttestationAndDebug : Prop :=
  (∀ (s : State) (via : Transport) (sid : Option Word) (k : Nat), s.spdmUp via = true → s.hwd.restarting = false → s.evidenceCtx via sid = some k →
    (∀ nonce, s.sec.rngOk = true → s.bkp.attNext < 2 ^ 30 → s.sec.attSecond < s.fld .sec 0 Off.secAttRate 0 4 → s.bkp.attNext ≤ s.attReserve →
      ∃ t, exec (.evidenceRequest via sid nonce) s = .next t ∧ t.bkp.attNext = s.bkp.attNext + 1 ∧ t.bkp.attNext ≤ t.attReserve ∧
        t.sec.signing = s.sec.signing ++ [⟨via, s.bkp.attNext, s.evidence k s.bkp.attNext nonce⟩]) ∧
    (∀ nonce, s.sec.rngOk = true → 2 ^ 30 ≤ s.bkp.attNext → ∃ t, exec (.evidenceRequest via sid nonce) s = .next t ∧ t.bkp = s.bkp ∧ t.sec = s.sec ∧
      t.sticky .sec 0 16 = true) ∧
    (∃ t, exec (.publicKeyRequest via sid) s = .next t ∧ t = { s with out := t.out } ∧
      t.out = s.out ++ [.evidence via (fit 60 0 s.flash.hssPub ++ fit 1612 0 s.flash.endorse)])) ∧
  (∀ (s : State) (x : Signing) (rest : List Signing), s.sec.signing = x :: rest → ∃ t bs, exec .signatureReleased s = .next t ∧ t.sec.signing = rest ∧
    t.out = s.out ++ [.evidence x.via (x.record ++ bs)] ∧ bs.length = 3284) ∧
  (∀ (s : State) (src : Source) (v : Word), s.reachesBlock src = true → s.rst.ready = true → v.getLsbD 8 = true → s.isStopped = false →
    let tgt := BitVec.ofNat 2 (bitsAt v.toNat 0 2)
    let ends := fun (t : State) (r : Nat) => t.rd .dbg 0 Off.dbgResult = BitVec.ofNat 32 r
    let refused := fun (t : State) (r : Nat) => ends t r ∧ t.sticky .dbg 0 9 = true ∧ t.dbg.pend = s.dbg.pend
    let allowed := dbgAllowed s.fuses.lab (s.dbg.pend.getD s.dbg.st) tgt
    (tgt = s.dbg.st → ∃ t, exec (.dbgReq src v) s = .next t ∧ ends t 0 ∧ t.dbg = s.dbg) ∧
    (tgt ≠ s.dbg.st → allowed = false → ∃ t, exec (.dbgReq src v) s = .next t ∧ refused t 8) ∧
    (tgt ≠ s.dbg.st → allowed = true → (tgt ≠ 2 ∨ s.quiet = true ∧ s.fuses.lab = true) → ∃ t, exec (.dbgReq src v) s = .next t ∧ ends t 0 ∧
      t.dbg.pend = some tgt ∧ t.staged = s.staged ++ [.debug tgt] ∧ t.dbg.st = s.dbg.st) ∧
    (tgt ≠ s.dbg.st → allowed = true → tgt = 2 → s.quiet = false → ∃ t, exec (.dbgReq src v) s = .next t ∧ refused t 7)) ∧
  (∀ (s : State) (b : List Byte), s.dbg.token = some b → ∃ t, exec .tokenVerifyDone s = .next t ∧ t.dbg.token = none ∧
    (s.tokenCheck b = 0 → t.dbg.pend = (if s.quiet then some 2 else s.dbg.pend) ∧ t.rd .dbg 0 Off.dbgResult = if s.quiet then 0 else 7) ∧
    (s.tokenCheck b ≠ 0 → t.dbg.pend = s.dbg.pend ∧ t.rd .dbg 0 Off.dbgResult = BitVec.ofNat 32 (s.tokenCheck b) ∧ t.sticky .dbg 0 8 = true)) ∧
  ∀ (s : State) (name : TapInstr),
    (s.tapOffers name = true → exec (.jtagInstruction name) s = .next { s with dbg := { s.dbg with tap := tapNo name } }) ∧
    (s.tapOffers name = false → ∃ t, exec (.jtagInstruction name) s = .next t ∧ t.dbg = { s.dbg with tap := 0 } ∧ t.sticky .dbg 0 11 = true)

/-! ### Reset and start-up -/

/-- After reset every register field has the reset value of its table, memory is in its canonical form, the tick is stopped and every sync counter is 0. A reset source clears the machine but for the flash, the fuses, the backup domain and the pins; RESET_N keeps the capture and THERMTRIP_N and notes the device's state, and a second assertion while held changes nothing; PERST_N only holds the PCIe port and unassigns its BARs (R9, R393 to R396, R443; which registers have no reset value in the spec, the log's rows 12 to 21 say). -/
def Obligations.ResetSources : Prop :=
  ((∀ k off r i b, regAt k off = some r → ∀ f ∈ r.fields, bitsAt (State.reset.rd k i off b).toNat f.lo f.w = f.rst) ∧
    State.reset.memOk ∧ State.reset.ticking = false ∧ State.reset.rst.inReset = true ∧ State.reset.pending = [] ∧
    ∀ cl n, ((State.reset.cluster cl).cnt n).value = 0) ∧
  (∀ (s : State) (c : Instr), let kept := fun (t : State) => t = { State.reset with
      flash := s.flash
      fuses := s.fuses
      bkp := t.bkp
      rst := t.rst
      age := { logHead := s.age.logHead }
      hwd := t.hwd
      thm := t.thm
      pwr := t.pwr
      out := s.out
      freeCtr := s.freeCtr
      pending := s.pending }
    (∀ held, c = .powerOn held → ∃ t, exec c s = .next t ∧ kept t ∧ t.rst = { perst := s.rst.perst } ∧
      t.hwd = {} ∧ t.thm = {} ∧ t.pwr = {} ∧ t.bkp = { s.bkp with held := s.bkp.held && held, lastReset := 0 }) ∧
    (c = .resetNAssert → s.rst.resetN = true → exec c s = .next s) ∧
    (c = .resetNAssert → s.rst.resetN = false → ∃ t, exec c s = .next t ∧ kept t ∧ t.rst.resetN = true ∧ t.rst.inReset = true ∧
      t.hwd = { ({} : Hwd) with cap := s.hwd.cap, capNo := s.hwd.capNo } ∧ t.thm = { ({} : Thm) with trip := s.thm.trip } ∧ t.pwr = {} ∧
      t.bkp = { s.bkp with lastReset := t.bkp.lastReset } ∧ bitsAt t.bkp.lastReset.toNat 0 1 = 1 ∧ bitsAt t.bkp.lastReset.toNat 8 24 = s.lkp.now % 2 ^ 24) ∧
    (c = .supplyFault → ∃ t, exec c s = .next t ∧ kept t ∧ t.rst = { perst := s.rst.perst } ∧ t.hwd = {} ∧ t.thm = {} ∧ t.pwr = { ({} : Pwr) with st := 3 } ∧
      t.bkp = { s.bkp with lastReset := 0 })) ∧
  ∀ s : State, exec (.perstN true) s = .next { s with
      rst := { s.rst with perst := true }
      pci := { s.pci with bars := [] } } ∧
    exec (.perstN false) s = .next { s with rst := { s.rst with perst := false } }

/-- A release counts a reset, samples the straps and runs start-up to READY in D0-IDLE with context 0's key drawn, to a failed option load, or to FW_RECOVERY; a lost backup domain is reported and its counter restored. A further option attempt with both copies unreadable fails, and the third failure leaves the factory-safe defaults. Tamper flags are set once and cleared in FIELD or LAB only; an image is staged to the inactive copy of its type and activated only once it verified (R344, R345, R397 to R399, R402, R404 to R406, R449). -/
def Obligations.StartUp : Prop :=
  (∀ (s : State) (r : ReleaseIn), s.rst.inReset = true → s.rst.ready = false → ∃ t, exec (.release r) s = .next t ∧
    t.rst.inReset = false ∧ t.rst.resetN = false ∧ t.rst.straps = r.straps ∧
    (s.bkp.held = true → t.bkp.valid = true ∧ t.bkp.resets = min (s.bkp.resets + 1) (2 ^ 32 - 1)) ∧
    (s.bkp.held = false → t.bkp.valid = false ∧ t.bkp.restored = true ∧ t.sticky .bkp 0 8 = true) ∧
    (t.rst.ready = true → t.rst.phase = 9 ∧ t.pwr.st = 1 ∧ (t.ctx 0).st = .active ∧ (t.ctx 0).key.isSome = true ∧ t.rst.drv.isSome = true ∧
      t.rst.sece.isSome = true) ∧
    (t.rst.ready = false → t.rst.phase = 10 ∨ t.rst.retryDue = true)) ∧
  (∀ s : State, s.rst.inReset = false →
    (s.rst.retryDue = false → exec .optionLoadRetry s = .next s) ∧
    (s.rst.retryDue = true → optRead s.flash.optA ≠ 0 → optRead s.flash.optB ≠ 0 → s.bkp.optFails < 255 → ∃ t, exec .optionLoadRetry s = .next t ∧
      t.bkp.optFails = s.bkp.optFails + 1 ∧ t.bkp.loadMark = false ∧ (s.bkp.optFails < 2 → t.rst.retryDue = true ∧ t.rst.ready = s.rst.ready) ∧
      (2 ≤ s.bkp.optFails → t.rst.fallback = true ∧ t.rst.optCopy = 0xFF ∧ t.rst.trims = []))) ∧
  (∀ (s : State) (flag : TamperFlag) (b : Nat),
    (flag, b) ∈ [(TamperFlag.vbakLow, 0), (.voltGlitch, 1), (.clockGlitch, 2), (.attRollback, 3), (.optRollback, 4)] →
    (s.bkp.tamper.getLsbD b = true → exec (.tamper flag) s = .next s) ∧
    (s.bkp.tamper.getLsbD b = false → ∃ t, exec (.tamper flag) s = .next t ∧ t.bkp = { s.bkp with tamper := s.bkp.tamper ||| BitVec.ofNat 5 (2 ^ b) } ∧
      (s.rst.inReset = false → t.sticky .bkp 0 9 = true))) ∧
  (∀ (s : State) (src : Source) (v : Word), s.reachesBlock src = true →
    (bitsAt v.toNat 0 5 ≠ 0 → 2 ≤ s.dbg.st.toNat →
      exec (.tamperClear src v) s = .next { s with bkp := { s.bkp with tamper := s.bkp.tamper &&& ~~~(v.setWidth 5) } }) ∧
    (bitsAt v.toNat 0 5 ≠ 0 → s.dbg.st.toNat < 2 → ∃ t, exec (.tamperClear src v) s = .next t ∧ t.bkp = s.bkp ∧ t.sticky .bkp 0 2 = true) ∧
    (v.getLsbD 0 = true → exec (.clearFails src v) s = .next { s with bkp := { s.bkp with optFails := 0 } })) ∧
  (∀ (s : State) (image : List Byte), s.dravnerUp = true → s.rst.phase ≠ 10 →
    let typ := imgWord image 0 % 256
    let ok := s.imageCheck typ image = 0
    typ = 1 ∨ typ = 3 → ∃ t, exec (.pldmFwUpdate image) s = .next t ∧ t.flash.copies typ = ((s.flash.copies typ).1, image) ∧
      t.sec.pldm = some image ∧ (t.sec.pldmOk = true ↔ ok) ∧ t.rst = s.rst ∧ (ok → t.out = s.out ++ [.mctp [0]]) ∧ (¬ ok → Out.mctp [1] ∈ t.out)) ∧
  (∀ (s : State), s.dravnerUp = true →
    (∀ b, s.sec.pldm = some b → s.sec.pldmOk = true → ∃ t, exec .activateFirmware s = .next t ∧ t.sec.pldm = none ∧ t.out = s.out ++ [.mctp [0]] ∧
      (imgWord b 0 % 256 = 2 → t.bkp.optFails = 0 ∧ t.flash = s.flash) ∧
      (imgWord b 0 % 256 = 1 → t.flash.copies 1 = ((s.flash.copies 1).2, (s.flash.copies 1).1) ∧ t.rst = s.rst)) ∧
    (s.sec.pldmOk = false → exec .activateFirmware s = .next { s with out := s.out ++ [.mctp [1]] })) ∧
  ∀ (s : State) (addr : BitVec 7), s.rst.inReset = false → s.rst.straps.getLsbD 0 = true →
    exec (.dynamicAddressAssignment addr) s = .next { s with mgt := { s.mgt with dynAddr := some addr } }

/-! ### Power, heat and ageing -/

/-- A power sample is held against the cap and a breach raises CAP_EXCEEDED once; the brake follows the 1 ms average; the plan for the next edge raises no rail down, and the points the cap allows fit it or are the lowest; the meters add every energy charged and lose none; a droop sluices its cluster until its end; a fault of a regulator stops the device (R414 to R420, R422, R426, R427, R445). -/
def Obligations.PowerControl : Prop :=
  (∀ (s : State), s.rst.inReset = false →
    (∀ p : PowerIn, ∃ t, exec (.powerSample p) s = .next t ∧ t.pwr.avg1ms = p.avg1ms ∧ t.pwr.avg1s = p.avg1s ∧
      t.pwr.capSamples = min 100000 (s.pwr.capSamples + 1) ∧
      (t.pwr.capBreach = true ↔ t.pwr.capMs * 1050 < p.avg1ms * 100 ∨ t.pwr.capS * 10 < p.avg1s) ∧
      (t.pwr.capBreach = true → s.pwr.capBreach = false → t.sticky .pwr 0 8 = true)) ∧
    (let cap := 10 * s.fld .pwr 0 Off.pwrCap 0 9
      let duty := fun (d : Nat) => exec .brakeAdjust s = .next { s with pwr := { s.pwr with brake := max d s.pwr.brakeMin } }
      (cap * 104 < s.pwr.avg1ms * 100 → duty (min 15 (s.pwr.brake + 1))) ∧
      (s.pwr.avg1ms < cap → duty (s.pwr.brake - 1)) ∧
      (cap ≤ s.pwr.avg1ms → s.pwr.avg1ms * 100 ≤ cap * 104 → duty s.pwr.brake)) ∧
    (∀ uJ : List (Nat × Nat), ∃ t, exec (.energyMeterTick uJ) s = .next t ∧ t.pwr.energyRem < 1000 ∧
      t.pwr.energyRem + 1000 * t.age.energy = s.pwr.energyRem + 1000 * s.age.energy + (uJ.map (·.2)).sum ∧
      ∀ k < 256, (t.ctx k).poundEnergy = (s.ctx k).poundEnergy + ((uJ.filter fun x => x.1 % 256 == k).map (·.2)).sum) ∧
    (∀ mv : List (Nat × Bool), s.rst.ready = true →
      (∀ d < 7, (s.dom d).point ≠ 15 → (mv.getD d ((s.dom d).volt, false)).2 = true →
        ∃ t, exec (.avsReadback mv) s = .next t ∧ t.sticky .pwr 0 11 = true ∧ t.isStopped = true) ∧
      ((∀ d < 7, let x := mv.getD d ((s.dom d).volt, false)
          x.2 = false ∧ x.1 ≤ (s.dom d).volt + 15 ∧ (s.dom d).volt ≤ x.1 + 15) → ∃ t, exec (.avsReadback mv) s = .next t ∧ t.regs = s.regs ∧
        t.isStopped = s.isStopped ∧ ∀ d < 7, (s.dom d).point ≠ 15 → t.dom d = { s.dom d with avsOff := 0 }))) ∧
  (∀ s : State, s.ticking = true → s.diesOn = true → s.pwr.st = 0 → ∃ t, exec .powerPlanCompute s = .next t ∧
    (t.dom 0).planned = some (s.planPoints true).1 ∧ (t.dom 1).planned = some (s.planPoints true).2 ∧
    (∀ d < 2, (s.dom d).volt ≤ (t.dom d).volt ∧ (t.dom d).point = (s.dom d).point) ∧ ∀ d, 2 ≤ d → t.dom d = s.dom d) ∧
  (∀ (exceeds : Nat → Nat → Bool) (f0 f1 n a b : Nat), a + b ≤ n →
    let r := lowerPoints exceeds f0 f1 n (a, b)
    r.1 ≤ a ∧ r.2 ≤ b ∧ (exceeds r.1 r.2 = false ∨ r = (0, 0)) ∧ (exceeds (min a f0) (min b f1) = false → min a f0 ≤ r.1 ∧ min b f1 ≤ r.2)) ∧
  (∀ (s : State) (cl : Fin 32), (s.diesOn = true → s.pwr.sluiced.getLsbD cl = false → ∃ t, exec (.sluice cl) s = .next t ∧
      t.pwr.sluiced = s.pwr.sluiced ||| BitVec.ofNat 32 (2 ^ cl.val) ∧ (t.dom (cl.val / 16)).sluices = (s.dom (cl.val / 16)).sluices + 1 ∧
      (t.rd .pwr 0 Off.pwrSluices).toNat = min 0xFFFFFFFF ((s.rd .pwr 0 Off.pwrSluices).toNat + 1)) ∧
    ∃ t, exec (.sluiceEnd cl) s = .next t ∧ t = { s with pwr := { s.pwr with sluiced := t.pwr.sluiced } } ∧
      ∀ b : Nat, t.pwr.sluiced.getLsbD b = (s.pwr.sluiced.getLsbD b && b != cl.val)) ∧
  ∀ (s : State) (src : Source) (v : Word), s.reachesBlock src = true → v.getLsbD 0 = true → ∃ t, exec (.sigReset src v) s = .next t ∧
    ∀ d, t.sig d = { ({} : PwrSig) with samples := (s.sig d).samples }

/-- With the tick stopped and nothing running the part goes to D0-IDLE; a D3 request is accepted from there only, and its completion switches the dies off, keeps memory and turns the links down; the rack manager's cap is staged when it is in range, and a sensor it knows is read (R417, R421, R423 to R425). -/
def Obligations.PowerStates : Prop :=
  (∀ s : State,
    (s.rst.ready = true → s.rst.inReset = false → s.pwr.st = 0 → s.pwr.pend = none → s.ticking = false → s.lkp.starting = none → s.hwd.fatal = false →
      (∀ e ∈ s.ctxs, e.2.step = none) → exec .idleEntry s = .next { s with pwr := { s.pwr with pend := some 1 } }) ∧
    (s.pwr.st ≠ 0 ∨ s.ticking = true → exec .idleEntry s = .next s) ∧
    (s.pwr.pend = none → exec .powerStateDone s = .next s) ∧
    (s.pwr.pend = some 2 → ∃ t, exec .powerStateDone s = .next t ∧ t.pwr.st = 2 ∧ t.pwr.pend = none ∧ t.cores = [] ∧ t.clusters = [] ∧
      t.mem.cells = s.mem.cells ∧ t.mem.tags = s.mem.tags ∧ t.yard = s.yard ∧ (∀ d < 6, (t.dom d).point = 15 ∧ (t.dom d).volt = 0) ∧
      ∀ l < 18, (t.link l).st = if (s.link l).st = .disabled then .disabled else .down) ∧
    (s.pwr.pend = some 1 → ∃ t, exec .powerStateDone s = .next t ∧ t.pwr.st = 1 ∧ t.pwr.pend = none ∧ t.cores = s.cores ∧ t.mem = s.mem) ∧
    (s.pwr.pend = some 0 → ∃ t, exec .powerStateDone s = .next t ∧ t.pwr.st = 0 ∧ t.pwr.pend = none ∧ t.cores = s.cores ∧ t.mem = s.mem ∧
      ∀ m < 4, (t.dom (2 + m)).volt = s.railAt (2 + m) 10)) ∧
  (∀ (s : State) (src : Source) (v : Word), s.reachesBlock src = true → v.getLsbD 8 = true → s.pwr.pend = none →
    (bitsAt v.toNat 0 2 = 2 → s.pwr.st = 1 → s.rst.ready = true → s.isStopped = false → (∀ i < 32, (s.plan i).st ≠ .armed) →
      ∃ t, exec (.pwrStateReq src v) s = .next t ∧ t.pwr = { s.pwr with pend := some 2 }) ∧
    (bitsAt v.toNat 0 2 = 2 → s.pwr.st ≠ 1 ∨ s.isStopped = true → ∃ t, exec (.pwrStateReq src v) s = .next t ∧ t.pwr = s.pwr ∧ t.sticky .pwr 0 12 = true) ∧
    (bitsAt v.toNat 0 2 = 0 → s.pwr.st = 2 → ∃ t, exec (.pwrStateReq src v) s = .next t ∧ t.pwr = { s.pwr with pend := some 1 })) ∧
  ∀ (s : State), s.dravnerUp = true →
    (∀ value : Word, 900 ≤ value.toNat → value.toNat ≤ 3000 → value.toNat % 10 = 0 → ∃ t, exec (.setNumericEffecterValue 1 value) s = .next t ∧
      t.out = s.out ++ [.mctp [0]] ∧ (∃ m, t.staged = s.staged ++ [.field (regKey .pwr 0 Off.pwrCap 0) m (BitVec.ofNat 32 (value.toNat / 10))]) ∧ t.regs = s.regs) ∧
    (∀ (id : BitVec 16) (value : Word), (id ≠ 1 ∨ value.toNat < 900 ∨ 3000 < value.toNat ∨ value.toNat % 10 ≠ 0) →
      exec (.setNumericEffecterValue id value) s = .next { s with out := s.out ++ [.mctp [1]] }) ∧
    ∀ id : BitVec 16, exec (.getSensorReading id) s = .next { s with out := s.out ++ [.mctp (match s.sensorValue id.toNat with
      | some v => 0 :: toBytes 4 v
      | none => [1])] }

/-- Every sensor's reading is kept and a failed one reported once; 110 °C holds the brake at 8 or more and 115 °C trips the part, as the hardware path does. A re-plan runs from its command to its end and sets the planned margins; while the tick is stopped an applied margin moves by at most 5 mV; the sentinels choose the refresh, low eyes are reported, and the log's summary and ring records are written in turn (R428 to R434). -/
def Obligations.HeatAndAgeing : Prop :=
  (∀ (s : State) (rs : List (Option (BitVec 12))), s.rst.inReset = false → rs.length ≤ 208 → ∃ t, exec (.thermalSample rs) s = .next t ∧
    (∀ i v, rs[i]? = some (some v) → Tbl.get t.thm.reading i 0 = v ∧ i ∉ t.thm.failed ∧
      (460 ≤ sext v.toNat 12 → t.thm.trip = true) ∧ (440 ≤ sext v.toNat 12 → 8 ≤ t.pwr.brake)) ∧
    ∀ i, rs[i]? = some none → i ∈ t.thm.failed ∧ (i ∉ s.thm.failed → t.sticky .thm 0 11 = true)) ∧
  (∀ (s : State) (n : BitVec 8), (s.thm.trip = true → exec (.thermtripNAssert n) s = .next s) ∧
    (s.thm.trip = false → ∃ t, exec (.thermtripNAssert n) s = .next t ∧ t.thm.trip = true ∧ (s.rst.inReset = false → t.hwd.fatal = true ∧ (s.hwd.fatal = false → t.ticking = false)))) ∧
  (∀ (s : State) (src : Source) (v : Word), s.reachesBlock src = true → v.getLsbD 0 = true →
    exec (.replan src v) s = .next { s with age := { s.age with busy := true } }) ∧
  (∀ (s : State) (plan : List Nat), (s.age.busy = false → exec (.replanDone plan) s = .next s) ∧
    (s.age.busy = true → ∃ t, exec (.replanDone plan) s = .next t ∧ t.age.busy = false ∧
      ∀ d < 7, (t.dom d).plan = plan.getD d (s.dom d).plan ∧ (t.dom d).margin = (s.dom d).margin)) ∧
  (∀ s : State, s.ticking = false → s.diesOn = true → ∃ t, exec .marginStepWhileStopped s = .next t ∧ ∀ d < 7,
    let m := (s.dom d).margin
    (t.dom d).plan = (s.dom d).plan ∧ (t.dom d).maxPoint ≤ (s.dom d).maxPoint ∧
    (t.dom d).margin = (if (s.dom d).gbLow then min 100 (m + 5) else if m < (s.dom d).plan then min (s.dom d).plan (m + 5) else max (s.dom d).plan (m - 5))) ∧
  (∀ (s : State) (ms : List Nat), s.diesOn = true → ∃ t, exec (.retentionSample ms) s = .next t ∧ t.mem.ceHour = [] ∧
    ∀ i x, ms[i]? = some x → Tbl.get t.age.refresh i 0 = refreshCode x Config.refreshInterval) ∧
  (∀ (s : State) (eyes : List (Nat × Nat)), s.rst.inReset = false → ∃ t, exec (.eyeSample eyes) s = .next t ∧
    ∀ l < 18, ∀ i < 4, (s.link l).st = .up → let e := eyes.getD (4 * l + i) (0, 0)
      Tbl.get t.age.eyes (4 * l + i) (0, 0) = (e.1 % 1024, e.2 % 1024) ∧ (e.1 < s.fld .age 0 Off.ageEyeMin 0 10 → t.sticky .age 0 11 = true)) ∧
  ∀ s : State, s.dravnerUp = true →
    (∃ t, exec .logSummaryWrite s = .next t ∧ t.age = { s.age with sumSeq := s.age.sumSeq + 1 } ∧ t.flash = { s.flash with
      sum0 := if s.flash.summary = s.flash.sum0 ∧ s.flash.sum0 ≠ [] then s.flash.sum0 else s.summaryBlock
      sum1 := if s.flash.summary = s.flash.sum0 ∧ s.flash.sum0 ≠ [] then s.summaryBlock else s.flash.sum1 }) ∧
    ∀ typ tick ws rest, s.age.events = (typ, tick, ws) :: rest →
      (∃ t b, exec (.logRingRecordWrite true) s = .next t ∧ t.age = { s.age with events := rest, logHead := s.age.logHead + 1 } ∧ t.regs = s.regs ∧
        Tbl.get t.flash.ring (s.age.logHead % 16384) [] = b ∧ b.length = 64 ∧ b.head? = some typ ∧ (b.drop 4).take 8 = toBytes 8 tick) ∧
      (∃ t, exec (.logRingRecordWrite false) s = .next t ∧ t.age = { s.age with events := rest, logHead := s.age.logHead + 1 } ∧ t.sticky .age 0 12 = true)

/-! ### Heartbeat, captures, GAUGE and the memory controllers' own work -/

/-- Only Dravner's heartbeat counts, a right one for its tick; the first after a restart ends it. A hang is declared when enough beats are missed: recorded, counted, staged, with its alert. The commands of `HWD_CTRL` capture, restart and scrub, each refused where the spec says; a capture ends HELD with its trigger's cause and tick; Dravner's own conditions act by their severity (R372, R374 to R378, R389, R392). -/
def Obligations.HangsAndCaptures : Prop :=
  (∀ (s : State) (src : Source) (v : Word), s.reachesBlock src = true →
    (src = .dravner → ∃ t, exec (.hwdBeat src v) s = .next t ∧ t.hwd.lastBeat = v ∧ t.hwd.beatOk = (s.hwd.beatOk || v == BitVec.ofNat 32 s.lkp.now) ∧
      t.hwd.beatWrong = (s.hwd.beatWrong || v != BitVec.ofNat 32 s.lkp.now) ∧ t.hwd.missed = s.hwd.missed ∧
      (s.hwd.restarting = true → s.hwd.restartPend = false → t.hwd.restarting = false)) ∧
    (src ≠ .dravner → ∃ t, exec (.hwdBeat src v) s = .next t ∧ t.hwd.lastBeat = s.hwd.lastBeat ∧ t.hwd.beatOk = s.hwd.beatOk ∧ t.sticky .hwd 0 2 = true) ∧
    (src = .dravner → ∃ t, exec (.hwdFwCtx src v) s = .next t ∧ t.fld .hwd 0 Off.hwdFwCtx 0 9 = bitsAt v.toNat 0 9) ∧
    (src ≠ .dravner → ∃ t, exec (.hwdFwCtx src v) s = .next t ∧ t.rd .hwd 0 Off.hwdFwCtx = s.rd .hwd 0 Off.hwdFwCtx ∧ t.sticky .hwd 0 2 = true) ∧
    (v.getLsbD 0 = true → s.fld .hwd 0 Off.hwdCapStatus 0 1 = 0 → s.hwd.capturing = none → ∃ t, exec (.capture src v) s = .next t ∧
      t.hwd.capturing = some ⟨4, 0, s.lkp.now⟩) ∧
    (v.getLsbD 0 = true → s.fld .hwd 0 Off.hwdCapStatus 0 1 = 1 → ∃ t, exec (.capture src v) s = .next t ∧ t.hwd.capturing = s.hwd.capturing ∧
      t.hwd.cap = s.hwd.cap ∧ (t.rd .hwd 0 Off.hwdCapLost).toNat = min 0xFFFFFFFF ((s.rd .hwd 0 Off.hwdCapLost).toNat + 1)) ∧
    (v.getLsbD 1 = true → s.isStopped = false → s.hwd.capturing = none → ∃ t, exec (.fwRestart src v) s = .next t ∧ t.hwd.restarting = true ∧
      t.hwd.muted = true ∧ t.hwd.missed = 0 ∧ (t.rd .hwd 0 Off.hwdRestarts).toNat = min 0xFFFFFFFF ((s.rd .hwd 0 Off.hwdRestarts).toNat + 1)) ∧
    (v.getLsbD 1 = true → s.isStopped = true → ∃ t, exec (.fwRestart src v) s = .next t ∧ t.hwd.restarting = s.hwd.restarting ∧ t.sticky .hwd 0 2 = true) ∧
    (v.getLsbD 2 = true → bitsAt v.toNat 8 8 ≠ 0 → ∃ t, exec (.scrubCmd src v) s = .next t ∧ (t.ctx (bitsAt v.toNat 8 8)).condemned.isSome = true) ∧
    (v.getLsbD 2 = true → bitsAt v.toNat 8 8 = 0 → ∃ t, exec (.scrubCmd src v) s = .next t ∧ t.ctxs = s.ctxs ∧ t.sticky .hwd 0 2 = true)) ∧
  (∀ s : State,
    (s.hwd.restarting = true → s.hwd.restartPend = false → s.rst.drv.isSome = true → ∃ t, exec .fwFirstBeat s = .next t ∧
      t.hwd.restarting = false ∧ t.hwd.muted = false ∧ t.hwd.hangAlert = false ∧ t.hwd.beatOk = true) ∧
    (s.hwd.restarting = true → s.hwd.muted = true → ∃ t, exec .fwRestartTimeout s = .next t ∧ t.hwd.restarting = true ∧ t.hwd.muted = false ∧
      t.hwd.missed = 0 ∧ t.hwd.nextStage = true) ∧
    (s.hwd.missed < s.fld .hwd 0 Off.hwdCfg 0 8 → exec .hang s = .next s) ∧
    (s.fld .hwd 0 Off.hwdCfg 0 8 ≤ s.hwd.missed → s.rst.inReset = false → s.isStopped = false → ∃ t, exec .hang s = .next t ∧ t.hwd.missed = 0 ∧
      t.hwd.stage = s.hangStage ∧ t.hwd.lastHang = some s.lkp.now ∧ t.hwd.hangAlert = true ∧ t.sticky .hwd 0 9 = true ∧
      (t.rd .hwd 0 Off.hwdHangs).toNat = min 0xFFFFFFFF ((s.rd .hwd 0 Off.hwdHangs).toNat + 1)) ∧
    (∀ c start dur, s.hwd.capturing = some c → s.hwd.restartPend = false → ∃ t, exec (.captureEnd start dur) s = .next t ∧ t.hwd.capturing = none ∧
      t.hwd.cap = s.capCells c start.toNat dur.toNat ∧ t.fld .hwd 0 Off.hwdCapStatus 0 1 = 1 ∧ t.fld .hwd 0 Off.hwdCapStatus 1 3 = c.cause % 8 ∧
      t.rd .hwd 0 Off.hwdCapTick = BitVec.ofNat 32 c.tick) ∧
    (s.rst.inReset = false → s.rst.drv.isSome = true →
      (∃ t, exec (.drvCondition .fwAssert) s = .next t ∧ t.isStopped = true) ∧
      (∃ t, exec (.drvCondition .fwEventLost) s = .next t ∧ t.ctxs = s.ctxs ∧ t.isStopped = s.isStopped ∧
        (t.rd .hwd 0 Off.blkErrcnt).toNat = min 0xFFFFFFFF ((s.rd .hwd 0 Off.blkErrcnt).toNat + 1)) ∧
      ∀ k, ∃ t, exec (.drvCondition (.fwContextFault k)) s = .next t ∧ (t.ctx k).condemned.isSome = true))

/-- A GAUGE request is accepted once the last one is DONE: it waits for the edge, or while the tick is stopped its record of 65,536 or 256 bytes is taken at once; the record is written to memory with DONE and an interrupt, or with FAULT where the page is not mapped, or sent over the towpath (R380, R382). -/
def Obligations.GaugeRecords : Prop :=
  (∀ (s : State) (src : Source) (v : Word) (full : Bool),
    let c := if full then Instr.gauge (.pf src v) else .gaugeBrief (.pf src v)
    s.reachesBlock src = true → v.getLsbD (if full then 0 else 1) = true → (full = true → s.rst.ready = true) →
    (s.hwd.gaugeReq = none → s.hwd.gaugeRec = none →
      (s.ticking = true → ∃ t, exec c s = .next t ∧ t.hwd.gaugeReq = some (full, BitVec.ofNat 2 (bitsAt v.toNat 4 2)) ∧ t.hwd.gaugeRec = none) ∧
      (s.ticking = false → ∃ t bs, exec c s = .next t ∧ t.hwd.gaugeReq = none ∧ t.hwd.gaugeRec = some bs ∧ bs.length = if full then 65536 else 256)) ∧
    (s.hwd.gaugeReq ≠ none ∨ s.hwd.gaugeRec ≠ none → ∃ t, exec c s = .next t ∧ t.hwd.gaugeReq = s.hwd.gaugeReq ∧ t.hwd.gaugeRec = s.hwd.gaugeRec ∧
      t.sticky .hwd 0 2 = true)) ∧
  ∀ (s u : State) (bs : List Byte),
    let dva := s.rd64 .hwd 0 Off.hwdGaugeAddrLo
    (s.hwd.gaugeRec = some bs → s.diesOn = true → (s.keyOf 0).isSome = true →
      (s.mapped 0 dva bs.length .write = true → s.memWrite 517 0 dva bs = (u, .ok ()) → ∃ t, exec (.gaugeWriteDone .pf) s = .next t ∧
        t.mem = u.mem ∧ t.hwd.gaugeRec = none ∧ t.hwd.gaugeSeq = s.hwd.gaugeSeq + 1 ∧ t.fld .hwd 0 Off.hwdGaugeStatus 1 1 = 1 ∧ Out.msix 0 0 ∈ t.out) ∧
      (s.mapped 0 dva bs.length .write = false → ∃ t, exec (.gaugeWriteDone .pf) s = .next t ∧ t.mem = s.mem ∧ t.hwd.gaugeRec = none ∧
        t.fld .hwd 0 Off.hwdGaugeStatus 2 1 = 1 ∧ t.sticky .hwd 0 13 = true)) ∧
    (s.hwd.gaugeTowRec = some bs → ∃ t, exec (.gaugeWriteDone .towpath) s = .next t ∧ t.hwd.gaugeTowRec = none ∧ t.mem = s.mem ∧
      t.out = s.out ++ [.mctp bs])

/-- The patrol scrubber counts a corrected line and poisons an uncorrectable one, changing no byte; a targeted refresh is counted and `MEM_RAA_TOP` follows; an imbalance is raised when the set number of windows in a row exceed the ratio (R217 to R220). -/
def Obligations.MemoryMaintenance : Prop :=
  (∀ (s : State) (line : BitVec 31),
    let ch := channelOf s.mem.ikey (64 * line.toNat)
    let m := ch / 64
    s.diesOn = true → 64 * line.toNat < dramEnd → s.mem.poisoned line.toNat = false →
    exec (.patrolScrub line .clean) s = .next s ∧
    (∃ t, exec (.patrolScrub line .corrected) s = .next t ∧ t.sticky .mem m 8 = true ∧ t.mem.cells = s.mem.cells ∧ t.mem.poison = s.mem.poison ∧
      (t.rd .mem m Off.memCeCount).toNat = min 0xFFFFFFFF ((s.rd .mem m Off.memCeCount).toNat + 1)) ∧
    ∃ t, exec (.patrolScrub line .uncorrectable) s = .next t ∧ t.mem.poisoned line.toNat = true ∧ t.sticky .mem m 9 = true ∧ t.mem.cells = s.mem.cells ∧
      ∀ l, l ≠ line.toNat → t.mem.poisoned l = s.mem.poisoned l) ∧
  (∀ (s : State) (ch ctx : Fin 256) (expired : Nat), s.diesOn = true →
    let m := ch.val / 64
    let xs := (Tbl.get s.mem.raa m []).drop expired ++ [ctx.val]
    ∃ t k, exec (.targetedRefresh ch ctx expired) s = .next t ∧ Tbl.get t.mem.raa m [] = xs ∧
      (t.rd .mem m Off.memTrefresh).toNat = min 0xFFFFFFFF ((s.rd .mem m Off.memTrefresh).toNat + 1) ∧
      (∀ j < 256, (xs.filter (· == j)).length ≤ (xs.filter (· == k)).length) ∧ k < 256 ∧ bitsAt (t.rd .mem m Off.memRaaTop).toNat 0 8 = k) ∧
  ∀ (s : State) (ch ctx : Fin 256) (occ mean : BitVec 16), s.diesOn = true →
    let m := ch.val / 64
    let n := Tbl.get s.mem.imb ch.val 0 + 1
    let limit := s.fld .mem m Off.memImb 8 8
    (s.fld .mem m Off.memImb 0 4 * mean.toNat < occ.toNat → ∃ t, exec (.imbalanceWindow ch occ mean ctx) s = .next t ∧ Tbl.get t.mem.imb ch.val 0 = n ∧
      (n = limit → t.sticky .mem m 12 = true ∧ t.rd .mem m Off.memImbLast = BitVec.ofNat 32 (ch.val % 64 + 256 * ctx.val)) ∧
      (n ≠ limit → t.rd .mem m Off.memImbLast = s.rd .mem m Off.memImbLast)) ∧
    (occ.toNat ≤ s.fld .mem m Off.memImb 0 4 * mean.toNat → ∃ t, exec (.imbalanceWindow ch occ mean ctx) s = .next t ∧ Tbl.get t.mem.imb ch.val 0 = 0)

/-! ### What a command leaves alone -/

/-- Frame of device memory: a command that is neither an access nor lets an earlier store reach memory, nor loses its contents, leaves every byte of it as it reads, unless a TENANT trace spills there (R211, R354). -/
def Obligations.MemoryFrame : Prop :=
  ∀ (i : Instr) (s t : State), exec i s = .next t → i.mayChangeMemory = false → s.dbg.st ≠ 1 →
    ∀ g a, t.mem.readByte g a = s.mem.readByte g a

/-- Frames of the rest: the commands that name none of these leave the clusters, ports and engines alone, those that name none leave security, debug, the backup domain, power, the sensors, the towpath and the host interface alone, and those that name none leave the lock-keeper and the links alone. -/
def Obligations.UnitFrames : Prop :=
  ∀ (i : Instr) (s t : State), exec i s = .next t →
    (i.mayChangeEngines = false → t.clusters = s.clusters ∧ t.ports = s.ports ∧ t.yard = s.yard ∧ t.rte = s.rte ∧ t.fce = s.fce ∧ t.srv = s.srv) ∧
    (i.mayChangeManagement = false →
      t.sec = s.sec ∧ t.dbg = s.dbg ∧ t.bkp = s.bkp ∧ t.pwr = s.pwr ∧ t.thm = s.thm ∧ t.mgt = s.mgt ∧ t.pci = s.pci) ∧
    (i.mayChangeClockwork = false → t.lkp = s.lkp ∧ t.links = s.links)

/-- Frame of the cores: a command of one core leaves every other core's own state alone, but for the end of a DMA command, whose destination may be another core's wharf (R16; the scalar unit's own row is covered by the rows of the instructions it runs). -/
def Obligations.OtherCoresFrame : Prop :=
  ∀ (i : Instr) (s t : State) (n : Fin 512), exec i s = .next t → i.coreOf = some n → (∀ core b, i ≠ .dmaCmdComplete core b) →
    (∀ core, i ≠ .scalarInstruction core) → ∀ m, m ≠ n.val → t.core m = s.core m
end

