-- ==== Sys2Proof/Laws/Kept.lean ====
section
/-! SUPPORT. No operation of the machine touches the queue of waiting commands or the fuses: one lemma per shared operation. -/

namespace Sys2Proof.Machine

theorem foldl_kept {α} (g : State → α → State) (xs : List α) (s : State) (h : ∀ s a, (g s a).kept = s.kept) : (xs.foldl g s).kept = s.kept := by
  induction xs generalizing s with
  | nil => rfl
  | cons x xs ih => simp [ih, h]

theorem State.wr_kept (s : State) (a1) (a2) (a3) (a4) (a5) : (State.wr s a1 a2 a3 a4 a5).kept = s.kept := by
  unfold State.wr; grind [State.kept, foldl_kept]

theorem State.wr64_kept (s : State) (a1) (a2) (a3) (a4) (a5) : (State.wr64 s a1 a2 a3 a4 a5).kept = s.kept := by
  unfold State.wr64; grind [State.kept, foldl_kept, State.wr_kept]

theorem State.count64_kept (s : State) (a1) (a2) (a3) (a4) (a5) : (State.count64 s a1 a2 a3 a4 a5).kept = s.kept := by
  unfold State.count64; grind [State.kept, foldl_kept, State.wr64_kept]

theorem State.count_kept (s : State) (a1) (a2) (a3) (a4) (a5) : (State.count s a1 a2 a3 a4 a5).kept = s.kept := by
  unfold State.count; grind [State.kept, foldl_kept, State.wr_kept]

theorem State.fceCount_kept (s : State) (a1) (a2) : (State.fceCount s a1 a2).kept = s.kept := by
  unfold State.fceCount; grind [State.kept, foldl_kept, State.count_kept]

theorem State.dropBarge_kept (s : State) (a1) (a2) : (State.dropBarge s a1 a2).kept = s.kept := by
  unfold State.dropBarge; grind [State.kept, foldl_kept, State.count_kept, State.fceCount_kept]

theorem State.setCtx_kept (s : State) (a1) (a2) : (State.setCtx s a1 a2).kept = s.kept := by
  unfold State.setCtx; grind [State.kept, foldl_kept]

theorem State.modCtx_kept (s : State) (a1) (a2) : (State.modCtx s a1 a2).kept = s.kept := by
  unfold State.modCtx; grind [State.kept, foldl_kept, State.setCtx_kept]

theorem State.condemn_kept (s : State) (a1) (a2) (a3) (a4) : (State.condemn s a1 a2 a3 a4).kept = s.kept := by
  unfold State.condemn; grind [State.kept, foldl_kept, State.modCtx_kept]

theorem State.emit_kept (s : State) (a1) : (State.emit s a1).kept = s.kept := by
  unfold State.emit; grind [State.kept, foldl_kept]

theorem State.recordIn_kept (s : State) (a1) (a2) : (State.recordIn s a1 a2).kept = s.kept := by
  unfold State.recordIn; grind [State.kept, foldl_kept, State.wr_kept, State.count_kept]

theorem State.record_kept (s : State) (a1) : (State.record s a1).kept = s.kept := by
  unfold State.record; grind [State.kept, foldl_kept, State.recordIn_kept, State.emit_kept]

theorem State.updAlert_kept (s : State) : (State.updAlert s).kept = s.kept := by
  unfold State.updAlert; grind [State.kept, foldl_kept, State.emit_kept]

theorem State.imageRefused_kept (s : State) (a1) : (State.imageRefused s a1).kept = s.kept := by
  unfold State.imageRefused; grind [State.kept, foldl_kept, State.updAlert_kept, State.record_kept]

theorem State.runImage_kept (s : State) (a1) (a2) : (State.runImage s a1 a2).kept = s.kept := by
  unfold State.runImage; grind [State.kept, foldl_kept]

theorem State.pickImage_kept (s : State) (a1) : (State.pickImage s a1).kept = s.kept := by
  unfold State.pickImage; grind [State.kept, foldl_kept, State.runImage_kept, State.imageRefused_kept]

theorem State.fwRestart_kept (s : State) : (State.fwRestart s).kept = s.kept := by
  unfold State.fwRestart; grind [State.kept, foldl_kept, State.pickImage_kept, State.count_kept, State.condemn_kept]

theorem State.askRestart_kept (s : State) : (State.askRestart s).kept = s.kept := by
  unfold State.askRestart; grind [State.kept, foldl_kept, State.fwRestart_kept]

theorem State.deviceStop_kept (s : State) (a1) : (State.deviceStop s a1).kept = s.kept := by
  unfold State.deviceStop; grind [State.kept, foldl_kept]

theorem State.modLink_kept (s : State) (a1) (a2) : (State.modLink s a1 a2).kept = s.kept := by
  unfold State.modLink; grind [State.kept, foldl_kept]

theorem State.dropLink_kept (s : State) (a1) : (State.dropLink s a1).kept = s.kept := by
  unfold State.dropLink; grind [State.kept, foldl_kept, State.modLink_kept, State.count_kept, State.wr_kept, State.record_kept]

theorem State.modMem_kept (s : State) (a1) : (State.modMem s a1).kept = s.kept := by
  unfold State.modMem; grind [State.kept, foldl_kept]

theorem State.fatalStop_kept (s : State) : (State.fatalStop s).kept = s.kept := by
  unfold State.fatalStop; grind [State.kept, foldl_kept, State.modMem_kept, State.dropLink_kept]

theorem State.trigCapture_kept (s : State) (a1) (a2) : (State.trigCapture s a1 a2).kept = s.kept := by
  unfold State.trigCapture; grind [State.kept, foldl_kept, State.record_kept, State.count_kept]

theorem State.act_kept (s : State) (a1) : (State.act s a1).kept = s.kept := by
  unfold State.act; grind [State.kept, foldl_kept, State.deviceStop_kept, State.trigCapture_kept, State.askRestart_kept, State.condemn_kept, State.fatalStop_kept]

theorem State.logEvent_kept (s : State) (a1) (a2) : (State.logEvent s a1 a2).kept = s.kept := by
  unfold State.logEvent; grind [State.kept, foldl_kept]

theorem State.logError_kept (s : State) (a1) : (State.logError s a1).kept = s.kept := by
  unfold State.logError; grind [State.kept, foldl_kept, State.logEvent_kept]

theorem State.draw_kept (s : State) : (State.draw s).2.kept = s.kept := by
  unfold State.draw; grind [State.kept, foldl_kept]

theorem State.quietWrite_kept (s : State) (a1) (a2) (a3) : (State.quietWrite s a1 a2 a3).kept = s.kept := by
  unfold State.quietWrite; grind [State.kept, foldl_kept, State.modMem_kept]

theorem State.trace_kept (s : State) (a1) (a2) (a3) (a4) (a5) : (State.trace s a1 a2 a3 a4 a5).kept = s.kept := by
  unfold State.trace; grind [State.kept, foldl_kept, State.draw_kept, State.modCtx_kept, State.wr_kept, State.quietWrite_kept]

theorem State.raise_kept (s : State) (a1) : (State.raise s a1).kept = s.kept := by
  unfold State.raise; grind [State.kept, foldl_kept, State.record_kept, State.trace_kept, State.updAlert_kept, State.act_kept, State.logError_kept]

theorem State.fceRaise_kept (s : State) (a1) (a2) (a3) : (State.fceRaise s a1 a2 a3).kept = s.kept := by
  unfold State.fceRaise; grind [State.kept, foldl_kept, State.raise_kept]

theorem State.modPlan_kept (s : State) (a1) (a2) : (State.modPlan s a1 a2).kept = s.kept := by
  unfold State.modPlan; grind [State.kept, foldl_kept]

theorem State.putBarge_kept (s : State) (a1) (a2) (a3) : (State.putBarge s a1 a2 a3).kept = s.kept := by
  unfold State.putBarge; grind [State.kept, foldl_kept, State.count64_kept, State.emit_kept]

theorem State.sendAcks_kept (s : State) (a1) : (State.sendAcks s a1).kept = s.kept := by
  unfold State.sendAcks; grind [State.kept, foldl_kept, State.putBarge_kept]

theorem State.oweAck_kept (s : State) (a1) (a2) : (State.oweAck s a1 a2).kept = s.kept := by
  unfold State.oweAck; grind [State.kept, foldl_kept, State.sendAcks_kept]

theorem State.bargeIn_kept (s : State) (a1) (a2) (a3) : (State.bargeIn s a1 a2 a3).1.kept = s.kept := by
  unfold State.bargeIn; grind (splits := 40) (ematch := 20) (gen := 20) [State.kept, foldl_kept, State.count64_kept, State.dropBarge_kept, State.fceRaise_kept, State.oweAck_kept, State.fceCount_kept, State.modPlan_kept]

theorem State.undeliverable_kept (s : State) (a1) : (State.undeliverable s a1).kept = s.kept := by
  unfold State.undeliverable; grind [State.kept, foldl_kept, State.modPlan_kept]

theorem State.offer_kept (s : State) (a1) (a2) : (State.offer s a1 a2).kept = s.kept := by
  unfold State.offer; grind [State.kept, foldl_kept, State.undeliverable_kept, State.putBarge_kept]

theorem State.floodBarge_kept (s : State) (a1) (a2) (a3) : (State.floodBarge s a1 a2 a3).kept = s.kept := by
  unfold State.floodBarge; grind [State.kept, foldl_kept, State.offer_kept]

theorem State.takeSeq_kept (s : State) (a1) (a2) : (State.takeSeq s a1 a2).2.kept = s.kept := by
  unfold State.takeSeq; grind [State.kept, foldl_kept, State.modPlan_kept]

theorem State.sendNotice_kept (s : State) (a1) (a2) (a3) (a4) : (State.sendNotice s a1 a2 a3 a4).kept = s.kept := by
  unfold State.sendNotice; grind [State.kept, foldl_kept, State.takeSeq_kept, State.modPlan_kept, State.floodBarge_kept]

theorem State.flightAbort_kept (s : State) (a1) (a2) (a3) (a4) (a5) (a6) : (State.flightAbort s a1 a2 a3 a4 a5 a6).kept = s.kept := by
  unfold State.flightAbort; grind [State.kept, foldl_kept, State.count_kept, State.modPlan_kept, State.wr_kept, State.fceRaise_kept, State.sendNotice_kept]

theorem State.hold_kept (s : State) (a1) : (State.hold s a1).kept = s.kept := by
  unfold State.hold; grind [State.kept, foldl_kept]

theorem State.abortBarge_kept (s : State) (a1) (a2) (a3) : (s.abortBarge a1 a2 a3).kept = s.kept := by
  unfold State.abortBarge
  split
  · exact State.hold_kept s _
  · generalize (⟨a2, a3⟩ : Barge) = b
    dsimp only
    have hb := State.bargeIn_kept s 7 a1 b
    generalize s.bargeIn 7 a1 b = r at hb ⊢
    obtain ⟨s1, _ | i⟩ := r
    · exact hb
    have h2 : (if b.hops = 0 then s1 else s1.floodBarge i (b.setFld 2 24 4 (b.hops - 1)) (s1.portOf a1)).kept = s.kept := by
      split
      · exact hb
      · exact (State.floodBarge_kept _ _ _ _).trans hb
    dsimp only
    generalize (if b.hops = 0 then s1 else _) = s2 at h2 ⊢
    have h3 : (if b.step < s2.lkp.now then s2 else s2.modPlan i fun p => { p with abortN := p.abortN ++ [(b.src, b.step)] }).kept = s.kept := by
      split
      · exact h2
      · exact (State.modPlan_kept _ _ _).trans h2
    generalize (if b.step < s2.lkp.now then s2 else _) = s3 at h3 ⊢
    split
    · exact h3
    · exact (State.flightAbort_kept _ _ _ _ _ _ _).trans h3

theorem State.raisePage_kept (s : State) (a1) (a2) (a3) (a4) : (State.raisePage s a1 a2 a3 a4).kept = s.kept := by
  unfold State.raisePage; grind [State.kept, foldl_kept, State.raise_kept]

theorem State.accessError_kept (s : State) (a1) (a2) : (State.accessError s a1 a2).kept = s.kept := by
  unfold State.accessError; grind [State.kept, foldl_kept, State.raise_kept, State.raisePage_kept]

theorem State.barged_kept (s : State) (a1) : (State.barged s a1).kept = s.kept := by
  unfold State.barged; grind [State.kept, foldl_kept, State.count_kept]

theorem State.ackOne_kept (s : State) (a1) (a2) (a3) (a4) (a5) : (State.ackOne s a1 a2 a3 a4 a5).kept = s.kept := by
  unfold State.ackOne; grind [State.kept, foldl_kept, State.barged_kept]

theorem State.pump1_kept (s : State) : (State.pump1 s).kept = s.kept := by
  unfold State.pump1; grind [State.kept, foldl_kept, State.undeliverable_kept, State.putBarge_kept]

theorem State.pump_kept (s : State) : (State.pump s).kept = s.kept := by
  unfold State.pump; grind [State.kept, foldl_kept, State.pump1_kept]

theorem State.ackBarge_kept (s : State) (a1) (a2) (a3) : (State.ackBarge s a1 a2 a3).kept = s.kept := by
  unfold State.ackBarge; grind [State.kept, foldl_kept, State.hold_kept, State.bargeIn_kept, State.pump_kept, State.ackOne_kept]

theorem State.setCore_kept (s : State) (a1) (a2) : (State.setCore s a1 a2).kept = s.kept := by
  unfold State.setCore; grind [State.kept, foldl_kept]

theorem State.modCore_kept (s : State) (a1) (a2) : (State.modCore s a1 a2).kept = s.kept := by
  unfold State.modCore; grind [State.kept, foldl_kept, State.setCore_kept]

theorem State.dcacheInval_kept (s : State) (a1) : (State.dcacheInval s a1).kept = s.kept := by
  unfold State.dcacheInval; grind [State.kept, foldl_kept, State.count_kept, State.modCore_kept]

theorem State.acqDone_kept (s : State) (a1) (a2) : (State.acqDone s a1 a2).kept = s.kept := by
  unfold State.acqDone; grind [State.kept, foldl_kept, State.dcacheInval_kept]

theorem State.activateNow_kept (s : State) (a1) : (State.activateNow s a1).kept = s.kept := by
  unfold State.activateNow; grind [State.kept, foldl_kept, State.modCtx_kept]

theorem State.setFld_kept (s : State) (a1) (a2) (a3) (a4) (a5) (a6) (a7) : (State.setFld s a1 a2 a3 a4 a5 a6 a7).kept = s.kept := by
  unfold State.setFld; grind [State.kept, foldl_kept, State.wr_kept]

theorem State.addDeficit_kept (s : State) (a1) (a2) : (State.addDeficit s a1 a2).kept = s.kept := by
  unfold State.addDeficit; grind [State.kept, foldl_kept, State.setFld_kept]

theorem State.raiseCtx_kept (s : State) (a1) (a2) (a3) (a4) (a5) (a6) : (State.raiseCtx s a1 a2 a3 a4 a5 a6).kept = s.kept := by
  unfold State.raiseCtx; grind [State.kept, foldl_kept, State.raise_kept]

theorem State.memFault_kept (s : State) (a1) (a2) (a3) : (State.memFault s a1 a2 a3).kept = s.kept := by
  unfold State.memFault; grind [State.kept, foldl_kept, State.raiseCtx_kept]

theorem State.xlate_kept (s : State) (a1) (a2) (a3) (a4) : (State.xlate s a1 a2 a3 a4).1.kept = s.kept := by
  unfold State.xlate; grind [State.kept, foldl_kept, State.draw_kept, State.modMem_kept]

theorem State.writePieces_kept (s : State) (a1) (a2) (a3) (a4) (a5) : (State.writePieces s a1 a2 a3 a4 a5).1.kept = s.kept := by
  fun_induction State.writePieces s a1 a2 a3 a4 a5 <;> grind [State.kept, foldl_kept, State.xlate_kept, State.memFault_kept, State.modMem_kept]

theorem State.memWrite_kept (s : State) (a1) (a2) (a3) (a4) : (State.memWrite s a1 a2 a3 a4).1.kept = s.kept := by
  unfold State.memWrite; grind [State.kept, foldl_kept, State.raiseCtx_kept, State.writePieces_kept]

theorem State.modBerth_kept (s : State) (a1) (a2) : (State.modBerth s a1 a2).kept = s.kept := by
  unfold State.modBerth; grind [State.kept, foldl_kept]

theorem State.addToks_kept (s : State) (a1) (a2) (a3) : (State.addToks s a1 a2 a3).kept = s.kept := by
  unfold State.addToks; grind [State.kept, foldl_kept, State.modBerth_kept, State.memWrite_kept, State.raiseCtx_kept]

theorem State.addTotal_kept (s : State) (a1) (a2) (a3) : (State.addTotal s a1 a2 a3).kept = s.kept := by
  unfold State.addTotal; grind [State.kept, foldl_kept, State.wr_kept, State.count_kept]

theorem State.addTotals_kept (s : State) : (State.addTotals s).kept = s.kept := by
  unfold State.addTotals; grind [State.kept, foldl_kept, State.addTotal_kept]

theorem State.setCluster_kept (s : State) (a1) (a2) : (State.setCluster s a1 a2).kept = s.kept := by
  unfold State.setCluster; grind [State.kept, foldl_kept]

theorem State.modCluster_kept (s : State) (a1) (a2) : (State.modCluster s a1 a2).kept = s.kept := by
  unfold State.modCluster; grind [State.kept, foldl_kept, State.setCluster_kept]

theorem State.ownClusters_kept (s : State) (a1) : (State.ownClusters s a1).kept = s.kept := by
  unfold State.ownClusters; grind [State.kept, foldl_kept, State.modCluster_kept]

theorem State.slotBack_kept (s : State) (a1) (a2) (a3) (a4) (a5) : (State.slotBack s a1 a2 a3 a4 a5).kept = s.kept := by
  unfold State.slotBack; grind [State.kept, foldl_kept, State.memWrite_kept]

theorem State.admitStep_kept (s : State) (a1) (a2) (a3) : (State.admitStep s a1 a2 a3).kept = s.kept := by
  unfold State.admitStep; grind [State.kept, foldl_kept, State.count_kept, State.slotBack_kept, State.ownClusters_kept, State.wr_kept, State.modCtx_kept, State.trace_kept]

theorem State.advance_kept (s : State) (a1) (a2) : (State.advance s a1 a2).kept = s.kept := by
  unfold State.advance; grind [State.kept, foldl_kept, State.modCore_kept]

theorem State.apertureFault_kept (s : State) (a1) : (State.apertureFault s a1).kept = s.kept := by
  unfold State.apertureFault; grind [State.kept, foldl_kept, State.accessError_kept]

theorem State.dropFrame_kept (s : State) : (State.dropFrame s).kept = s.kept := by
  unfold State.dropFrame; grind [State.kept, foldl_kept, State.count_kept]

theorem State.frameIn_kept (s : State) : (State.frameIn s).kept = s.kept := by
  unfold State.frameIn; grind [State.kept, foldl_kept, State.count_kept]

theorem State.modPort_kept (s : State) (a1) (a2) : (State.modPort s a1 a2).kept = s.kept := by
  unfold State.modPort; grind [State.kept, foldl_kept]

theorem State.putFrame_kept (s : State) (a1) (a2) : (State.putFrame s a1 a2).kept = s.kept := by
  unfold State.putFrame; grind [State.kept, foldl_kept, State.modPort_kept, State.count64_kept, State.emit_kept]

theorem State.outWrite_kept (s : State) (a1) (a2) : (State.outWrite s a1 a2).kept = s.kept := by
  unfold State.outWrite; grind [State.kept, foldl_kept, State.memWrite_kept, State.count_kept, State.wr_kept]

theorem State.ringOut_kept (s : State) (a1) (a2) : (State.ringOut s a1 a2).kept = s.kept := by
  unfold State.ringOut; grind [State.kept, foldl_kept, State.count_kept, State.modCtx_kept, State.outWrite_kept]

theorem State.respond_kept (s : State) (a1) (a2) (a3) (a4) : (State.respond s a1 a2 a3 a4).kept = s.kept := by
  unfold State.respond; grind [State.kept, foldl_kept, State.ringOut_kept, State.putFrame_kept, State.count_kept]

theorem State.reject_kept (s : State) (a1) (a2) (a3) (a4) : (State.reject s a1 a2 a3 a4).kept = s.kept := by
  unfold State.reject; grind [State.kept, foldl_kept, State.count_kept, State.raiseCtx_kept, State.respond_kept]

theorem State.appendOp_kept (s : State) (a1) (a2) (a3) : (State.appendOp s a1 a2 a3).1.kept = s.kept := by
  unfold State.appendOp; grind [State.kept, foldl_kept, State.dropFrame_kept, State.frameIn_kept, State.reject_kept, State.modBerth_kept, State.addToks_kept]

theorem State.modYard_kept (s : State) (a1) : (State.modYard s a1).kept = s.kept := by
  unfold State.modYard; grind [State.kept, foldl_kept]

theorem State.nextSeq_kept (s : State) (a1) (a2) (a3) : (State.nextSeq s a1 a2 a3).2.kept = s.kept := by
  unfold State.nextSeq; grind [State.kept, foldl_kept, State.wr_kept]

theorem State.yardErr_kept (s : State) (a1) (a2) (a3) (a4) (a5) : (State.yardErr s a1 a2 a3 a4 a5).kept = s.kept := by
  unfold State.yardErr; grind [State.kept, foldl_kept, State.raiseCtx_kept]

theorem State.srvYard_kept (s : State) (a1) (a2) : (State.srvYard s a1 a2).kept = s.kept := by
  unfold State.srvYard; grind [State.kept, foldl_kept, State.nextSeq_kept, State.yardErr_kept, State.modYard_kept]

theorem State.yardRelease_kept (s : State) (a1) (a2) : (State.yardRelease s a1 a2).kept = s.kept := by
  unfold State.yardRelease; grind [State.kept, foldl_kept, State.srvYard_kept]

theorem State.cancelOp_kept (s : State) (a1) (a2) : (State.cancelOp s a1 a2).1.kept = s.kept := by
  unfold State.cancelOp; grind [State.kept, foldl_kept, State.dropFrame_kept, State.count_kept, State.frameIn_kept, State.modBerth_kept, State.yardRelease_kept]

theorem State.ctxDrop_kept (s : State) (a1) : (State.ctxDrop s a1).kept = s.kept := by
  unfold State.ctxDrop; grind [State.kept, foldl_kept, State.count_kept, State.raiseCtx_kept, State.modCtx_kept]

theorem State.frameTag_kept (s : State) (a1) (a2) (a3) : (State.frameTag s a1 a2 a3).1.kept = s.kept := by
  unfold State.frameTag; grind [State.kept, foldl_kept, State.draw_kept, State.modCtx_kept]

theorem State.openMark_kept (s : State) (a1) (a2) : (State.openMark s a1 a2).1.kept = s.kept := by
  unfold State.openMark; grind [State.kept, foldl_kept, State.modCtx_kept, State.ctxDrop_kept, State.raiseCtx_kept]

theorem State.newDrbg_kept (s : State) (a1) (a2) : (State.newDrbg s a1 a2).2.kept = s.kept := by
  unfold State.newDrbg; grind [State.kept, foldl_kept, State.draw_kept]

theorem State.yardOpen_kept (s : State) (a1) (a2) (a3) : (State.yardOpen s a1 a2 a3).kept = s.kept := by
  unfold State.yardOpen; grind [State.kept, foldl_kept, State.srvYard_kept]

theorem State.openOp_kept (s : State) (a1) (a2) (a3) : (State.openOp s a1 a2 a3).kept = s.kept := by
  unfold State.openOp; grind [State.kept, foldl_kept, State.reject_kept, State.newDrbg_kept, State.modBerth_kept, State.count_kept, State.yardOpen_kept, State.addToks_kept, State.respond_kept]

theorem State.frameOp_kept (s : State) (a1) (a2) : (State.frameOp s a1 a2).1.kept = s.kept := by
  have h1 := State.frameTag_kept s (frCtx a2) (a2.take (a2.length - 16)) (a2.drop ((a2.take (a2.length - 16)).length))
  unfold State.frameOp
  dsimp only
  repeat' split
  all_goals grind [State.dropFrame_kept, State.raisePage_kept, State.frameTag_kept, State.raiseCtx_kept, State.ctxDrop_kept, State.openMark_kept, State.frameIn_kept, State.openOp_kept, State.appendOp_kept, State.cancelOp_kept]

theorem State.rxBytes_kept (s : State) (a1) (a2) : (State.rxBytes s a1 a2).kept = s.kept := by
  unfold State.rxBytes; grind [State.kept, foldl_kept, State.count64_kept]

theorem State.frameRow_kept (s : State) (a1) (a2) (a3) (a4) : (State.frameRow s a1 a2 a3 a4).kept = s.kept := by
  unfold State.frameRow; grind [State.kept, foldl_kept, State.hold_kept, State.frameOp_kept, State.rxBytes_kept]

theorem State.appendFrame_kept (s : State) (a1) (a2) : (State.appendFrame s a1 a2).kept = s.kept := by
  unfold State.appendFrame; grind [State.kept, foldl_kept, State.frameRow_kept]

theorem State.applyField_kept (s : State) (a1) (a2) (a3) (a4) : (State.applyField s a1 a2 a3 a4).kept = s.kept := by
  unfold State.applyField; grind [State.kept, foldl_kept, State.setFld_kept, State.wr_kept]

theorem State.bindPolicy_kept (s : State) (a1) : (State.bindPolicy s a1).kept = s.kept := by
  unfold State.bindPolicy; grind [State.kept, foldl_kept, State.setFld_kept]

theorem State.portsCheck_kept (s : State) : (State.portsCheck s).kept = s.kept := by
  unfold State.portsCheck; grind [State.kept, foldl_kept, State.modPort_kept, State.raisePage_kept, State.modLink_kept]

theorem State.putStaged_kept (s : State) (a1) (a2) (a3) : (State.putStaged s a1 a2 a3).kept = s.kept := by
  unfold State.putStaged; grind [State.kept, foldl_kept]

theorem State.rtFree_kept (s : State) (a1) (a2) : (State.rtFree s a1 a2).kept = s.kept := by
  unfold State.rtFree; grind [State.kept, foldl_kept, State.quietWrite_kept]

theorem State.rtFlushCache_kept (s : State) (a1) : (State.rtFlushCache s a1).kept = s.kept := by
  unfold State.rtFlushCache; grind [State.kept, foldl_kept, State.rtFree_kept]

theorem State.applyStagedField_kept (s : State) (a1) (a2) (a3) : (State.applyStagedField s a1 a2 a3).kept = s.kept := by
  unfold State.applyStagedField; grind [State.kept, foldl_kept, State.putStaged_kept, State.bindPolicy_kept, State.rtFlushCache_kept, State.portsCheck_kept]

theorem State.deactivateNow_kept (s : State) (a1) : (State.deactivateNow s a1).kept = s.kept := by
  unfold State.deactivateNow; grind [State.kept, foldl_kept, State.wr_kept, State.modCtx_kept]

theorem State.zeroCluster_kept (s : State) (a1) : (State.zeroCluster s a1).kept = s.kept := by
  unfold State.zeroCluster; grind [State.kept, foldl_kept, State.count_kept, State.modCore_kept, State.modMem_kept, State.modCluster_kept]

theorem State.enterField_kept (s : State) : (State.enterField s).kept = s.kept := by
  unfold State.enterField; grind [State.kept, foldl_kept, State.deactivateNow_kept, State.zeroCluster_kept, State.logEvent_kept]

theorem State.debugNow_kept (s : State) (a1) : (State.debugNow s a1).kept = s.kept := by
  unfold State.debugNow; grind [State.kept, foldl_kept, State.enterField_kept]

theorem State.applyItem_kept (s : State) (a1) : (State.applyItem s a1).kept = s.kept := by
  unfold State.applyItem; grind [State.kept, foldl_kept, State.applyStagedField_kept, State.activateNow_kept, State.deactivateNow_kept, State.modMem_kept, State.debugNow_kept]

theorem State.modDom_kept (s : State) (a1) (a2) : (State.modDom s a1 a2).kept = s.kept := by
  unfold State.modDom; grind [State.kept, foldl_kept]

theorem State.vstepFault_kept (s : State) (a1) : (State.vstepFault s a1).kept = s.kept := by
  unfold State.vstepFault; grind [State.kept, foldl_kept, State.raisePage_kept, State.modDom_kept]

theorem State.applyPoint_kept (s : State) (a1) (a2) : (State.applyPoint s a1 a2).kept = s.kept := by
  unfold State.applyPoint; grind [State.kept, foldl_kept, State.modDom_kept, State.vstepFault_kept]

theorem State.applyRefresh_kept (s : State) : (State.applyRefresh s).kept = s.kept := by
  unfold State.applyRefresh; grind [State.kept, foldl_kept, State.logEvent_kept, State.setFld_kept]

theorem State.switchKeys_kept (s : State) (a1) : (State.switchKeys s a1).kept = s.kept := by
  unfold State.switchKeys; grind [State.kept, foldl_kept, State.modCtx_kept]

theorem State.applyStaged_kept (s : State) (a1) : (State.applyStaged s a1).kept = s.kept := by
  unfold State.applyStaged; grind [State.kept, foldl_kept, State.applyItem_kept, State.switchKeys_kept]

theorem State.capChanged_kept (s : State) (a1) : (State.capChanged s a1).kept = s.kept := by
  unfold State.capChanged; grind [State.kept, foldl_kept]

theorem State.planStep3_kept (s : State) (a1) : (State.planStep3 s a1).kept = s.kept := by
  unfold State.planStep3; grind [State.kept, foldl_kept, State.modPlan_kept, State.setFld_kept, State.modCtx_kept, State.fceRaise_kept]

theorem State.forceFloors_kept (s : State) (a1) (a2) : (State.forceFloors s a1 a2).kept = s.kept := by
  unfold State.forceFloors; grind [State.kept, foldl_kept, State.count_kept, State.raiseCtx_kept]

theorem State.powerRecompute_kept (s : State) : (State.powerRecompute s).kept = s.kept := by
  unfold State.powerRecompute; grind [State.kept, foldl_kept, State.modDom_kept, State.forceFloors_kept]

theorem State.applyStopped_kept (s : State) : (State.applyStopped s).kept = s.kept := by
  unfold State.applyStopped; grind [State.kept, foldl_kept, State.planStep3_kept, State.applyStaged_kept, State.powerRecompute_kept, State.applyPoint_kept, State.capChanged_kept]

theorem State.setMacs_kept (s : State) (a1) : (State.setMacs s a1).kept = s.kept := by
  unfold State.setMacs; grind [State.kept, foldl_kept, State.wr_kept]

theorem State.applyTrims_kept (s : State) : (State.applyTrims s).kept = s.kept := by
  unfold State.applyTrims; grind [State.kept, foldl_kept, State.setMacs_kept, State.wr_kept]

theorem State.readPieces_kept (s : State) (a1) (a2) (a3) (a4) (a5) (a6) : (State.readPieces s a1 a2 a3 a4 a5 a6).1.kept = s.kept := by
  fun_induction State.readPieces s a1 a2 a3 a4 a5 a6 <;> grind [State.kept, foldl_kept, State.xlate_kept, State.memFault_kept, State.modMem_kept]

theorem State.memRead_kept (s : State) (a1) (a2) (a3) (a4) (a5) : (State.memRead s a1 a2 a3 a4 a5).1.kept = s.kept := by
  unfold State.memRead; grind [State.kept, foldl_kept, State.raiseCtx_kept, State.readPieces_kept]

theorem State.atVector_kept (s : State) (a1) (a2) (a3) (a4) (a5) : (State.atVector s a1 a2 a3 a4 a5).1.kept = s.kept := by
  unfold State.atVector; grind [State.kept, foldl_kept, State.memRead_kept]

theorem State.atSlots_kept (s : State) (a1) (a2) (a3) (a4) (a5) (a6) : (State.atSlots s a1 a2 a3 a4 a5 a6).1.kept = s.kept := by
  fun_induction State.atSlots s a1 a2 a3 a4 a5 a6 <;> grind [State.kept, foldl_kept, State.atVector_kept]

theorem State.atCoaches_kept (s : State) (a1) (a2) (a3) (a4) (a5) : (State.atCoaches s a1 a2 a3 a4 a5).1.kept = s.kept := by
  fun_induction State.atCoaches s a1 a2 a3 a4 a5 <;> grind [State.kept, foldl_kept, State.atSlots_kept, State.count_kept]

theorem State.countAtp_kept (s : State) (a1) (a2) (a3) : (State.countAtp s a1 a2 a3).kept = s.kept := by
  unfold State.countAtp; grind [State.kept, foldl_kept, State.count_kept]

theorem State.fillRec_kept (s : State) (a1) (a2) (a3) (a4) : (State.fillRec s a1 a2 a3 a4).kept = s.kept := by
  unfold State.fillRec; grind [State.kept, foldl_kept, State.wr_kept]

theorem State.reportCore_kept (s : State) (a1) (a2) (a3) : (State.reportCore s a1 a2 a3).kept = s.kept := by
  unfold State.reportCore; grind [State.kept, foldl_kept, State.fillRec_kept]

theorem State.atTally_kept (s : State) (a1) (a2) (a3) (a4) : (State.atTally s a1 a2 a3 a4).kept = s.kept := by
  unfold State.atTally; grind [State.kept, foldl_kept, State.countAtp_kept, State.reportCore_kept]

theorem State.wharfWrite_kept (s : State) (a1) (a2) (a3) : (State.wharfWrite s a1 a2 a3).kept = s.kept := by
  unfold State.wharfWrite; grind [State.kept, foldl_kept, State.modCore_kept]

theorem State.atDeliver_kept (s : State) (a1) (a2) (a3) : (State.atDeliver s a1 a2 a3).kept = s.kept := by
  unfold State.atDeliver; grind [State.kept, foldl_kept, State.countAtp_kept, State.wharfWrite_kept, State.atTally_kept, State.modCluster_kept]

theorem State.scbRelease_kept (s : State) (a1) (a2) (a3) : (State.scbRelease s a1 a2 a3).kept = s.kept := by
  unfold State.scbRelease; grind [State.kept, foldl_kept, State.modCore_kept]

theorem State.atFinish_kept (s : State) (a1) (a2) : (State.atFinish s a1 a2).kept = s.kept := by
  unfold State.atFinish; grind [State.kept, foldl_kept, State.modCore_kept, State.scbRelease_kept]

theorem State.atReject_kept (s : State) (a1) (a2) (a3) (a4) : (State.atReject s a1 a2 a3 a4).kept = s.kept := by
  unfold State.atReject; grind [State.kept, foldl_kept, State.wr_kept, State.raiseCtx_kept]

theorem State.atScores_kept (s : State) (a1) (a2) : (State.atScores s a1 a2).1.kept = s.kept := by
  fun_induction State.atScores s a1 a2 <;> grind [State.kept, foldl_kept, State.draw_kept]

theorem State.atStop_kept (s : State) (a1) (a2) (a3) : (State.atStop s a1 a2 a3).kept = s.kept := by
  unfold State.atStop; grind [State.kept, foldl_kept, State.atFinish_kept, State.atReject_kept]

theorem State.atRun_kept (s : State) (a1) (a2) (a3) : (State.atRun s a1 a2 a3).kept = s.kept := by
  unfold State.atRun; grind [State.kept, foldl_kept, State.atStop_kept, State.atCoaches_kept, State.atScores_kept, State.count64_kept, State.modCore_kept, State.atTally_kept]

theorem State.reportUnit_kept (s : State) (a1) (a2) (a3) (a4) : (State.reportUnit s a1 a2 a3 a4).kept = s.kept := by
  unfold State.reportUnit; grind [State.kept, foldl_kept]

theorem State.atomNan_kept (s : State) (a1) (a2) (a3) (a4) (a5) : (State.atomNan s a1 a2 a3 a4 a5).kept = s.kept := by
  unfold State.atomNan; grind [State.kept, foldl_kept, State.reportUnit_kept]

theorem State.atomApply_kept (s : State) (a1) (a2) (a3) (a4) : (State.atomApply s a1 a2 a3 a4).1.kept = s.kept := by
  fun_induction State.atomApply s a1 a2 a3 a4 <;> grind [State.kept, foldl_kept, State.memRead_kept, State.memWrite_kept, State.wharfWrite_kept, State.xlate_kept, State.count64_kept, State.atomNan_kept]

theorem State.atpEnd_kept (s : State) (a1) : (State.atpEnd s a1).kept = s.kept := by
  unfold State.atpEnd; grind [State.kept, foldl_kept, State.atDeliver_kept, State.modYard_kept, State.atFinish_kept]

theorem State.atpStart_kept (s : State) (a1) : (State.atpStart s a1).kept = s.kept := by
  unfold State.atpStart; grind [State.kept, foldl_kept, State.atRun_kept, State.modCore_kept]

theorem State.highWater_kept (s : State) (a1) (a2) (a3) (a4) (a5) (a6) : (State.highWater s a1 a2 a3 a4 a5 a6).kept = s.kept := by
  unfold State.highWater; grind [State.kept, foldl_kept, State.setFld_kept]

theorem State.retire_kept (s : State) (a1) (a2) : (State.retire s a1 a2).kept = s.kept := by
  unfold State.retire; grind [State.kept, foldl_kept, State.modCore_kept]

theorem State.scbAdd_kept (s : State) (a1) (a2) (a3) (a4) : (State.scbAdd s a1 a2 a3 a4).kept = s.kept := by
  unfold State.scbAdd; grind [State.kept, foldl_kept, State.modCore_kept, State.highWater_kept]

theorem State.stall_kept (s : State) (a1) (a2) : (State.stall s a1 a2).kept = s.kept := by
  unfold State.stall; grind [State.kept, foldl_kept, State.modCore_kept]

theorem State.atqOp_kept (s : State) (a1) (a2) (a3) : (State.atqOp s a1 a2 a3).kept = s.kept := by
  unfold State.atqOp; grind [State.kept, foldl_kept, State.stall_kept, State.retire_kept, State.atReject_kept, State.nextSeq_kept, State.scbAdd_kept, State.modCore_kept, State.highWater_kept]

theorem State.fallBack_kept (s : State) : (State.fallBack s).kept = s.kept := by
  unfold State.fallBack; grind [State.kept, foldl_kept, State.applyTrims_kept, State.raisePage_kept, State.wr_kept]

theorem State.histEntry_kept (s : State) (a1) (a2) (a3) (a4) (a5) : (State.histEntry s a1 a2 a3 a4 a5).kept = s.kept := by
  unfold State.histEntry; grind [State.kept, foldl_kept]

theorem State.optFailed_kept (s : State) : (State.optFailed s).kept = s.kept := by
  unfold State.optFailed; grind [State.kept, foldl_kept]

theorem State.optResult_kept (s : State) (a1) (a2) (a3) (a4) : (State.optResult s a1 a2 a3 a4).kept = s.kept := by
  unfold State.optResult; grind [State.kept, foldl_kept, State.wr_kept]

theorem State.attemptFailed_kept (s : State) (a1) (a2) (a3) (a4) (a5) (a6) : (State.attemptFailed s a1 a2 a3 a4 a5 a6).1.kept = s.kept := by
  unfold State.attemptFailed; grind [State.kept, foldl_kept, State.optResult_kept, State.histEntry_kept, State.optFailed_kept, State.fallBack_kept]

theorem State.badColl_kept (s : State) (a1) (a2) : (State.badColl s a1 a2).kept = s.kept := by
  unfold State.badColl; grind [State.kept, foldl_kept, State.raiseCtx_kept]

theorem State.badDesc_kept (s : State) (a1) : (State.badDesc s a1).kept = s.kept := by
  unfold State.badDesc; grind [State.kept, foldl_kept, State.raiseCtx_kept]

theorem State.scalarError_kept (s : State) (a1) (a2) (a3) (a4) : (State.scalarError s a1 a2 a3 a4).kept = s.kept := by
  unfold State.scalarError; grind [State.kept, foldl_kept, State.retire_kept, State.raiseCtx_kept]

theorem State.badFence_kept (s : State) (a1) : (State.badFence s a1).kept = s.kept := by
  unfold State.badFence; grind [State.kept, foldl_kept, State.scalarError_kept]

theorem State.badSample_kept (s : State) (a1) (a2) : (State.badSample s a1 a2).kept = s.kept := by
  unfold State.badSample; grind [State.kept, foldl_kept, State.raiseCtx_kept]

theorem State.basinAccept_kept (s : State) (a1) (a2) : (State.basinAccept s a1 a2).kept = s.kept := by
  unfold State.basinAccept; grind [State.kept, foldl_kept, State.modMem_kept]

theorem State.firstBeat_kept (s : State) : (State.firstBeat s).kept = s.kept := by
  unfold State.firstBeat; grind [State.kept, foldl_kept, State.updAlert_kept]

theorem State.beat_kept (s : State) (a1) : (State.beat s a1).kept = s.kept := by
  unfold State.beat; grind [State.kept, foldl_kept, State.firstBeat_kept]

theorem State.beatCheck_kept (s : State) : (State.beatCheck s).kept = s.kept := by
  unfold State.beatCheck; grind [State.kept, foldl_kept, State.raisePage_kept]

theorem State.clearLink_kept (s : State) (a1) : (State.clearLink s a1).kept = s.kept := by
  unfold State.clearLink; grind [State.kept, foldl_kept, State.dropLink_kept, State.modLink_kept]

theorem State.clearBlock_kept (s : State) (a1) : (State.clearBlock s a1).kept = s.kept := by
  unfold State.clearBlock; grind [State.kept, foldl_kept, State.modCluster_kept, State.modCore_kept, State.count_kept, State.dcacheInval_kept, State.modMem_kept, State.clearLink_kept, State.modPort_kept, State.modDom_kept]

theorem State.clearStatus_kept (s : State) (a1) : (State.clearStatus s a1).kept = s.kept := by
  unfold State.clearStatus; grind [State.kept, foldl_kept, State.setFld_kept]

theorem State.blockReset_kept (s : State) (a1) : (State.blockReset s a1).kept = s.kept := by
  unfold State.blockReset; grind [State.kept, foldl_kept, State.accessError_kept, State.clearStatus_kept, State.clearBlock_kept]

theorem State.brakeHeat_kept (s : State) (a1) : (State.brakeHeat s a1).kept = s.kept := by
  unfold State.brakeHeat; grind [State.kept, foldl_kept]

theorem State.templateFault_kept (s : State) (a1) : (State.templateFault s a1).kept = s.kept := by
  unfold State.templateFault; grind [State.kept, foldl_kept, State.raiseCtx_kept]

theorem State.buildFor_kept (s : State) (a1) (a2) (a3) (a4) : (State.buildFor s a1 a2 a3 a4).kept = s.kept := by
  unfold State.buildFor; grind (splits := 40) (ematch := 20) (gen := 20) [State.kept, foldl_kept, State.memRead_kept, State.templateFault_kept, State.memWrite_kept, State.modCtx_kept]

theorem State.cancelFrame_kept (s : State) (a1) (a2) : (State.cancelFrame s a1 a2).kept = s.kept := by
  unfold State.cancelFrame; grind [State.kept, foldl_kept, State.frameRow_kept]

theorem State.cartEnter_kept (s : State) (a1) : (State.cartEnter s a1).kept = s.kept := by
  unfold State.cartEnter; grind [State.kept, foldl_kept, State.highWater_kept, State.modCore_kept]

theorem State.mergeJudge_kept (s : State) (a1) (a2) : (State.mergeJudge s a1 a2).kept = s.kept := by
  unfold State.mergeJudge; grind [State.kept, foldl_kept, State.modCluster_kept, State.raiseCtx_kept]

theorem State.mergeJudgeAll_kept (s : State) (a1) : (State.mergeJudgeAll s a1).kept = s.kept := by
  unfold State.mergeJudgeAll; grind [State.kept, foldl_kept, State.mergeJudge_kept]

theorem State.checkDone_kept (s : State) (a1) (a2) : (State.checkDone s a1 a2).kept = s.kept := by
  unfold State.checkDone; grind [State.kept, foldl_kept, State.modCtx_kept, State.mergeJudgeAll_kept, State.wr_kept]

theorem State.rteError_kept (s : State) (a1) (a2) (a3) (a4) (a5) : (State.rteError s a1 a2 a3 a4 a5).kept = s.kept := by
  unfold State.rteError; grind [State.kept, foldl_kept, State.wr_kept, State.raiseCtx_kept]

theorem State.failAll_kept (s : State) (a1) (a2) (a3) (a4) : (State.failAll s a1 a2 a3 a4).kept = s.kept := by
  unfold State.failAll; grind [State.kept, foldl_kept, State.count_kept, State.rteError_kept, State.flightAbort_kept]

theorem State.checkFlight_kept (s : State) (a1) : (State.checkFlight s a1).kept = s.kept := by
  unfold State.checkFlight; grind [State.kept, foldl_kept, State.failAll_kept]

theorem State.checkGuard_kept (s : State) (a1) : (State.checkGuard s a1).kept = s.kept := by
  unfold State.checkGuard; grind [State.kept, foldl_kept, State.failAll_kept]

theorem State.clTally_kept (s : State) (a1) (a2) : (State.clTally s a1 a2).kept = s.kept := by
  unfold State.clTally; grind [State.kept, foldl_kept, State.draw_kept, State.reportUnit_kept]

theorem State.skipSlot_kept (s : State) (a1) (a2) (a3) (a4) : (State.skipSlot s a1 a2 a3 a4).kept = s.kept := by
  unfold State.skipSlot; grind [State.kept, foldl_kept, State.slotBack_kept, State.count_kept, State.wr_kept, State.raiseCtx_kept, State.ctxDrop_kept, State.trace_kept]

theorem State.verifyLater_kept (s : State) (a1) (a2) (a3) (a4) : (State.verifyLater s a1 a2 a3 a4).kept = s.kept := by
  unfold State.verifyLater; grind [State.kept, foldl_kept, State.modCtx_kept]

theorem State.skipCand_kept (s : State) (a1) (a2) (a3) (a4) : (State.skipCand s a1 a2 a3 a4).kept = s.kept := by
  unfold State.skipCand; grind [State.kept, foldl_kept, State.addDeficit_kept, State.skipSlot_kept, State.verifyLater_kept]

theorem State.slotBody_kept (s : State) (a1) (a2) (a3) : (State.slotBody s a1 a2 a3).1.kept = s.kept := by
  unfold State.slotBody; grind [State.kept, foldl_kept, State.memRead_kept]

theorem State.classifyDue_kept (s : State) (a1) (a2) (a3) (a4) : (State.classifyDue s a1 a2 a3 a4).1.kept = s.kept := by
  unfold State.classifyDue; grind [State.kept, foldl_kept, State.skipSlot_kept, State.slotBody_kept, State.skipCand_kept]

theorem State.classify_kept (s : State) (a1) (a2) : (State.classify s a1 a2).1.kept = s.kept := by
  unfold State.classify; grind [State.kept, foldl_kept, State.memRead_kept, State.skipSlot_kept, State.count_kept, State.classifyDue_kept]

theorem State.classifyAll_kept (s : State) (a1) (a2) : (State.classifyAll s a1 a2).1.kept = s.kept := by
  fun_induction State.classifyAll s a1 a2 <;> grind [State.kept, foldl_kept, State.classify_kept]

theorem State.cleared_kept (s : State) : (State.cleared s).kept = s.kept := by
  unfold State.cleared; grind [State.kept, foldl_kept]

theorem State.rtJudge_kept (s : State) (a1) : (State.rtJudge s a1).kept = s.kept := by
  unfold State.rtJudge; grind [State.kept, foldl_kept]

theorem State.closePound_kept (s : State) (a1) : (State.closePound s a1).kept = s.kept := by
  unfold State.closePound; grind [State.kept, foldl_kept, State.rtJudge_kept, State.flightAbort_kept]

theorem State.modInst_kept (s : State) (a1) (a2) : (State.modInst s a1 a2).kept = s.kept := by
  unfold State.modInst; grind [State.kept, foldl_kept]

theorem State.sendBarge_kept (s : State) (a1) (a2) : (State.sendBarge s a1 a2).2.kept = s.kept := by
  unfold State.sendBarge; grind [State.kept, foldl_kept, State.takeSeq_kept, State.offer_kept]

theorem foldl_snd_kept {α β : Type} (g : β × State → α → β × State) (xs : List α) (p : β × State) (h : ∀ p a, (g p a).2.kept = p.2.kept) : (xs.foldl g p).2.kept = p.2.kept := by
  induction xs generalizing p with
  | nil => rfl
  | cons x xs ih => simp [ih, h]

theorem foldl_fst_kept {α β : Type} (g : State × β → α → State × β) (xs : List α) (p : State × β) (h : ∀ p a, (g p a).1.kept = p.1.kept) : (xs.foldl g p).1.kept = p.1.kept := by
  induction xs generalizing p with
  | nil => rfl
  | cons x xs ih => simp [ih, h]

theorem State.collSend_kept (s : State) (a1) (a2) (a3) (a4) (a5) (a6) : (State.collSend s a1 a2 a3 a4 a5 a6).kept = s.kept := by
  unfold State.collSend
  split
  · rfl
  · rw [State.modInst_kept]; exact foldl_snd_kept _ _ _ fun p a => State.sendBarge_kept _ _ _

theorem State.collAdvance_kept (s : State) (a1) (a2) : (State.collAdvance s a1 a2).kept = s.kept := by
  unfold State.collAdvance; grind [State.kept, foldl_kept, State.collSend_kept, State.clTally_kept]

theorem State.collDone_kept (s : State) (a1) : (State.collDone s a1).kept = s.kept := by
  unfold State.collDone; grind [State.kept, foldl_kept, State.count_kept, State.modInst_kept]

theorem State.syncInc_kept (s : State) (a1) (a2) (a3) (a4) : (State.syncInc s a1 a2 a3 a4).kept = s.kept := by
  unfold State.syncInc; grind [State.kept, foldl_kept, State.count_kept, State.modCluster_kept]

theorem State.collWrite_kept (s : State) (a1) (a2) (a3) : (State.collWrite s a1 a2 a3).kept = s.kept := by
  unfold State.collWrite; grind [State.kept, foldl_kept, State.memWrite_kept, State.badColl_kept, State.wharfWrite_kept, State.syncInc_kept]

theorem State.collComplete_kept (s : State) (a1) : (State.collComplete s a1).kept = s.kept := by
  unfold State.collComplete; grind [State.kept, foldl_kept, State.collDone_kept, State.collWrite_kept, State.clTally_kept]

theorem State.needInst_kept (s : State) (a1) (a2) (a3) (a4) : (State.needInst s a1 a2 a3 a4).2.kept = s.kept := by
  unfold State.needInst; grind [State.kept, foldl_kept]

theorem State.readColl_kept (s : State) (a1) (a2) (a3) : (State.readColl s a1 a2 a3).1.kept = s.kept := by
  unfold State.readColl; grind [State.kept, foldl_kept, State.memRead_kept]

theorem State.collIn_kept (s : State) (a1) (a2) (a3) : (State.collIn s a1 a2 a3).kept = s.kept := by
  have h1 := State.needInst_kept s a2 a3.coll a3.inst a3.step
  unfold State.collIn
  split
  · rfl
  · generalize State.needInst s a2 a3.coll a3.inst a3.step = r at h1 ⊢
    grind [State.modInst_kept, State.collAdvance_kept, State.readColl_kept]

theorem State.collLeaf_kept (s : State) (a1) (a2) (a3) (a4) : (State.collLeaf s a1 a2 a3 a4).kept = s.kept := by
  unfold State.collLeaf
  split
  · exact State.badColl_kept s a1 _
  · dsimp only
    split
    · exact State.badColl_kept s a1 _
    · rename_i slot _ _ n _
      have h1 := State.needInst_kept s a1 a3 n (s.collTick a1)
      generalize State.needInst s a1 a3 n (s.collTick a1) = r at h1 ⊢
      grind [State.modInst_kept, State.collAdvance_kept, State.readColl_kept, State.badColl_kept]

theorem State.tamper_kept (s : State) (a1) : (State.tamper s a1).kept = s.kept := by
  unfold State.tamper; grind [State.kept, foldl_kept, State.raisePage_kept]

theorem State.copyBad_kept (s : State) (a1) : (State.copyBad s a1).kept = s.kept := by
  unfold State.copyBad; grind [State.kept, foldl_kept, State.tamper_kept, State.raisePage_kept]

theorem State.countDrn_kept (s : State) (a1) (a2) (a3) : (State.countDrn s a1 a2 a3).kept = s.kept := by
  unfold State.countDrn; grind [State.kept, foldl_kept, State.count_kept]

theorem State.countFence_kept (s : State) (a1) : (State.countFence s a1).kept = s.kept := by
  unfold State.countFence; grind [State.kept, foldl_kept, State.count_kept]

theorem State.countMacs_kept (s : State) (a1) (a2) : (State.countMacs s a1 a2).kept = s.kept := by
  unfold State.countMacs; grind [State.kept, foldl_kept, State.count64_kept]

theorem State.ctxFlightAbort_kept (s : State) (a1) (a2) : (State.ctxFlightAbort s a1 a2).kept = s.kept := by
  unfold State.ctxFlightAbort; grind [State.kept, foldl_kept, State.flightAbort_kept]

theorem State.portFlush_kept (s : State) (a1) (a2) : (State.portFlush s a1 a2).kept = s.kept := by
  unfold State.portFlush; grind [State.kept, foldl_kept, State.modCore_kept, State.basinAccept_kept]

theorem State.portFlushAll_kept (s : State) (a1) : (State.portFlushAll s a1).kept = s.kept := by
  unfold State.portFlushAll; grind [State.kept, foldl_kept, State.portFlush_kept]

theorem State.relDone_kept (s : State) (a1) (a2) : (State.relDone s a1 a2).kept = s.kept := by
  unfold State.relDone; grind [State.kept, foldl_kept, State.portFlushAll_kept]

theorem State.fenceOp_kept (s : State) (a1) (a2) (a3) : (State.fenceOp s a1 a2 a3).kept = s.kept := by
  unfold State.fenceOp; grind [State.kept, foldl_kept, State.badFence_kept, State.stall_kept, State.relDone_kept, State.acqDone_kept, State.retire_kept, State.countFence_kept]

theorem State.portDrain_kept (s : State) (a1) : (State.portDrain s a1).kept = s.kept := by
  unfold State.portDrain; grind [State.kept, foldl_kept, State.modCore_kept, State.draw_kept, State.basinAccept_kept]

theorem State.portBefore_kept (s : State) (a1) (a2) (a3) : (State.portBefore s a1 a2 a3).kept = s.kept := by
  unfold State.portBefore; grind [State.kept, foldl_kept, State.portDrain_kept, State.portFlush_kept, State.portFlushAll_kept]

theorem State.lduOp_kept (s : State) (a1) (a2) (a3) (a4) : (State.lduOp s a1 a2 a3 a4).kept = s.kept := by
  unfold State.lduOp; grind [State.kept, foldl_kept, State.stall_kept, State.scalarError_kept, State.memRead_kept, State.portBefore_kept, State.retire_kept, State.modCore_kept]

theorem State.syiOp_kept (s : State) (a1) (a2) (a3) (a4) : (State.syiOp s a1 a2 a3 a4).kept = s.kept := by
  unfold State.syiOp; grind [State.kept, foldl_kept, State.stall_kept, State.badFence_kept, State.scalarError_kept, State.relDone_kept, State.syncInc_kept, State.retire_kept, State.countFence_kept]

theorem State.syrOp_kept (s : State) (a1) (a2) (a3) : (State.syrOp s a1 a2 a3).kept = s.kept := by
  unfold State.syrOp; grind [State.kept, foldl_kept, State.stall_kept, State.scalarError_kept, State.retire_kept, State.modCore_kept]

theorem State.judgeSyw_kept (s : State) (a1) (a2) (a3) : (State.judgeSyw s a1 a2 a3).kept = s.kept := by
  unfold State.judgeSyw; grind [State.kept, foldl_kept, State.wr_kept, State.raiseCtx_kept]

theorem State.sywEnd_kept (s : State) (a1) (a2) (a3) : (State.sywEnd s a1 a2 a3).kept = s.kept := by
  unfold State.sywEnd; grind [State.kept, foldl_kept, State.retire_kept, State.countFence_kept, State.acqDone_kept, State.judgeSyw_kept]

theorem State.sywOp_kept (s : State) (a1) (a2) (a3) (a4) : (State.sywOp s a1 a2 a3 a4).kept = s.kept := by
  unfold State.sywOp; grind [State.kept, foldl_kept, State.stall_kept, State.badFence_kept, State.scalarError_kept, State.sywEnd_kept]

theorem State.customOp_kept (s : State) (a1) (a2) : (State.customOp s a1 a2).kept = s.kept := by
  unfold State.customOp; grind [State.kept, foldl_kept, State.fenceOp_kept, State.badFence_kept, State.syiOp_kept, State.sywOp_kept, State.syrOp_kept, State.lduOp_kept]

theorem State.cydTimes_kept (s : State) (a1) : (State.cydTimes s a1).kept = s.kept := by
  unfold State.cydTimes; grind [State.kept, foldl_kept, State.highWater_kept, State.setFld_kept]

theorem State.cyqOp_kept (s : State) (a1) (a2) (a3) : (State.cyqOp s a1 a2 a3).kept = s.kept := by
  unfold State.cyqOp; grind [State.kept, foldl_kept, State.nextSeq_kept, State.retire_kept, State.yardErr_kept, State.stall_kept, State.scbAdd_kept, State.modYard_kept]

theorem State.relay_kept (s : State) (a1) (a2) (a3) : (State.relay s a1 a2 a3).kept = s.kept := by
  unfold State.relay; grind [State.kept, foldl_kept, State.dropBarge_kept, State.offer_kept]

theorem State.rwApply_kept (s : State) (a1) (a2) (a3) : (State.rwApply s a1 a2 a3).kept = s.kept := by
  unfold State.rwApply; grind [State.kept, foldl_kept, State.memWrite_kept, State.fceCount_kept, State.raiseCtx_kept, State.modMem_kept, State.sendBarge_kept]

theorem State.rwDrain_kept (s : State) (a1) (a2) (a3) : (State.rwDrain s a1 a2 a3).kept = s.kept := by
  unfold State.rwDrain; grind [State.kept, foldl_kept, State.modPlan_kept, State.rwApply_kept]

theorem State.dataIn_kept (s : State) a b c f (h : ∀ s i j, (f s i j).kept = s.kept) : (s.dataIn a b c f).kept = s.kept := by
  unfold State.dataIn; grind [State.kept, foldl_kept, State.bargeIn_kept, State.relay_kept, State.dropBarge_kept, State.rwDrain_kept]

theorem State.dataBarge_kept (s : State) (a1) (a2) (a3) : (s.dataBarge a1 a2 a3).kept = s.kept := by
  unfold State.dataBarge
  split
  · exact State.hold_kept s _
  · exact State.dataIn_kept s _ _ _ _ (fun s i j => State.collIn_kept s i j _)

theorem State.dbgAccept_kept (s : State) (a1) : (State.dbgAccept s a1).kept = s.kept := by
  unfold State.dbgAccept; grind [State.kept, foldl_kept, State.wr_kept]

theorem State.dbgRefuse_kept (s : State) (a1) : (State.dbgRefuse s a1).kept = s.kept := by
  unfold State.dbgRefuse; grind [State.kept, foldl_kept, State.wr_kept, State.raisePage_kept]

theorem State.dcachePiece_kept (s : State) (a1) (a2) (a3) (a4) (a5) : (State.dcachePiece s a1 a2 a3 a4 a5).1.kept = s.kept := by
  unfold State.dcachePiece; grind [State.kept, foldl_kept, State.draw_kept, State.count_kept, State.readPieces_kept, State.modCore_kept]

theorem State.dcachePieces_kept (s : State) (a1) (a2) (a3) (a4) (a5) : (State.dcachePieces s a1 a2 a3 a4 a5).1.kept = s.kept := by
  fun_induction State.dcachePieces s a1 a2 a3 a4 a5 <;> grind [State.kept, foldl_kept, State.dcachePiece_kept]

theorem State.dcacheRead_kept (s : State) (a1) (a2) (a3) (a4) : (State.dcacheRead s a1 a2 a3 a4).1.kept = s.kept := by
  unfold State.dcacheRead; grind [State.kept, foldl_kept, State.raiseCtx_kept, State.dcachePieces_kept]

theorem State.dcinvOp_kept (s : State) (a1) : (State.dcinvOp s a1).kept = s.kept := by
  unfold State.dcinvOp; grind [State.kept, foldl_kept, State.retire_kept, State.dcacheInval_kept]

theorem State.escalate_kept (s : State) (a1) : (State.escalate s a1).kept = s.kept := by
  unfold State.escalate; grind [State.kept, foldl_kept, State.raisePage_kept, State.condemn_kept, State.askRestart_kept]

theorem State.declareHang_kept (s : State) : (State.declareHang s).kept = s.kept := by
  unfold State.declareHang; grind [State.kept, foldl_kept, State.raise_kept, State.count_kept, State.updAlert_kept, State.trigCapture_kept, State.escalate_kept]

theorem State.dmWrite_kept (s : State) (a1) (a2) (a3) : (State.dmWrite s a1 a2 a3).1.kept = s.kept := by
  fun_induction State.dmWrite s a1 a2 a3 <;> grind [State.kept, foldl_kept, State.memWrite_kept]

theorem State.dmApply_kept (s : State) (a1) (a2) (a3) : (State.dmApply s a1 a2 a3).1.kept = s.kept := by
  unfold State.dmApply; grind [State.kept, foldl_kept, State.yardErr_kept, State.dmWrite_kept, State.modYard_kept, State.atomApply_kept, State.wharfWrite_kept]

theorem State.rwSend_kept (s : State) (a1) (a2) (a3) (a4) : (State.rwSend s a1 a2 a3 a4).2.kept = s.kept := by
  fun_induction State.rwSend s a1 a2 a3 a4 <;> grind [State.kept, foldl_kept, State.takeSeq_kept, State.offer_kept]

theorem State.rwStart_kept (s : State) (a1) (a2) (a3) (a4) : (State.rwStart s a1 a2 a3 a4).kept = s.kept := by
  unfold State.rwStart; grind [State.kept, foldl_kept, State.modCore_kept, State.rwSend_kept]

theorem State.dmBegin_kept (s : State) (a1) (a2) (a3) (a4) (a5) : (State.dmBegin s a1 a2 a3 a4 a5).kept = s.kept := by
  unfold State.dmBegin; grind [State.kept, foldl_kept, State.modCore_kept, State.rwStart_kept]

theorem State.dmFinish_kept (s : State) (a1) (a2) : (State.dmFinish s a1 a2).kept = s.kept := by
  unfold State.dmFinish; grind [State.kept, foldl_kept, State.scbRelease_kept, State.modCore_kept]

theorem State.dmReject_kept (s : State) (a1) (a2) (a3) (a4) : (State.dmReject s a1 a2 a3 a4).kept = s.kept := by
  unfold State.dmReject; grind [State.kept, foldl_kept, State.wr_kept, State.raiseCtx_kept]

theorem State.dmStop_kept (s : State) (a1) (a2) (a3) : (State.dmStop s a1 a2 a3).kept = s.kept := by
  unfold State.dmStop; grind [State.kept, foldl_kept, State.dmFinish_kept, State.dmReject_kept]

theorem State.dmSyncInc_kept (s : State) (a1) (a2) (a3) : (State.dmSyncInc s a1 a2 a3).kept = s.kept := by
  unfold State.dmSyncInc; grind [State.kept, foldl_kept, State.syncInc_kept]

theorem State.dmComplete_kept (s : State) (a1) (a2) : (State.dmComplete s a1 a2).kept = s.kept := by
  unfold State.dmComplete; grind [State.kept, foldl_kept, State.dmApply_kept, State.dmStop_kept, State.dmSyncInc_kept, State.dmFinish_kept, State.count64_kept]

theorem State.dmRead_kept (s : State) (a1) (a2) (a3) (a4) (a5) : (State.dmRead s a1 a2 a3 a4 a5).1.kept = s.kept := by
  fun_induction State.dmRead s a1 a2 a3 a4 a5 <;> grind [State.kept, foldl_kept, State.memRead_kept]

theorem State.dmStart_kept (s : State) (a1) (a2) (a3) : (State.dmStart s a1 a2 a3).kept = s.kept := by
  unfold State.dmStart; grind [State.kept, foldl_kept, State.dmStop_kept, State.yardErr_kept, State.dmFinish_kept, State.dmRead_kept, State.portBefore_kept, State.dmBegin_kept]

theorem State.torn_kept (s : State) (a1) (a2) : (State.torn s a1 a2).1.kept = s.kept := by
  fun_induction State.torn s a1 a2 <;> grind [State.kept, foldl_kept, State.draw_kept]

theorem State.dmTear_kept (s : State) (a1) (a2) (a3) : (State.dmTear s a1 a2 a3).kept = s.kept := by
  unfold State.dmTear; grind [State.kept, foldl_kept, State.torn_kept, State.wharfWrite_kept, State.modMem_kept, State.draw_kept, State.atomApply_kept]

theorem State.dmaStart_kept (s : State) (a1) : (State.dmaStart s a1).kept = s.kept := by
  unfold State.dmaStart; grind [State.kept, foldl_kept, State.dmStart_kept, State.modCore_kept]

theorem State.dmqOp_kept (s : State) (a1) (a2) (a3) : (State.dmqOp s a1 a2 a3).kept = s.kept := by
  unfold State.dmqOp; grind [State.kept, foldl_kept, State.stall_kept, State.nextSeq_kept, State.retire_kept, State.dmReject_kept, State.scbAdd_kept, State.modCore_kept]

theorem State.domainHeat_kept (s : State) (a1) : (State.domainHeat s a1).kept = s.kept := by
  unfold State.domainHeat; grind [State.kept, foldl_kept, State.modDom_kept, State.wr_kept, State.raisePage_kept]

theorem State.drainDone_kept (s : State) (a1) (a2) : (State.drainDone s a1 a2).kept = s.kept := by
  unfold State.drainDone; grind [State.kept, foldl_kept, State.modCore_kept, State.scbRelease_kept]

theorem State.drainNan_kept (s : State) (a1) (a2) (a3) (a4) (a5) (a6) (a7) : (State.drainNan s a1 a2 a3 a4 a5 a6 a7).kept = s.kept := by
  unfold State.drainNan; grind [State.kept, foldl_kept, State.reportCore_kept, State.draw_kept]

theorem State.drainSat_kept (s : State) (a1) (a2) (a3) (a4) (a5) : (State.drainSat s a1 a2 a3 a4 a5).1.kept = s.kept := by
  unfold State.drainSat; grind [State.kept, foldl_kept, State.fillRec_kept, State.raiseCtx_kept]

theorem State.drainRow_kept (s : State) (a1) (a2) (a3) (a4) (a5) : (State.drainRow s a1 a2 a3 a4 a5).1.kept = s.kept := by
  unfold State.drainRow; grind [State.kept, foldl_kept, State.drainNan_kept, State.drainSat_kept, State.countDrn_kept, State.count64_kept]

theorem State.drainCarts_kept (s : State) (a1) (a2) (a3) (a4) (a5) : (State.drainCarts s a1 a2 a3 a4 a5).kept = s.kept := by
  fun_induction State.drainCarts s a1 a2 a3 a4 a5
  case case1 => rfl
  case case2 => exact State.drainDone_kept _ _ _
  case case3 => rfl
  case case4 s fuel it _ _ _ n s1 it1 bytes hs _ _ s2 s3 ih =>
    have h := foldl_fst_kept (fun (p : State × DrainItem × List Byte) i => ((p.1.drainRow a1 a2 p.2.1 a3 (it.next + i)).1, (p.1.drainRow a1 a2 p.2.1 a3 (it.next + i)).2.1, p.2.2 ++ (p.1.drainRow a1 a2 p.2.1 a3 (it.next + i)).2.2)) (List.range n) (s, it, []) (fun p a => State.drainRow_kept _ _ _ _ _ _)
    rw [hs] at h
    rw [ih]; exact (State.highWater_kept _ _ _ _ _ _ _).trans ((State.modCore_kept _ _ _).trans h)

theorem State.drainRows_kept (s : State) (a1) (a2) (a3) (a4) (a5) : (State.drainRows s a1 a2 a3 a4 a5).kept = s.kept := by
  fun_induction State.drainRows s a1 a2 a3 a4 a5 <;> grind [State.kept, foldl_kept, State.drainDone_kept, State.drainDone_kept, State.raiseCtx_kept, State.drainRow_kept, State.wharfWrite_kept]

theorem State.drainBank_kept (s : State) (a1) : (State.drainBank s a1).kept = s.kept := by
  unfold State.drainBank; grind [State.kept, foldl_kept, State.modCore_kept, State.drainRows_kept, State.drainCarts_kept]

theorem State.drawFrame_kept (s : State) (a1) : (State.drawFrame s a1).2.kept = s.kept := by
  unfold State.drawFrame; grind [State.kept, foldl_kept, State.draw_kept]

theorem State.drawIndex_kept (s : State) : (State.drawIndex s).2.kept = s.kept := by
  unfold State.drawIndex; grind [State.kept, foldl_kept, State.draw_kept]

theorem State.setPlan_kept (s : State) (a1) (a2) (a3) : (State.setPlan s a1 a2 a3).kept = s.kept := by
  unfold State.setPlan; grind [State.kept, foldl_kept, State.logEvent_kept, State.modDom_kept]

theorem State.droopStep_kept (s : State) (a1) : (State.droopStep s a1).kept = s.kept := by
  unfold State.droopStep; grind [State.kept, foldl_kept, State.setPlan_kept, State.raisePage_kept, State.modDom_kept]

theorem State.dropCarts_kept (s : State) (a1) (a2) : (State.dropCarts s a1 a2).kept = s.kept := by
  unfold State.dropCarts; grind [State.kept, foldl_kept, State.count_kept, State.modCore_kept, State.raiseCtx_kept]

theorem State.dsetOp_kept (s : State) (a1) (a2) (a3) : (State.dsetOp s a1 a2 a3).kept = s.kept := by
  unfold State.dsetOp; grind [State.kept, foldl_kept, State.stall_kept, State.retire_kept, State.badDesc_kept, State.modCore_kept]

theorem State.edgeFence_kept (s : State) : (State.edgeFence s).kept = s.kept := by
  unfold State.edgeFence; grind [State.kept, foldl_kept, State.portFlushAll_kept]

theorem State.forgetPounds_kept (s : State) (a1) : (State.forgetPounds s a1).kept = s.kept := by
  unfold State.forgetPounds; grind [State.kept, foldl_kept]

theorem State.tearStore_kept (s : State) (a1) (a2) : (State.tearStore s a1 a2).kept = s.kept := by
  unfold State.tearStore; grind [State.kept, foldl_kept, State.torn_kept, State.modMem_kept]

theorem State.removeCore_kept (s : State) (a1) (a2) : (State.removeCore s a1 a2).kept = s.kept := by
  unfold State.removeCore; grind [State.kept, foldl_kept, State.dmTear_kept, State.tearStore_kept, State.modCore_kept]

theorem State.rtRemove_kept (s : State) (a1) : (State.rtRemove s a1).kept = s.kept := by
  unfold State.rtRemove; grind [State.kept, foldl_kept, State.rtFree_kept]

theorem State.smpDrop_kept (s : State) (a1) : (State.smpDrop s a1).kept = s.kept := by
  unfold State.smpDrop; grind [State.kept, foldl_kept]

theorem State.yardDrop_kept (s : State) (a1) : (State.yardDrop s a1).kept = s.kept := by
  unfold State.yardDrop; grind [State.kept, foldl_kept, State.modYard_kept]

theorem State.removeWork_kept (s : State) (a1) (a2) : (State.removeWork s a1 a2).kept = s.kept := by
  unfold State.removeWork; grind [State.kept, foldl_kept, State.modCluster_kept, State.removeCore_kept, State.smpDrop_kept, State.rtRemove_kept, State.yardDrop_kept]

theorem State.scrubRecord_kept (s : State) (a1) (a2) : (State.scrubRecord s a1 a2).kept = s.kept := by
  unfold State.scrubRecord; grind [State.kept, foldl_kept, State.modCtx_kept, State.wr_kept, State.count_kept, State.emit_kept]

theorem State.stopPlans_kept (s : State) (a1) (a2) : (State.stopPlans s a1 a2).kept = s.kept := by
  unfold State.stopPlans; grind [State.kept, foldl_kept, State.modPlan_kept]

theorem State.edgeStep2_kept (s : State) (a1) (a2) (a3) : (State.edgeStep2 s a1 a2 a3).kept = s.kept := by
  unfold State.edgeStep2; grind [State.kept, foldl_kept, State.addTotals_kept, State.removeWork_kept, State.forgetPounds_kept, State.stopPlans_kept, State.edgeFence_kept, State.scrubRecord_kept]

theorem State.scrubStorm_kept (s : State) (a1) : (State.scrubStorm s a1).kept = s.kept := by
  unfold State.scrubStorm; grind [State.kept, foldl_kept, State.raiseCtx_kept]

theorem State.thermalLimit_kept (s : State) : (State.thermalLimit s).kept = s.kept := by
  unfold State.thermalLimit; grind [State.kept, foldl_kept, State.modDom_kept, State.count_kept]

theorem State.edgeStep3_kept (s : State) (a1) (a2) : (State.edgeStep3 s a1 a2).kept = s.kept := by
  unfold State.edgeStep3; grind [State.kept, foldl_kept, State.thermalLimit_kept, State.planStep3_kept, State.applyStaged_kept, State.capChanged_kept, State.powerRecompute_kept, State.scrubStorm_kept]

theorem State.srvAfterYard_kept (s : State) (a1) : (State.srvAfterYard s a1).kept = s.kept := by
  unfold State.srvAfterYard; grind [State.kept, foldl_kept, State.respond_kept, State.modBerth_kept, State.yardRelease_kept, State.yardOpen_kept]

theorem State.yardDecide_kept (s : State) (a1) (a2) : (State.yardDecide s a1 a2).kept = s.kept := by
  unfold State.yardDecide; grind [State.kept, foldl_kept, State.count_kept]

theorem State.yardTrim_kept (s : State) (a1) (a2) (a3) : (State.yardTrim s a1 a2 a3).kept = s.kept := by
  unfold State.yardTrim; grind [State.kept, foldl_kept, State.modYard_kept, State.count_kept, State.yardErr_kept]

theorem State.yardEdge_kept (s : State) (a1) (a2) : (State.yardEdge s a1 a2).kept = s.kept := by
  unfold State.yardEdge; grind [State.kept, foldl_kept, State.yardDecide_kept, State.yardTrim_kept]

theorem State.edgeStep4_kept (s : State) (a1) (a2) (a3) : (State.edgeStep4 s a1 a2 a3).kept = s.kept := by
  unfold State.edgeStep4; grind [State.kept, foldl_kept, State.cydTimes_kept, State.yardEdge_kept, State.srvAfterYard_kept]

theorem State.grantCluster_kept (s : State) (a1) (a2) : (State.grantCluster s a1 a2).kept = s.kept := by
  unfold State.grantCluster; grind [State.kept, foldl_kept, State.count_kept, State.zeroCluster_kept, State.modCluster_kept]

theorem State.grantCand_kept (s : State) (a1) (a2) (a3) : (State.grantCand s a1 a2 a3).kept = s.kept := by
  unfold State.grantCand; grind [State.kept, foldl_kept, State.grantCluster_kept, State.setFld_kept, State.modCtx_kept, State.trace_kept, State.admitStep_kept, State.verifyLater_kept]

theorem State.grantAll_kept (s : State) (a1) (a2) (a3) (a4) : (State.grantAll s a1 a2 a3 a4).1.kept = s.kept := by
  fun_induction State.grantAll s a1 a2 a3 a4 <;> grind [State.kept, foldl_kept, State.grantCand_kept, State.skipCand_kept]

theorem State.edgeAdmit_kept (s : State) (a1) (a2) (a3) (a4) : (State.edgeAdmit s a1 a2 a3 a4).kept = s.kept := by
  unfold State.edgeAdmit; grind [State.kept, foldl_kept, State.classifyAll_kept, State.grantAll_kept, State.setFld_kept]

theorem State.openClusters_kept (s : State) : (State.openClusters s).kept = s.kept := by
  unfold State.openClusters; grind [State.kept, foldl_kept, State.setFld_kept]

theorem State.releaseGrants_kept (s : State) : (State.releaseGrants s).kept = s.kept := by
  unfold State.releaseGrants; grind [State.kept, foldl_kept]

theorem State.edgeStep5_kept (s : State) (a1) (a2) (a3) : (State.edgeStep5 s a1 a2 a3).kept = s.kept := by
  unfold State.edgeStep5; grind [State.kept, foldl_kept, State.openClusters_kept, State.edgeAdmit_kept, State.releaseGrants_kept]

theorem State.gaugeSnap_kept (s : State) : (State.gaugeSnap s).kept = s.kept := by
  unfold State.gaugeSnap; grind [State.kept, foldl_kept, State.draw_kept]

theorem State.edgeStep7_kept (s : State) (a1) (a2) : (State.edgeStep7 s a1 a2).kept = s.kept := by
  unfold State.edgeStep7; grind [State.kept, foldl_kept, State.highWater_kept, State.setFld_kept, State.raisePage_kept, State.gaugeSnap_kept, State.beatCheck_kept]

theorem State.enterHoldover_kept (s : State) : (State.enterHoldover s).kept = s.kept := by
  unfold State.enterHoldover; grind [State.kept, foldl_kept, State.raisePage_kept, State.setFld_kept]

theorem State.edgeSync_kept (s : State) (a1) (a2) : (State.edgeSync s a1 a2).kept = s.kept := by
  unfold State.edgeSync; grind [State.kept, foldl_kept, State.setFld_kept, State.enterHoldover_kept, State.count_kept]

theorem State.srvJudge_kept (s : State) (a1) (a2) : (State.srvJudge s a1 a2).kept = s.kept := by
  unfold State.srvJudge; grind [State.kept, foldl_kept, State.addToks_kept, State.modBerth_kept, State.modCtx_kept]

theorem State.endStep_kept (s : State) (a1) (a2) : (State.endStep s a1 a2).kept = s.kept := by
  unfold State.endStep; grind [State.kept, foldl_kept, State.trace_kept, State.mergeJudgeAll_kept, State.count_kept, State.srvJudge_kept, State.modCtx_kept]

theorem State.spillStep_kept (s : State) (a1) : (State.spillStep s a1).kept = s.kept := by
  unfold State.spillStep; grind [State.kept, foldl_kept, State.count_kept, State.raiseCtx_kept, State.wr_kept, State.modCtx_kept]

theorem State.judge_kept (s : State) (a1) (a2) (a3) : (State.judge s a1 a2 a3).kept = s.kept := by
  unfold State.judge; grind [State.kept, foldl_kept, State.count_kept, State.endStep_kept, State.spillStep_kept, State.raiseCtx_kept]

theorem State.meterEdge_kept (s : State) : (State.meterEdge s).kept = s.kept := by
  unfold State.meterEdge; grind [State.kept, foldl_kept, State.wr_kept, State.modCtx_kept, State.count64_kept]

theorem State.openPound_kept (s : State) (a1) : (State.openPound s a1).kept = s.kept := by
  unfold State.openPound; grind [State.kept, foldl_kept, State.modCtx_kept]

theorem State.powerLearn_kept (s : State) (a1) : (State.powerLearn s a1).kept = s.kept := by
  unfold State.powerLearn; grind [State.kept, foldl_kept]

theorem State.guardBand_kept (s : State) (a1) (a2) (a3) : (State.guardBand s a1 a2 a3).kept = s.kept := by
  unfold State.guardBand; grind [State.kept, foldl_kept, State.modDom_kept, State.raisePage_kept]

theorem State.fitPoints_kept (s : State) (a1) (a2) : (State.fitPoints s a1 a2).kept = s.kept := by
  unfold State.fitPoints; grind [State.kept, foldl_kept, State.modDom_kept, State.logEvent_kept, State.raisePage_kept]

theorem State.marginStep_kept (s : State) (a1) : (State.marginStep s a1).kept = s.kept := by
  unfold State.marginStep; grind [State.kept, foldl_kept, State.fitPoints_kept, State.modDom_kept]

theorem State.powerStep6_kept (s : State) (a1) : (State.powerStep6 s a1).kept = s.kept := by
  unfold State.powerStep6; grind [State.kept, foldl_kept, State.applyPoint_kept, State.guardBand_kept, State.droopStep_kept, State.applyRefresh_kept, State.marginStep_kept]

theorem State.setPhase_kept (s : State) (a1) : (State.setPhase s a1).kept = s.kept := by
  unfold State.setPhase; grind [State.kept, foldl_kept]

theorem State.setTick_kept (s : State) (a1) : (State.setTick s a1).kept = s.kept := by
  unfold State.setTick; grind [State.kept, foldl_kept]

theorem State.edgeSteps_kept (s : State) (a1) (a2) (a3) : (State.edgeSteps s a1 a2 a3).kept = s.kept := by
  unfold State.edgeSteps; grind [State.kept, foldl_kept, State.closePound_kept, State.meterEdge_kept, State.edgeSync_kept, State.setTick_kept, State.emit_kept, State.powerLearn_kept, State.judge_kept, State.edgeStep2_kept, State.openPound_kept, State.edgeStep4_kept, State.edgeStep3_kept, State.powerStep6_kept, State.edgeStep5_kept, State.setPhase_kept, State.edgeStep7_kept]

theorem State.flightCheck_kept (s : State) : (State.flightCheck s).kept = s.kept := by
  unfold State.flightCheck; grind [State.kept, foldl_kept, State.checkFlight_kept]

theorem State.finishVerify_kept (s : State) (a1) (a2) : (State.finishVerify s a1 a2).kept = s.kept := by
  unfold State.finishVerify; grind [State.kept, foldl_kept, State.modCtx_kept, State.addDeficit_kept, State.skipSlot_kept, State.admitStep_kept]

theorem State.finishVerifies_kept (s : State) (a1) : (State.finishVerifies s a1).kept = s.kept := by
  unfold State.finishVerifies; grind [State.kept, foldl_kept, State.finishVerify_kept]

theorem State.judgeLate_kept (s : State) (a1) : (State.judgeLate s a1).kept = s.kept := by
  unfold State.judgeLate; grind [State.kept, foldl_kept, State.modCtx_kept, State.sendNotice_kept]

theorem State.guardOpen_kept (s : State) : (State.guardOpen s).kept = s.kept := by
  unfold State.guardOpen; grind [State.kept, foldl_kept, State.finishVerifies_kept, State.checkGuard_kept, State.judgeLate_kept]

theorem State.edge_kept (s : State) (a1) (a2) : (State.edge s a1 a2).kept = s.kept := by
  unfold State.edge; grind [State.kept, foldl_kept, State.guardOpen_kept, State.flightCheck_kept, State.edgeSteps_kept]

theorem State.endBerth_kept (s : State) (a1) (a2) : (State.endBerth s a1 a2).kept = s.kept := by
  unfold State.endBerth; grind [State.kept, foldl_kept, State.count_kept, State.modBerth_kept, State.yardRelease_kept]

theorem State.enterRetain_kept (s : State) : (State.enterRetain s).kept = s.kept := by
  unfold State.enterRetain; grind [State.kept, foldl_kept, State.modMem_kept, State.modDom_kept, State.dropLink_kept]

theorem State.fcqOp_kept (s : State) (a1) (a2) : (State.fcqOp s a1 a2).kept = s.kept := by
  unfold State.fcqOp; grind (splits := 40) (ematch := 20) (gen := 20) [State.kept, foldl_kept, State.stall_kept, State.retire_kept, State.badColl_kept, State.relDone_kept, State.readColl_kept, State.memRead_kept, State.modCtx_kept, State.needInst_kept, State.modInst_kept, State.collAdvance_kept]

theorem State.fetchBytes_kept (s : State) (a1) (a2) (a3) : (State.fetchBytes s a1 a2 a3).1.kept = s.kept := by
  unfold State.fetchBytes; grind [State.kept, foldl_kept, State.memRead_kept, State.portBefore_kept]

theorem State.modExch_kept (s : State) (a1) (a2) (a3) (a4) : (State.modExch s a1 a2 a3 a4).kept = s.kept := by
  unfold State.modExch; grind [State.kept, foldl_kept]

theorem State.rtServe_kept (s : State) (a1) (a2) (a3) (a4) (a5) (a6) : (State.rtServe s a1 a2 a3 a4 a5 a6).kept = s.kept := by
  unfold State.rtServe; grind [State.kept, foldl_kept, State.sendBarge_kept, State.raiseCtx_kept, State.memRead_kept, State.draw_kept, State.count64_kept, State.count_kept]

theorem State.fetchReqBarge_kept (s : State) (a1) (a2) (a3) : (s.fetchReqBarge a1 a2 a3).kept = s.kept := by
  unfold State.fetchReqBarge
  split
  · exact State.hold_kept s _
  · refine State.dataIn_kept s _ _ _ _ (fun s i j => ?_)
    dsimp only
    generalize (⟨a2, a3⟩ : Barge) = b
    refine (foldl_kept _ _ _ fun s r => State.rtServe_kept s _ _ _ _ _ _).trans ?_
    split
    · rfl
    · exact State.modExch_kept s _ _ _ _

theorem State.gaugeAccept_kept (s : State) (a1) (a2) : (State.gaugeAccept s a1 a2).kept = s.kept := by
  unfold State.gaugeAccept; grind [State.kept, foldl_kept, State.modCtx_kept, State.gaugeSnap_kept]

theorem State.linkEnable_kept (s : State) (a1) : (State.linkEnable s a1).kept = s.kept := by
  unfold State.linkEnable; grind [State.kept, foldl_kept, State.portsCheck_kept, State.modLink_kept, State.raisePage_kept, State.wr_kept, State.count_kept]

theorem State.writeReg_kept (s : State) (a1) (a2) (a3) (a4) : (State.writeReg s a1 a2 a3 a4).kept = s.kept := by
  unfold State.writeReg; grind [State.kept, foldl_kept, State.applyField_kept, State.linkEnable_kept, State.wr_kept, State.accessError_kept, State.updAlert_kept]

theorem State.gaugeRequest_kept (s : State) (a1) (a2) : (State.gaugeRequest s a1 a2).kept = s.kept := by
  unfold State.gaugeRequest; grind [State.kept, foldl_kept, State.writeReg_kept, State.accessError_kept, State.gaugeAccept_kept]

theorem State.gaugeWrite_kept (s : State) (a1) (a2) (a3) (a4) (a5) : (State.gaugeWrite s a1 a2 a3 a4 a5).kept = s.kept := by
  unfold State.gaugeWrite; grind [State.kept, foldl_kept, State.raise_kept, State.setFld_kept, State.memWrite_kept, State.emit_kept]

theorem State.idleRails_kept (s : State) : (State.idleRails s).kept = s.kept := by
  unfold State.idleRails; grind [State.kept, foldl_kept, State.modDom_kept]

theorem State.inject_kept (s : State) (a1) (a2) : (State.inject s a1 a2).kept = s.kept := by
  unfold State.inject; grind [State.kept, foldl_kept, State.accessError_kept, State.raise_kept]

theorem State.jump_kept (s : State) (a1) (a2) (a3) (a4) : (State.jump s a1 a2 a3 a4).kept = s.kept := by
  unfold State.jump; grind [State.kept, foldl_kept, State.modCore_kept]

theorem State.kernelEnd_kept (s : State) (a1) (a2) (a3) : (State.kernelEnd s a1 a2 a3).kept = s.kept := by
  unfold State.kernelEnd; grind [State.kept, foldl_kept, State.stall_kept, State.dropCarts_kept, State.modCore_kept, State.checkDone_kept, State.trace_kept]

theorem State.lateBarge_kept (s : State) (a1) (a2) (a3) : (s.lateBarge a1 a2 a3).kept = s.kept := by
  unfold State.lateBarge
  split
  · exact State.hold_kept s _
  · generalize (⟨a2, a3⟩ : Barge) = b
    dsimp only
    have hb := State.bargeIn_kept s 6 a1 b
    generalize s.bargeIn 6 a1 b = r at hb ⊢
    obtain ⟨s1, _ | i⟩ := r
    · exact hb
    have h2 : (if b.hops = 0 then s1 else s1.floodBarge i (b.setFld 2 24 4 (b.hops - 1)) (s1.portOf a1)).kept = s.kept := by
      split
      · exact hb
      · exact (State.floodBarge_kept _ _ _ _).trans hb
    dsimp only
    generalize (if b.hops = 0 then s1 else _) = s2 at h2 ⊢
    split
    · exact (State.flightAbort_kept _ _ _ _ _ _ _).trans ((State.raise_kept _ _).trans h2)
    · exact (State.modPlan_kept _ _ _).trans h2

theorem State.modLaunch_kept (s : State) (a1) (a2) (a3) : (State.modLaunch s a1 a2 a3).kept = s.kept := by
  unfold State.modLaunch; grind [State.kept, foldl_kept, State.modCtx_kept]

theorem State.slipAt_kept (s : State) (a1) (a2) (a3) : (State.slipAt s a1 a2 a3).kept = s.kept := by
  unfold State.slipAt; grind [State.kept, foldl_kept, State.highWater_kept, State.raiseCtx_kept]

theorem State.launchCore_kept (s : State) (a1) (a2) (a3) (a4) (a5) : (State.launchCore s a1 a2 a3 a4 a5).kept = s.kept := by
  unfold State.launchCore; grind [State.kept, foldl_kept, State.raiseCtx_kept, State.dcacheInval_kept, State.modCore_kept, State.modLaunch_kept, State.trace_kept, State.slipAt_kept]

theorem State.launch_kept (s : State) (a1) (a2) (a3) (a4) (a5) : (State.launch s a1 a2 a3 a4 a5).kept = s.kept := by
  unfold State.launch; grind [State.kept, foldl_kept, State.launchCore_kept]

theorem State.lineCorrected_kept (s : State) (a1) : (State.lineCorrected s a1).kept = s.kept := by
  unfold State.lineCorrected; grind [State.kept, foldl_kept, State.modMem_kept, State.count_kept, State.raisePage_kept]

theorem State.linePoisoned_kept (s : State) (a1) (a2) : (State.linePoisoned s a1 a2).kept = s.kept := by
  unfold State.linePoisoned; grind [State.kept, foldl_kept, State.count_kept, State.modMem_kept, State.raisePage_kept]

theorem State.toHoldover_kept (s : State) : (State.toHoldover s).kept = s.kept := by
  unfold State.toHoldover; grind [State.kept, foldl_kept, State.raisePage_kept, State.setFld_kept]

theorem State.linksChanged_kept (s : State) : (State.linksChanged s).kept = s.kept := by
  unfold State.linksChanged; grind [State.kept, foldl_kept, State.portsCheck_kept, State.pump_kept, State.toHoldover_kept]

theorem State.resend_kept (s : State) (a1) : (State.resend s a1).kept = s.kept := by
  unfold State.resend; grind [State.kept, foldl_kept, State.undeliverable_kept, State.count_kept, State.putBarge_kept, State.fceCount_kept]

theorem State.linkDown_kept (s : State) (a1) : (State.linkDown s a1).kept = s.kept := by
  unfold State.linkDown; grind [State.kept, foldl_kept, State.updAlert_kept, State.dropLink_kept, State.linksChanged_kept, State.resend_kept]

theorem State.linkUp_kept (s : State) (a1) : (State.linkUp s a1).kept = s.kept := by
  unfold State.linkUp; grind [State.kept, foldl_kept, State.modLink_kept, State.linksChanged_kept]

theorem State.loadAttempt_kept (s : State) : (State.loadAttempt s).1.kept = s.kept := by
  unfold State.loadAttempt; grind [State.kept, foldl_kept, State.wr_kept, State.copyBad_kept, State.attemptFailed_kept, State.raisePage_kept, State.optResult_kept, State.histEntry_kept, State.applyTrims_kept]

theorem State.scalarFault_kept (s : State) (a1) (a2) : (State.scalarFault s a1 a2).kept = s.kept := by
  unfold State.scalarFault; grind [State.kept, foldl_kept, State.retire_kept, State.raiseCtx_kept]

theorem State.loadOp_kept (s : State) (a1) (a2) (a3) (a4) (a5) : (State.loadOp s a1 a2 a3 a4 a5).kept = s.kept := by
  unfold State.loadOp; grind [State.kept, foldl_kept, State.stall_kept, State.scalarFault_kept, State.retire_kept, State.modCore_kept, State.dcacheRead_kept, State.portBefore_kept]

theorem State.yardCopyBytes_kept (s : State) (a1) (a2) (a3) (a4) (a5) : (State.yardCopyBytes s a1 a2 a3 a4 a5).1.kept = s.kept := by
  unfold State.yardCopyBytes; grind [State.kept, foldl_kept, State.memRead_kept, State.yardErr_kept, State.memWrite_kept]

theorem State.yardCopy_kept (s : State) (a1) (a2) (a3) (a4) : (State.yardCopy s a1 a2 a3 a4).1.kept = s.kept := by
  unfold State.yardCopy; grind [State.kept, foldl_kept, State.yardCopyBytes_kept]

theorem State.makeCoach_kept (s : State) (a1) (a2) : (State.makeCoach s a1 a2).1.kept = s.kept := by
  unfold State.makeCoach; grind [State.kept, foldl_kept, State.drawIndex_kept, State.drawFrame_kept, State.modYard_kept, State.yardCopy_kept]

theorem State.vecOps_kept (s : State) (a1) (a2) : (State.vecOps s a1 a2).kept = s.kept := by
  unfold State.vecOps; grind [State.kept, foldl_kept, State.count64_kept]

theorem State.maskWrite_kept (s : State) (a1) (a2) (a3) (a4) : (State.maskWrite s a1 a2 a3 a4).kept = s.kept := by
  unfold State.maskWrite; grind [State.kept, foldl_kept, State.vecOps_kept, State.modCore_kept]

theorem State.mergeArrive_kept (s : State) (a1) : (State.mergeArrive s a1).kept = s.kept := by
  unfold State.mergeArrive; grind [State.kept, foldl_kept, State.modCluster_kept, State.raiseCtx_kept, State.count_kept]

theorem State.mergeBarge_kept (s : State) (a1) (a2) (a3) : (s.mergeBarge a1 a2 a3).kept = s.kept := by
  unfold State.mergeBarge
  split
  · exact State.hold_kept s _
  · exact State.dataIn_kept s _ _ _ _ (fun s i j => State.collIn_kept s i j _)

theorem State.mergeTally_kept (s : State) (a1) (a2) (a3) (a4) : (State.mergeTally s a1 a2 a3 a4).kept = s.kept := by
  unfold State.mergeTally; grind [State.kept, foldl_kept, State.countAtp_kept, State.count_kept, State.reportCore_kept]

theorem State.mergeToWharf_kept (s : State) (a1) (a2) (a3) (a4) (a5) : (State.mergeToWharf s a1 a2 a3 a4 a5).kept = s.kept := by
  unfold State.mergeToWharf; grind [State.kept, foldl_kept, State.countAtp_kept, State.mergeTally_kept, State.wharfWrite_kept, State.syncInc_kept]

theorem State.mergeDeliver_kept (s : State) (a1) (a2) : (State.mergeDeliver s a1 a2).kept = s.kept := by
  unfold State.mergeDeliver; grind [State.kept, foldl_kept, State.modCluster_kept, State.count64_kept, State.mergeToWharf_kept, State.collLeaf_kept, State.mergeTally_kept]

theorem State.minute_kept (s : State) : (State.minute s).kept = s.kept := by
  unfold State.minute; grind [State.kept, foldl_kept]

theorem State.mxReject_kept (s : State) (a1) (a2) (a3) (a4) (a5) : (State.mxReject s a1 a2 a3 a4 a5).kept = s.kept := by
  unfold State.mxReject; grind [State.kept, foldl_kept, State.wr_kept, State.raiseCtx_kept]

theorem State.mxaHandover_kept (s : State) (a1) : (State.mxaHandover s a1).kept = s.kept := by
  unfold State.mxaHandover; grind [State.kept, foldl_kept, State.modCore_kept, State.scbRelease_kept]

theorem State.mxaOsSwapOut_kept (s : State) (a1) : (State.mxaOsSwapOut s a1).kept = s.kept := by
  unfold State.mxaOsSwapOut; grind [State.kept, foldl_kept, State.modCore_kept, State.scbRelease_kept]

theorem State.mxaShadowFull_kept (s : State) (a1) (a2) : (State.mxaShadowFull s a1 a2).kept = s.kept := by
  unfold State.mxaShadowFull; grind [State.kept, foldl_kept, State.scbRelease_kept, State.modCore_kept]

theorem State.startClaim_kept (s : State) (a1) (a2) : (State.startClaim s a1 a2).kept = s.kept := by
  unfold State.startClaim; grind [State.kept, foldl_kept, State.modCore_kept, State.scbRelease_kept, State.atReject_kept, State.mxReject_kept]

theorem State.osArray_kept (s : State) (a1) (a2) (a3) (a4) (a5) (a6) : (State.osArray s a1 a2 a3 a4 a5 a6).kept = s.kept := by
  unfold State.osArray; grind [State.kept, foldl_kept, State.modCore_kept, State.countMacs_kept, State.countDrn_kept]

theorem State.startOsmul_kept (s : State) (a1) (a2) (a3) : (State.startOsmul s a1 a2 a3).kept = s.kept := by
  unfold State.startOsmul; grind [State.kept, foldl_kept, State.osArray_kept, State.modCore_kept, State.scbRelease_kept]

theorem State.startSload_kept (s : State) (a1) (a2) : (State.startSload s a1 a2).kept = s.kept := by
  unfold State.startSload; grind [State.kept, foldl_kept, State.modCore_kept]

theorem State.wsArray_kept (s : State) (a1) (a2) (a3) (a4) (a5) (a6) : (State.wsArray s a1 a2 a3 a4 a5 a6).kept = s.kept := by
  unfold State.wsArray; grind [State.kept, foldl_kept, State.modCore_kept, State.countMacs_kept, State.countDrn_kept]

theorem State.startWsmul_kept (s : State) (a1) (a2) (a3) : (State.startWsmul s a1 a2 a3).kept = s.kept := by
  unfold State.startWsmul; grind [State.kept, foldl_kept, State.modCore_kept, State.scbRelease_kept, State.mxReject_kept, State.wsArray_kept]

theorem State.mxaStart_kept (s : State) (a1) (a2) : (State.mxaStart s a1 a2).kept = s.kept := by
  unfold State.mxaStart; grind [State.kept, foldl_kept, State.modCore_kept, State.startClaim_kept, State.startSload_kept, State.startWsmul_kept, State.startOsmul_kept, State.scbRelease_kept]

theorem State.mxaSwapEffect_kept (s : State) (a1) (a2) : (State.mxaSwapEffect s a1 a2).kept = s.kept := by
  unfold State.mxaSwapEffect; grind [State.kept, foldl_kept, State.modCore_kept, State.scbRelease_kept]

theorem State.mxqOp_kept (s : State) (a1) (a2) (a3) : (State.mxqOp s a1 a2 a3).kept = s.kept := by
  unfold State.mxqOp; grind [State.kept, foldl_kept, State.stall_kept, State.retire_kept, State.mxReject_kept, State.nextSeq_kept, State.scbAdd_kept, State.modCore_kept, State.highWater_kept]

theorem State.nanArrive_kept (s : State) : (State.nanArrive s).kept = s.kept := by
  unfold State.nanArrive; grind [State.kept, foldl_kept, State.fillRec_kept, State.raise_kept]

theorem State.newNonce_kept (s : State) : (State.newNonce s).kept = s.kept := by
  unfold State.newNonce; grind [State.kept, foldl_kept, State.draw_kept]

theorem State.newSid_kept (s : State) (a1) : (State.newSid s a1).2.kept = s.kept := by
  unfold State.newSid; grind [State.kept, foldl_kept, State.draw_kept]

theorem State.openFrame_kept (s : State) (a1) (a2) : (State.openFrame s a1 a2).kept = s.kept := by
  unfold State.openFrame; grind [State.kept, foldl_kept, State.frameRow_kept]

theorem State.pciFault_kept (s : State) (a1) (a2) : (State.pciFault s a1 a2).kept = s.kept := by
  unfold State.pciFault; grind [State.kept, foldl_kept, State.accessError_kept]

theorem State.planCmd_kept (s : State) (a1) (a2) (a3) (a4) (a5) (a6) : (State.planCmd s a1 a2 a3 a4 a5 a6).kept = s.kept := by
  unfold State.planCmd; grind [State.kept, foldl_kept, State.hold_kept, State.modPlan_kept, State.accessError_kept]

theorem State.planArm_kept (s : State) (a1) (a2) : (State.planArm s a1 a2).kept = s.kept := by
  unfold State.planArm; grind [State.kept, foldl_kept, State.planCmd_kept]

theorem State.planClear_kept (s : State) (a1) (a2) : (State.planClear s a1 a2).kept = s.kept := by
  unfold State.planClear; grind [State.kept, foldl_kept, State.planCmd_kept]

theorem State.planDisarm_kept (s : State) (a1) (a2) : (State.planDisarm s a1 a2).kept = s.kept := by
  unfold State.planDisarm; grind [State.kept, foldl_kept, State.planCmd_kept]

theorem State.planLoad_kept (s : State) (a1) (a2) : (State.planLoad s a1 a2).kept = s.kept := by
  unfold State.planLoad; grind [State.kept, foldl_kept, State.planCmd_kept]

theorem State.planLoaded_kept (s : State) (a1) : (State.planLoaded s a1).kept = s.kept := by
  unfold State.planLoaded; grind [State.kept, foldl_kept, State.modPlan_kept, State.fceRaise_kept, State.setFld_kept, State.memRead_kept, State.portsCheck_kept]

theorem State.pldmSay_kept (s : State) (a1) (a2) : (State.pldmSay s a1 a2).kept = s.kept := by
  unfold State.pldmSay; grind [State.kept, foldl_kept, State.emit_kept]

theorem State.storePieces_kept (s : State) (a1) (a2) (a3) (a4) (a5) : (State.storePieces s a1 a2 a3 a4 a5).1.kept = s.kept := by
  fun_induction State.storePieces s a1 a2 a3 a4 a5 <;> grind [State.kept, foldl_kept, State.xlate_kept, State.memFault_kept]

theorem State.storeRuns_kept (s : State) (a1) (a2) (a3) (a4) : (State.storeRuns s a1 a2 a3 a4).1.kept = s.kept := by
  fun_induction State.storeRuns s a1 a2 a3 a4 <;> grind [State.kept, foldl_kept, State.storePieces_kept]

theorem State.portStore_kept (s : State) (a1) (a2) (a3) : (State.portStore s a1 a2 a3).1.kept = s.kept := by
  unfold State.portStore; grind [State.kept, foldl_kept, State.raiseCtx_kept, State.storeRuns_kept, State.modMem_kept, State.modCore_kept]

theorem State.preread_kept (s : State) (a1) : (State.preread s a1).kept = s.kept := by
  unfold State.preread; grind [State.kept, foldl_kept, State.memRead_kept, State.modCtx_kept]

theorem State.quarantine_kept (s : State) (a1) (a2) : (State.quarantine s a1 a2).kept = s.kept := by
  unfold State.quarantine; grind [State.kept, foldl_kept, State.modLink_kept, State.raisePage_kept, State.linksChanged_kept, State.resend_kept]

theorem State.readMaybe_kept (s : State) (a1) (a2) (a3) : (State.readMaybe s a1 a2 a3).1.kept = s.kept := by
  unfold State.readMaybe; grind [State.kept, foldl_kept, State.memRead_kept]

theorem State.readReg_kept (s : State) (a1) (a2) (a3) : (State.readReg s a1 a2 a3).kept = s.kept := by
  unfold State.readReg; grind [State.kept, foldl_kept]

theorem State.readSensors_kept (s : State) (a1) : (State.readSensors s a1).kept = s.kept := by
  unfold State.readSensors; grind [State.kept, foldl_kept, State.raisePage_kept]

theorem State.stageImage_kept (s : State) (a1) : (State.stageImage s a1).kept = s.kept := by
  unfold State.stageImage; grind [State.kept, foldl_kept]

theorem State.startAttest_kept (s : State) : (State.startAttest s).kept = s.kept := by
  unfold State.startAttest; grind [State.kept, foldl_kept, State.tamper_kept, State.raisePage_kept]

theorem State.startLog_kept (s : State) : (State.startLog s).kept = s.kept := by
  unfold State.startLog; grind [State.kept, foldl_kept, State.modDom_kept, State.fitPoints_kept]

theorem State.startPower_kept (s : State) : (State.startPower s).kept = s.kept := by
  unfold State.startPower; grind [State.kept, foldl_kept, State.idleRails_kept, State.startLog_kept, State.modDom_kept, State.setFld_kept]

theorem State.startReady_kept (s : State) : (State.startReady s).kept = s.kept := by
  unfold State.startReady; grind [State.kept, foldl_kept, State.modCtx_kept, State.wr_kept, State.logEvent_kept]

theorem State.stuck_kept (s : State) : (State.stuck s).kept = s.kept := by
  unfold State.stuck; grind [State.kept, foldl_kept]

theorem State.startRest_kept (s : State) : (State.startRest s).kept = s.kept := by
  unfold State.startRest; grind [State.kept, foldl_kept, State.pickImage_kept, State.startAttest_kept, State.startPower_kept, State.stuck_kept, State.startReady_kept]

theorem State.startOptions_kept (s : State) : (State.startOptions s).kept = s.kept := by
  unfold State.startOptions; grind [State.kept, foldl_kept, State.startRest_kept, State.fallBack_kept, State.optResult_kept, State.loadAttempt_kept]

theorem State.recover_kept (s : State) (a1) : (State.recover s a1).kept = s.kept := by
  unfold State.recover; grind [State.kept, foldl_kept, State.stageImage_kept, State.runImage_kept, State.pldmSay_kept, State.startOptions_kept, State.startReady_kept, State.imageRefused_kept]

theorem State.vecSx_kept (s : State) (a1) (a2) (a3) : (State.vecSx s a1 a2 a3).kept = s.kept := by
  unfold State.vecSx; grind [State.kept, foldl_kept, State.modCore_kept]

theorem State.redWrite_kept (s : State) (a1) (a2) (a3) : (State.redWrite s a1 a2 a3).kept = s.kept := by
  unfold State.redWrite; grind [State.kept, foldl_kept, State.vecSx_kept, State.modCore_kept]

theorem State.rwAcked_kept (s : State) (a1) (a2) (a3) : (State.rwAcked s a1 a2 a3).kept = s.kept := by
  unfold State.rwAcked; grind [State.kept, foldl_kept, State.flightAbort_kept, State.dmStop_kept, State.modCore_kept]

theorem State.rwackBarge_kept (s : State) (a1) (a2) (a3) : (State.rwackBarge s a1 a2 a3).kept = s.kept := by
  unfold State.rwackBarge; grind [State.kept, foldl_kept, State.hold_kept, State.dataIn_kept, State.rwAcked_kept]

theorem State.rwriteBarge_kept (s : State) (a1) (a2) (a3) : (State.rwriteBarge s a1 a2 a3).kept = s.kept := by
  unfold State.rwriteBarge; grind [State.kept, foldl_kept, State.hold_kept, State.dataIn_kept, State.modPlan_kept]

theorem State.startTick_kept (s : State) : (State.startTick s).kept = s.kept := by
  unfold State.startTick; grind [State.kept, foldl_kept, State.applyStopped_kept, State.setFld_kept]

theorem State.tickStart_kept (s : State) (a1) (a2) : (State.tickStart s a1 a2).kept = s.kept := by
  unfold State.tickStart; grind [State.kept, foldl_kept, State.accessError_kept, State.startTick_kept]

theorem State.tickStop_kept (s : State) (a1) (a2) : (State.tickStop s a1 a2).kept = s.kept := by
  unfold State.tickStop; grind [State.kept, foldl_kept, State.accessError_kept]

theorem State.rtSync_kept (s : State) (a1) (a2) (a3) : (State.rtSync s a1 a2 a3).kept = s.kept := by
  unfold State.rtSync; grind [State.kept, foldl_kept, State.syncInc_kept]

theorem State.rtLand_kept (s : State) (a1) (a2) : (State.rtLand s a1 a2).kept = s.kept := by
  unfold State.rtLand; grind [State.kept, foldl_kept, State.memWrite_kept, State.rteError_kept, State.rtSync_kept]

theorem State.rtWriteDir_kept (s : State) (a1) (a2) : (State.rtWriteDir s a1 a2).1.kept = s.kept := by
  fun_induction State.rtWriteDir s a1 a2 <;> grind [State.kept, foldl_kept, State.memWrite_kept]

theorem State.rtFetchEnd_kept (s : State) (a1) (a2) : (State.rtFetchEnd s a1 a2).kept = s.kept := by
  unfold State.rtFetchEnd; grind [State.kept, foldl_kept, State.raiseCtx_kept, State.count_kept, State.rtWriteDir_kept, State.rteError_kept, State.rtLand_kept]

theorem State.rtWeight_kept (s : State) (a1) : (State.rtWeight s a1).kept = s.kept := by
  unfold State.rtWeight; grind [State.kept, foldl_kept, State.raiseCtx_kept, State.rtFetchEnd_kept, State.memWrite_kept, State.rteError_kept]

theorem State.rtDrain_kept (s : State) : (State.rtDrain s).kept = s.kept := by
  unfold State.rtDrain; grind [State.kept, foldl_kept, State.rtWeight_kept]

theorem State.weightBarge_kept (s : State) (a1) (a2) (a3) : (State.weightBarge s a1 a2 a3).kept = s.kept := by
  unfold State.weightBarge; grind [State.kept, foldl_kept, State.hold_kept, State.dataIn_kept, State.count64_kept, State.rtDrain_kept]

theorem State.rerun_kept (s : State) (a1) : (State.rerun s a1).kept = s.kept := by
  unfold State.rerun; grind [State.kept, foldl_kept, State.dataBarge_kept, State.mergeBarge_kept, State.fetchReqBarge_kept, State.weightBarge_kept, State.rwriteBarge_kept, State.rwackBarge_kept, State.lateBarge_kept, State.abortBarge_kept, State.ackBarge_kept, State.planLoad_kept, State.planArm_kept, State.planDisarm_kept, State.planClear_kept, State.openFrame_kept, State.appendFrame_kept, State.cancelFrame_kept, State.tickStart_kept, State.tickStop_kept]

theorem State.ringDrain_kept (s : State) (a1) (a2) : (State.ringDrain s a1 a2).kept = s.kept := by
  fun_induction State.ringDrain s a1 a2 <;> grind [State.kept, foldl_kept, State.outWrite_kept, State.modCtx_kept]

theorem State.rtCommit_kept (s : State) (a1) (a2) (a3) : (State.rtCommit s a1 a2 a3).kept = s.kept := by
  unfold State.rtCommit; grind [State.kept, foldl_kept, State.modCtx_kept, State.count_kept, State.rteError_kept]

theorem State.rtReadRows_kept (s : State) (a1) (a2) (a3) (a4) : (State.rtReadRows s a1 a2 a3 a4).1.kept = s.kept := by
  fun_induction State.rtReadRows s a1 a2 a3 a4 <;> grind [State.kept, foldl_kept, State.memRead_kept, State.rteError_kept]

theorem State.rtRequests_kept (s : State) (a1) (a2) (a3) : (State.rtRequests s a1 a2 a3).kept = s.kept := by
  unfold State.rtRequests; grind [State.kept, foldl_kept, State.modExch_kept, State.sendBarge_kept]

theorem State.rteFault_kept (s : State) (a1) (a2) : (State.rteFault s a1 a2).kept = s.kept := by
  unfold State.rteFault; grind [State.kept, foldl_kept, State.rteError_kept]

theorem State.rtRun_kept (s : State) (a1) : (State.rtRun s a1).kept = s.kept := by
  unfold State.rtRun; grind (splits := 40) (ematch := 20) (gen := 20) [State.kept, foldl_kept, State.readMaybe_kept, State.rteFault_kept, State.rtReadRows_kept, State.memWrite_kept, State.rtWriteDir_kept, State.rtSync_kept, State.rtRequests_kept, State.rtCommit_kept]

theorem State.rteSelectOp_kept (s : State) : (State.rteSelectOp s).kept = s.kept := by
  unfold State.rteSelectOp; grind [State.kept, foldl_kept, State.rteError_kept, State.rtRun_kept]

theorem State.rtqOp_kept (s : State) (a1) (a2) : (State.rtqOp s a1 a2).kept = s.kept := by
  unfold State.rtqOp; grind [State.kept, foldl_kept, State.stall_kept, State.relDone_kept, State.retire_kept, State.nextSeq_kept, State.rteError_kept, State.count_kept]

theorem State.setRd_kept (s : State) (a1) (a2) (a3) (a4) : (State.setRd s a1 a2 a3 a4).kept = s.kept := by
  unfold State.setRd; grind [State.kept, foldl_kept, State.retire_kept, State.modCore_kept]

theorem State.storeOp_kept (s : State) (a1) (a2) (a3) (a4) (a5) : (State.storeOp s a1 a2 a3 a4 a5).kept = s.kept := by
  unfold State.storeOp; grind [State.kept, foldl_kept, State.scalarFault_kept, State.stall_kept, State.retire_kept, State.wharfWrite_kept, State.portStore_kept]

theorem State.tokenOut_kept (s : State) (a1) (a2) (a3) (a4) : (State.tokenOut s a1 a2 a3 a4).kept = s.kept := by
  unfold State.tokenOut; grind [State.kept, foldl_kept, State.modBerth_kept, State.count_kept, State.respond_kept]

theorem State.sampleOne_kept (s : State) (a1) : (State.sampleOne s a1).kept = s.kept := by
  unfold State.sampleOne; grind [State.kept, foldl_kept, State.count64_kept, State.raiseCtx_kept, State.count_kept, State.endBerth_kept, State.tokenOut_kept, State.draw_kept, State.modBerth_kept]

theorem State.scoreArrive_kept (s : State) : (State.scoreArrive s).kept = s.kept := by
  unfold State.scoreArrive; grind [State.kept, foldl_kept, State.modYard_kept]

theorem State.setConn_kept (s : State) (a1) (a2) : (State.setConn s a1 a2).kept = s.kept := by
  unfold State.setConn; grind [State.kept, foldl_kept]

theorem State.spdmSay_kept (s : State) (a1) (a2) (a3) (a4) (a5) : (State.spdmSay s a1 a2 a3 a4 a5).kept = s.kept := by
  unfold State.spdmSay; grind [State.kept, foldl_kept, State.emit_kept]

theorem State.spdmError_kept (s : State) (a1) (a2) (a3) : (State.spdmError s a1 a2 a3).kept = s.kept := by
  unfold State.spdmError; grind [State.kept, foldl_kept, State.spdmSay_kept]

theorem State.spdm_kept (s : State) t f (h : ∀ s, (f s).kept = s.kept) : (s.spdm t f).kept = s.kept := by
  unfold State.spdm; grind [State.kept, foldl_kept, State.spdmError_kept]

theorem State.spqOp_kept (s : State) (a1) (a2) : (State.spqOp s a1 a2).kept = s.kept := by
  unfold State.spqOp; grind [State.kept, foldl_kept, State.stall_kept, State.relDone_kept, State.retire_kept, State.badSample_kept, State.memRead_kept, State.modCtx_kept]

theorem State.stackHeat_kept (s : State) (a1) : (State.stackHeat s a1).kept = s.kept := by
  unfold State.stackHeat; grind [State.kept, foldl_kept, State.setFld_kept, State.raisePage_kept]

theorem State.startBackup_kept (s : State) : (State.startBackup s).kept = s.kept := by
  unfold State.startBackup; grind [State.kept, foldl_kept, State.raisePage_kept, State.optFailed_kept, State.histEntry_kept]

theorem State.startEntropy_kept (s : State) : (State.startEntropy s).kept = s.kept := by
  unfold State.startEntropy; grind [State.kept, foldl_kept, State.draw_kept, State.modMem_kept, State.pickImage_kept, State.stuck_kept, State.startOptions_kept]

theorem State.sywWaitEnd_kept (s : State) (a1) : (State.sywWaitEnd s a1).kept = s.kept := by
  unfold State.sywWaitEnd; grind [State.kept, foldl_kept, State.sywEnd_kept]

theorem State.takeIndex_kept (s : State) : (State.takeIndex s).kept = s.kept := by
  unfold State.takeIndex; grind [State.kept, foldl_kept]

theorem State.throttleHeat_kept (s : State) : (State.throttleHeat s).kept = s.kept := by
  unfold State.throttleHeat; grind [State.kept, foldl_kept, State.logEvent_kept, State.raisePage_kept]

theorem State.trip_kept (s : State) : (State.trip s).kept = s.kept := by
  unfold State.trip; grind [State.kept, foldl_kept, State.raisePage_kept, State.logEvent_kept]

theorem State.unlock_kept (s : State) : (State.unlock s).kept = s.kept := by
  unfold State.unlock; grind [State.kept, foldl_kept, State.raisePage_kept, State.setFld_kept, State.flightAbort_kept, State.modPlan_kept]

theorem State.vecRange_kept (s : State) (a1) (a2) : (State.vecRange s a1 a2).kept = s.kept := by
  unfold State.vecRange; grind [State.kept, foldl_kept, State.count_kept, State.modCore_kept]

theorem State.vecCart_kept (s : State) (a1) (a2) (a3) : (State.vecCart s a1 a2 a3).kept = s.kept := by
  unfold State.vecCart; grind [State.kept, foldl_kept, State.vecSx_kept, State.modCore_kept, State.vecRange_kept, State.count_kept]

theorem State.vecCmp_kept (s : State) (a1) (a2) (a3) : (State.vecCmp s a1 a2 a3).kept = s.kept := by
  unfold State.vecCmp; grind [State.kept, foldl_kept, State.maskWrite_kept]

theorem State.vecReport_kept (s : State) (a1) (a2) (a3) (a4) : (State.vecReport s a1 a2 a3 a4).kept = s.kept := by
  unfold State.vecReport; grind [State.kept, foldl_kept, State.modCore_kept, State.count_kept, State.reportCore_kept]

theorem State.vecWrite_kept (s : State) (a1) (a2) (a3) (a4) (a5) : (State.vecWrite s a1 a2 a3 a4 a5).kept = s.kept := by
  unfold State.vecWrite; grind [State.kept, foldl_kept, State.modCore_kept, State.vecOps_kept, State.vecReport_kept]

theorem State.vecCtrl_kept (s : State) (a1) (a2) (a3) : (State.vecCtrl s a1 a2 a3).kept = s.kept := by
  unfold State.vecCtrl; grind [State.kept, foldl_kept, State.modCore_kept, State.vecSx_kept, State.vecWrite_kept]

theorem State.vecCvt_kept (s : State) (a1) (a2) (a3) : (State.vecCvt s a1 a2 a3).kept = s.kept := by
  unfold State.vecCvt; grind [State.kept, foldl_kept, State.modCore_kept, State.vecOps_kept, State.vecReport_kept]

theorem State.vecElem_kept (s : State) (a1) (a2) (a3) : (State.vecElem s a1 a2 a3).kept = s.kept := by
  unfold State.vecElem; grind [State.kept, foldl_kept, State.vecWrite_kept]

theorem State.vecEmpty_kept (s : State) (a1) (a2) (a3) : (State.vecEmpty s a1 a2 a3).kept = s.kept := by
  unfold State.vecEmpty; grind [State.kept, foldl_kept, State.modCore_kept, State.count_kept]

theorem State.vecMask_kept (s : State) (a1) (a2) : (State.vecMask s a1 a2).kept = s.kept := by
  unfold State.vecMask; grind [State.kept, foldl_kept, State.maskWrite_kept, State.modCore_kept, State.vecSx_kept]

theorem State.vecReject_kept (s : State) (a1) (a2) (a3) : (State.vecReject s a1 a2 a3).kept = s.kept := by
  unfold State.vecReject; grind [State.kept, foldl_kept, State.wr_kept, State.raiseCtx_kept]

theorem State.vecMem_kept (s : State) (a1) (a2) (a3) : (State.vecMem s a1 a2 a3).kept = s.kept := by
  unfold State.vecMem; grind [State.kept, foldl_kept, State.vecReject_kept, State.vecWrite_kept, State.vecOps_kept, State.modCore_kept, State.portBefore_kept, State.dcacheRead_kept, State.portStore_kept]

theorem State.vecPerm_kept (s : State) (a1) (a2) (a3) : (State.vecPerm s a1 a2 a3).kept = s.kept := by
  unfold State.vecPerm; grind [State.kept, foldl_kept, State.vecWrite_kept, State.vecRange_kept, State.modCore_kept, State.vecOps_kept, State.vecSx_kept]

theorem State.vecQmx_kept (s : State) (a1) (a2) (a3) : (State.vecQmx s a1 a2 a3).kept = s.kept := by
  unfold State.vecQmx; grind [State.kept, foldl_kept, State.modCore_kept, State.vecOps_kept, State.count_kept]

theorem State.vecRed_kept (s : State) (a1) (a2) (a3) : (State.vecRed s a1 a2 a3).kept = s.kept := by
  unfold State.vecRed; grind [State.kept, foldl_kept, State.vecOps_kept, State.vecEmpty_kept, State.redWrite_kept, State.vecReport_kept]

theorem State.vecExec_kept (s : State) (a1) (a2) (a3) : (State.vecExec s a1 a2 a3).kept = s.kept := by
  unfold State.vecExec; grind [State.kept, foldl_kept, State.vecCtrl_kept, State.vecElem_kept, State.vecCmp_kept, State.vecQmx_kept, State.vecCvt_kept, State.vecPerm_kept, State.vecRed_kept, State.vecMask_kept, State.vecMem_kept, State.vecCart_kept]

theorem State.vecIssue_kept (s : State) (a1) : (State.vecIssue s a1).kept = s.kept := by
  unfold State.vecIssue; grind [State.kept, foldl_kept, State.modCore_kept, State.scbRelease_kept, State.vecExec_kept]

theorem State.vecOp_kept (s : State) (a1) (a2) (a3) (a4) : (State.vecOp s a1 a2 a3 a4).kept = s.kept := by
  unfold State.vecOp; grind (splits := 40) (ematch := 20) (gen := 20) [State.kept, foldl_kept, State.stall_kept, State.retire_kept, State.vecReject_kept, State.nextSeq_kept, State.vecExec_kept, State.scbAdd_kept, State.modCore_kept, State.highWater_kept]

theorem State.windowRead_kept (s : State) (a1) (a2) (a3) : (State.windowRead s a1 a2 a3).1.kept = s.kept := by
  unfold State.windowRead; grind [State.kept, foldl_kept, State.memRead_kept, State.apertureFault_kept]

theorem State.windowWrite_kept (s : State) (a1) (a2) (a3) : (State.windowWrite s a1 a2 a3).kept = s.kept := by
  unfold State.windowWrite; grind [State.kept, foldl_kept, State.apertureFault_kept, State.memWrite_kept]

theorem State.xlatInv_kept (s : State) (a1) (a2) : (State.xlatInv s a1 a2).kept = s.kept := by
  unfold State.xlatInv; grind [State.kept, foldl_kept]

theorem YardRun.item_kept (s : State) (r : YardRun) a b (h : (r.s.kept = s.kept)) : (r.item a b).s.kept = s.kept := by
  unfold YardRun.item; grind [State.kept, foldl_kept, State.modYard_kept, State.makeCoach_kept]

theorem YardRun.items_kept (s : State) (xs : List ChainItem) a (r : YardRun) (h : (r.s.kept = s.kept)) : (xs.foldl (fun r it => r.item a it) r).s.kept = s.kept := by
  induction xs generalizing r with
  | nil => exact h
  | cons x xs ih => exact ih _ (YardRun.item_kept s r a x h)

theorem YardRun.chains_kept (s : State) (xs : List (Nat × List ChainItem)) a b (r : YardRun) (h : (r.s.kept = s.kept)) : (xs.foldl (fun r c => r.chainOf a b c) r).s.kept = s.kept := by
  induction xs generalizing r with
  | nil => exact h
  | cons x xs ih => exact ih _ (YardRun.items_kept s x.2 a { r with chain := [] } h)

theorem State.yardApply_kept (s : State) (a1) (a2) (a3) : (State.yardApply s a1 a2 a3).1.kept = s.kept := by
  have h := YardRun.chains_kept s a3.chains a1 a3.berth ⟨s, true, [], 0, 0⟩ rfl
  unfold State.yardApply
  generalize List.foldl _ _ a3.chains = r at h ⊢
  grind [State.kept, foldl_kept, State.modCtx_kept, State.count_kept, State.count64_kept]

theorem State.yardResult_kept (s : State) (a1) (a2) (a3) : (State.yardResult s a1 a2 a3).kept = s.kept := by
  unfold State.yardResult; grind [State.kept, foldl_kept, State.wharfWrite_kept]

theorem State.yardRefuse_kept (s : State) (a1) (a2) : (State.yardRefuse s a1 a2).kept = s.kept := by
  unfold State.yardRefuse; grind [State.kept, foldl_kept, State.yardErr_kept, State.count_kept, State.yardResult_kept]

theorem State.yardDo_kept (s : State) (a1) (a2) : (State.yardDo s a1 a2).kept = s.kept := by
  unfold State.yardDo; grind [State.kept, foldl_kept, State.yardResult_kept, State.modYard_kept, State.modCtx_kept, State.yardApply_kept, State.yardRefuse_kept]

theorem State.yardRetire_kept (s : State) (a1) : (State.yardRetire s a1).kept = s.kept := by
  unfold State.yardRetire; grind [State.kept, foldl_kept, State.scbRelease_kept]

theorem State.yardExec_kept (s : State) (a1) : (State.yardExec s a1).kept = s.kept := by
  unfold State.yardExec; grind [State.kept, foldl_kept, State.modYard_kept, State.count_kept, State.yardErr_kept, State.yardDo_kept, State.yardRetire_kept]

end Sys2Proof.Machine
end

