-- ==== Sys2Proof/Laws/Table.lean ====
section
/-! SUPPORT. Laws of the sparse tables: an entry written is read back, the others keep their values, and every operation keeps the canonical form. -/

namespace Sys2Proof

@[simp] theorem Tbl.find_nil {α : Type} (k : Nat) : Tbl.find k ([] : Tbl α) = none := rfl

@[simp] theorem Tbl.get_nil {α : Type} (k : Nat) (d : α) : Tbl.get [] k d = d := rfl

theorem Tbl.find_erase_same {α : Type} (k : Nat) (t : Tbl α) : Tbl.find k (Tbl.erase k t) = none := by
  induction t with
  | nil => rfl
  | cons x t ih => simp only [Tbl.erase]; split <;> simp_all [Tbl.find]

theorem Tbl.find_erase_other {α : Type} {j k : Nat} (h : j ≠ k) (t : Tbl α) : Tbl.find j (Tbl.erase k t) = Tbl.find j t := by
  induction t with
  | nil => rfl
  | cons x t ih => simp only [Tbl.erase, Tbl.find]; split <;> grind [Tbl.find]

theorem Tbl.find_insert_other {α : Type} {j k : Nat} (h : j ≠ k) (v : α) (t : Tbl α) : Tbl.find j (Tbl.insert k v t) = Tbl.find j t := by
  induction t with
  | nil => simp [Tbl.insert, Tbl.find, Ne.symm h]
  | cons x t ih => simp only [Tbl.insert]; split <;> grind [Tbl.find]

theorem Tbl.find_insert_same {α : Type} (k : Nat) (v : α) (t : Tbl α) (h : Tbl.find k t = none) : Tbl.find k (Tbl.insert k v t) = some v := by
  induction t with
  | nil => simp [Tbl.insert, Tbl.find]
  | cons x t ih => simp only [Tbl.insert]; split <;> grind [Tbl.find]

/-- An entry put is found. -/
@[simp] theorem Tbl.find_put_same {α : Type} (t : Tbl α) (k : Nat) (v : α) : Tbl.find k (Tbl.put t k v) = some v :=
  Tbl.find_insert_same k v _ (Tbl.find_erase_same k t)

/-- Putting an entry leaves the others. -/
theorem Tbl.find_put_other {α : Type} (t : Tbl α) {j k : Nat} (h : j ≠ k) (v : α) : Tbl.find j (Tbl.put t k v) = Tbl.find j t := by
  rw [Tbl.put, Tbl.find_insert_other h, Tbl.find_erase_other h]

@[simp] theorem Tbl.get_put_same {α : Type} (t : Tbl α) (k : Nat) (v d : α) : Tbl.get (Tbl.put t k v) k d = v := by
  simp [Tbl.get]

theorem Tbl.get_put_other {α : Type} (t : Tbl α) {j k : Nat} (h : j ≠ k) (v d : α) : Tbl.get (Tbl.put t k v) j d = Tbl.get t j d := by
  simp [Tbl.get, Tbl.find_put_other t h]

/-- An entry set is read back, listed or not. -/
@[simp] theorem Tbl.get_set_same {α : Type} [DecidableEq α] (t : Tbl α) (k : Nat) (v d : α) : Tbl.get (Tbl.set t k v d) k d = v := by
  simp only [Tbl.set]; split <;> simp_all [Tbl.get, Tbl.find_erase_same]

theorem Tbl.get_set_other {α : Type} [DecidableEq α] (t : Tbl α) {j k : Nat} (h : j ≠ k) (v d e : α) : Tbl.get (Tbl.set t k v d) j e = Tbl.get t j e := by
  simp only [Tbl.set]; split <;> simp [Tbl.get, Tbl.find_put_other t h, Tbl.find_erase_other h]

/-! ### The canonical form -/

theorem Tbl.rising_mono {α : Type} {a b : Nat} (h : a ≤ b) {t : Tbl α} (w : Tbl.risingFrom b t = true) : Tbl.risingFrom a t = true := by
  cases t with
  | nil => rfl
  | cons x t =>
    simp only [Tbl.risingFrom, Bool.and_eq_true, decide_eq_true_eq] at w ⊢
    exact ⟨by omega, w.2⟩

theorem Tbl.rising_erase {α : Type} (k : Nat) (t : Tbl α) : ∀ {a : Nat}, Tbl.risingFrom a t = true → Tbl.risingFrom a (Tbl.erase k t) = true := by
  induction t with
  | nil => simp [Tbl.erase]
  | cons x t ih =>
    intro a w
    simp only [Tbl.risingFrom, Bool.and_eq_true, decide_eq_true_eq] at w
    simp only [Tbl.erase]
    split
    · exact Tbl.rising_mono (Nat.le_succ_of_le w.1) (ih w.2)
    · simp [Tbl.risingFrom, w.1, ih w.2]

theorem Tbl.rising_insert {α : Type} (k : Nat) (v : α) (t : Tbl α) : ∀ {a : Nat}, Tbl.risingFrom a t = true → Tbl.find k t = none → a ≤ k →
    Tbl.risingFrom a (Tbl.insert k v t) = true := by
  induction t with
  | nil => intro a _ _ h; simp [Tbl.insert, Tbl.risingFrom, h]
  | cons x t ih =>
    intro a w n h
    simp only [Tbl.risingFrom, Bool.and_eq_true, decide_eq_true_eq] at w
    simp only [Tbl.find] at n
    split at n
    · cases n
    · simp only [Tbl.insert]
      split
      · simp only [Tbl.risingFrom, Bool.and_eq_true, decide_eq_true_eq]; exact ⟨h, by omega, w.2⟩
      · simp only [Tbl.risingFrom, Bool.and_eq_true, decide_eq_true_eq]; exact ⟨w.1, ih w.2 n (by omega)⟩

@[simp] theorem Tbl.wf_nil {α : Type} : Tbl.wf ([] : Tbl α) = true := rfl

theorem Tbl.wf_erase {α : Type} (k : Nat) (t : Tbl α) (w : t.wf = true) : (Tbl.erase k t).wf = true := Tbl.rising_erase k t w

/-- A write keeps the canonical form. -/
theorem Tbl.wf_put {α : Type} (t : Tbl α) (k : Nat) (v : α) (w : t.wf = true) : (Tbl.put t k v).wf = true :=
  Tbl.rising_insert k v _ (Tbl.rising_erase k t w) (Tbl.find_erase_same k t) (Nat.zero_le k)

theorem Tbl.wf_set {α : Type} [DecidableEq α] (t : Tbl α) (k : Nat) (v d : α) (w : t.wf = true) : (Tbl.set t k v d).wf = true := by
  simp only [Tbl.set]; split
  · exact Tbl.wf_erase k t w
  · exact Tbl.wf_put t k v w

theorem Tbl.rising_filter {α : Type} (p : Nat × α → Bool) (t : Tbl α) : ∀ {a : Nat}, Tbl.risingFrom a t = true → Tbl.risingFrom a (List.filter p t) = true := by
  induction t with
  | nil => intro a _; rfl
  | cons x t ih =>
    intro a w
    simp only [Tbl.risingFrom, Bool.and_eq_true, decide_eq_true_eq] at w
    simp only [List.filter]
    split
    · simp [Tbl.risingFrom, w.1, ih w.2]
    · exact Tbl.rising_mono (Nat.le_succ_of_le w.1) (ih w.2)

theorem Tbl.wf_filter {α : Type} (p : Nat × α → Bool) (t : Tbl α) (w : t.wf = true) : Tbl.wf (List.filter p t) = true := Tbl.rising_filter p t w

theorem Tbl.rising_map {α β : Type} (f : Nat × α → β) (t : Tbl α) : ∀ {a : Nat}, Tbl.risingFrom a t = true →
    Tbl.risingFrom a (List.map (fun x => (x.1, f x)) t) = true := by
  induction t with
  | nil => intro a _; rfl
  | cons x t ih =>
    intro a w
    simp only [Tbl.risingFrom, Bool.and_eq_true, decide_eq_true_eq] at w
    simp [List.map, Tbl.risingFrom, w.1, ih w.2]

/-- A change of every entry keeps the canonical form. -/
theorem Tbl.wf_map {α β : Type} (f : Nat × α → β) (t : Tbl α) (w : t.wf = true) : Tbl.wf (List.map (fun x => (x.1, f x)) t) = true := Tbl.rising_map f t w

end Sys2Proof
end

