-- ==== Sys2Proof/Laws/Memory.lean ====
section
/-! SUPPORT. Laws of device memory and of the wharf: a byte written is read back under the same key, the others stay, and every operation keeps the canonical form. -/

namespace Sys2Proof.Machine

/-! ### DRAM -/

theorem Mem.retag_wf (m : Mem) (g l : Nat) (w : m.wf = true) : (m.retag g l).wf = true := by
  unfold Mem.retag; split
  · exact w
  · simp only [Mem.wf, Bool.and_eq_true] at *; exact ⟨Tbl.wf_filter _ _ w.1, Tbl.wf_put _ _ _ w.2⟩

theorem Mem.writeByte_wf (m : Mem) (g a : Nat) (b : Byte) (w : m.wf = true) : (m.writeByte g a b).wf = true := by
  have := Mem.retag_wf m g (a / 64) w
  simp only [Mem.writeByte, Mem.wf, Bool.and_eq_true] at *; exact ⟨Tbl.wf_put _ _ _ this.1, this.2⟩

/-- A write keeps the canonical form. -/
theorem Mem.writeBytes_wf (m : Mem) (g a : Nat) (bs : List Byte) (w : m.wf = true) : (m.writeBytes g a bs).wf = true := by
  induction bs generalizing m a with
  | nil => exact w
  | cons b bs ih => exact ih _ _ (Mem.writeByte_wf m g a b w)

theorem Mem.fill_wf (m : Mem) (u c p : Nat) (e : BitVec 64) (w : m.wf = true) : (m.fill u c p e).wf = true := w

theorem Mem.congr_wf (m n : Mem) (h : n.cells = m.cells) (k : n.tags = m.tags) (w : m.wf = true) : n.wf = true := by
  simp [Mem.wf, h, k] at *; exact w

theorem Mem.empty_wf (m : Mem) (h : m.cells = []) (k : m.tags = []) : m.wf = true := by simp [Mem.wf, h, k]

theorem Mem.retag_tag (m : Mem) (g l : Nat) : Tbl.get (m.retag g l).tags l 0 = g := by
  unfold Mem.retag; split <;> simp_all

/-- A byte written under a key is read back under it. -/
theorem Mem.readByte_writeByte_same (m : Mem) (g a : Nat) (b : Byte) : (m.writeByte g a b).readByte g a = b := by
  have := Mem.retag_tag m g (a / 64)
  simp [Mem.writeByte, Mem.readByte, this]

/-- A write leaves every byte of every other line as it read. -/
theorem Mem.readByte_writeByte_line (m : Mem) (g h a c : Nat) (b : Byte) (ne : c / 64 ≠ a / 64) : (m.writeByte g a b).readByte h c = m.readByte h c := by
  have hc : c ≠ a := fun e => ne (by rw [e])
  have hf : ∀ (t : Tbl Byte), Tbl.find c (List.filter (fun x => decide (x.1 / 64 ≠ a / 64)) t) = Tbl.find c t := by
    intro t
    induction t with
    | nil => rfl
    | cons x t ih => simp only [List.filter]; split <;> grind [Tbl.find]
  simp only [Mem.writeByte, Mem.readByte, Mem.retag]
  split <;> simp only [Tbl.get_put_other _ ne, Tbl.find_put_other _ hc, hf]

/-- A write under the key a line already carries leaves the line's other bytes as they read. -/
theorem Mem.readByte_writeByte_other (m : Mem) (g a c : Nat) (b : Byte) (ne : c ≠ a) (same : Tbl.get m.tags (a / 64) 0 = g) :
    (m.writeByte g a b).readByte g c = m.readByte g c := by
  simp only [Mem.writeByte, Mem.readByte, Mem.retag, same, if_true, Tbl.find_put_other _ ne]

/-! ### The wharf (R223) -/

/-- A byte of the wharf written is read back. -/
theorem Core.wharfWrite_same (c : Core) (a : Nat) (b : Byte) : Tbl.get (c.wharfWrite a [b]).wharf a 0 = b := by
  simp [Core.wharfWrite]

/-- A write of the wharf leaves the bytes outside its range. -/
theorem Core.wharfWrite_other (bs : List Byte) : ∀ (c : Core) (a j : Nat), (j < a ∨ a + bs.length ≤ j) → Tbl.get (c.wharfWrite a bs).wharf j 0 = Tbl.get c.wharf j 0 := by
  induction bs with
  | nil => intro c a j _; rfl
  | cons b bs ih =>
    intro c a j h
    simp only [List.length_cons] at h
    rw [Core.wharfWrite, ih _ _ _ (by omega)]
    exact Tbl.get_set_other _ (by omega) _ _ _

/-- A write of the wharf keeps its numbers strictly rising. -/
theorem Core.wharfWrite_wf (bs : List Byte) : ∀ (c : Core) (a : Nat), Tbl.wf c.wharf = true → Tbl.wf (c.wharfWrite a bs).wharf = true := by
  induction bs with
  | nil => intro c a w; exact w
  | cons b bs ih => intro c a w; exact ih _ _ (Tbl.wf_set _ _ _ _ w)

/-- A write of the wharf changes nothing of the core but its wharf. -/
theorem Core.wharfWrite_frame (bs : List Byte) : ∀ (c : Core) (a : Nat), c.wharfWrite a bs = { c with wharf := (c.wharfWrite a bs).wharf } := by
  induction bs with
  | nil => intro c a; rfl
  | cons b bs ih =>
    intro c a
    rw [Core.wharfWrite, ih]

end Sys2Proof.Machine
end

