-- ==== Sys2Proof/Laws/MemOk.lean ====
section
/-! SUPPORT. Every operation of the machine keeps device memory in its canonical form: one lemma per shared operation. -/

namespace Sys2Proof.Machine

theorem foldl_memOk {α} (g : State → α → State) (xs : List α) (s : State) (h : ∀ s a, s.memOk → (g s a).memOk) (w : s.memOk) : (xs.foldl g s).memOk := by
  induction xs generalizing s with
  | nil => exact w
  | cons x xs ih => exact ih _ (h _ _ w)

theorem State.modMem_memOk (s : State) f (h : (f s.mem).wf = true) : (s.modMem f).memOk := h

theorem State.wr_memOk (s : State) (a1) (a2) (a3) (a4) (a5) (w : s.memOk) : (State.wr s a1 a2 a3 a4 a5).memOk := by
  unfold State.wr; grind [State.memOk, foldl_memOk, Mem.writeBytes_wf, Mem.fill_wf, Mem.congr_wf, Mem.empty_wf]

theorem State.wr64_memOk (s : State) (a1) (a2) (a3) (a4) (a5) (w : s.memOk) : (State.wr64 s a1 a2 a3 a4 a5).memOk := by
  unfold State.wr64; grind [State.memOk, foldl_memOk, Mem.writeBytes_wf, Mem.fill_wf, Mem.congr_wf, Mem.empty_wf, State.wr_memOk]

theorem State.count64_memOk (s : State) (a1) (a2) (a3) (a4) (a5) (w : s.memOk) : (State.count64 s a1 a2 a3 a4 a5).memOk := by
  unfold State.count64; grind [State.memOk, foldl_memOk, Mem.writeBytes_wf, Mem.fill_wf, Mem.congr_wf, Mem.empty_wf, State.wr64_memOk]

theorem State.count_memOk (s : State) (a1) (a2) (a3) (a4) (a5) (w : s.memOk) : (State.count s a1 a2 a3 a4 a5).memOk := by
  unfold State.count; grind [State.memOk, foldl_memOk, Mem.writeBytes_wf, Mem.fill_wf, Mem.congr_wf, Mem.empty_wf, State.wr_memOk]

theorem State.fceCount_memOk (s : State) (a1) (a2) (w : s.memOk) : (State.fceCount s a1 a2).memOk := by
  unfold State.fceCount; grind [State.memOk, foldl_memOk, Mem.writeBytes_wf, Mem.fill_wf, Mem.congr_wf, Mem.empty_wf, State.count_memOk]

theorem State.dropBarge_memOk (s : State) (a1) (a2) (w : s.memOk) : (State.dropBarge s a1 a2).memOk := by
  unfold State.dropBarge; grind [State.memOk, foldl_memOk, Mem.writeBytes_wf, Mem.fill_wf, Mem.congr_wf, Mem.empty_wf, State.count_memOk, State.fceCount_memOk]

theorem State.setCtx_memOk (s : State) (a1) (a2) (w : s.memOk) : (State.setCtx s a1 a2).memOk := by
  unfold State.setCtx; grind [State.memOk, foldl_memOk, Mem.writeBytes_wf, Mem.fill_wf, Mem.congr_wf, Mem.empty_wf]

theorem State.modCtx_memOk (s : State) (a1) (a2) (w : s.memOk) : (State.modCtx s a1 a2).memOk := by
  unfold State.modCtx; grind [State.memOk, foldl_memOk, Mem.writeBytes_wf, Mem.fill_wf, Mem.congr_wf, Mem.empty_wf, State.setCtx_memOk]

theorem State.condemn_memOk (s : State) (a1) (a2) (a3) (a4) (w : s.memOk) : (State.condemn s a1 a2 a3 a4).memOk := by
  unfold State.condemn; grind [State.memOk, foldl_memOk, Mem.writeBytes_wf, Mem.fill_wf, Mem.congr_wf, Mem.empty_wf, State.modCtx_memOk]

theorem State.emit_memOk (s : State) (a1) (w : s.memOk) : (State.emit s a1).memOk := by
  unfold State.emit; grind [State.memOk, foldl_memOk, Mem.writeBytes_wf, Mem.fill_wf, Mem.congr_wf, Mem.empty_wf]

theorem State.recordIn_memOk (s : State) (a1) (a2) (w : s.memOk) : (State.recordIn s a1 a2).memOk := by
  unfold State.recordIn; grind [State.memOk, foldl_memOk, Mem.writeBytes_wf, Mem.fill_wf, Mem.congr_wf, Mem.empty_wf, State.wr_memOk, State.count_memOk]

theorem State.record_memOk (s : State) (a1) (w : s.memOk) : (State.record s a1).memOk := by
  unfold State.record; grind [State.memOk, foldl_memOk, Mem.writeBytes_wf, Mem.fill_wf, Mem.congr_wf, Mem.empty_wf, State.recordIn_memOk, State.emit_memOk]

theorem State.updAlert_memOk (s : State) (w : s.memOk) : (State.updAlert s).memOk := by
  unfold State.updAlert; grind [State.memOk, foldl_memOk, Mem.writeBytes_wf, Mem.fill_wf, Mem.congr_wf, Mem.empty_wf, State.emit_memOk]

theorem State.imageRefused_memOk (s : State) (a1) (w : s.memOk) : (State.imageRefused s a1).memOk := by
  unfold State.imageRefused; grind [State.memOk, foldl_memOk, Mem.writeBytes_wf, Mem.fill_wf, Mem.congr_wf, Mem.empty_wf, State.updAlert_memOk, State.record_memOk]

theorem State.runImage_memOk (s : State) (a1) (a2) (w : s.memOk) : (State.runImage s a1 a2).memOk := by
  unfold State.runImage; grind [State.memOk, foldl_memOk, Mem.writeBytes_wf, Mem.fill_wf, Mem.congr_wf, Mem.empty_wf]

theorem State.pickImage_memOk (s : State) (a1) (w : s.memOk) : (State.pickImage s a1).memOk := by
  unfold State.pickImage; grind [State.memOk, foldl_memOk, Mem.writeBytes_wf, Mem.fill_wf, Mem.congr_wf, Mem.empty_wf, State.runImage_memOk, State.imageRefused_memOk]

theorem State.fwRestart_memOk (s : State) (w : s.memOk) : (State.fwRestart s).memOk := by
  unfold State.fwRestart; grind [State.memOk, foldl_memOk, Mem.writeBytes_wf, Mem.fill_wf, Mem.congr_wf, Mem.empty_wf, State.pickImage_memOk, State.count_memOk, State.condemn_memOk]

theorem State.askRestart_memOk (s : State) (w : s.memOk) : (State.askRestart s).memOk := by
  unfold State.askRestart; grind [State.memOk, foldl_memOk, Mem.writeBytes_wf, Mem.fill_wf, Mem.congr_wf, Mem.empty_wf, State.fwRestart_memOk]

theorem State.deviceStop_memOk (s : State) (a1) (w : s.memOk) : (State.deviceStop s a1).memOk := by
  unfold State.deviceStop; grind [State.memOk, foldl_memOk, Mem.writeBytes_wf, Mem.fill_wf, Mem.congr_wf, Mem.empty_wf]

theorem State.modLink_memOk (s : State) (a1) (a2) (w : s.memOk) : (State.modLink s a1 a2).memOk := by
  unfold State.modLink; grind [State.memOk, foldl_memOk, Mem.writeBytes_wf, Mem.fill_wf, Mem.congr_wf, Mem.empty_wf]

theorem State.dropLink_memOk (s : State) (a1) (w : s.memOk) : (State.dropLink s a1).memOk := by
  unfold State.dropLink; grind [State.memOk, foldl_memOk, Mem.writeBytes_wf, Mem.fill_wf, Mem.congr_wf, Mem.empty_wf, State.modLink_memOk, State.count_memOk, State.wr_memOk, State.record_memOk]

theorem State.fatalStop_memOk (s : State) (w : s.memOk) : (State.fatalStop s).memOk := by
  unfold State.fatalStop; grind [State.memOk, foldl_memOk, Mem.writeBytes_wf, Mem.fill_wf, Mem.congr_wf, Mem.empty_wf, State.modMem_memOk, State.dropLink_memOk]

theorem State.trigCapture_memOk (s : State) (a1) (a2) (w : s.memOk) : (State.trigCapture s a1 a2).memOk := by
  unfold State.trigCapture; grind [State.memOk, foldl_memOk, Mem.writeBytes_wf, Mem.fill_wf, Mem.congr_wf, Mem.empty_wf, State.record_memOk, State.count_memOk]

theorem State.act_memOk (s : State) (a1) (w : s.memOk) : (State.act s a1).memOk := by
  unfold State.act; grind [State.memOk, foldl_memOk, Mem.writeBytes_wf, Mem.fill_wf, Mem.congr_wf, Mem.empty_wf, State.deviceStop_memOk, State.trigCapture_memOk, State.askRestart_memOk, State.condemn_memOk, State.fatalStop_memOk]

theorem State.logEvent_memOk (s : State) (a1) (a2) (w : s.memOk) : (State.logEvent s a1 a2).memOk := by
  unfold State.logEvent; grind [State.memOk, foldl_memOk, Mem.writeBytes_wf, Mem.fill_wf, Mem.congr_wf, Mem.empty_wf]

theorem State.logError_memOk (s : State) (a1) (w : s.memOk) : (State.logError s a1).memOk := by
  unfold State.logError; grind [State.memOk, foldl_memOk, Mem.writeBytes_wf, Mem.fill_wf, Mem.congr_wf, Mem.empty_wf, State.logEvent_memOk]

theorem State.draw_memOk (s : State) (w : s.memOk) : (State.draw s).2.memOk := by
  unfold State.draw; grind [State.memOk, foldl_memOk, Mem.writeBytes_wf, Mem.fill_wf, Mem.congr_wf, Mem.empty_wf]

theorem State.quietWrite_memOk (s : State) (a1) (a2) (a3) (w : s.memOk) : (State.quietWrite s a1 a2 a3).memOk := by
  unfold State.quietWrite; grind [State.memOk, foldl_memOk, Mem.writeBytes_wf, Mem.fill_wf, Mem.congr_wf, Mem.empty_wf, State.modMem_memOk]

theorem State.trace_memOk (s : State) (a1) (a2) (a3) (a4) (a5) (w : s.memOk) : (State.trace s a1 a2 a3 a4 a5).memOk := by
  unfold State.trace; grind [State.memOk, foldl_memOk, Mem.writeBytes_wf, Mem.fill_wf, Mem.congr_wf, Mem.empty_wf, State.draw_memOk, State.modCtx_memOk, State.wr_memOk, State.quietWrite_memOk]

theorem State.raise_memOk (s : State) (a1) (w : s.memOk) : (State.raise s a1).memOk := by
  unfold State.raise; grind [State.memOk, foldl_memOk, Mem.writeBytes_wf, Mem.fill_wf, Mem.congr_wf, Mem.empty_wf, State.record_memOk, State.trace_memOk, State.updAlert_memOk, State.act_memOk, State.logError_memOk]

theorem State.fceRaise_memOk (s : State) (a1) (a2) (a3) (w : s.memOk) : (State.fceRaise s a1 a2 a3).memOk := by
  unfold State.fceRaise; grind [State.memOk, foldl_memOk, Mem.writeBytes_wf, Mem.fill_wf, Mem.congr_wf, Mem.empty_wf, State.raise_memOk]

theorem State.modPlan_memOk (s : State) (a1) (a2) (w : s.memOk) : (State.modPlan s a1 a2).memOk := by
  unfold State.modPlan; grind [State.memOk, foldl_memOk, Mem.writeBytes_wf, Mem.fill_wf, Mem.congr_wf, Mem.empty_wf]

theorem State.putBarge_memOk (s : State) (a1) (a2) (a3) (w : s.memOk) : (State.putBarge s a1 a2 a3).memOk := by
  unfold State.putBarge; grind [State.memOk, foldl_memOk, Mem.writeBytes_wf, Mem.fill_wf, Mem.congr_wf, Mem.empty_wf, State.count64_memOk, State.emit_memOk]

theorem State.sendAcks_memOk (s : State) (a1) (w : s.memOk) : (State.sendAcks s a1).memOk := by
  unfold State.sendAcks; grind [State.memOk, foldl_memOk, Mem.writeBytes_wf, Mem.fill_wf, Mem.congr_wf, Mem.empty_wf, State.putBarge_memOk]

theorem State.oweAck_memOk (s : State) (a1) (a2) (w : s.memOk) : (State.oweAck s a1 a2).memOk := by
  unfold State.oweAck; grind [State.memOk, foldl_memOk, Mem.writeBytes_wf, Mem.fill_wf, Mem.congr_wf, Mem.empty_wf, State.sendAcks_memOk]

theorem State.bargeIn_memOk (s : State) (a1) (a2) (a3) (w : s.memOk) : (State.bargeIn s a1 a2 a3).1.memOk := by
  unfold State.bargeIn; grind (splits := 40) (ematch := 20) (gen := 20) [State.memOk, foldl_memOk, Mem.writeBytes_wf, Mem.fill_wf, Mem.congr_wf, Mem.empty_wf, State.count64_memOk, State.dropBarge_memOk, State.fceRaise_memOk, State.oweAck_memOk, State.fceCount_memOk, State.modPlan_memOk]

theorem State.undeliverable_memOk (s : State) (a1) (w : s.memOk) : (State.undeliverable s a1).memOk := by
  unfold State.undeliverable; grind [State.memOk, foldl_memOk, Mem.writeBytes_wf, Mem.fill_wf, Mem.congr_wf, Mem.empty_wf, State.modPlan_memOk]

theorem State.offer_memOk (s : State) (a1) (a2) (w : s.memOk) : (State.offer s a1 a2).memOk := by
  unfold State.offer; grind [State.memOk, foldl_memOk, Mem.writeBytes_wf, Mem.fill_wf, Mem.congr_wf, Mem.empty_wf, State.undeliverable_memOk, State.putBarge_memOk]

theorem State.floodBarge_memOk (s : State) (a1) (a2) (a3) (w : s.memOk) : (State.floodBarge s a1 a2 a3).memOk := by
  unfold State.floodBarge; grind [State.memOk, foldl_memOk, Mem.writeBytes_wf, Mem.fill_wf, Mem.congr_wf, Mem.empty_wf, State.offer_memOk]

theorem State.takeSeq_memOk (s : State) (a1) (a2) (w : s.memOk) : (State.takeSeq s a1 a2).2.memOk := by
  unfold State.takeSeq; grind [State.memOk, foldl_memOk, Mem.writeBytes_wf, Mem.fill_wf, Mem.congr_wf, Mem.empty_wf, State.modPlan_memOk]

theorem State.sendNotice_memOk (s : State) (a1) (a2) (a3) (a4) (w : s.memOk) : (State.sendNotice s a1 a2 a3 a4).memOk := by
  unfold State.sendNotice; grind [State.memOk, foldl_memOk, Mem.writeBytes_wf, Mem.fill_wf, Mem.congr_wf, Mem.empty_wf, State.takeSeq_memOk, State.modPlan_memOk, State.floodBarge_memOk]

theorem State.flightAbort_memOk (s : State) (a1) (a2) (a3) (a4) (a5) (a6) (w : s.memOk) : (State.flightAbort s a1 a2 a3 a4 a5 a6).memOk := by
  unfold State.flightAbort; grind [State.memOk, foldl_memOk, Mem.writeBytes_wf, Mem.fill_wf, Mem.congr_wf, Mem.empty_wf, State.count_memOk, State.modPlan_memOk, State.wr_memOk, State.fceRaise_memOk, State.sendNotice_memOk]

theorem State.hold_memOk (s : State) (a1) (w : s.memOk) : (State.hold s a1).memOk := by
  unfold State.hold; grind [State.memOk, foldl_memOk, Mem.writeBytes_wf, Mem.fill_wf, Mem.congr_wf, Mem.empty_wf]

theorem State.abortBarge_memOk (s : State) (a1) (a2) (a3) (w : s.memOk) : (s.abortBarge a1 a2 a3).memOk := by
  unfold State.abortBarge
  split
  · exact State.hold_memOk s _ w
  · generalize (⟨a2, a3⟩ : Barge) = b
    dsimp only
    have hb := State.bargeIn_memOk s 7 a1 b w
    generalize s.bargeIn 7 a1 b = r at hb ⊢
    obtain ⟨s1, _ | i⟩ := r
    · exact hb
    have h2 : (if b.hops = 0 then s1 else s1.floodBarge i (b.setFld 2 24 4 (b.hops - 1)) (s1.portOf a1)).memOk := by
      split
      · exact hb
      · exact State.floodBarge_memOk _ _ _ _ hb
    dsimp only
    generalize (if b.hops = 0 then s1 else _) = s2 at h2 ⊢
    have h3 : (if b.step < s2.lkp.now then s2 else s2.modPlan i fun p => { p with abortN := p.abortN ++ [(b.src, b.step)] }).memOk := by
      split
      · exact h2
      · exact State.modPlan_memOk _ _ _ h2
    generalize (if b.step < s2.lkp.now then s2 else _) = s3 at h3 ⊢
    split
    · exact h3
    · exact State.flightAbort_memOk _ _ _ _ _ _ _ h3

theorem State.raisePage_memOk (s : State) (a1) (a2) (a3) (a4) (w : s.memOk) : (State.raisePage s a1 a2 a3 a4).memOk := by
  unfold State.raisePage; grind [State.memOk, foldl_memOk, Mem.writeBytes_wf, Mem.fill_wf, Mem.congr_wf, Mem.empty_wf, State.raise_memOk]

theorem State.accessError_memOk (s : State) (a1) (a2) (w : s.memOk) : (State.accessError s a1 a2).memOk := by
  unfold State.accessError; grind [State.memOk, foldl_memOk, Mem.writeBytes_wf, Mem.fill_wf, Mem.congr_wf, Mem.empty_wf, State.raise_memOk, State.raisePage_memOk]

theorem State.barged_memOk (s : State) (a1) (w : s.memOk) : (State.barged s a1).memOk := by
  unfold State.barged; grind [State.memOk, foldl_memOk, Mem.writeBytes_wf, Mem.fill_wf, Mem.congr_wf, Mem.empty_wf, State.count_memOk]

theorem State.ackOne_memOk (s : State) (a1) (a2) (a3) (a4) (a5) (w : s.memOk) : (State.ackOne s a1 a2 a3 a4 a5).memOk := by
  unfold State.ackOne; grind [State.memOk, foldl_memOk, Mem.writeBytes_wf, Mem.fill_wf, Mem.congr_wf, Mem.empty_wf, State.barged_memOk]

theorem State.pump1_memOk (s : State) (w : s.memOk) : (State.pump1 s).memOk := by
  unfold State.pump1; grind [State.memOk, foldl_memOk, Mem.writeBytes_wf, Mem.fill_wf, Mem.congr_wf, Mem.empty_wf, State.undeliverable_memOk, State.putBarge_memOk]

theorem State.pump_memOk (s : State) (w : s.memOk) : (State.pump s).memOk := by
  unfold State.pump; grind [State.memOk, foldl_memOk, Mem.writeBytes_wf, Mem.fill_wf, Mem.congr_wf, Mem.empty_wf, State.pump1_memOk]

theorem State.ackBarge_memOk (s : State) (a1) (a2) (a3) (w : s.memOk) : (State.ackBarge s a1 a2 a3).memOk := by
  unfold State.ackBarge; grind [State.memOk, foldl_memOk, Mem.writeBytes_wf, Mem.fill_wf, Mem.congr_wf, Mem.empty_wf, State.hold_memOk, State.bargeIn_memOk, State.pump_memOk, State.ackOne_memOk]

theorem State.setCore_memOk (s : State) (a1) (a2) (w : s.memOk) : (State.setCore s a1 a2).memOk := by
  unfold State.setCore; grind [State.memOk, foldl_memOk, Mem.writeBytes_wf, Mem.fill_wf, Mem.congr_wf, Mem.empty_wf]

theorem State.modCore_memOk (s : State) (a1) (a2) (w : s.memOk) : (State.modCore s a1 a2).memOk := by
  unfold State.modCore; grind [State.memOk, foldl_memOk, Mem.writeBytes_wf, Mem.fill_wf, Mem.congr_wf, Mem.empty_wf, State.setCore_memOk]

theorem State.dcacheInval_memOk (s : State) (a1) (w : s.memOk) : (State.dcacheInval s a1).memOk := by
  unfold State.dcacheInval; grind [State.memOk, foldl_memOk, Mem.writeBytes_wf, Mem.fill_wf, Mem.congr_wf, Mem.empty_wf, State.count_memOk, State.modCore_memOk]

theorem State.acqDone_memOk (s : State) (a1) (a2) (w : s.memOk) : (State.acqDone s a1 a2).memOk := by
  unfold State.acqDone; grind [State.memOk, foldl_memOk, Mem.writeBytes_wf, Mem.fill_wf, Mem.congr_wf, Mem.empty_wf, State.dcacheInval_memOk]

theorem State.activateNow_memOk (s : State) (a1) (w : s.memOk) : (State.activateNow s a1).memOk := by
  unfold State.activateNow; grind [State.memOk, foldl_memOk, Mem.writeBytes_wf, Mem.fill_wf, Mem.congr_wf, Mem.empty_wf, State.modCtx_memOk]

theorem State.setFld_memOk (s : State) (a1) (a2) (a3) (a4) (a5) (a6) (a7) (w : s.memOk) : (State.setFld s a1 a2 a3 a4 a5 a6 a7).memOk := by
  unfold State.setFld; grind [State.memOk, foldl_memOk, Mem.writeBytes_wf, Mem.fill_wf, Mem.congr_wf, Mem.empty_wf, State.wr_memOk]

theorem State.addDeficit_memOk (s : State) (a1) (a2) (w : s.memOk) : (State.addDeficit s a1 a2).memOk := by
  unfold State.addDeficit; grind [State.memOk, foldl_memOk, Mem.writeBytes_wf, Mem.fill_wf, Mem.congr_wf, Mem.empty_wf, State.setFld_memOk]

theorem State.raiseCtx_memOk (s : State) (a1) (a2) (a3) (a4) (a5) (a6) (w : s.memOk) : (State.raiseCtx s a1 a2 a3 a4 a5 a6).memOk := by
  unfold State.raiseCtx; grind [State.memOk, foldl_memOk, Mem.writeBytes_wf, Mem.fill_wf, Mem.congr_wf, Mem.empty_wf, State.raise_memOk]

theorem State.memFault_memOk (s : State) (a1) (a2) (a3) (w : s.memOk) : (State.memFault s a1 a2 a3).memOk := by
  unfold State.memFault; grind [State.memOk, foldl_memOk, Mem.writeBytes_wf, Mem.fill_wf, Mem.congr_wf, Mem.empty_wf, State.raiseCtx_memOk]

theorem State.xlate_memOk (s : State) (a1) (a2) (a3) (a4) (w : s.memOk) : (State.xlate s a1 a2 a3 a4).1.memOk := by
  unfold State.xlate; grind [State.memOk, foldl_memOk, Mem.writeBytes_wf, Mem.fill_wf, Mem.congr_wf, Mem.empty_wf, State.draw_memOk, State.modMem_memOk]

theorem State.writePieces_memOk (s : State) (a1) (a2) (a3) (a4) (a5) (w : s.memOk) : (State.writePieces s a1 a2 a3 a4 a5).1.memOk := by
  fun_induction State.writePieces s a1 a2 a3 a4 a5 <;> grind [State.memOk, foldl_memOk, Mem.writeBytes_wf, Mem.fill_wf, Mem.congr_wf, Mem.empty_wf, State.xlate_memOk, State.memFault_memOk, State.modMem_memOk]

theorem State.memWrite_memOk (s : State) (a1) (a2) (a3) (a4) (w : s.memOk) : (State.memWrite s a1 a2 a3 a4).1.memOk := by
  unfold State.memWrite; grind [State.memOk, foldl_memOk, Mem.writeBytes_wf, Mem.fill_wf, Mem.congr_wf, Mem.empty_wf, State.raiseCtx_memOk, State.writePieces_memOk]

theorem State.modBerth_memOk (s : State) (a1) (a2) (w : s.memOk) : (State.modBerth s a1 a2).memOk := by
  unfold State.modBerth; grind [State.memOk, foldl_memOk, Mem.writeBytes_wf, Mem.fill_wf, Mem.congr_wf, Mem.empty_wf]

theorem State.addToks_memOk (s : State) (a1) (a2) (a3) (w : s.memOk) : (State.addToks s a1 a2 a3).memOk := by
  unfold State.addToks; grind [State.memOk, foldl_memOk, Mem.writeBytes_wf, Mem.fill_wf, Mem.congr_wf, Mem.empty_wf, State.modBerth_memOk, State.memWrite_memOk, State.raiseCtx_memOk]

theorem State.addTotal_memOk (s : State) (a1) (a2) (a3) (w : s.memOk) : (State.addTotal s a1 a2 a3).memOk := by
  unfold State.addTotal; grind [State.memOk, foldl_memOk, Mem.writeBytes_wf, Mem.fill_wf, Mem.congr_wf, Mem.empty_wf, State.wr_memOk, State.count_memOk]

theorem State.addTotals_memOk (s : State) (w : s.memOk) : (State.addTotals s).memOk := by
  unfold State.addTotals; grind [State.memOk, foldl_memOk, Mem.writeBytes_wf, Mem.fill_wf, Mem.congr_wf, Mem.empty_wf, State.addTotal_memOk]

theorem State.setCluster_memOk (s : State) (a1) (a2) (w : s.memOk) : (State.setCluster s a1 a2).memOk := by
  unfold State.setCluster; grind [State.memOk, foldl_memOk, Mem.writeBytes_wf, Mem.fill_wf, Mem.congr_wf, Mem.empty_wf]

theorem State.modCluster_memOk (s : State) (a1) (a2) (w : s.memOk) : (State.modCluster s a1 a2).memOk := by
  unfold State.modCluster; grind [State.memOk, foldl_memOk, Mem.writeBytes_wf, Mem.fill_wf, Mem.congr_wf, Mem.empty_wf, State.setCluster_memOk]

theorem State.ownClusters_memOk (s : State) (a1) (w : s.memOk) : (State.ownClusters s a1).memOk := by
  unfold State.ownClusters; grind [State.memOk, foldl_memOk, Mem.writeBytes_wf, Mem.fill_wf, Mem.congr_wf, Mem.empty_wf, State.modCluster_memOk]

theorem State.slotBack_memOk (s : State) (a1) (a2) (a3) (a4) (a5) (w : s.memOk) : (State.slotBack s a1 a2 a3 a4 a5).memOk := by
  unfold State.slotBack; grind [State.memOk, foldl_memOk, Mem.writeBytes_wf, Mem.fill_wf, Mem.congr_wf, Mem.empty_wf, State.memWrite_memOk]

theorem State.admitStep_memOk (s : State) (a1) (a2) (a3) (w : s.memOk) : (State.admitStep s a1 a2 a3).memOk := by
  unfold State.admitStep; grind [State.memOk, foldl_memOk, Mem.writeBytes_wf, Mem.fill_wf, Mem.congr_wf, Mem.empty_wf, State.count_memOk, State.slotBack_memOk, State.ownClusters_memOk, State.wr_memOk, State.modCtx_memOk, State.trace_memOk]

theorem State.advance_memOk (s : State) (a1) (a2) (w : s.memOk) : (State.advance s a1 a2).memOk := by
  unfold State.advance; grind [State.memOk, foldl_memOk, Mem.writeBytes_wf, Mem.fill_wf, Mem.congr_wf, Mem.empty_wf, State.modCore_memOk]

theorem State.apertureFault_memOk (s : State) (a1) (w : s.memOk) : (State.apertureFault s a1).memOk := by
  unfold State.apertureFault; grind [State.memOk, foldl_memOk, Mem.writeBytes_wf, Mem.fill_wf, Mem.congr_wf, Mem.empty_wf, State.accessError_memOk]

theorem State.dropFrame_memOk (s : State) (w : s.memOk) : (State.dropFrame s).memOk := by
  unfold State.dropFrame; grind [State.memOk, foldl_memOk, Mem.writeBytes_wf, Mem.fill_wf, Mem.congr_wf, Mem.empty_wf, State.count_memOk]

theorem State.frameIn_memOk (s : State) (w : s.memOk) : (State.frameIn s).memOk := by
  unfold State.frameIn; grind [State.memOk, foldl_memOk, Mem.writeBytes_wf, Mem.fill_wf, Mem.congr_wf, Mem.empty_wf, State.count_memOk]

theorem State.modPort_memOk (s : State) (a1) (a2) (w : s.memOk) : (State.modPort s a1 a2).memOk := by
  unfold State.modPort; grind [State.memOk, foldl_memOk, Mem.writeBytes_wf, Mem.fill_wf, Mem.congr_wf, Mem.empty_wf]

theorem State.putFrame_memOk (s : State) (a1) (a2) (w : s.memOk) : (State.putFrame s a1 a2).memOk := by
  unfold State.putFrame; grind [State.memOk, foldl_memOk, Mem.writeBytes_wf, Mem.fill_wf, Mem.congr_wf, Mem.empty_wf, State.modPort_memOk, State.count64_memOk, State.emit_memOk]

theorem State.outWrite_memOk (s : State) (a1) (a2) (w : s.memOk) : (State.outWrite s a1 a2).memOk := by
  unfold State.outWrite; grind [State.memOk, foldl_memOk, Mem.writeBytes_wf, Mem.fill_wf, Mem.congr_wf, Mem.empty_wf, State.memWrite_memOk, State.count_memOk, State.wr_memOk]

theorem State.ringOut_memOk (s : State) (a1) (a2) (w : s.memOk) : (State.ringOut s a1 a2).memOk := by
  unfold State.ringOut; grind [State.memOk, foldl_memOk, Mem.writeBytes_wf, Mem.fill_wf, Mem.congr_wf, Mem.empty_wf, State.count_memOk, State.modCtx_memOk, State.outWrite_memOk]

theorem State.respond_memOk (s : State) (a1) (a2) (a3) (a4) (w : s.memOk) : (State.respond s a1 a2 a3 a4).memOk := by
  unfold State.respond; grind [State.memOk, foldl_memOk, Mem.writeBytes_wf, Mem.fill_wf, Mem.congr_wf, Mem.empty_wf, State.ringOut_memOk, State.putFrame_memOk, State.count_memOk]

theorem State.reject_memOk (s : State) (a1) (a2) (a3) (a4) (w : s.memOk) : (State.reject s a1 a2 a3 a4).memOk := by
  unfold State.reject; grind [State.memOk, foldl_memOk, Mem.writeBytes_wf, Mem.fill_wf, Mem.congr_wf, Mem.empty_wf, State.count_memOk, State.raiseCtx_memOk, State.respond_memOk]

theorem State.appendOp_memOk (s : State) (a1) (a2) (a3) (w : s.memOk) : (State.appendOp s a1 a2 a3).1.memOk := by
  unfold State.appendOp; grind [State.memOk, foldl_memOk, Mem.writeBytes_wf, Mem.fill_wf, Mem.congr_wf, Mem.empty_wf, State.dropFrame_memOk, State.frameIn_memOk, State.reject_memOk, State.modBerth_memOk, State.addToks_memOk]

theorem State.modYard_memOk (s : State) (a1) (w : s.memOk) : (State.modYard s a1).memOk := by
  unfold State.modYard; grind [State.memOk, foldl_memOk, Mem.writeBytes_wf, Mem.fill_wf, Mem.congr_wf, Mem.empty_wf]

theorem State.nextSeq_memOk (s : State) (a1) (a2) (a3) (w : s.memOk) : (State.nextSeq s a1 a2 a3).2.memOk := by
  unfold State.nextSeq; grind [State.memOk, foldl_memOk, Mem.writeBytes_wf, Mem.fill_wf, Mem.congr_wf, Mem.empty_wf, State.wr_memOk]

theorem State.yardErr_memOk (s : State) (a1) (a2) (a3) (a4) (a5) (w : s.memOk) : (State.yardErr s a1 a2 a3 a4 a5).memOk := by
  unfold State.yardErr; grind [State.memOk, foldl_memOk, Mem.writeBytes_wf, Mem.fill_wf, Mem.congr_wf, Mem.empty_wf, State.raiseCtx_memOk]

theorem State.srvYard_memOk (s : State) (a1) (a2) (w : s.memOk) : (State.srvYard s a1 a2).memOk := by
  unfold State.srvYard; grind [State.memOk, foldl_memOk, Mem.writeBytes_wf, Mem.fill_wf, Mem.congr_wf, Mem.empty_wf, State.nextSeq_memOk, State.yardErr_memOk, State.modYard_memOk]

theorem State.yardRelease_memOk (s : State) (a1) (a2) (w : s.memOk) : (State.yardRelease s a1 a2).memOk := by
  unfold State.yardRelease; grind [State.memOk, foldl_memOk, Mem.writeBytes_wf, Mem.fill_wf, Mem.congr_wf, Mem.empty_wf, State.srvYard_memOk]

theorem State.cancelOp_memOk (s : State) (a1) (a2) (w : s.memOk) : (State.cancelOp s a1 a2).1.memOk := by
  unfold State.cancelOp; grind [State.memOk, foldl_memOk, Mem.writeBytes_wf, Mem.fill_wf, Mem.congr_wf, Mem.empty_wf, State.dropFrame_memOk, State.count_memOk, State.frameIn_memOk, State.modBerth_memOk, State.yardRelease_memOk]

theorem State.ctxDrop_memOk (s : State) (a1) (w : s.memOk) : (State.ctxDrop s a1).memOk := by
  unfold State.ctxDrop; grind [State.memOk, foldl_memOk, Mem.writeBytes_wf, Mem.fill_wf, Mem.congr_wf, Mem.empty_wf, State.count_memOk, State.raiseCtx_memOk, State.modCtx_memOk]

theorem State.frameTag_memOk (s : State) (a1) (a2) (a3) (w : s.memOk) : (State.frameTag s a1 a2 a3).1.memOk := by
  unfold State.frameTag; grind [State.memOk, foldl_memOk, Mem.writeBytes_wf, Mem.fill_wf, Mem.congr_wf, Mem.empty_wf, State.draw_memOk, State.modCtx_memOk]

theorem State.openMark_memOk (s : State) (a1) (a2) (w : s.memOk) : (State.openMark s a1 a2).1.memOk := by
  unfold State.openMark; grind [State.memOk, foldl_memOk, Mem.writeBytes_wf, Mem.fill_wf, Mem.congr_wf, Mem.empty_wf, State.modCtx_memOk, State.ctxDrop_memOk, State.raiseCtx_memOk]

theorem State.newDrbg_memOk (s : State) (a1) (a2) (w : s.memOk) : (State.newDrbg s a1 a2).2.memOk := by
  unfold State.newDrbg; grind [State.memOk, foldl_memOk, Mem.writeBytes_wf, Mem.fill_wf, Mem.congr_wf, Mem.empty_wf, State.draw_memOk]

theorem State.yardOpen_memOk (s : State) (a1) (a2) (a3) (w : s.memOk) : (State.yardOpen s a1 a2 a3).memOk := by
  unfold State.yardOpen; grind [State.memOk, foldl_memOk, Mem.writeBytes_wf, Mem.fill_wf, Mem.congr_wf, Mem.empty_wf, State.srvYard_memOk]

theorem State.openOp_memOk (s : State) (a1) (a2) (a3) (w : s.memOk) : (State.openOp s a1 a2 a3).memOk := by
  unfold State.openOp; grind [State.memOk, foldl_memOk, Mem.writeBytes_wf, Mem.fill_wf, Mem.congr_wf, Mem.empty_wf, State.reject_memOk, State.newDrbg_memOk, State.modBerth_memOk, State.count_memOk, State.yardOpen_memOk, State.addToks_memOk, State.respond_memOk]

theorem State.frameOp_memOk (s : State) (a1) (a2) (w : s.memOk) : (State.frameOp s a1 a2).1.memOk := by
  have h1 := State.frameTag_memOk s (frCtx a2) (a2.take (a2.length - 16)) (a2.drop ((a2.take (a2.length - 16)).length)) w
  unfold State.frameOp
  dsimp only
  repeat' split
  all_goals grind [State.dropFrame_memOk, State.raisePage_memOk, State.frameTag_memOk, State.raiseCtx_memOk, State.ctxDrop_memOk, State.openMark_memOk, State.frameIn_memOk, State.openOp_memOk, State.appendOp_memOk, State.cancelOp_memOk]

theorem State.rxBytes_memOk (s : State) (a1) (a2) (w : s.memOk) : (State.rxBytes s a1 a2).memOk := by
  unfold State.rxBytes; grind [State.memOk, foldl_memOk, Mem.writeBytes_wf, Mem.fill_wf, Mem.congr_wf, Mem.empty_wf, State.count64_memOk]

theorem State.frameRow_memOk (s : State) (a1) (a2) (a3) (a4) (w : s.memOk) : (State.frameRow s a1 a2 a3 a4).memOk := by
  unfold State.frameRow; grind [State.memOk, foldl_memOk, Mem.writeBytes_wf, Mem.fill_wf, Mem.congr_wf, Mem.empty_wf, State.hold_memOk, State.frameOp_memOk, State.rxBytes_memOk]

theorem State.appendFrame_memOk (s : State) (a1) (a2) (w : s.memOk) : (State.appendFrame s a1 a2).memOk := by
  unfold State.appendFrame; grind [State.memOk, foldl_memOk, Mem.writeBytes_wf, Mem.fill_wf, Mem.congr_wf, Mem.empty_wf, State.frameRow_memOk]

theorem State.applyField_memOk (s : State) (a1) (a2) (a3) (a4) (w : s.memOk) : (State.applyField s a1 a2 a3 a4).memOk := by
  unfold State.applyField; grind [State.memOk, foldl_memOk, Mem.writeBytes_wf, Mem.fill_wf, Mem.congr_wf, Mem.empty_wf, State.setFld_memOk, State.wr_memOk]

theorem State.bindPolicy_memOk (s : State) (a1) (w : s.memOk) : (State.bindPolicy s a1).memOk := by
  unfold State.bindPolicy; grind [State.memOk, foldl_memOk, Mem.writeBytes_wf, Mem.fill_wf, Mem.congr_wf, Mem.empty_wf, State.setFld_memOk]

theorem State.portsCheck_memOk (s : State) (w : s.memOk) : (State.portsCheck s).memOk := by
  unfold State.portsCheck; grind [State.memOk, foldl_memOk, Mem.writeBytes_wf, Mem.fill_wf, Mem.congr_wf, Mem.empty_wf, State.modPort_memOk, State.raisePage_memOk, State.modLink_memOk]

theorem State.putStaged_memOk (s : State) (a1) (a2) (a3) (w : s.memOk) : (State.putStaged s a1 a2 a3).memOk := by
  unfold State.putStaged; grind [State.memOk, foldl_memOk, Mem.writeBytes_wf, Mem.fill_wf, Mem.congr_wf, Mem.empty_wf]

theorem State.rtFree_memOk (s : State) (a1) (a2) (w : s.memOk) : (State.rtFree s a1 a2).memOk := by
  unfold State.rtFree; grind [State.memOk, foldl_memOk, Mem.writeBytes_wf, Mem.fill_wf, Mem.congr_wf, Mem.empty_wf, State.quietWrite_memOk]

theorem State.rtFlushCache_memOk (s : State) (a1) (w : s.memOk) : (State.rtFlushCache s a1).memOk := by
  unfold State.rtFlushCache; grind [State.memOk, foldl_memOk, Mem.writeBytes_wf, Mem.fill_wf, Mem.congr_wf, Mem.empty_wf, State.rtFree_memOk]

theorem State.applyStagedField_memOk (s : State) (a1) (a2) (a3) (w : s.memOk) : (State.applyStagedField s a1 a2 a3).memOk := by
  unfold State.applyStagedField; grind [State.memOk, foldl_memOk, Mem.writeBytes_wf, Mem.fill_wf, Mem.congr_wf, Mem.empty_wf, State.putStaged_memOk, State.bindPolicy_memOk, State.rtFlushCache_memOk, State.portsCheck_memOk]

theorem State.deactivateNow_memOk (s : State) (a1) (w : s.memOk) : (State.deactivateNow s a1).memOk := by
  unfold State.deactivateNow; grind [State.memOk, foldl_memOk, Mem.writeBytes_wf, Mem.fill_wf, Mem.congr_wf, Mem.empty_wf, State.wr_memOk, State.modCtx_memOk]

theorem State.zeroCluster_memOk (s : State) (a1) (w : s.memOk) : (State.zeroCluster s a1).memOk := by
  unfold State.zeroCluster; grind [State.memOk, foldl_memOk, Mem.writeBytes_wf, Mem.fill_wf, Mem.congr_wf, Mem.empty_wf, State.count_memOk, State.modCore_memOk, State.modMem_memOk, State.modCluster_memOk]

theorem State.enterField_memOk (s : State) (w : s.memOk) : (State.enterField s).memOk := by
  unfold State.enterField; grind [State.memOk, foldl_memOk, Mem.writeBytes_wf, Mem.fill_wf, Mem.congr_wf, Mem.empty_wf, State.deactivateNow_memOk, State.zeroCluster_memOk, State.logEvent_memOk]

theorem State.debugNow_memOk (s : State) (a1) (w : s.memOk) : (State.debugNow s a1).memOk := by
  unfold State.debugNow; grind [State.memOk, foldl_memOk, Mem.writeBytes_wf, Mem.fill_wf, Mem.congr_wf, Mem.empty_wf, State.enterField_memOk]

theorem State.applyItem_memOk (s : State) (a1) (w : s.memOk) : (State.applyItem s a1).memOk := by
  unfold State.applyItem; grind [State.memOk, foldl_memOk, Mem.writeBytes_wf, Mem.fill_wf, Mem.congr_wf, Mem.empty_wf, State.applyStagedField_memOk, State.activateNow_memOk, State.deactivateNow_memOk, State.modMem_memOk, State.debugNow_memOk]

theorem State.modDom_memOk (s : State) (a1) (a2) (w : s.memOk) : (State.modDom s a1 a2).memOk := by
  unfold State.modDom; grind [State.memOk, foldl_memOk, Mem.writeBytes_wf, Mem.fill_wf, Mem.congr_wf, Mem.empty_wf]

theorem State.vstepFault_memOk (s : State) (a1) (w : s.memOk) : (State.vstepFault s a1).memOk := by
  unfold State.vstepFault; grind [State.memOk, foldl_memOk, Mem.writeBytes_wf, Mem.fill_wf, Mem.congr_wf, Mem.empty_wf, State.raisePage_memOk, State.modDom_memOk]

theorem State.applyPoint_memOk (s : State) (a1) (a2) (w : s.memOk) : (State.applyPoint s a1 a2).memOk := by
  unfold State.applyPoint; grind [State.memOk, foldl_memOk, Mem.writeBytes_wf, Mem.fill_wf, Mem.congr_wf, Mem.empty_wf, State.modDom_memOk, State.vstepFault_memOk]

theorem State.applyRefresh_memOk (s : State) (w : s.memOk) : (State.applyRefresh s).memOk := by
  unfold State.applyRefresh; grind [State.memOk, foldl_memOk, Mem.writeBytes_wf, Mem.fill_wf, Mem.congr_wf, Mem.empty_wf, State.logEvent_memOk, State.setFld_memOk]

theorem State.switchKeys_memOk (s : State) (a1) (w : s.memOk) : (State.switchKeys s a1).memOk := by
  unfold State.switchKeys; grind [State.memOk, foldl_memOk, Mem.writeBytes_wf, Mem.fill_wf, Mem.congr_wf, Mem.empty_wf, State.modCtx_memOk]

theorem State.applyStaged_memOk (s : State) (a1) (w : s.memOk) : (State.applyStaged s a1).memOk := by
  unfold State.applyStaged; grind [State.memOk, foldl_memOk, Mem.writeBytes_wf, Mem.fill_wf, Mem.congr_wf, Mem.empty_wf, State.applyItem_memOk, State.switchKeys_memOk]

theorem State.capChanged_memOk (s : State) (a1) (w : s.memOk) : (State.capChanged s a1).memOk := by
  unfold State.capChanged; grind [State.memOk, foldl_memOk, Mem.writeBytes_wf, Mem.fill_wf, Mem.congr_wf, Mem.empty_wf]

theorem State.planStep3_memOk (s : State) (a1) (w : s.memOk) : (State.planStep3 s a1).memOk := by
  unfold State.planStep3; grind [State.memOk, foldl_memOk, Mem.writeBytes_wf, Mem.fill_wf, Mem.congr_wf, Mem.empty_wf, State.modPlan_memOk, State.setFld_memOk, State.modCtx_memOk, State.fceRaise_memOk]

theorem State.forceFloors_memOk (s : State) (a1) (a2) (w : s.memOk) : (State.forceFloors s a1 a2).memOk := by
  unfold State.forceFloors; grind [State.memOk, foldl_memOk, Mem.writeBytes_wf, Mem.fill_wf, Mem.congr_wf, Mem.empty_wf, State.count_memOk, State.raiseCtx_memOk]

theorem State.powerRecompute_memOk (s : State) (w : s.memOk) : (State.powerRecompute s).memOk := by
  unfold State.powerRecompute; grind [State.memOk, foldl_memOk, Mem.writeBytes_wf, Mem.fill_wf, Mem.congr_wf, Mem.empty_wf, State.modDom_memOk, State.forceFloors_memOk]

theorem State.applyStopped_memOk (s : State) (w : s.memOk) : (State.applyStopped s).memOk := by
  unfold State.applyStopped; grind [State.memOk, foldl_memOk, Mem.writeBytes_wf, Mem.fill_wf, Mem.congr_wf, Mem.empty_wf, State.planStep3_memOk, State.applyStaged_memOk, State.powerRecompute_memOk, State.applyPoint_memOk, State.capChanged_memOk]

theorem State.setMacs_memOk (s : State) (a1) (w : s.memOk) : (State.setMacs s a1).memOk := by
  unfold State.setMacs; grind [State.memOk, foldl_memOk, Mem.writeBytes_wf, Mem.fill_wf, Mem.congr_wf, Mem.empty_wf, State.wr_memOk]

theorem State.applyTrims_memOk (s : State) (w : s.memOk) : (State.applyTrims s).memOk := by
  unfold State.applyTrims; grind [State.memOk, foldl_memOk, Mem.writeBytes_wf, Mem.fill_wf, Mem.congr_wf, Mem.empty_wf, State.setMacs_memOk, State.wr_memOk]

theorem State.readPieces_memOk (s : State) (a1) (a2) (a3) (a4) (a5) (a6) (w : s.memOk) : (State.readPieces s a1 a2 a3 a4 a5 a6).1.memOk := by
  fun_induction State.readPieces s a1 a2 a3 a4 a5 a6 <;> grind [State.memOk, foldl_memOk, Mem.writeBytes_wf, Mem.fill_wf, Mem.congr_wf, Mem.empty_wf, State.xlate_memOk, State.memFault_memOk, State.modMem_memOk]

theorem State.memRead_memOk (s : State) (a1) (a2) (a3) (a4) (a5) (w : s.memOk) : (State.memRead s a1 a2 a3 a4 a5).1.memOk := by
  unfold State.memRead; grind [State.memOk, foldl_memOk, Mem.writeBytes_wf, Mem.fill_wf, Mem.congr_wf, Mem.empty_wf, State.raiseCtx_memOk, State.readPieces_memOk]

theorem State.atVector_memOk (s : State) (a1) (a2) (a3) (a4) (a5) (w : s.memOk) : (State.atVector s a1 a2 a3 a4 a5).1.memOk := by
  unfold State.atVector; grind [State.memOk, foldl_memOk, Mem.writeBytes_wf, Mem.fill_wf, Mem.congr_wf, Mem.empty_wf, State.memRead_memOk]

theorem State.atSlots_memOk (s : State) (a1) (a2) (a3) (a4) (a5) (a6) (w : s.memOk) : (State.atSlots s a1 a2 a3 a4 a5 a6).1.memOk := by
  fun_induction State.atSlots s a1 a2 a3 a4 a5 a6 <;> grind [State.memOk, foldl_memOk, Mem.writeBytes_wf, Mem.fill_wf, Mem.congr_wf, Mem.empty_wf, State.atVector_memOk]

theorem State.atCoaches_memOk (s : State) (a1) (a2) (a3) (a4) (a5) (w : s.memOk) : (State.atCoaches s a1 a2 a3 a4 a5).1.memOk := by
  fun_induction State.atCoaches s a1 a2 a3 a4 a5 <;> grind [State.memOk, foldl_memOk, Mem.writeBytes_wf, Mem.fill_wf, Mem.congr_wf, Mem.empty_wf, State.atSlots_memOk, State.count_memOk]

theorem State.countAtp_memOk (s : State) (a1) (a2) (a3) (w : s.memOk) : (State.countAtp s a1 a2 a3).memOk := by
  unfold State.countAtp; grind [State.memOk, foldl_memOk, Mem.writeBytes_wf, Mem.fill_wf, Mem.congr_wf, Mem.empty_wf, State.count_memOk]

theorem State.fillRec_memOk (s : State) (a1) (a2) (a3) (a4) (w : s.memOk) : (State.fillRec s a1 a2 a3 a4).memOk := by
  unfold State.fillRec; grind [State.memOk, foldl_memOk, Mem.writeBytes_wf, Mem.fill_wf, Mem.congr_wf, Mem.empty_wf, State.wr_memOk]

theorem State.reportCore_memOk (s : State) (a1) (a2) (a3) (w : s.memOk) : (State.reportCore s a1 a2 a3).memOk := by
  unfold State.reportCore; grind [State.memOk, foldl_memOk, Mem.writeBytes_wf, Mem.fill_wf, Mem.congr_wf, Mem.empty_wf, State.fillRec_memOk]

theorem State.atTally_memOk (s : State) (a1) (a2) (a3) (a4) (w : s.memOk) : (State.atTally s a1 a2 a3 a4).memOk := by
  unfold State.atTally; grind [State.memOk, foldl_memOk, Mem.writeBytes_wf, Mem.fill_wf, Mem.congr_wf, Mem.empty_wf, State.countAtp_memOk, State.reportCore_memOk]

theorem State.wharfWrite_memOk (s : State) (a1) (a2) (a3) (w : s.memOk) : (State.wharfWrite s a1 a2 a3).memOk := by
  unfold State.wharfWrite; grind [State.memOk, foldl_memOk, Mem.writeBytes_wf, Mem.fill_wf, Mem.congr_wf, Mem.empty_wf, State.modCore_memOk]

theorem State.atDeliver_memOk (s : State) (a1) (a2) (a3) (w : s.memOk) : (State.atDeliver s a1 a2 a3).memOk := by
  unfold State.atDeliver; grind [State.memOk, foldl_memOk, Mem.writeBytes_wf, Mem.fill_wf, Mem.congr_wf, Mem.empty_wf, State.countAtp_memOk, State.wharfWrite_memOk, State.atTally_memOk, State.modCluster_memOk]

theorem State.scbRelease_memOk (s : State) (a1) (a2) (a3) (w : s.memOk) : (State.scbRelease s a1 a2 a3).memOk := by
  unfold State.scbRelease; grind [State.memOk, foldl_memOk, Mem.writeBytes_wf, Mem.fill_wf, Mem.congr_wf, Mem.empty_wf, State.modCore_memOk]

theorem State.atFinish_memOk (s : State) (a1) (a2) (w : s.memOk) : (State.atFinish s a1 a2).memOk := by
  unfold State.atFinish; grind [State.memOk, foldl_memOk, Mem.writeBytes_wf, Mem.fill_wf, Mem.congr_wf, Mem.empty_wf, State.modCore_memOk, State.scbRelease_memOk]

theorem State.atReject_memOk (s : State) (a1) (a2) (a3) (a4) (w : s.memOk) : (State.atReject s a1 a2 a3 a4).memOk := by
  unfold State.atReject; grind [State.memOk, foldl_memOk, Mem.writeBytes_wf, Mem.fill_wf, Mem.congr_wf, Mem.empty_wf, State.wr_memOk, State.raiseCtx_memOk]

theorem State.atScores_memOk (s : State) (a1) (a2) (w : s.memOk) : (State.atScores s a1 a2).1.memOk := by
  fun_induction State.atScores s a1 a2 <;> grind [State.memOk, foldl_memOk, Mem.writeBytes_wf, Mem.fill_wf, Mem.congr_wf, Mem.empty_wf, State.draw_memOk]

theorem State.atStop_memOk (s : State) (a1) (a2) (a3) (w : s.memOk) : (State.atStop s a1 a2 a3).memOk := by
  unfold State.atStop; grind [State.memOk, foldl_memOk, Mem.writeBytes_wf, Mem.fill_wf, Mem.congr_wf, Mem.empty_wf, State.atFinish_memOk, State.atReject_memOk]

theorem State.atRun_memOk (s : State) (a1) (a2) (a3) (w : s.memOk) : (State.atRun s a1 a2 a3).memOk := by
  unfold State.atRun; grind [State.memOk, foldl_memOk, Mem.writeBytes_wf, Mem.fill_wf, Mem.congr_wf, Mem.empty_wf, State.atStop_memOk, State.atCoaches_memOk, State.atScores_memOk, State.count64_memOk, State.modCore_memOk, State.atTally_memOk]

theorem State.reportUnit_memOk (s : State) (a1) (a2) (a3) (a4) (w : s.memOk) : (State.reportUnit s a1 a2 a3 a4).memOk := by
  unfold State.reportUnit; grind [State.memOk, foldl_memOk, Mem.writeBytes_wf, Mem.fill_wf, Mem.congr_wf, Mem.empty_wf]

theorem State.atomNan_memOk (s : State) (a1) (a2) (a3) (a4) (a5) (w : s.memOk) : (State.atomNan s a1 a2 a3 a4 a5).memOk := by
  unfold State.atomNan; grind [State.memOk, foldl_memOk, Mem.writeBytes_wf, Mem.fill_wf, Mem.congr_wf, Mem.empty_wf, State.reportUnit_memOk]

theorem State.atomApply_memOk (s : State) (a1) (a2) (a3) (a4) (w : s.memOk) : (State.atomApply s a1 a2 a3 a4).1.memOk := by
  fun_induction State.atomApply s a1 a2 a3 a4 <;> grind [State.memOk, foldl_memOk, Mem.writeBytes_wf, Mem.fill_wf, Mem.congr_wf, Mem.empty_wf, State.memRead_memOk, State.memWrite_memOk, State.wharfWrite_memOk, State.xlate_memOk, State.count64_memOk, State.atomNan_memOk]

theorem State.atpEnd_memOk (s : State) (a1) (w : s.memOk) : (State.atpEnd s a1).memOk := by
  unfold State.atpEnd; grind [State.memOk, foldl_memOk, Mem.writeBytes_wf, Mem.fill_wf, Mem.congr_wf, Mem.empty_wf, State.atDeliver_memOk, State.modYard_memOk, State.atFinish_memOk]

theorem State.atpStart_memOk (s : State) (a1) (w : s.memOk) : (State.atpStart s a1).memOk := by
  unfold State.atpStart; grind [State.memOk, foldl_memOk, Mem.writeBytes_wf, Mem.fill_wf, Mem.congr_wf, Mem.empty_wf, State.atRun_memOk, State.modCore_memOk]

theorem State.highWater_memOk (s : State) (a1) (a2) (a3) (a4) (a5) (a6) (w : s.memOk) : (State.highWater s a1 a2 a3 a4 a5 a6).memOk := by
  unfold State.highWater; grind [State.memOk, foldl_memOk, Mem.writeBytes_wf, Mem.fill_wf, Mem.congr_wf, Mem.empty_wf, State.setFld_memOk]

theorem State.retire_memOk (s : State) (a1) (a2) (w : s.memOk) : (State.retire s a1 a2).memOk := by
  unfold State.retire; grind [State.memOk, foldl_memOk, Mem.writeBytes_wf, Mem.fill_wf, Mem.congr_wf, Mem.empty_wf, State.modCore_memOk]

theorem State.scbAdd_memOk (s : State) (a1) (a2) (a3) (a4) (w : s.memOk) : (State.scbAdd s a1 a2 a3 a4).memOk := by
  unfold State.scbAdd; grind [State.memOk, foldl_memOk, Mem.writeBytes_wf, Mem.fill_wf, Mem.congr_wf, Mem.empty_wf, State.modCore_memOk, State.highWater_memOk]

theorem State.stall_memOk (s : State) (a1) (a2) (w : s.memOk) : (State.stall s a1 a2).memOk := by
  unfold State.stall; grind [State.memOk, foldl_memOk, Mem.writeBytes_wf, Mem.fill_wf, Mem.congr_wf, Mem.empty_wf, State.modCore_memOk]

theorem State.atqOp_memOk (s : State) (a1) (a2) (a3) (w : s.memOk) : (State.atqOp s a1 a2 a3).memOk := by
  unfold State.atqOp; grind [State.memOk, foldl_memOk, Mem.writeBytes_wf, Mem.fill_wf, Mem.congr_wf, Mem.empty_wf, State.stall_memOk, State.retire_memOk, State.atReject_memOk, State.nextSeq_memOk, State.scbAdd_memOk, State.modCore_memOk, State.highWater_memOk]

theorem State.fallBack_memOk (s : State) (w : s.memOk) : (State.fallBack s).memOk := by
  unfold State.fallBack; grind [State.memOk, foldl_memOk, Mem.writeBytes_wf, Mem.fill_wf, Mem.congr_wf, Mem.empty_wf, State.applyTrims_memOk, State.raisePage_memOk, State.wr_memOk]

theorem State.histEntry_memOk (s : State) (a1) (a2) (a3) (a4) (a5) (w : s.memOk) : (State.histEntry s a1 a2 a3 a4 a5).memOk := by
  unfold State.histEntry; grind [State.memOk, foldl_memOk, Mem.writeBytes_wf, Mem.fill_wf, Mem.congr_wf, Mem.empty_wf]

theorem State.optFailed_memOk (s : State) (w : s.memOk) : (State.optFailed s).memOk := by
  unfold State.optFailed; grind [State.memOk, foldl_memOk, Mem.writeBytes_wf, Mem.fill_wf, Mem.congr_wf, Mem.empty_wf]

theorem State.optResult_memOk (s : State) (a1) (a2) (a3) (a4) (w : s.memOk) : (State.optResult s a1 a2 a3 a4).memOk := by
  unfold State.optResult; grind [State.memOk, foldl_memOk, Mem.writeBytes_wf, Mem.fill_wf, Mem.congr_wf, Mem.empty_wf, State.wr_memOk]

theorem State.attemptFailed_memOk (s : State) (a1) (a2) (a3) (a4) (a5) (a6) (w : s.memOk) : (State.attemptFailed s a1 a2 a3 a4 a5 a6).1.memOk := by
  unfold State.attemptFailed; grind [State.memOk, foldl_memOk, Mem.writeBytes_wf, Mem.fill_wf, Mem.congr_wf, Mem.empty_wf, State.optResult_memOk, State.histEntry_memOk, State.optFailed_memOk, State.fallBack_memOk]

theorem State.badColl_memOk (s : State) (a1) (a2) (w : s.memOk) : (State.badColl s a1 a2).memOk := by
  unfold State.badColl; grind [State.memOk, foldl_memOk, Mem.writeBytes_wf, Mem.fill_wf, Mem.congr_wf, Mem.empty_wf, State.raiseCtx_memOk]

theorem State.badDesc_memOk (s : State) (a1) (w : s.memOk) : (State.badDesc s a1).memOk := by
  unfold State.badDesc; grind [State.memOk, foldl_memOk, Mem.writeBytes_wf, Mem.fill_wf, Mem.congr_wf, Mem.empty_wf, State.raiseCtx_memOk]

theorem State.scalarError_memOk (s : State) (a1) (a2) (a3) (a4) (w : s.memOk) : (State.scalarError s a1 a2 a3 a4).memOk := by
  unfold State.scalarError; grind [State.memOk, foldl_memOk, Mem.writeBytes_wf, Mem.fill_wf, Mem.congr_wf, Mem.empty_wf, State.retire_memOk, State.raiseCtx_memOk]

theorem State.badFence_memOk (s : State) (a1) (w : s.memOk) : (State.badFence s a1).memOk := by
  unfold State.badFence; grind [State.memOk, foldl_memOk, Mem.writeBytes_wf, Mem.fill_wf, Mem.congr_wf, Mem.empty_wf, State.scalarError_memOk]

theorem State.badSample_memOk (s : State) (a1) (a2) (w : s.memOk) : (State.badSample s a1 a2).memOk := by
  unfold State.badSample; grind [State.memOk, foldl_memOk, Mem.writeBytes_wf, Mem.fill_wf, Mem.congr_wf, Mem.empty_wf, State.raiseCtx_memOk]

theorem State.basinAccept_memOk (s : State) (a1) (a2) (w : s.memOk) : (State.basinAccept s a1 a2).memOk := by
  unfold State.basinAccept; grind [State.memOk, foldl_memOk, Mem.writeBytes_wf, Mem.fill_wf, Mem.congr_wf, Mem.empty_wf, State.modMem_memOk]

theorem State.firstBeat_memOk (s : State) (w : s.memOk) : (State.firstBeat s).memOk := by
  unfold State.firstBeat; grind [State.memOk, foldl_memOk, Mem.writeBytes_wf, Mem.fill_wf, Mem.congr_wf, Mem.empty_wf, State.updAlert_memOk]

theorem State.beat_memOk (s : State) (a1) (w : s.memOk) : (State.beat s a1).memOk := by
  unfold State.beat; grind [State.memOk, foldl_memOk, Mem.writeBytes_wf, Mem.fill_wf, Mem.congr_wf, Mem.empty_wf, State.firstBeat_memOk]

theorem State.beatCheck_memOk (s : State) (w : s.memOk) : (State.beatCheck s).memOk := by
  unfold State.beatCheck; grind [State.memOk, foldl_memOk, Mem.writeBytes_wf, Mem.fill_wf, Mem.congr_wf, Mem.empty_wf, State.raisePage_memOk]

theorem State.clearLink_memOk (s : State) (a1) (w : s.memOk) : (State.clearLink s a1).memOk := by
  unfold State.clearLink; grind [State.memOk, foldl_memOk, Mem.writeBytes_wf, Mem.fill_wf, Mem.congr_wf, Mem.empty_wf, State.dropLink_memOk, State.modLink_memOk]

theorem State.clearBlock_memOk (s : State) (a1) (w : s.memOk) : (State.clearBlock s a1).memOk := by
  unfold State.clearBlock; grind [State.memOk, foldl_memOk, Mem.writeBytes_wf, Mem.fill_wf, Mem.congr_wf, Mem.empty_wf, State.modCluster_memOk, State.modCore_memOk, State.count_memOk, State.dcacheInval_memOk, State.modMem_memOk, State.clearLink_memOk, State.modPort_memOk, State.modDom_memOk]

theorem State.clearStatus_memOk (s : State) (a1) (w : s.memOk) : (State.clearStatus s a1).memOk := by
  unfold State.clearStatus; grind [State.memOk, foldl_memOk, Mem.writeBytes_wf, Mem.fill_wf, Mem.congr_wf, Mem.empty_wf, State.setFld_memOk]

theorem State.blockReset_memOk (s : State) (a1) (w : s.memOk) : (State.blockReset s a1).memOk := by
  unfold State.blockReset; grind [State.memOk, foldl_memOk, Mem.writeBytes_wf, Mem.fill_wf, Mem.congr_wf, Mem.empty_wf, State.accessError_memOk, State.clearStatus_memOk, State.clearBlock_memOk]

theorem State.brakeHeat_memOk (s : State) (a1) (w : s.memOk) : (State.brakeHeat s a1).memOk := by
  unfold State.brakeHeat; grind [State.memOk, foldl_memOk, Mem.writeBytes_wf, Mem.fill_wf, Mem.congr_wf, Mem.empty_wf]

theorem State.templateFault_memOk (s : State) (a1) (w : s.memOk) : (State.templateFault s a1).memOk := by
  unfold State.templateFault; grind [State.memOk, foldl_memOk, Mem.writeBytes_wf, Mem.fill_wf, Mem.congr_wf, Mem.empty_wf, State.raiseCtx_memOk]

theorem State.buildFor_memOk (s : State) (a1) (a2) (a3) (a4) (w : s.memOk) : (State.buildFor s a1 a2 a3 a4).memOk := by
  unfold State.buildFor; grind (splits := 40) (ematch := 20) (gen := 20) [State.memOk, foldl_memOk, Mem.writeBytes_wf, Mem.fill_wf, Mem.congr_wf, Mem.empty_wf, State.memRead_memOk, State.templateFault_memOk, State.memWrite_memOk, State.modCtx_memOk]

theorem State.cancelFrame_memOk (s : State) (a1) (a2) (w : s.memOk) : (State.cancelFrame s a1 a2).memOk := by
  unfold State.cancelFrame; grind [State.memOk, foldl_memOk, Mem.writeBytes_wf, Mem.fill_wf, Mem.congr_wf, Mem.empty_wf, State.frameRow_memOk]

theorem State.cartEnter_memOk (s : State) (a1) (w : s.memOk) : (State.cartEnter s a1).memOk := by
  unfold State.cartEnter; grind [State.memOk, foldl_memOk, Mem.writeBytes_wf, Mem.fill_wf, Mem.congr_wf, Mem.empty_wf, State.highWater_memOk, State.modCore_memOk]

theorem State.mergeJudge_memOk (s : State) (a1) (a2) (w : s.memOk) : (State.mergeJudge s a1 a2).memOk := by
  unfold State.mergeJudge; grind [State.memOk, foldl_memOk, Mem.writeBytes_wf, Mem.fill_wf, Mem.congr_wf, Mem.empty_wf, State.modCluster_memOk, State.raiseCtx_memOk]

theorem State.mergeJudgeAll_memOk (s : State) (a1) (w : s.memOk) : (State.mergeJudgeAll s a1).memOk := by
  unfold State.mergeJudgeAll; grind [State.memOk, foldl_memOk, Mem.writeBytes_wf, Mem.fill_wf, Mem.congr_wf, Mem.empty_wf, State.mergeJudge_memOk]

theorem State.checkDone_memOk (s : State) (a1) (a2) (w : s.memOk) : (State.checkDone s a1 a2).memOk := by
  unfold State.checkDone; grind [State.memOk, foldl_memOk, Mem.writeBytes_wf, Mem.fill_wf, Mem.congr_wf, Mem.empty_wf, State.modCtx_memOk, State.mergeJudgeAll_memOk, State.wr_memOk]

theorem State.rteError_memOk (s : State) (a1) (a2) (a3) (a4) (a5) (w : s.memOk) : (State.rteError s a1 a2 a3 a4 a5).memOk := by
  unfold State.rteError; grind [State.memOk, foldl_memOk, Mem.writeBytes_wf, Mem.fill_wf, Mem.congr_wf, Mem.empty_wf, State.wr_memOk, State.raiseCtx_memOk]

theorem State.failAll_memOk (s : State) (a1) (a2) (a3) (a4) (w : s.memOk) : (State.failAll s a1 a2 a3 a4).memOk := by
  unfold State.failAll; grind [State.memOk, foldl_memOk, Mem.writeBytes_wf, Mem.fill_wf, Mem.congr_wf, Mem.empty_wf, State.count_memOk, State.rteError_memOk, State.flightAbort_memOk]

theorem State.checkFlight_memOk (s : State) (a1) (w : s.memOk) : (State.checkFlight s a1).memOk := by
  unfold State.checkFlight; grind [State.memOk, foldl_memOk, Mem.writeBytes_wf, Mem.fill_wf, Mem.congr_wf, Mem.empty_wf, State.failAll_memOk]

theorem State.checkGuard_memOk (s : State) (a1) (w : s.memOk) : (State.checkGuard s a1).memOk := by
  unfold State.checkGuard; grind [State.memOk, foldl_memOk, Mem.writeBytes_wf, Mem.fill_wf, Mem.congr_wf, Mem.empty_wf, State.failAll_memOk]

theorem State.clTally_memOk (s : State) (a1) (a2) (w : s.memOk) : (State.clTally s a1 a2).memOk := by
  unfold State.clTally; grind [State.memOk, foldl_memOk, Mem.writeBytes_wf, Mem.fill_wf, Mem.congr_wf, Mem.empty_wf, State.draw_memOk, State.reportUnit_memOk]

theorem State.skipSlot_memOk (s : State) (a1) (a2) (a3) (a4) (w : s.memOk) : (State.skipSlot s a1 a2 a3 a4).memOk := by
  unfold State.skipSlot; grind [State.memOk, foldl_memOk, Mem.writeBytes_wf, Mem.fill_wf, Mem.congr_wf, Mem.empty_wf, State.slotBack_memOk, State.count_memOk, State.wr_memOk, State.raiseCtx_memOk, State.ctxDrop_memOk, State.trace_memOk]

theorem State.verifyLater_memOk (s : State) (a1) (a2) (a3) (a4) (w : s.memOk) : (State.verifyLater s a1 a2 a3 a4).memOk := by
  unfold State.verifyLater; grind [State.memOk, foldl_memOk, Mem.writeBytes_wf, Mem.fill_wf, Mem.congr_wf, Mem.empty_wf, State.modCtx_memOk]

theorem State.skipCand_memOk (s : State) (a1) (a2) (a3) (a4) (w : s.memOk) : (State.skipCand s a1 a2 a3 a4).memOk := by
  unfold State.skipCand; grind [State.memOk, foldl_memOk, Mem.writeBytes_wf, Mem.fill_wf, Mem.congr_wf, Mem.empty_wf, State.addDeficit_memOk, State.skipSlot_memOk, State.verifyLater_memOk]

theorem State.slotBody_memOk (s : State) (a1) (a2) (a3) (w : s.memOk) : (State.slotBody s a1 a2 a3).1.memOk := by
  unfold State.slotBody; grind [State.memOk, foldl_memOk, Mem.writeBytes_wf, Mem.fill_wf, Mem.congr_wf, Mem.empty_wf, State.memRead_memOk]

theorem State.classifyDue_memOk (s : State) (a1) (a2) (a3) (a4) (w : s.memOk) : (State.classifyDue s a1 a2 a3 a4).1.memOk := by
  unfold State.classifyDue; grind [State.memOk, foldl_memOk, Mem.writeBytes_wf, Mem.fill_wf, Mem.congr_wf, Mem.empty_wf, State.skipSlot_memOk, State.slotBody_memOk, State.skipCand_memOk]

theorem State.classify_memOk (s : State) (a1) (a2) (w : s.memOk) : (State.classify s a1 a2).1.memOk := by
  unfold State.classify; grind [State.memOk, foldl_memOk, Mem.writeBytes_wf, Mem.fill_wf, Mem.congr_wf, Mem.empty_wf, State.memRead_memOk, State.skipSlot_memOk, State.count_memOk, State.classifyDue_memOk]

theorem State.classifyAll_memOk (s : State) (a1) (a2) (w : s.memOk) : (State.classifyAll s a1 a2).1.memOk := by
  fun_induction State.classifyAll s a1 a2 <;> grind [State.memOk, foldl_memOk, Mem.writeBytes_wf, Mem.fill_wf, Mem.congr_wf, Mem.empty_wf, State.classify_memOk]

theorem State.cleared_memOk (s : State) : (State.cleared s).memOk := rfl

theorem State.rtJudge_memOk (s : State) (a1) (w : s.memOk) : (State.rtJudge s a1).memOk := by
  unfold State.rtJudge; grind [State.memOk, foldl_memOk, Mem.writeBytes_wf, Mem.fill_wf, Mem.congr_wf, Mem.empty_wf]

theorem State.closePound_memOk (s : State) (a1) (w : s.memOk) : (State.closePound s a1).memOk := by
  unfold State.closePound; grind [State.memOk, foldl_memOk, Mem.writeBytes_wf, Mem.fill_wf, Mem.congr_wf, Mem.empty_wf, State.rtJudge_memOk, State.flightAbort_memOk]

theorem State.modInst_memOk (s : State) (a1) (a2) (w : s.memOk) : (State.modInst s a1 a2).memOk := by
  unfold State.modInst; grind [State.memOk, foldl_memOk, Mem.writeBytes_wf, Mem.fill_wf, Mem.congr_wf, Mem.empty_wf]

theorem State.sendBarge_memOk (s : State) (a1) (a2) (w : s.memOk) : (State.sendBarge s a1 a2).2.memOk := by
  unfold State.sendBarge; grind [State.memOk, foldl_memOk, Mem.writeBytes_wf, Mem.fill_wf, Mem.congr_wf, Mem.empty_wf, State.takeSeq_memOk, State.offer_memOk]

theorem foldl_snd_memOk {α β : Type} (g : β × State → α → β × State) (xs : List α) (p : β × State) (h : ∀ p a, p.2.memOk → (g p a).2.memOk) (w : p.2.memOk) : (xs.foldl g p).2.memOk := by
  induction xs generalizing p with
  | nil => exact w
  | cons x xs ih => exact ih _ (h _ _ w)

theorem foldl_fst_memOk {α β : Type} (g : State × β → α → State × β) (xs : List α) (p : State × β) (h : ∀ p a, p.1.memOk → (g p a).1.memOk) (w : p.1.memOk) : (xs.foldl g p).1.memOk := by
  induction xs generalizing p with
  | nil => exact w
  | cons x xs ih => exact ih _ (h _ _ w)

theorem State.collSend_memOk (s : State) (a1) (a2) (a3) (a4) (a5) (a6) (w : s.memOk) : (State.collSend s a1 a2 a3 a4 a5 a6).memOk := by
  unfold State.collSend
  split
  · exact w
  · exact State.modInst_memOk _ _ _ (foldl_snd_memOk _ _ _ (fun p a w => State.sendBarge_memOk _ _ _ w) w)

theorem State.collAdvance_memOk (s : State) (a1) (a2) (w : s.memOk) : (State.collAdvance s a1 a2).memOk := by
  unfold State.collAdvance; grind [State.memOk, foldl_memOk, Mem.writeBytes_wf, Mem.fill_wf, Mem.congr_wf, Mem.empty_wf, State.collSend_memOk, State.clTally_memOk]

theorem State.collDone_memOk (s : State) (a1) (w : s.memOk) : (State.collDone s a1).memOk := by
  unfold State.collDone; grind [State.memOk, foldl_memOk, Mem.writeBytes_wf, Mem.fill_wf, Mem.congr_wf, Mem.empty_wf, State.count_memOk, State.modInst_memOk]

theorem State.syncInc_memOk (s : State) (a1) (a2) (a3) (a4) (w : s.memOk) : (State.syncInc s a1 a2 a3 a4).memOk := by
  unfold State.syncInc; grind [State.memOk, foldl_memOk, Mem.writeBytes_wf, Mem.fill_wf, Mem.congr_wf, Mem.empty_wf, State.count_memOk, State.modCluster_memOk]

theorem State.collWrite_memOk (s : State) (a1) (a2) (a3) (w : s.memOk) : (State.collWrite s a1 a2 a3).memOk := by
  unfold State.collWrite; grind [State.memOk, foldl_memOk, Mem.writeBytes_wf, Mem.fill_wf, Mem.congr_wf, Mem.empty_wf, State.memWrite_memOk, State.badColl_memOk, State.wharfWrite_memOk, State.syncInc_memOk]

theorem State.collComplete_memOk (s : State) (a1) (w : s.memOk) : (State.collComplete s a1).memOk := by
  unfold State.collComplete; grind [State.memOk, foldl_memOk, Mem.writeBytes_wf, Mem.fill_wf, Mem.congr_wf, Mem.empty_wf, State.collDone_memOk, State.collWrite_memOk, State.clTally_memOk]

theorem State.needInst_memOk (s : State) (a1) (a2) (a3) (a4) (w : s.memOk) : (State.needInst s a1 a2 a3 a4).2.memOk := by
  unfold State.needInst; grind [State.memOk, foldl_memOk, Mem.writeBytes_wf, Mem.fill_wf, Mem.congr_wf, Mem.empty_wf]

theorem State.readColl_memOk (s : State) (a1) (a2) (a3) (w : s.memOk) : (State.readColl s a1 a2 a3).1.memOk := by
  unfold State.readColl; grind [State.memOk, foldl_memOk, Mem.writeBytes_wf, Mem.fill_wf, Mem.congr_wf, Mem.empty_wf, State.memRead_memOk]

theorem State.collIn_memOk (s : State) (a1) (a2) (a3) (w : s.memOk) : (State.collIn s a1 a2 a3).memOk := by
  have h1 := State.needInst_memOk s a2 a3.coll a3.inst a3.step w
  unfold State.collIn
  split
  · exact w
  · generalize State.needInst s a2 a3.coll a3.inst a3.step = r at h1 ⊢
    grind [State.modInst_memOk, State.collAdvance_memOk, State.readColl_memOk]

theorem State.collLeaf_memOk (s : State) (a1) (a2) (a3) (a4) (w : s.memOk) : (State.collLeaf s a1 a2 a3 a4).memOk := by
  unfold State.collLeaf
  split
  · exact State.badColl_memOk s a1 _ w
  · dsimp only
    split
    · exact State.badColl_memOk s a1 _ w
    · rename_i slot _ _ n _
      have h1 := State.needInst_memOk s a1 a3 n (s.collTick a1) w
      generalize State.needInst s a1 a3 n (s.collTick a1) = r at h1 ⊢
      grind [State.modInst_memOk, State.collAdvance_memOk, State.readColl_memOk, State.badColl_memOk]

theorem State.tamper_memOk (s : State) (a1) (w : s.memOk) : (State.tamper s a1).memOk := by
  unfold State.tamper; grind [State.memOk, foldl_memOk, Mem.writeBytes_wf, Mem.fill_wf, Mem.congr_wf, Mem.empty_wf, State.raisePage_memOk]

theorem State.copyBad_memOk (s : State) (a1) (w : s.memOk) : (State.copyBad s a1).memOk := by
  unfold State.copyBad; grind [State.memOk, foldl_memOk, Mem.writeBytes_wf, Mem.fill_wf, Mem.congr_wf, Mem.empty_wf, State.tamper_memOk, State.raisePage_memOk]

theorem State.countDrn_memOk (s : State) (a1) (a2) (a3) (w : s.memOk) : (State.countDrn s a1 a2 a3).memOk := by
  unfold State.countDrn; grind [State.memOk, foldl_memOk, Mem.writeBytes_wf, Mem.fill_wf, Mem.congr_wf, Mem.empty_wf, State.count_memOk]

theorem State.countFence_memOk (s : State) (a1) (w : s.memOk) : (State.countFence s a1).memOk := by
  unfold State.countFence; grind [State.memOk, foldl_memOk, Mem.writeBytes_wf, Mem.fill_wf, Mem.congr_wf, Mem.empty_wf, State.count_memOk]

theorem State.countMacs_memOk (s : State) (a1) (a2) (w : s.memOk) : (State.countMacs s a1 a2).memOk := by
  unfold State.countMacs; grind [State.memOk, foldl_memOk, Mem.writeBytes_wf, Mem.fill_wf, Mem.congr_wf, Mem.empty_wf, State.count64_memOk]

theorem State.ctxFlightAbort_memOk (s : State) (a1) (a2) (w : s.memOk) : (State.ctxFlightAbort s a1 a2).memOk := by
  unfold State.ctxFlightAbort; grind [State.memOk, foldl_memOk, Mem.writeBytes_wf, Mem.fill_wf, Mem.congr_wf, Mem.empty_wf, State.flightAbort_memOk]

theorem State.portFlush_memOk (s : State) (a1) (a2) (w : s.memOk) : (State.portFlush s a1 a2).memOk := by
  unfold State.portFlush; grind [State.memOk, foldl_memOk, Mem.writeBytes_wf, Mem.fill_wf, Mem.congr_wf, Mem.empty_wf, State.modCore_memOk, State.basinAccept_memOk]

theorem State.portFlushAll_memOk (s : State) (a1) (w : s.memOk) : (State.portFlushAll s a1).memOk := by
  unfold State.portFlushAll; grind [State.memOk, foldl_memOk, Mem.writeBytes_wf, Mem.fill_wf, Mem.congr_wf, Mem.empty_wf, State.portFlush_memOk]

theorem State.relDone_memOk (s : State) (a1) (a2) (w : s.memOk) : (State.relDone s a1 a2).memOk := by
  unfold State.relDone; grind [State.memOk, foldl_memOk, Mem.writeBytes_wf, Mem.fill_wf, Mem.congr_wf, Mem.empty_wf, State.portFlushAll_memOk]

theorem State.fenceOp_memOk (s : State) (a1) (a2) (a3) (w : s.memOk) : (State.fenceOp s a1 a2 a3).memOk := by
  unfold State.fenceOp; grind [State.memOk, foldl_memOk, Mem.writeBytes_wf, Mem.fill_wf, Mem.congr_wf, Mem.empty_wf, State.badFence_memOk, State.stall_memOk, State.relDone_memOk, State.acqDone_memOk, State.retire_memOk, State.countFence_memOk]

theorem State.portDrain_memOk (s : State) (a1) (w : s.memOk) : (State.portDrain s a1).memOk := by
  unfold State.portDrain; grind [State.memOk, foldl_memOk, Mem.writeBytes_wf, Mem.fill_wf, Mem.congr_wf, Mem.empty_wf, State.modCore_memOk, State.draw_memOk, State.basinAccept_memOk]

theorem State.portBefore_memOk (s : State) (a1) (a2) (a3) (w : s.memOk) : (State.portBefore s a1 a2 a3).memOk := by
  unfold State.portBefore; grind [State.memOk, foldl_memOk, Mem.writeBytes_wf, Mem.fill_wf, Mem.congr_wf, Mem.empty_wf, State.portDrain_memOk, State.portFlush_memOk, State.portFlushAll_memOk]

theorem State.lduOp_memOk (s : State) (a1) (a2) (a3) (a4) (w : s.memOk) : (State.lduOp s a1 a2 a3 a4).memOk := by
  unfold State.lduOp; grind [State.memOk, foldl_memOk, Mem.writeBytes_wf, Mem.fill_wf, Mem.congr_wf, Mem.empty_wf, State.stall_memOk, State.scalarError_memOk, State.memRead_memOk, State.portBefore_memOk, State.retire_memOk, State.modCore_memOk]

theorem State.syiOp_memOk (s : State) (a1) (a2) (a3) (a4) (w : s.memOk) : (State.syiOp s a1 a2 a3 a4).memOk := by
  unfold State.syiOp; grind [State.memOk, foldl_memOk, Mem.writeBytes_wf, Mem.fill_wf, Mem.congr_wf, Mem.empty_wf, State.stall_memOk, State.badFence_memOk, State.scalarError_memOk, State.relDone_memOk, State.syncInc_memOk, State.retire_memOk, State.countFence_memOk]

theorem State.syrOp_memOk (s : State) (a1) (a2) (a3) (w : s.memOk) : (State.syrOp s a1 a2 a3).memOk := by
  unfold State.syrOp; grind [State.memOk, foldl_memOk, Mem.writeBytes_wf, Mem.fill_wf, Mem.congr_wf, Mem.empty_wf, State.stall_memOk, State.scalarError_memOk, State.retire_memOk, State.modCore_memOk]

theorem State.judgeSyw_memOk (s : State) (a1) (a2) (a3) (w : s.memOk) : (State.judgeSyw s a1 a2 a3).memOk := by
  unfold State.judgeSyw; grind [State.memOk, foldl_memOk, Mem.writeBytes_wf, Mem.fill_wf, Mem.congr_wf, Mem.empty_wf, State.wr_memOk, State.raiseCtx_memOk]

theorem State.sywEnd_memOk (s : State) (a1) (a2) (a3) (w : s.memOk) : (State.sywEnd s a1 a2 a3).memOk := by
  unfold State.sywEnd; grind [State.memOk, foldl_memOk, Mem.writeBytes_wf, Mem.fill_wf, Mem.congr_wf, Mem.empty_wf, State.retire_memOk, State.countFence_memOk, State.acqDone_memOk, State.judgeSyw_memOk]

theorem State.sywOp_memOk (s : State) (a1) (a2) (a3) (a4) (w : s.memOk) : (State.sywOp s a1 a2 a3 a4).memOk := by
  unfold State.sywOp; grind [State.memOk, foldl_memOk, Mem.writeBytes_wf, Mem.fill_wf, Mem.congr_wf, Mem.empty_wf, State.stall_memOk, State.badFence_memOk, State.scalarError_memOk, State.sywEnd_memOk]

theorem State.customOp_memOk (s : State) (a1) (a2) (w : s.memOk) : (State.customOp s a1 a2).memOk := by
  unfold State.customOp; grind [State.memOk, foldl_memOk, Mem.writeBytes_wf, Mem.fill_wf, Mem.congr_wf, Mem.empty_wf, State.fenceOp_memOk, State.badFence_memOk, State.syiOp_memOk, State.sywOp_memOk, State.syrOp_memOk, State.lduOp_memOk]

theorem State.cydTimes_memOk (s : State) (a1) (w : s.memOk) : (State.cydTimes s a1).memOk := by
  unfold State.cydTimes; grind [State.memOk, foldl_memOk, Mem.writeBytes_wf, Mem.fill_wf, Mem.congr_wf, Mem.empty_wf, State.highWater_memOk, State.setFld_memOk]

theorem State.cyqOp_memOk (s : State) (a1) (a2) (a3) (w : s.memOk) : (State.cyqOp s a1 a2 a3).memOk := by
  unfold State.cyqOp; grind [State.memOk, foldl_memOk, Mem.writeBytes_wf, Mem.fill_wf, Mem.congr_wf, Mem.empty_wf, State.nextSeq_memOk, State.retire_memOk, State.yardErr_memOk, State.stall_memOk, State.scbAdd_memOk, State.modYard_memOk]

theorem State.relay_memOk (s : State) (a1) (a2) (a3) (w : s.memOk) : (State.relay s a1 a2 a3).memOk := by
  unfold State.relay; grind [State.memOk, foldl_memOk, Mem.writeBytes_wf, Mem.fill_wf, Mem.congr_wf, Mem.empty_wf, State.dropBarge_memOk, State.offer_memOk]

theorem State.rwApply_memOk (s : State) (a1) (a2) (a3) (w : s.memOk) : (State.rwApply s a1 a2 a3).memOk := by
  unfold State.rwApply; grind [State.memOk, foldl_memOk, Mem.writeBytes_wf, Mem.fill_wf, Mem.congr_wf, Mem.empty_wf, State.memWrite_memOk, State.fceCount_memOk, State.raiseCtx_memOk, State.modMem_memOk, State.sendBarge_memOk]

theorem State.rwDrain_memOk (s : State) (a1) (a2) (a3) (w : s.memOk) : (State.rwDrain s a1 a2 a3).memOk := by
  unfold State.rwDrain; grind [State.memOk, foldl_memOk, Mem.writeBytes_wf, Mem.fill_wf, Mem.congr_wf, Mem.empty_wf, State.modPlan_memOk, State.rwApply_memOk]

theorem State.dataIn_memOk (s : State) a b c f (w : s.memOk) (h : ∀ s i j, s.memOk → (f s i j).memOk) : (s.dataIn a b c f).memOk := by
  unfold State.dataIn; grind [State.memOk, foldl_memOk, Mem.writeBytes_wf, Mem.fill_wf, Mem.congr_wf, Mem.empty_wf, State.bargeIn_memOk, State.relay_memOk, State.dropBarge_memOk, State.rwDrain_memOk]

theorem State.dataBarge_memOk (s : State) (a1) (a2) (a3) (w : s.memOk) : (s.dataBarge a1 a2 a3).memOk := by
  unfold State.dataBarge
  split
  · exact State.hold_memOk s _ w
  · exact State.dataIn_memOk s _ _ _ _ w (fun s i j h => State.collIn_memOk s i j _ h)

theorem State.dbgAccept_memOk (s : State) (a1) (w : s.memOk) : (State.dbgAccept s a1).memOk := by
  unfold State.dbgAccept; grind [State.memOk, foldl_memOk, Mem.writeBytes_wf, Mem.fill_wf, Mem.congr_wf, Mem.empty_wf, State.wr_memOk]

theorem State.dbgRefuse_memOk (s : State) (a1) (w : s.memOk) : (State.dbgRefuse s a1).memOk := by
  unfold State.dbgRefuse; grind [State.memOk, foldl_memOk, Mem.writeBytes_wf, Mem.fill_wf, Mem.congr_wf, Mem.empty_wf, State.wr_memOk, State.raisePage_memOk]

theorem State.dcachePiece_memOk (s : State) (a1) (a2) (a3) (a4) (a5) (w : s.memOk) : (State.dcachePiece s a1 a2 a3 a4 a5).1.memOk := by
  unfold State.dcachePiece; grind [State.memOk, foldl_memOk, Mem.writeBytes_wf, Mem.fill_wf, Mem.congr_wf, Mem.empty_wf, State.draw_memOk, State.count_memOk, State.readPieces_memOk, State.modCore_memOk]

theorem State.dcachePieces_memOk (s : State) (a1) (a2) (a3) (a4) (a5) (w : s.memOk) : (State.dcachePieces s a1 a2 a3 a4 a5).1.memOk := by
  fun_induction State.dcachePieces s a1 a2 a3 a4 a5 <;> grind [State.memOk, foldl_memOk, Mem.writeBytes_wf, Mem.fill_wf, Mem.congr_wf, Mem.empty_wf, State.dcachePiece_memOk]

theorem State.dcacheRead_memOk (s : State) (a1) (a2) (a3) (a4) (w : s.memOk) : (State.dcacheRead s a1 a2 a3 a4).1.memOk := by
  unfold State.dcacheRead; grind [State.memOk, foldl_memOk, Mem.writeBytes_wf, Mem.fill_wf, Mem.congr_wf, Mem.empty_wf, State.raiseCtx_memOk, State.dcachePieces_memOk]

theorem State.dcinvOp_memOk (s : State) (a1) (w : s.memOk) : (State.dcinvOp s a1).memOk := by
  unfold State.dcinvOp; grind [State.memOk, foldl_memOk, Mem.writeBytes_wf, Mem.fill_wf, Mem.congr_wf, Mem.empty_wf, State.retire_memOk, State.dcacheInval_memOk]

theorem State.escalate_memOk (s : State) (a1) (w : s.memOk) : (State.escalate s a1).memOk := by
  unfold State.escalate; grind [State.memOk, foldl_memOk, Mem.writeBytes_wf, Mem.fill_wf, Mem.congr_wf, Mem.empty_wf, State.raisePage_memOk, State.condemn_memOk, State.askRestart_memOk]

theorem State.declareHang_memOk (s : State) (w : s.memOk) : (State.declareHang s).memOk := by
  unfold State.declareHang; grind [State.memOk, foldl_memOk, Mem.writeBytes_wf, Mem.fill_wf, Mem.congr_wf, Mem.empty_wf, State.raise_memOk, State.count_memOk, State.updAlert_memOk, State.trigCapture_memOk, State.escalate_memOk]

theorem State.dmWrite_memOk (s : State) (a1) (a2) (a3) (w : s.memOk) : (State.dmWrite s a1 a2 a3).1.memOk := by
  fun_induction State.dmWrite s a1 a2 a3 <;> grind [State.memOk, foldl_memOk, Mem.writeBytes_wf, Mem.fill_wf, Mem.congr_wf, Mem.empty_wf, State.memWrite_memOk]

theorem State.dmApply_memOk (s : State) (a1) (a2) (a3) (w : s.memOk) : (State.dmApply s a1 a2 a3).1.memOk := by
  unfold State.dmApply; grind [State.memOk, foldl_memOk, Mem.writeBytes_wf, Mem.fill_wf, Mem.congr_wf, Mem.empty_wf, State.yardErr_memOk, State.dmWrite_memOk, State.modYard_memOk, State.atomApply_memOk, State.wharfWrite_memOk]

theorem State.rwSend_memOk (s : State) (a1) (a2) (a3) (a4) (w : s.memOk) : (State.rwSend s a1 a2 a3 a4).2.memOk := by
  fun_induction State.rwSend s a1 a2 a3 a4 <;> grind [State.memOk, foldl_memOk, Mem.writeBytes_wf, Mem.fill_wf, Mem.congr_wf, Mem.empty_wf, State.takeSeq_memOk, State.offer_memOk]

theorem State.rwStart_memOk (s : State) (a1) (a2) (a3) (a4) (w : s.memOk) : (State.rwStart s a1 a2 a3 a4).memOk := by
  unfold State.rwStart; grind [State.memOk, foldl_memOk, Mem.writeBytes_wf, Mem.fill_wf, Mem.congr_wf, Mem.empty_wf, State.modCore_memOk, State.rwSend_memOk]

theorem State.dmBegin_memOk (s : State) (a1) (a2) (a3) (a4) (a5) (w : s.memOk) : (State.dmBegin s a1 a2 a3 a4 a5).memOk := by
  unfold State.dmBegin; grind [State.memOk, foldl_memOk, Mem.writeBytes_wf, Mem.fill_wf, Mem.congr_wf, Mem.empty_wf, State.modCore_memOk, State.rwStart_memOk]

theorem State.dmFinish_memOk (s : State) (a1) (a2) (w : s.memOk) : (State.dmFinish s a1 a2).memOk := by
  unfold State.dmFinish; grind [State.memOk, foldl_memOk, Mem.writeBytes_wf, Mem.fill_wf, Mem.congr_wf, Mem.empty_wf, State.scbRelease_memOk, State.modCore_memOk]

theorem State.dmReject_memOk (s : State) (a1) (a2) (a3) (a4) (w : s.memOk) : (State.dmReject s a1 a2 a3 a4).memOk := by
  unfold State.dmReject; grind [State.memOk, foldl_memOk, Mem.writeBytes_wf, Mem.fill_wf, Mem.congr_wf, Mem.empty_wf, State.wr_memOk, State.raiseCtx_memOk]

theorem State.dmStop_memOk (s : State) (a1) (a2) (a3) (w : s.memOk) : (State.dmStop s a1 a2 a3).memOk := by
  unfold State.dmStop; grind [State.memOk, foldl_memOk, Mem.writeBytes_wf, Mem.fill_wf, Mem.congr_wf, Mem.empty_wf, State.dmFinish_memOk, State.dmReject_memOk]

theorem State.dmSyncInc_memOk (s : State) (a1) (a2) (a3) (w : s.memOk) : (State.dmSyncInc s a1 a2 a3).memOk := by
  unfold State.dmSyncInc; grind [State.memOk, foldl_memOk, Mem.writeBytes_wf, Mem.fill_wf, Mem.congr_wf, Mem.empty_wf, State.syncInc_memOk]

theorem State.dmComplete_memOk (s : State) (a1) (a2) (w : s.memOk) : (State.dmComplete s a1 a2).memOk := by
  unfold State.dmComplete; grind [State.memOk, foldl_memOk, Mem.writeBytes_wf, Mem.fill_wf, Mem.congr_wf, Mem.empty_wf, State.dmApply_memOk, State.dmStop_memOk, State.dmSyncInc_memOk, State.dmFinish_memOk, State.count64_memOk]

theorem State.dmRead_memOk (s : State) (a1) (a2) (a3) (a4) (a5) (w : s.memOk) : (State.dmRead s a1 a2 a3 a4 a5).1.memOk := by
  fun_induction State.dmRead s a1 a2 a3 a4 a5 <;> grind [State.memOk, foldl_memOk, Mem.writeBytes_wf, Mem.fill_wf, Mem.congr_wf, Mem.empty_wf, State.memRead_memOk]

theorem State.dmStart_memOk (s : State) (a1) (a2) (a3) (w : s.memOk) : (State.dmStart s a1 a2 a3).memOk := by
  unfold State.dmStart; grind [State.memOk, foldl_memOk, Mem.writeBytes_wf, Mem.fill_wf, Mem.congr_wf, Mem.empty_wf, State.dmStop_memOk, State.yardErr_memOk, State.dmFinish_memOk, State.dmRead_memOk, State.portBefore_memOk, State.dmBegin_memOk]

theorem State.torn_memOk (s : State) (a1) (a2) (w : s.memOk) : (State.torn s a1 a2).1.memOk := by
  fun_induction State.torn s a1 a2 <;> grind [State.memOk, foldl_memOk, Mem.writeBytes_wf, Mem.fill_wf, Mem.congr_wf, Mem.empty_wf, State.draw_memOk]

theorem State.dmTear_memOk (s : State) (a1) (a2) (a3) (w : s.memOk) : (State.dmTear s a1 a2 a3).memOk := by
  unfold State.dmTear; grind [State.memOk, foldl_memOk, Mem.writeBytes_wf, Mem.fill_wf, Mem.congr_wf, Mem.empty_wf, State.torn_memOk, State.wharfWrite_memOk, State.modMem_memOk, State.draw_memOk, State.atomApply_memOk]

theorem State.dmaStart_memOk (s : State) (a1) (w : s.memOk) : (State.dmaStart s a1).memOk := by
  unfold State.dmaStart; grind [State.memOk, foldl_memOk, Mem.writeBytes_wf, Mem.fill_wf, Mem.congr_wf, Mem.empty_wf, State.dmStart_memOk, State.modCore_memOk]

theorem State.dmqOp_memOk (s : State) (a1) (a2) (a3) (w : s.memOk) : (State.dmqOp s a1 a2 a3).memOk := by
  unfold State.dmqOp; grind [State.memOk, foldl_memOk, Mem.writeBytes_wf, Mem.fill_wf, Mem.congr_wf, Mem.empty_wf, State.stall_memOk, State.nextSeq_memOk, State.retire_memOk, State.dmReject_memOk, State.scbAdd_memOk, State.modCore_memOk]

theorem State.domainHeat_memOk (s : State) (a1) (w : s.memOk) : (State.domainHeat s a1).memOk := by
  unfold State.domainHeat; grind [State.memOk, foldl_memOk, Mem.writeBytes_wf, Mem.fill_wf, Mem.congr_wf, Mem.empty_wf, State.modDom_memOk, State.wr_memOk, State.raisePage_memOk]

theorem State.drainDone_memOk (s : State) (a1) (a2) (w : s.memOk) : (State.drainDone s a1 a2).memOk := by
  unfold State.drainDone; grind [State.memOk, foldl_memOk, Mem.writeBytes_wf, Mem.fill_wf, Mem.congr_wf, Mem.empty_wf, State.modCore_memOk, State.scbRelease_memOk]

theorem State.drainNan_memOk (s : State) (a1) (a2) (a3) (a4) (a5) (a6) (a7) (w : s.memOk) : (State.drainNan s a1 a2 a3 a4 a5 a6 a7).memOk := by
  unfold State.drainNan; grind [State.memOk, foldl_memOk, Mem.writeBytes_wf, Mem.fill_wf, Mem.congr_wf, Mem.empty_wf, State.reportCore_memOk, State.draw_memOk]

theorem State.drainSat_memOk (s : State) (a1) (a2) (a3) (a4) (a5) (w : s.memOk) : (State.drainSat s a1 a2 a3 a4 a5).1.memOk := by
  unfold State.drainSat; grind [State.memOk, foldl_memOk, Mem.writeBytes_wf, Mem.fill_wf, Mem.congr_wf, Mem.empty_wf, State.fillRec_memOk, State.raiseCtx_memOk]

theorem State.drainRow_memOk (s : State) (a1) (a2) (a3) (a4) (a5) (w : s.memOk) : (State.drainRow s a1 a2 a3 a4 a5).1.memOk := by
  unfold State.drainRow; grind [State.memOk, foldl_memOk, Mem.writeBytes_wf, Mem.fill_wf, Mem.congr_wf, Mem.empty_wf, State.drainNan_memOk, State.drainSat_memOk, State.countDrn_memOk, State.count64_memOk]

theorem State.drainCarts_memOk (s : State) (a1) (a2) (a3) (a4) (a5) (w : s.memOk) : (State.drainCarts s a1 a2 a3 a4 a5).memOk := by
  fun_induction State.drainCarts s a1 a2 a3 a4 a5
  case case1 => exact w
  case case2 => exact State.drainDone_memOk _ _ _ w
  case case3 => exact w
  case case4 s fuel it _ _ _ n s1 it1 bytes hs _ _ s2 s3 ih =>
    have h := foldl_fst_memOk (fun (p : State × DrainItem × List Byte) i => ((p.1.drainRow a1 a2 p.2.1 a3 (it.next + i)).1, (p.1.drainRow a1 a2 p.2.1 a3 (it.next + i)).2.1, p.2.2 ++ (p.1.drainRow a1 a2 p.2.1 a3 (it.next + i)).2.2)) (List.range n) (s, it, []) (fun p a w => State.drainRow_memOk _ _ _ _ _ _ w) w
    rw [hs] at h
    exact ih (State.highWater_memOk _ _ _ _ _ _ _ (State.modCore_memOk _ _ _ h))

theorem State.drainRows_memOk (s : State) (a1) (a2) (a3) (a4) (a5) (w : s.memOk) : (State.drainRows s a1 a2 a3 a4 a5).memOk := by
  fun_induction State.drainRows s a1 a2 a3 a4 a5 <;> grind [State.memOk, foldl_memOk, Mem.writeBytes_wf, Mem.fill_wf, Mem.congr_wf, Mem.empty_wf, State.drainDone_memOk, State.drainDone_memOk, State.raiseCtx_memOk, State.drainRow_memOk, State.wharfWrite_memOk]

theorem State.drainBank_memOk (s : State) (a1) (w : s.memOk) : (State.drainBank s a1).memOk := by
  unfold State.drainBank; grind [State.memOk, foldl_memOk, Mem.writeBytes_wf, Mem.fill_wf, Mem.congr_wf, Mem.empty_wf, State.modCore_memOk, State.drainRows_memOk, State.drainCarts_memOk]

theorem State.drawFrame_memOk (s : State) (a1) (w : s.memOk) : (State.drawFrame s a1).2.memOk := by
  unfold State.drawFrame; grind [State.memOk, foldl_memOk, Mem.writeBytes_wf, Mem.fill_wf, Mem.congr_wf, Mem.empty_wf, State.draw_memOk]

theorem State.drawIndex_memOk (s : State) (w : s.memOk) : (State.drawIndex s).2.memOk := by
  unfold State.drawIndex; grind [State.memOk, foldl_memOk, Mem.writeBytes_wf, Mem.fill_wf, Mem.congr_wf, Mem.empty_wf, State.draw_memOk]

theorem State.setPlan_memOk (s : State) (a1) (a2) (a3) (w : s.memOk) : (State.setPlan s a1 a2 a3).memOk := by
  unfold State.setPlan; grind [State.memOk, foldl_memOk, Mem.writeBytes_wf, Mem.fill_wf, Mem.congr_wf, Mem.empty_wf, State.logEvent_memOk, State.modDom_memOk]

theorem State.droopStep_memOk (s : State) (a1) (w : s.memOk) : (State.droopStep s a1).memOk := by
  unfold State.droopStep; grind [State.memOk, foldl_memOk, Mem.writeBytes_wf, Mem.fill_wf, Mem.congr_wf, Mem.empty_wf, State.setPlan_memOk, State.raisePage_memOk, State.modDom_memOk]

theorem State.dropCarts_memOk (s : State) (a1) (a2) (w : s.memOk) : (State.dropCarts s a1 a2).memOk := by
  unfold State.dropCarts; grind [State.memOk, foldl_memOk, Mem.writeBytes_wf, Mem.fill_wf, Mem.congr_wf, Mem.empty_wf, State.count_memOk, State.modCore_memOk, State.raiseCtx_memOk]

theorem State.dsetOp_memOk (s : State) (a1) (a2) (a3) (w : s.memOk) : (State.dsetOp s a1 a2 a3).memOk := by
  unfold State.dsetOp; grind [State.memOk, foldl_memOk, Mem.writeBytes_wf, Mem.fill_wf, Mem.congr_wf, Mem.empty_wf, State.stall_memOk, State.retire_memOk, State.badDesc_memOk, State.modCore_memOk]

theorem State.edgeFence_memOk (s : State) (w : s.memOk) : (State.edgeFence s).memOk := by
  unfold State.edgeFence; grind [State.memOk, foldl_memOk, Mem.writeBytes_wf, Mem.fill_wf, Mem.congr_wf, Mem.empty_wf, State.portFlushAll_memOk]

theorem State.forgetPounds_memOk (s : State) (a1) (w : s.memOk) : (State.forgetPounds s a1).memOk := by
  unfold State.forgetPounds; grind [State.memOk, foldl_memOk, Mem.writeBytes_wf, Mem.fill_wf, Mem.congr_wf, Mem.empty_wf]

theorem State.tearStore_memOk (s : State) (a1) (a2) (w : s.memOk) : (State.tearStore s a1 a2).memOk := by
  unfold State.tearStore; grind [State.memOk, foldl_memOk, Mem.writeBytes_wf, Mem.fill_wf, Mem.congr_wf, Mem.empty_wf, State.torn_memOk, State.modMem_memOk]

theorem State.removeCore_memOk (s : State) (a1) (a2) (w : s.memOk) : (State.removeCore s a1 a2).memOk := by
  unfold State.removeCore; grind [State.memOk, foldl_memOk, Mem.writeBytes_wf, Mem.fill_wf, Mem.congr_wf, Mem.empty_wf, State.dmTear_memOk, State.tearStore_memOk, State.modCore_memOk]

theorem State.rtRemove_memOk (s : State) (a1) (w : s.memOk) : (State.rtRemove s a1).memOk := by
  unfold State.rtRemove; grind [State.memOk, foldl_memOk, Mem.writeBytes_wf, Mem.fill_wf, Mem.congr_wf, Mem.empty_wf, State.rtFree_memOk]

theorem State.smpDrop_memOk (s : State) (a1) (w : s.memOk) : (State.smpDrop s a1).memOk := by
  unfold State.smpDrop; grind [State.memOk, foldl_memOk, Mem.writeBytes_wf, Mem.fill_wf, Mem.congr_wf, Mem.empty_wf]

theorem State.yardDrop_memOk (s : State) (a1) (w : s.memOk) : (State.yardDrop s a1).memOk := by
  unfold State.yardDrop; grind [State.memOk, foldl_memOk, Mem.writeBytes_wf, Mem.fill_wf, Mem.congr_wf, Mem.empty_wf, State.modYard_memOk]

theorem State.removeWork_memOk (s : State) (a1) (a2) (w : s.memOk) : (State.removeWork s a1 a2).memOk := by
  unfold State.removeWork; grind [State.memOk, foldl_memOk, Mem.writeBytes_wf, Mem.fill_wf, Mem.congr_wf, Mem.empty_wf, State.modCluster_memOk, State.removeCore_memOk, State.smpDrop_memOk, State.rtRemove_memOk, State.yardDrop_memOk]

theorem State.scrubRecord_memOk (s : State) (a1) (a2) (w : s.memOk) : (State.scrubRecord s a1 a2).memOk := by
  unfold State.scrubRecord; grind [State.memOk, foldl_memOk, Mem.writeBytes_wf, Mem.fill_wf, Mem.congr_wf, Mem.empty_wf, State.modCtx_memOk, State.wr_memOk, State.count_memOk, State.emit_memOk]

theorem State.stopPlans_memOk (s : State) (a1) (a2) (w : s.memOk) : (State.stopPlans s a1 a2).memOk := by
  unfold State.stopPlans; grind [State.memOk, foldl_memOk, Mem.writeBytes_wf, Mem.fill_wf, Mem.congr_wf, Mem.empty_wf, State.modPlan_memOk]

theorem State.edgeStep2_memOk (s : State) (a1) (a2) (a3) (w : s.memOk) : (State.edgeStep2 s a1 a2 a3).memOk := by
  unfold State.edgeStep2; grind [State.memOk, foldl_memOk, Mem.writeBytes_wf, Mem.fill_wf, Mem.congr_wf, Mem.empty_wf, State.addTotals_memOk, State.removeWork_memOk, State.forgetPounds_memOk, State.stopPlans_memOk, State.edgeFence_memOk, State.scrubRecord_memOk]

theorem State.scrubStorm_memOk (s : State) (a1) (w : s.memOk) : (State.scrubStorm s a1).memOk := by
  unfold State.scrubStorm; grind [State.memOk, foldl_memOk, Mem.writeBytes_wf, Mem.fill_wf, Mem.congr_wf, Mem.empty_wf, State.raiseCtx_memOk]

theorem State.thermalLimit_memOk (s : State) (w : s.memOk) : (State.thermalLimit s).memOk := by
  unfold State.thermalLimit; grind [State.memOk, foldl_memOk, Mem.writeBytes_wf, Mem.fill_wf, Mem.congr_wf, Mem.empty_wf, State.modDom_memOk, State.count_memOk]

theorem State.edgeStep3_memOk (s : State) (a1) (a2) (w : s.memOk) : (State.edgeStep3 s a1 a2).memOk := by
  unfold State.edgeStep3; grind [State.memOk, foldl_memOk, Mem.writeBytes_wf, Mem.fill_wf, Mem.congr_wf, Mem.empty_wf, State.thermalLimit_memOk, State.planStep3_memOk, State.applyStaged_memOk, State.capChanged_memOk, State.powerRecompute_memOk, State.scrubStorm_memOk]

theorem State.srvAfterYard_memOk (s : State) (a1) (w : s.memOk) : (State.srvAfterYard s a1).memOk := by
  unfold State.srvAfterYard; grind [State.memOk, foldl_memOk, Mem.writeBytes_wf, Mem.fill_wf, Mem.congr_wf, Mem.empty_wf, State.respond_memOk, State.modBerth_memOk, State.yardRelease_memOk, State.yardOpen_memOk]

theorem State.yardDecide_memOk (s : State) (a1) (a2) (w : s.memOk) : (State.yardDecide s a1 a2).memOk := by
  unfold State.yardDecide; grind [State.memOk, foldl_memOk, Mem.writeBytes_wf, Mem.fill_wf, Mem.congr_wf, Mem.empty_wf, State.count_memOk]

theorem State.yardTrim_memOk (s : State) (a1) (a2) (a3) (w : s.memOk) : (State.yardTrim s a1 a2 a3).memOk := by
  unfold State.yardTrim; grind [State.memOk, foldl_memOk, Mem.writeBytes_wf, Mem.fill_wf, Mem.congr_wf, Mem.empty_wf, State.modYard_memOk, State.count_memOk, State.yardErr_memOk]

theorem State.yardEdge_memOk (s : State) (a1) (a2) (w : s.memOk) : (State.yardEdge s a1 a2).memOk := by
  unfold State.yardEdge; grind [State.memOk, foldl_memOk, Mem.writeBytes_wf, Mem.fill_wf, Mem.congr_wf, Mem.empty_wf, State.yardDecide_memOk, State.yardTrim_memOk]

theorem State.edgeStep4_memOk (s : State) (a1) (a2) (a3) (w : s.memOk) : (State.edgeStep4 s a1 a2 a3).memOk := by
  unfold State.edgeStep4; grind [State.memOk, foldl_memOk, Mem.writeBytes_wf, Mem.fill_wf, Mem.congr_wf, Mem.empty_wf, State.cydTimes_memOk, State.yardEdge_memOk, State.srvAfterYard_memOk]

theorem State.grantCluster_memOk (s : State) (a1) (a2) (w : s.memOk) : (State.grantCluster s a1 a2).memOk := by
  unfold State.grantCluster; grind [State.memOk, foldl_memOk, Mem.writeBytes_wf, Mem.fill_wf, Mem.congr_wf, Mem.empty_wf, State.count_memOk, State.zeroCluster_memOk, State.modCluster_memOk]

theorem State.grantCand_memOk (s : State) (a1) (a2) (a3) (w : s.memOk) : (State.grantCand s a1 a2 a3).memOk := by
  unfold State.grantCand; grind [State.memOk, foldl_memOk, Mem.writeBytes_wf, Mem.fill_wf, Mem.congr_wf, Mem.empty_wf, State.grantCluster_memOk, State.setFld_memOk, State.modCtx_memOk, State.trace_memOk, State.admitStep_memOk, State.verifyLater_memOk]

theorem State.grantAll_memOk (s : State) (a1) (a2) (a3) (a4) (w : s.memOk) : (State.grantAll s a1 a2 a3 a4).1.memOk := by
  fun_induction State.grantAll s a1 a2 a3 a4 <;> grind [State.memOk, foldl_memOk, Mem.writeBytes_wf, Mem.fill_wf, Mem.congr_wf, Mem.empty_wf, State.grantCand_memOk, State.skipCand_memOk]

theorem State.edgeAdmit_memOk (s : State) (a1) (a2) (a3) (a4) (w : s.memOk) : (State.edgeAdmit s a1 a2 a3 a4).memOk := by
  unfold State.edgeAdmit; grind [State.memOk, foldl_memOk, Mem.writeBytes_wf, Mem.fill_wf, Mem.congr_wf, Mem.empty_wf, State.classifyAll_memOk, State.grantAll_memOk, State.setFld_memOk]

theorem State.openClusters_memOk (s : State) (w : s.memOk) : (State.openClusters s).memOk := by
  unfold State.openClusters; grind [State.memOk, foldl_memOk, Mem.writeBytes_wf, Mem.fill_wf, Mem.congr_wf, Mem.empty_wf, State.setFld_memOk]

theorem State.releaseGrants_memOk (s : State) (w : s.memOk) : (State.releaseGrants s).memOk := by
  unfold State.releaseGrants; grind [State.memOk, foldl_memOk, Mem.writeBytes_wf, Mem.fill_wf, Mem.congr_wf, Mem.empty_wf]

theorem State.edgeStep5_memOk (s : State) (a1) (a2) (a3) (w : s.memOk) : (State.edgeStep5 s a1 a2 a3).memOk := by
  unfold State.edgeStep5; grind [State.memOk, foldl_memOk, Mem.writeBytes_wf, Mem.fill_wf, Mem.congr_wf, Mem.empty_wf, State.openClusters_memOk, State.edgeAdmit_memOk, State.releaseGrants_memOk]

theorem State.gaugeSnap_memOk (s : State) (w : s.memOk) : (State.gaugeSnap s).memOk := by
  unfold State.gaugeSnap; grind [State.memOk, foldl_memOk, Mem.writeBytes_wf, Mem.fill_wf, Mem.congr_wf, Mem.empty_wf, State.draw_memOk]

theorem State.edgeStep7_memOk (s : State) (a1) (a2) (w : s.memOk) : (State.edgeStep7 s a1 a2).memOk := by
  unfold State.edgeStep7; grind [State.memOk, foldl_memOk, Mem.writeBytes_wf, Mem.fill_wf, Mem.congr_wf, Mem.empty_wf, State.highWater_memOk, State.setFld_memOk, State.raisePage_memOk, State.gaugeSnap_memOk, State.beatCheck_memOk]

theorem State.enterHoldover_memOk (s : State) (w : s.memOk) : (State.enterHoldover s).memOk := by
  unfold State.enterHoldover; grind [State.memOk, foldl_memOk, Mem.writeBytes_wf, Mem.fill_wf, Mem.congr_wf, Mem.empty_wf, State.raisePage_memOk, State.setFld_memOk]

theorem State.edgeSync_memOk (s : State) (a1) (a2) (w : s.memOk) : (State.edgeSync s a1 a2).memOk := by
  unfold State.edgeSync; grind [State.memOk, foldl_memOk, Mem.writeBytes_wf, Mem.fill_wf, Mem.congr_wf, Mem.empty_wf, State.setFld_memOk, State.enterHoldover_memOk, State.count_memOk]

theorem State.srvJudge_memOk (s : State) (a1) (a2) (w : s.memOk) : (State.srvJudge s a1 a2).memOk := by
  unfold State.srvJudge; grind [State.memOk, foldl_memOk, Mem.writeBytes_wf, Mem.fill_wf, Mem.congr_wf, Mem.empty_wf, State.addToks_memOk, State.modBerth_memOk, State.modCtx_memOk]

theorem State.endStep_memOk (s : State) (a1) (a2) (w : s.memOk) : (State.endStep s a1 a2).memOk := by
  unfold State.endStep; grind [State.memOk, foldl_memOk, Mem.writeBytes_wf, Mem.fill_wf, Mem.congr_wf, Mem.empty_wf, State.trace_memOk, State.mergeJudgeAll_memOk, State.count_memOk, State.srvJudge_memOk, State.modCtx_memOk]

theorem State.spillStep_memOk (s : State) (a1) (w : s.memOk) : (State.spillStep s a1).memOk := by
  unfold State.spillStep; grind [State.memOk, foldl_memOk, Mem.writeBytes_wf, Mem.fill_wf, Mem.congr_wf, Mem.empty_wf, State.count_memOk, State.raiseCtx_memOk, State.wr_memOk, State.modCtx_memOk]

theorem State.judge_memOk (s : State) (a1) (a2) (a3) (w : s.memOk) : (State.judge s a1 a2 a3).memOk := by
  unfold State.judge; grind [State.memOk, foldl_memOk, Mem.writeBytes_wf, Mem.fill_wf, Mem.congr_wf, Mem.empty_wf, State.count_memOk, State.endStep_memOk, State.spillStep_memOk, State.raiseCtx_memOk]

theorem State.meterEdge_memOk (s : State) (w : s.memOk) : (State.meterEdge s).memOk := by
  unfold State.meterEdge; grind [State.memOk, foldl_memOk, Mem.writeBytes_wf, Mem.fill_wf, Mem.congr_wf, Mem.empty_wf, State.wr_memOk, State.modCtx_memOk, State.count64_memOk]

theorem State.openPound_memOk (s : State) (a1) (w : s.memOk) : (State.openPound s a1).memOk := by
  unfold State.openPound; grind [State.memOk, foldl_memOk, Mem.writeBytes_wf, Mem.fill_wf, Mem.congr_wf, Mem.empty_wf, State.modCtx_memOk]

theorem State.powerLearn_memOk (s : State) (a1) (w : s.memOk) : (State.powerLearn s a1).memOk := by
  unfold State.powerLearn; grind [State.memOk, foldl_memOk, Mem.writeBytes_wf, Mem.fill_wf, Mem.congr_wf, Mem.empty_wf]

theorem State.guardBand_memOk (s : State) (a1) (a2) (a3) (w : s.memOk) : (State.guardBand s a1 a2 a3).memOk := by
  unfold State.guardBand; grind [State.memOk, foldl_memOk, Mem.writeBytes_wf, Mem.fill_wf, Mem.congr_wf, Mem.empty_wf, State.modDom_memOk, State.raisePage_memOk]

theorem State.fitPoints_memOk (s : State) (a1) (a2) (w : s.memOk) : (State.fitPoints s a1 a2).memOk := by
  unfold State.fitPoints; grind [State.memOk, foldl_memOk, Mem.writeBytes_wf, Mem.fill_wf, Mem.congr_wf, Mem.empty_wf, State.modDom_memOk, State.logEvent_memOk, State.raisePage_memOk]

theorem State.marginStep_memOk (s : State) (a1) (w : s.memOk) : (State.marginStep s a1).memOk := by
  unfold State.marginStep; grind [State.memOk, foldl_memOk, Mem.writeBytes_wf, Mem.fill_wf, Mem.congr_wf, Mem.empty_wf, State.fitPoints_memOk, State.modDom_memOk]

theorem State.powerStep6_memOk (s : State) (a1) (w : s.memOk) : (State.powerStep6 s a1).memOk := by
  unfold State.powerStep6; grind [State.memOk, foldl_memOk, Mem.writeBytes_wf, Mem.fill_wf, Mem.congr_wf, Mem.empty_wf, State.applyPoint_memOk, State.guardBand_memOk, State.droopStep_memOk, State.applyRefresh_memOk, State.marginStep_memOk]

theorem State.setPhase_memOk (s : State) (a1) (w : s.memOk) : (State.setPhase s a1).memOk := by
  unfold State.setPhase; grind [State.memOk, foldl_memOk, Mem.writeBytes_wf, Mem.fill_wf, Mem.congr_wf, Mem.empty_wf]

theorem State.setTick_memOk (s : State) (a1) (w : s.memOk) : (State.setTick s a1).memOk := by
  unfold State.setTick; grind [State.memOk, foldl_memOk, Mem.writeBytes_wf, Mem.fill_wf, Mem.congr_wf, Mem.empty_wf]

theorem State.edgeSteps_memOk (s : State) (a1) (a2) (a3) (w : s.memOk) : (State.edgeSteps s a1 a2 a3).memOk := by
  unfold State.edgeSteps; grind [State.memOk, foldl_memOk, Mem.writeBytes_wf, Mem.fill_wf, Mem.congr_wf, Mem.empty_wf, State.closePound_memOk, State.meterEdge_memOk, State.edgeSync_memOk, State.setTick_memOk, State.emit_memOk, State.powerLearn_memOk, State.judge_memOk, State.edgeStep2_memOk, State.openPound_memOk, State.edgeStep4_memOk, State.edgeStep3_memOk, State.powerStep6_memOk, State.edgeStep5_memOk, State.setPhase_memOk, State.edgeStep7_memOk]

theorem State.flightCheck_memOk (s : State) (w : s.memOk) : (State.flightCheck s).memOk := by
  unfold State.flightCheck; grind [State.memOk, foldl_memOk, Mem.writeBytes_wf, Mem.fill_wf, Mem.congr_wf, Mem.empty_wf, State.checkFlight_memOk]

theorem State.finishVerify_memOk (s : State) (a1) (a2) (w : s.memOk) : (State.finishVerify s a1 a2).memOk := by
  unfold State.finishVerify; grind [State.memOk, foldl_memOk, Mem.writeBytes_wf, Mem.fill_wf, Mem.congr_wf, Mem.empty_wf, State.modCtx_memOk, State.addDeficit_memOk, State.skipSlot_memOk, State.admitStep_memOk]

theorem State.finishVerifies_memOk (s : State) (a1) (w : s.memOk) : (State.finishVerifies s a1).memOk := by
  unfold State.finishVerifies; grind [State.memOk, foldl_memOk, Mem.writeBytes_wf, Mem.fill_wf, Mem.congr_wf, Mem.empty_wf, State.finishVerify_memOk]

theorem State.judgeLate_memOk (s : State) (a1) (w : s.memOk) : (State.judgeLate s a1).memOk := by
  unfold State.judgeLate; grind [State.memOk, foldl_memOk, Mem.writeBytes_wf, Mem.fill_wf, Mem.congr_wf, Mem.empty_wf, State.modCtx_memOk, State.sendNotice_memOk]

theorem State.guardOpen_memOk (s : State) (w : s.memOk) : (State.guardOpen s).memOk := by
  unfold State.guardOpen; grind [State.memOk, foldl_memOk, Mem.writeBytes_wf, Mem.fill_wf, Mem.congr_wf, Mem.empty_wf, State.finishVerifies_memOk, State.checkGuard_memOk, State.judgeLate_memOk]

theorem State.edge_memOk (s : State) (a1) (a2) (w : s.memOk) : (State.edge s a1 a2).memOk := by
  unfold State.edge; grind [State.memOk, foldl_memOk, Mem.writeBytes_wf, Mem.fill_wf, Mem.congr_wf, Mem.empty_wf, State.guardOpen_memOk, State.flightCheck_memOk, State.edgeSteps_memOk]

theorem State.endBerth_memOk (s : State) (a1) (a2) (w : s.memOk) : (State.endBerth s a1 a2).memOk := by
  unfold State.endBerth; grind [State.memOk, foldl_memOk, Mem.writeBytes_wf, Mem.fill_wf, Mem.congr_wf, Mem.empty_wf, State.count_memOk, State.modBerth_memOk, State.yardRelease_memOk]

theorem State.enterRetain_memOk (s : State) (w : s.memOk) : (State.enterRetain s).memOk := by
  unfold State.enterRetain; grind [State.memOk, foldl_memOk, Mem.writeBytes_wf, Mem.fill_wf, Mem.congr_wf, Mem.empty_wf, State.modMem_memOk, State.modDom_memOk, State.dropLink_memOk]

theorem State.fcqOp_memOk (s : State) (a1) (a2) (w : s.memOk) : (State.fcqOp s a1 a2).memOk := by
  unfold State.fcqOp; grind (splits := 40) (ematch := 20) (gen := 20) [State.memOk, foldl_memOk, Mem.writeBytes_wf, Mem.fill_wf, Mem.congr_wf, Mem.empty_wf, State.stall_memOk, State.retire_memOk, State.badColl_memOk, State.relDone_memOk, State.readColl_memOk, State.memRead_memOk, State.modCtx_memOk, State.needInst_memOk, State.modInst_memOk, State.collAdvance_memOk]

theorem State.fetchBytes_memOk (s : State) (a1) (a2) (a3) (w : s.memOk) : (State.fetchBytes s a1 a2 a3).1.memOk := by
  unfold State.fetchBytes; grind [State.memOk, foldl_memOk, Mem.writeBytes_wf, Mem.fill_wf, Mem.congr_wf, Mem.empty_wf, State.memRead_memOk, State.portBefore_memOk]

theorem State.modExch_memOk (s : State) (a1) (a2) (a3) (a4) (w : s.memOk) : (State.modExch s a1 a2 a3 a4).memOk := by
  unfold State.modExch; grind [State.memOk, foldl_memOk, Mem.writeBytes_wf, Mem.fill_wf, Mem.congr_wf, Mem.empty_wf]

theorem State.rtServe_memOk (s : State) (a1) (a2) (a3) (a4) (a5) (a6) (w : s.memOk) : (State.rtServe s a1 a2 a3 a4 a5 a6).memOk := by
  unfold State.rtServe; grind [State.memOk, foldl_memOk, Mem.writeBytes_wf, Mem.fill_wf, Mem.congr_wf, Mem.empty_wf, State.sendBarge_memOk, State.raiseCtx_memOk, State.memRead_memOk, State.draw_memOk, State.count64_memOk, State.count_memOk]

theorem State.fetchReqBarge_memOk (s : State) (a1) (a2) (a3) (w : s.memOk) : (s.fetchReqBarge a1 a2 a3).memOk := by
  unfold State.fetchReqBarge
  split
  · exact State.hold_memOk s _ w
  · refine State.dataIn_memOk s _ _ _ _ w (fun s i j w => ?_)
    dsimp only
    generalize (⟨a2, a3⟩ : Barge) = b
    refine foldl_memOk _ _ _ (fun s r w => State.rtServe_memOk s _ _ _ _ _ _ w) ?_
    split
    · exact w
    · exact State.modExch_memOk s _ _ _ _ w

theorem State.gaugeAccept_memOk (s : State) (a1) (a2) (w : s.memOk) : (State.gaugeAccept s a1 a2).memOk := by
  unfold State.gaugeAccept; grind [State.memOk, foldl_memOk, Mem.writeBytes_wf, Mem.fill_wf, Mem.congr_wf, Mem.empty_wf, State.modCtx_memOk, State.gaugeSnap_memOk]

theorem State.linkEnable_memOk (s : State) (a1) (w : s.memOk) : (State.linkEnable s a1).memOk := by
  unfold State.linkEnable; grind [State.memOk, foldl_memOk, Mem.writeBytes_wf, Mem.fill_wf, Mem.congr_wf, Mem.empty_wf, State.portsCheck_memOk, State.modLink_memOk, State.raisePage_memOk, State.wr_memOk, State.count_memOk]

theorem State.writeReg_memOk (s : State) (a1) (a2) (a3) (a4) (w : s.memOk) : (State.writeReg s a1 a2 a3 a4).memOk := by
  unfold State.writeReg; grind [State.memOk, foldl_memOk, Mem.writeBytes_wf, Mem.fill_wf, Mem.congr_wf, Mem.empty_wf, State.applyField_memOk, State.linkEnable_memOk, State.wr_memOk, State.accessError_memOk, State.updAlert_memOk]

theorem State.gaugeRequest_memOk (s : State) (a1) (a2) (w : s.memOk) : (State.gaugeRequest s a1 a2).memOk := by
  unfold State.gaugeRequest; grind [State.memOk, foldl_memOk, Mem.writeBytes_wf, Mem.fill_wf, Mem.congr_wf, Mem.empty_wf, State.writeReg_memOk, State.accessError_memOk, State.gaugeAccept_memOk]

theorem State.gaugeWrite_memOk (s : State) (a1) (a2) (a3) (a4) (a5) (w : s.memOk) : (State.gaugeWrite s a1 a2 a3 a4 a5).memOk := by
  unfold State.gaugeWrite; grind [State.memOk, foldl_memOk, Mem.writeBytes_wf, Mem.fill_wf, Mem.congr_wf, Mem.empty_wf, State.raise_memOk, State.setFld_memOk, State.memWrite_memOk, State.emit_memOk]

theorem State.idleRails_memOk (s : State) (w : s.memOk) : (State.idleRails s).memOk := by
  unfold State.idleRails; grind [State.memOk, foldl_memOk, Mem.writeBytes_wf, Mem.fill_wf, Mem.congr_wf, Mem.empty_wf, State.modDom_memOk]

theorem State.inject_memOk (s : State) (a1) (a2) (w : s.memOk) : (State.inject s a1 a2).memOk := by
  unfold State.inject; grind [State.memOk, foldl_memOk, Mem.writeBytes_wf, Mem.fill_wf, Mem.congr_wf, Mem.empty_wf, State.accessError_memOk, State.raise_memOk]

theorem State.jump_memOk (s : State) (a1) (a2) (a3) (a4) (w : s.memOk) : (State.jump s a1 a2 a3 a4).memOk := by
  unfold State.jump; grind [State.memOk, foldl_memOk, Mem.writeBytes_wf, Mem.fill_wf, Mem.congr_wf, Mem.empty_wf, State.modCore_memOk]

theorem State.kernelEnd_memOk (s : State) (a1) (a2) (a3) (w : s.memOk) : (State.kernelEnd s a1 a2 a3).memOk := by
  unfold State.kernelEnd; grind [State.memOk, foldl_memOk, Mem.writeBytes_wf, Mem.fill_wf, Mem.congr_wf, Mem.empty_wf, State.stall_memOk, State.dropCarts_memOk, State.modCore_memOk, State.checkDone_memOk, State.trace_memOk]

theorem State.lateBarge_memOk (s : State) (a1) (a2) (a3) (w : s.memOk) : (s.lateBarge a1 a2 a3).memOk := by
  unfold State.lateBarge
  split
  · exact State.hold_memOk s _ w
  · generalize (⟨a2, a3⟩ : Barge) = b
    dsimp only
    have hb := State.bargeIn_memOk s 6 a1 b w
    generalize s.bargeIn 6 a1 b = r at hb ⊢
    obtain ⟨s1, _ | i⟩ := r
    · exact hb
    have h2 : (if b.hops = 0 then s1 else s1.floodBarge i (b.setFld 2 24 4 (b.hops - 1)) (s1.portOf a1)).memOk := by
      split
      · exact hb
      · exact State.floodBarge_memOk _ _ _ _ hb
    dsimp only
    generalize (if b.hops = 0 then s1 else _) = s2 at h2 ⊢
    split
    · exact State.flightAbort_memOk _ _ _ _ _ _ _ (State.raise_memOk _ _ h2)
    · exact State.modPlan_memOk _ _ _ h2

theorem State.modLaunch_memOk (s : State) (a1) (a2) (a3) (w : s.memOk) : (State.modLaunch s a1 a2 a3).memOk := by
  unfold State.modLaunch; grind [State.memOk, foldl_memOk, Mem.writeBytes_wf, Mem.fill_wf, Mem.congr_wf, Mem.empty_wf, State.modCtx_memOk]

theorem State.slipAt_memOk (s : State) (a1) (a2) (a3) (w : s.memOk) : (State.slipAt s a1 a2 a3).memOk := by
  unfold State.slipAt; grind [State.memOk, foldl_memOk, Mem.writeBytes_wf, Mem.fill_wf, Mem.congr_wf, Mem.empty_wf, State.highWater_memOk, State.raiseCtx_memOk]

theorem State.launchCore_memOk (s : State) (a1) (a2) (a3) (a4) (a5) (w : s.memOk) : (State.launchCore s a1 a2 a3 a4 a5).memOk := by
  unfold State.launchCore; grind [State.memOk, foldl_memOk, Mem.writeBytes_wf, Mem.fill_wf, Mem.congr_wf, Mem.empty_wf, State.raiseCtx_memOk, State.dcacheInval_memOk, State.modCore_memOk, State.modLaunch_memOk, State.trace_memOk, State.slipAt_memOk]

theorem State.launch_memOk (s : State) (a1) (a2) (a3) (a4) (a5) (w : s.memOk) : (State.launch s a1 a2 a3 a4 a5).memOk := by
  unfold State.launch; grind [State.memOk, foldl_memOk, Mem.writeBytes_wf, Mem.fill_wf, Mem.congr_wf, Mem.empty_wf, State.launchCore_memOk]

theorem State.lineCorrected_memOk (s : State) (a1) (w : s.memOk) : (State.lineCorrected s a1).memOk := by
  unfold State.lineCorrected; grind [State.memOk, foldl_memOk, Mem.writeBytes_wf, Mem.fill_wf, Mem.congr_wf, Mem.empty_wf, State.modMem_memOk, State.count_memOk, State.raisePage_memOk]

theorem State.linePoisoned_memOk (s : State) (a1) (a2) (w : s.memOk) : (State.linePoisoned s a1 a2).memOk := by
  unfold State.linePoisoned; grind [State.memOk, foldl_memOk, Mem.writeBytes_wf, Mem.fill_wf, Mem.congr_wf, Mem.empty_wf, State.count_memOk, State.modMem_memOk, State.raisePage_memOk]

theorem State.toHoldover_memOk (s : State) (w : s.memOk) : (State.toHoldover s).memOk := by
  unfold State.toHoldover; grind [State.memOk, foldl_memOk, Mem.writeBytes_wf, Mem.fill_wf, Mem.congr_wf, Mem.empty_wf, State.raisePage_memOk, State.setFld_memOk]

theorem State.linksChanged_memOk (s : State) (w : s.memOk) : (State.linksChanged s).memOk := by
  unfold State.linksChanged; grind [State.memOk, foldl_memOk, Mem.writeBytes_wf, Mem.fill_wf, Mem.congr_wf, Mem.empty_wf, State.portsCheck_memOk, State.pump_memOk, State.toHoldover_memOk]

theorem State.resend_memOk (s : State) (a1) (w : s.memOk) : (State.resend s a1).memOk := by
  unfold State.resend; grind [State.memOk, foldl_memOk, Mem.writeBytes_wf, Mem.fill_wf, Mem.congr_wf, Mem.empty_wf, State.undeliverable_memOk, State.count_memOk, State.putBarge_memOk, State.fceCount_memOk]

theorem State.linkDown_memOk (s : State) (a1) (w : s.memOk) : (State.linkDown s a1).memOk := by
  unfold State.linkDown; grind [State.memOk, foldl_memOk, Mem.writeBytes_wf, Mem.fill_wf, Mem.congr_wf, Mem.empty_wf, State.updAlert_memOk, State.dropLink_memOk, State.linksChanged_memOk, State.resend_memOk]

theorem State.linkUp_memOk (s : State) (a1) (w : s.memOk) : (State.linkUp s a1).memOk := by
  unfold State.linkUp; grind [State.memOk, foldl_memOk, Mem.writeBytes_wf, Mem.fill_wf, Mem.congr_wf, Mem.empty_wf, State.modLink_memOk, State.linksChanged_memOk]

theorem State.loadAttempt_memOk (s : State) (w : s.memOk) : (State.loadAttempt s).1.memOk := by
  unfold State.loadAttempt; grind [State.memOk, foldl_memOk, Mem.writeBytes_wf, Mem.fill_wf, Mem.congr_wf, Mem.empty_wf, State.wr_memOk, State.copyBad_memOk, State.attemptFailed_memOk, State.raisePage_memOk, State.optResult_memOk, State.histEntry_memOk, State.applyTrims_memOk]

theorem State.scalarFault_memOk (s : State) (a1) (a2) (w : s.memOk) : (State.scalarFault s a1 a2).memOk := by
  unfold State.scalarFault; grind [State.memOk, foldl_memOk, Mem.writeBytes_wf, Mem.fill_wf, Mem.congr_wf, Mem.empty_wf, State.retire_memOk, State.raiseCtx_memOk]

theorem State.loadOp_memOk (s : State) (a1) (a2) (a3) (a4) (a5) (w : s.memOk) : (State.loadOp s a1 a2 a3 a4 a5).memOk := by
  unfold State.loadOp; grind [State.memOk, foldl_memOk, Mem.writeBytes_wf, Mem.fill_wf, Mem.congr_wf, Mem.empty_wf, State.stall_memOk, State.scalarFault_memOk, State.retire_memOk, State.modCore_memOk, State.dcacheRead_memOk, State.portBefore_memOk]

theorem State.yardCopyBytes_memOk (s : State) (a1) (a2) (a3) (a4) (a5) (w : s.memOk) : (State.yardCopyBytes s a1 a2 a3 a4 a5).1.memOk := by
  unfold State.yardCopyBytes; grind [State.memOk, foldl_memOk, Mem.writeBytes_wf, Mem.fill_wf, Mem.congr_wf, Mem.empty_wf, State.memRead_memOk, State.yardErr_memOk, State.memWrite_memOk]

theorem State.yardCopy_memOk (s : State) (a1) (a2) (a3) (a4) (w : s.memOk) : (State.yardCopy s a1 a2 a3 a4).1.memOk := by
  unfold State.yardCopy; grind [State.memOk, foldl_memOk, Mem.writeBytes_wf, Mem.fill_wf, Mem.congr_wf, Mem.empty_wf, State.yardCopyBytes_memOk]

theorem State.makeCoach_memOk (s : State) (a1) (a2) (w : s.memOk) : (State.makeCoach s a1 a2).1.memOk := by
  unfold State.makeCoach; grind [State.memOk, foldl_memOk, Mem.writeBytes_wf, Mem.fill_wf, Mem.congr_wf, Mem.empty_wf, State.drawIndex_memOk, State.drawFrame_memOk, State.modYard_memOk, State.yardCopy_memOk]

theorem State.vecOps_memOk (s : State) (a1) (a2) (w : s.memOk) : (State.vecOps s a1 a2).memOk := by
  unfold State.vecOps; grind [State.memOk, foldl_memOk, Mem.writeBytes_wf, Mem.fill_wf, Mem.congr_wf, Mem.empty_wf, State.count64_memOk]

theorem State.maskWrite_memOk (s : State) (a1) (a2) (a3) (a4) (w : s.memOk) : (State.maskWrite s a1 a2 a3 a4).memOk := by
  unfold State.maskWrite; grind [State.memOk, foldl_memOk, Mem.writeBytes_wf, Mem.fill_wf, Mem.congr_wf, Mem.empty_wf, State.vecOps_memOk, State.modCore_memOk]

theorem State.mergeArrive_memOk (s : State) (a1) (w : s.memOk) : (State.mergeArrive s a1).memOk := by
  unfold State.mergeArrive; grind [State.memOk, foldl_memOk, Mem.writeBytes_wf, Mem.fill_wf, Mem.congr_wf, Mem.empty_wf, State.modCluster_memOk, State.raiseCtx_memOk, State.count_memOk]

theorem State.mergeBarge_memOk (s : State) (a1) (a2) (a3) (w : s.memOk) : (s.mergeBarge a1 a2 a3).memOk := by
  unfold State.mergeBarge
  split
  · exact State.hold_memOk s _ w
  · exact State.dataIn_memOk s _ _ _ _ w (fun s i j h => State.collIn_memOk s i j _ h)

theorem State.mergeTally_memOk (s : State) (a1) (a2) (a3) (a4) (w : s.memOk) : (State.mergeTally s a1 a2 a3 a4).memOk := by
  unfold State.mergeTally; grind [State.memOk, foldl_memOk, Mem.writeBytes_wf, Mem.fill_wf, Mem.congr_wf, Mem.empty_wf, State.countAtp_memOk, State.count_memOk, State.reportCore_memOk]

theorem State.mergeToWharf_memOk (s : State) (a1) (a2) (a3) (a4) (a5) (w : s.memOk) : (State.mergeToWharf s a1 a2 a3 a4 a5).memOk := by
  unfold State.mergeToWharf; grind [State.memOk, foldl_memOk, Mem.writeBytes_wf, Mem.fill_wf, Mem.congr_wf, Mem.empty_wf, State.countAtp_memOk, State.mergeTally_memOk, State.wharfWrite_memOk, State.syncInc_memOk]

theorem State.mergeDeliver_memOk (s : State) (a1) (a2) (w : s.memOk) : (State.mergeDeliver s a1 a2).memOk := by
  unfold State.mergeDeliver; grind [State.memOk, foldl_memOk, Mem.writeBytes_wf, Mem.fill_wf, Mem.congr_wf, Mem.empty_wf, State.modCluster_memOk, State.count64_memOk, State.mergeToWharf_memOk, State.collLeaf_memOk, State.mergeTally_memOk]

theorem State.minute_memOk (s : State) (w : s.memOk) : (State.minute s).memOk := by
  unfold State.minute; grind [State.memOk, foldl_memOk, Mem.writeBytes_wf, Mem.fill_wf, Mem.congr_wf, Mem.empty_wf]

theorem State.mxReject_memOk (s : State) (a1) (a2) (a3) (a4) (a5) (w : s.memOk) : (State.mxReject s a1 a2 a3 a4 a5).memOk := by
  unfold State.mxReject; grind [State.memOk, foldl_memOk, Mem.writeBytes_wf, Mem.fill_wf, Mem.congr_wf, Mem.empty_wf, State.wr_memOk, State.raiseCtx_memOk]

theorem State.mxaHandover_memOk (s : State) (a1) (w : s.memOk) : (State.mxaHandover s a1).memOk := by
  unfold State.mxaHandover; grind [State.memOk, foldl_memOk, Mem.writeBytes_wf, Mem.fill_wf, Mem.congr_wf, Mem.empty_wf, State.modCore_memOk, State.scbRelease_memOk]

theorem State.mxaOsSwapOut_memOk (s : State) (a1) (w : s.memOk) : (State.mxaOsSwapOut s a1).memOk := by
  unfold State.mxaOsSwapOut; grind [State.memOk, foldl_memOk, Mem.writeBytes_wf, Mem.fill_wf, Mem.congr_wf, Mem.empty_wf, State.modCore_memOk, State.scbRelease_memOk]

theorem State.mxaShadowFull_memOk (s : State) (a1) (a2) (w : s.memOk) : (State.mxaShadowFull s a1 a2).memOk := by
  unfold State.mxaShadowFull; grind [State.memOk, foldl_memOk, Mem.writeBytes_wf, Mem.fill_wf, Mem.congr_wf, Mem.empty_wf, State.scbRelease_memOk, State.modCore_memOk]

theorem State.startClaim_memOk (s : State) (a1) (a2) (w : s.memOk) : (State.startClaim s a1 a2).memOk := by
  unfold State.startClaim; grind [State.memOk, foldl_memOk, Mem.writeBytes_wf, Mem.fill_wf, Mem.congr_wf, Mem.empty_wf, State.modCore_memOk, State.scbRelease_memOk, State.atReject_memOk, State.mxReject_memOk]

theorem State.osArray_memOk (s : State) (a1) (a2) (a3) (a4) (a5) (a6) (w : s.memOk) : (State.osArray s a1 a2 a3 a4 a5 a6).memOk := by
  unfold State.osArray; grind [State.memOk, foldl_memOk, Mem.writeBytes_wf, Mem.fill_wf, Mem.congr_wf, Mem.empty_wf, State.modCore_memOk, State.countMacs_memOk, State.countDrn_memOk]

theorem State.startOsmul_memOk (s : State) (a1) (a2) (a3) (w : s.memOk) : (State.startOsmul s a1 a2 a3).memOk := by
  unfold State.startOsmul; grind [State.memOk, foldl_memOk, Mem.writeBytes_wf, Mem.fill_wf, Mem.congr_wf, Mem.empty_wf, State.osArray_memOk, State.modCore_memOk, State.scbRelease_memOk]

theorem State.startSload_memOk (s : State) (a1) (a2) (w : s.memOk) : (State.startSload s a1 a2).memOk := by
  unfold State.startSload; grind [State.memOk, foldl_memOk, Mem.writeBytes_wf, Mem.fill_wf, Mem.congr_wf, Mem.empty_wf, State.modCore_memOk]

theorem State.wsArray_memOk (s : State) (a1) (a2) (a3) (a4) (a5) (a6) (w : s.memOk) : (State.wsArray s a1 a2 a3 a4 a5 a6).memOk := by
  unfold State.wsArray; grind [State.memOk, foldl_memOk, Mem.writeBytes_wf, Mem.fill_wf, Mem.congr_wf, Mem.empty_wf, State.modCore_memOk, State.countMacs_memOk, State.countDrn_memOk]

theorem State.startWsmul_memOk (s : State) (a1) (a2) (a3) (w : s.memOk) : (State.startWsmul s a1 a2 a3).memOk := by
  unfold State.startWsmul; grind [State.memOk, foldl_memOk, Mem.writeBytes_wf, Mem.fill_wf, Mem.congr_wf, Mem.empty_wf, State.modCore_memOk, State.scbRelease_memOk, State.mxReject_memOk, State.wsArray_memOk]

theorem State.mxaStart_memOk (s : State) (a1) (a2) (w : s.memOk) : (State.mxaStart s a1 a2).memOk := by
  unfold State.mxaStart; grind [State.memOk, foldl_memOk, Mem.writeBytes_wf, Mem.fill_wf, Mem.congr_wf, Mem.empty_wf, State.modCore_memOk, State.startClaim_memOk, State.startSload_memOk, State.startWsmul_memOk, State.startOsmul_memOk, State.scbRelease_memOk]

theorem State.mxaSwapEffect_memOk (s : State) (a1) (a2) (w : s.memOk) : (State.mxaSwapEffect s a1 a2).memOk := by
  unfold State.mxaSwapEffect; grind [State.memOk, foldl_memOk, Mem.writeBytes_wf, Mem.fill_wf, Mem.congr_wf, Mem.empty_wf, State.modCore_memOk, State.scbRelease_memOk]

theorem State.mxqOp_memOk (s : State) (a1) (a2) (a3) (w : s.memOk) : (State.mxqOp s a1 a2 a3).memOk := by
  unfold State.mxqOp; grind [State.memOk, foldl_memOk, Mem.writeBytes_wf, Mem.fill_wf, Mem.congr_wf, Mem.empty_wf, State.stall_memOk, State.retire_memOk, State.mxReject_memOk, State.nextSeq_memOk, State.scbAdd_memOk, State.modCore_memOk, State.highWater_memOk]

theorem State.nanArrive_memOk (s : State) (w : s.memOk) : (State.nanArrive s).memOk := by
  unfold State.nanArrive; grind [State.memOk, foldl_memOk, Mem.writeBytes_wf, Mem.fill_wf, Mem.congr_wf, Mem.empty_wf, State.fillRec_memOk, State.raise_memOk]

theorem State.newNonce_memOk (s : State) (w : s.memOk) : (State.newNonce s).memOk := by
  unfold State.newNonce; grind [State.memOk, foldl_memOk, Mem.writeBytes_wf, Mem.fill_wf, Mem.congr_wf, Mem.empty_wf, State.draw_memOk]

theorem State.newSid_memOk (s : State) (a1) (w : s.memOk) : (State.newSid s a1).2.memOk := by
  unfold State.newSid; grind [State.memOk, foldl_memOk, Mem.writeBytes_wf, Mem.fill_wf, Mem.congr_wf, Mem.empty_wf, State.draw_memOk]

theorem State.openFrame_memOk (s : State) (a1) (a2) (w : s.memOk) : (State.openFrame s a1 a2).memOk := by
  unfold State.openFrame; grind [State.memOk, foldl_memOk, Mem.writeBytes_wf, Mem.fill_wf, Mem.congr_wf, Mem.empty_wf, State.frameRow_memOk]

theorem State.pciFault_memOk (s : State) (a1) (a2) (w : s.memOk) : (State.pciFault s a1 a2).memOk := by
  unfold State.pciFault; grind [State.memOk, foldl_memOk, Mem.writeBytes_wf, Mem.fill_wf, Mem.congr_wf, Mem.empty_wf, State.accessError_memOk]

theorem State.planCmd_memOk (s : State) (a1) (a2) (a3) (a4) (a5) (a6) (w : s.memOk) : (State.planCmd s a1 a2 a3 a4 a5 a6).memOk := by
  unfold State.planCmd; grind [State.memOk, foldl_memOk, Mem.writeBytes_wf, Mem.fill_wf, Mem.congr_wf, Mem.empty_wf, State.hold_memOk, State.modPlan_memOk, State.accessError_memOk]

theorem State.planArm_memOk (s : State) (a1) (a2) (w : s.memOk) : (State.planArm s a1 a2).memOk := by
  unfold State.planArm; grind [State.memOk, foldl_memOk, Mem.writeBytes_wf, Mem.fill_wf, Mem.congr_wf, Mem.empty_wf, State.planCmd_memOk]

theorem State.planClear_memOk (s : State) (a1) (a2) (w : s.memOk) : (State.planClear s a1 a2).memOk := by
  unfold State.planClear; grind [State.memOk, foldl_memOk, Mem.writeBytes_wf, Mem.fill_wf, Mem.congr_wf, Mem.empty_wf, State.planCmd_memOk]

theorem State.planDisarm_memOk (s : State) (a1) (a2) (w : s.memOk) : (State.planDisarm s a1 a2).memOk := by
  unfold State.planDisarm; grind [State.memOk, foldl_memOk, Mem.writeBytes_wf, Mem.fill_wf, Mem.congr_wf, Mem.empty_wf, State.planCmd_memOk]

theorem State.planLoad_memOk (s : State) (a1) (a2) (w : s.memOk) : (State.planLoad s a1 a2).memOk := by
  unfold State.planLoad; grind [State.memOk, foldl_memOk, Mem.writeBytes_wf, Mem.fill_wf, Mem.congr_wf, Mem.empty_wf, State.planCmd_memOk]

theorem State.planLoaded_memOk (s : State) (a1) (w : s.memOk) : (State.planLoaded s a1).memOk := by
  unfold State.planLoaded; grind [State.memOk, foldl_memOk, Mem.writeBytes_wf, Mem.fill_wf, Mem.congr_wf, Mem.empty_wf, State.modPlan_memOk, State.fceRaise_memOk, State.setFld_memOk, State.memRead_memOk, State.portsCheck_memOk]

theorem State.pldmSay_memOk (s : State) (a1) (a2) (w : s.memOk) : (State.pldmSay s a1 a2).memOk := by
  unfold State.pldmSay; grind [State.memOk, foldl_memOk, Mem.writeBytes_wf, Mem.fill_wf, Mem.congr_wf, Mem.empty_wf, State.emit_memOk]

theorem State.storePieces_memOk (s : State) (a1) (a2) (a3) (a4) (a5) (w : s.memOk) : (State.storePieces s a1 a2 a3 a4 a5).1.memOk := by
  fun_induction State.storePieces s a1 a2 a3 a4 a5 <;> grind [State.memOk, foldl_memOk, Mem.writeBytes_wf, Mem.fill_wf, Mem.congr_wf, Mem.empty_wf, State.xlate_memOk, State.memFault_memOk]

theorem State.storeRuns_memOk (s : State) (a1) (a2) (a3) (a4) (w : s.memOk) : (State.storeRuns s a1 a2 a3 a4).1.memOk := by
  fun_induction State.storeRuns s a1 a2 a3 a4 <;> grind [State.memOk, foldl_memOk, Mem.writeBytes_wf, Mem.fill_wf, Mem.congr_wf, Mem.empty_wf, State.storePieces_memOk]

theorem State.portStore_memOk (s : State) (a1) (a2) (a3) (w : s.memOk) : (State.portStore s a1 a2 a3).1.memOk := by
  unfold State.portStore; grind [State.memOk, foldl_memOk, Mem.writeBytes_wf, Mem.fill_wf, Mem.congr_wf, Mem.empty_wf, State.raiseCtx_memOk, State.storeRuns_memOk, State.modMem_memOk, State.modCore_memOk]

theorem State.preread_memOk (s : State) (a1) (w : s.memOk) : (State.preread s a1).memOk := by
  unfold State.preread; grind [State.memOk, foldl_memOk, Mem.writeBytes_wf, Mem.fill_wf, Mem.congr_wf, Mem.empty_wf, State.memRead_memOk, State.modCtx_memOk]

theorem State.quarantine_memOk (s : State) (a1) (a2) (w : s.memOk) : (State.quarantine s a1 a2).memOk := by
  unfold State.quarantine; grind [State.memOk, foldl_memOk, Mem.writeBytes_wf, Mem.fill_wf, Mem.congr_wf, Mem.empty_wf, State.modLink_memOk, State.raisePage_memOk, State.linksChanged_memOk, State.resend_memOk]

theorem State.readMaybe_memOk (s : State) (a1) (a2) (a3) (w : s.memOk) : (State.readMaybe s a1 a2 a3).1.memOk := by
  unfold State.readMaybe; grind [State.memOk, foldl_memOk, Mem.writeBytes_wf, Mem.fill_wf, Mem.congr_wf, Mem.empty_wf, State.memRead_memOk]

theorem State.readReg_memOk (s : State) (a1) (a2) (a3) (w : s.memOk) : (State.readReg s a1 a2 a3).memOk := by
  unfold State.readReg; grind [State.memOk, foldl_memOk, Mem.writeBytes_wf, Mem.fill_wf, Mem.congr_wf, Mem.empty_wf]

theorem State.readSensors_memOk (s : State) (a1) (w : s.memOk) : (State.readSensors s a1).memOk := by
  unfold State.readSensors; grind [State.memOk, foldl_memOk, Mem.writeBytes_wf, Mem.fill_wf, Mem.congr_wf, Mem.empty_wf, State.raisePage_memOk]

theorem State.stageImage_memOk (s : State) (a1) (w : s.memOk) : (State.stageImage s a1).memOk := by
  unfold State.stageImage; grind [State.memOk, foldl_memOk, Mem.writeBytes_wf, Mem.fill_wf, Mem.congr_wf, Mem.empty_wf]

theorem State.startAttest_memOk (s : State) (w : s.memOk) : (State.startAttest s).memOk := by
  unfold State.startAttest; grind [State.memOk, foldl_memOk, Mem.writeBytes_wf, Mem.fill_wf, Mem.congr_wf, Mem.empty_wf, State.tamper_memOk, State.raisePage_memOk]

theorem State.startLog_memOk (s : State) (w : s.memOk) : (State.startLog s).memOk := by
  unfold State.startLog; grind [State.memOk, foldl_memOk, Mem.writeBytes_wf, Mem.fill_wf, Mem.congr_wf, Mem.empty_wf, State.modDom_memOk, State.fitPoints_memOk]

theorem State.startPower_memOk (s : State) (w : s.memOk) : (State.startPower s).memOk := by
  unfold State.startPower; grind [State.memOk, foldl_memOk, Mem.writeBytes_wf, Mem.fill_wf, Mem.congr_wf, Mem.empty_wf, State.idleRails_memOk, State.startLog_memOk, State.modDom_memOk, State.setFld_memOk]

theorem State.startReady_memOk (s : State) (w : s.memOk) : (State.startReady s).memOk := by
  unfold State.startReady; grind [State.memOk, foldl_memOk, Mem.writeBytes_wf, Mem.fill_wf, Mem.congr_wf, Mem.empty_wf, State.modCtx_memOk, State.wr_memOk, State.logEvent_memOk]

theorem State.stuck_memOk (s : State) (w : s.memOk) : (State.stuck s).memOk := by
  unfold State.stuck; grind [State.memOk, foldl_memOk, Mem.writeBytes_wf, Mem.fill_wf, Mem.congr_wf, Mem.empty_wf]

theorem State.startRest_memOk (s : State) (w : s.memOk) : (State.startRest s).memOk := by
  unfold State.startRest; grind [State.memOk, foldl_memOk, Mem.writeBytes_wf, Mem.fill_wf, Mem.congr_wf, Mem.empty_wf, State.pickImage_memOk, State.startAttest_memOk, State.startPower_memOk, State.stuck_memOk, State.startReady_memOk]

theorem State.startOptions_memOk (s : State) (w : s.memOk) : (State.startOptions s).memOk := by
  unfold State.startOptions; grind [State.memOk, foldl_memOk, Mem.writeBytes_wf, Mem.fill_wf, Mem.congr_wf, Mem.empty_wf, State.startRest_memOk, State.fallBack_memOk, State.optResult_memOk, State.loadAttempt_memOk]

theorem State.recover_memOk (s : State) (a1) (w : s.memOk) : (State.recover s a1).memOk := by
  unfold State.recover; grind [State.memOk, foldl_memOk, Mem.writeBytes_wf, Mem.fill_wf, Mem.congr_wf, Mem.empty_wf, State.stageImage_memOk, State.runImage_memOk, State.pldmSay_memOk, State.startOptions_memOk, State.startReady_memOk, State.imageRefused_memOk]

theorem State.vecSx_memOk (s : State) (a1) (a2) (a3) (w : s.memOk) : (State.vecSx s a1 a2 a3).memOk := by
  unfold State.vecSx; grind [State.memOk, foldl_memOk, Mem.writeBytes_wf, Mem.fill_wf, Mem.congr_wf, Mem.empty_wf, State.modCore_memOk]

theorem State.redWrite_memOk (s : State) (a1) (a2) (a3) (w : s.memOk) : (State.redWrite s a1 a2 a3).memOk := by
  unfold State.redWrite; grind [State.memOk, foldl_memOk, Mem.writeBytes_wf, Mem.fill_wf, Mem.congr_wf, Mem.empty_wf, State.vecSx_memOk, State.modCore_memOk]

theorem State.rwAcked_memOk (s : State) (a1) (a2) (a3) (w : s.memOk) : (State.rwAcked s a1 a2 a3).memOk := by
  unfold State.rwAcked; grind [State.memOk, foldl_memOk, Mem.writeBytes_wf, Mem.fill_wf, Mem.congr_wf, Mem.empty_wf, State.flightAbort_memOk, State.dmStop_memOk, State.modCore_memOk]

theorem State.rwackBarge_memOk (s : State) (a1) (a2) (a3) (w : s.memOk) : (State.rwackBarge s a1 a2 a3).memOk := by
  unfold State.rwackBarge; grind [State.memOk, foldl_memOk, Mem.writeBytes_wf, Mem.fill_wf, Mem.congr_wf, Mem.empty_wf, State.hold_memOk, State.dataIn_memOk, State.rwAcked_memOk]

theorem State.rwriteBarge_memOk (s : State) (a1) (a2) (a3) (w : s.memOk) : (State.rwriteBarge s a1 a2 a3).memOk := by
  unfold State.rwriteBarge; grind [State.memOk, foldl_memOk, Mem.writeBytes_wf, Mem.fill_wf, Mem.congr_wf, Mem.empty_wf, State.hold_memOk, State.dataIn_memOk, State.modPlan_memOk]

theorem State.startTick_memOk (s : State) (w : s.memOk) : (State.startTick s).memOk := by
  unfold State.startTick; grind [State.memOk, foldl_memOk, Mem.writeBytes_wf, Mem.fill_wf, Mem.congr_wf, Mem.empty_wf, State.applyStopped_memOk, State.setFld_memOk]

theorem State.tickStart_memOk (s : State) (a1) (a2) (w : s.memOk) : (State.tickStart s a1 a2).memOk := by
  unfold State.tickStart; grind [State.memOk, foldl_memOk, Mem.writeBytes_wf, Mem.fill_wf, Mem.congr_wf, Mem.empty_wf, State.accessError_memOk, State.startTick_memOk]

theorem State.tickStop_memOk (s : State) (a1) (a2) (w : s.memOk) : (State.tickStop s a1 a2).memOk := by
  unfold State.tickStop; grind [State.memOk, foldl_memOk, Mem.writeBytes_wf, Mem.fill_wf, Mem.congr_wf, Mem.empty_wf, State.accessError_memOk]

theorem State.rtSync_memOk (s : State) (a1) (a2) (a3) (w : s.memOk) : (State.rtSync s a1 a2 a3).memOk := by
  unfold State.rtSync; grind [State.memOk, foldl_memOk, Mem.writeBytes_wf, Mem.fill_wf, Mem.congr_wf, Mem.empty_wf, State.syncInc_memOk]

theorem State.rtLand_memOk (s : State) (a1) (a2) (w : s.memOk) : (State.rtLand s a1 a2).memOk := by
  unfold State.rtLand; grind [State.memOk, foldl_memOk, Mem.writeBytes_wf, Mem.fill_wf, Mem.congr_wf, Mem.empty_wf, State.memWrite_memOk, State.rteError_memOk, State.rtSync_memOk]

theorem State.rtWriteDir_memOk (s : State) (a1) (a2) (w : s.memOk) : (State.rtWriteDir s a1 a2).1.memOk := by
  fun_induction State.rtWriteDir s a1 a2 <;> grind [State.memOk, foldl_memOk, Mem.writeBytes_wf, Mem.fill_wf, Mem.congr_wf, Mem.empty_wf, State.memWrite_memOk]

theorem State.rtFetchEnd_memOk (s : State) (a1) (a2) (w : s.memOk) : (State.rtFetchEnd s a1 a2).memOk := by
  unfold State.rtFetchEnd; grind [State.memOk, foldl_memOk, Mem.writeBytes_wf, Mem.fill_wf, Mem.congr_wf, Mem.empty_wf, State.raiseCtx_memOk, State.count_memOk, State.rtWriteDir_memOk, State.rteError_memOk, State.rtLand_memOk]

theorem State.rtWeight_memOk (s : State) (a1) (w : s.memOk) : (State.rtWeight s a1).memOk := by
  unfold State.rtWeight; grind [State.memOk, foldl_memOk, Mem.writeBytes_wf, Mem.fill_wf, Mem.congr_wf, Mem.empty_wf, State.raiseCtx_memOk, State.rtFetchEnd_memOk, State.memWrite_memOk, State.rteError_memOk]

theorem State.rtDrain_memOk (s : State) (w : s.memOk) : (State.rtDrain s).memOk := by
  unfold State.rtDrain; grind [State.memOk, foldl_memOk, Mem.writeBytes_wf, Mem.fill_wf, Mem.congr_wf, Mem.empty_wf, State.rtWeight_memOk]

theorem State.weightBarge_memOk (s : State) (a1) (a2) (a3) (w : s.memOk) : (State.weightBarge s a1 a2 a3).memOk := by
  unfold State.weightBarge; grind [State.memOk, foldl_memOk, Mem.writeBytes_wf, Mem.fill_wf, Mem.congr_wf, Mem.empty_wf, State.hold_memOk, State.dataIn_memOk, State.count64_memOk, State.rtDrain_memOk]

theorem State.rerun_memOk (s : State) (a1) (w : s.memOk) : (State.rerun s a1).memOk := by
  unfold State.rerun; grind [State.memOk, foldl_memOk, Mem.writeBytes_wf, Mem.fill_wf, Mem.congr_wf, Mem.empty_wf, State.dataBarge_memOk, State.mergeBarge_memOk, State.fetchReqBarge_memOk, State.weightBarge_memOk, State.rwriteBarge_memOk, State.rwackBarge_memOk, State.lateBarge_memOk, State.abortBarge_memOk, State.ackBarge_memOk, State.planLoad_memOk, State.planArm_memOk, State.planDisarm_memOk, State.planClear_memOk, State.openFrame_memOk, State.appendFrame_memOk, State.cancelFrame_memOk, State.tickStart_memOk, State.tickStop_memOk]

theorem State.ringDrain_memOk (s : State) (a1) (a2) (w : s.memOk) : (State.ringDrain s a1 a2).memOk := by
  fun_induction State.ringDrain s a1 a2 <;> grind [State.memOk, foldl_memOk, Mem.writeBytes_wf, Mem.fill_wf, Mem.congr_wf, Mem.empty_wf, State.outWrite_memOk, State.modCtx_memOk]

theorem State.rtCommit_memOk (s : State) (a1) (a2) (a3) (w : s.memOk) : (State.rtCommit s a1 a2 a3).memOk := by
  unfold State.rtCommit; grind [State.memOk, foldl_memOk, Mem.writeBytes_wf, Mem.fill_wf, Mem.congr_wf, Mem.empty_wf, State.modCtx_memOk, State.count_memOk, State.rteError_memOk]

theorem State.rtReadRows_memOk (s : State) (a1) (a2) (a3) (a4) (w : s.memOk) : (State.rtReadRows s a1 a2 a3 a4).1.memOk := by
  fun_induction State.rtReadRows s a1 a2 a3 a4 <;> grind [State.memOk, foldl_memOk, Mem.writeBytes_wf, Mem.fill_wf, Mem.congr_wf, Mem.empty_wf, State.memRead_memOk, State.rteError_memOk]

theorem State.rtRequests_memOk (s : State) (a1) (a2) (a3) (w : s.memOk) : (State.rtRequests s a1 a2 a3).memOk := by
  unfold State.rtRequests; grind [State.memOk, foldl_memOk, Mem.writeBytes_wf, Mem.fill_wf, Mem.congr_wf, Mem.empty_wf, State.modExch_memOk, State.sendBarge_memOk]

theorem State.rteFault_memOk (s : State) (a1) (a2) (w : s.memOk) : (State.rteFault s a1 a2).memOk := by
  unfold State.rteFault; grind [State.memOk, foldl_memOk, Mem.writeBytes_wf, Mem.fill_wf, Mem.congr_wf, Mem.empty_wf, State.rteError_memOk]

theorem State.rtRun_memOk (s : State) (a1) (w : s.memOk) : (State.rtRun s a1).memOk := by
  unfold State.rtRun; grind (splits := 40) (ematch := 20) (gen := 20) [State.memOk, foldl_memOk, Mem.writeBytes_wf, Mem.fill_wf, Mem.congr_wf, Mem.empty_wf, State.readMaybe_memOk, State.rteFault_memOk, State.rtReadRows_memOk, State.memWrite_memOk, State.rtWriteDir_memOk, State.rtSync_memOk, State.rtRequests_memOk, State.rtCommit_memOk]

theorem State.rteSelectOp_memOk (s : State) (w : s.memOk) : (State.rteSelectOp s).memOk := by
  unfold State.rteSelectOp; grind [State.memOk, foldl_memOk, Mem.writeBytes_wf, Mem.fill_wf, Mem.congr_wf, Mem.empty_wf, State.rteError_memOk, State.rtRun_memOk]

theorem State.rtqOp_memOk (s : State) (a1) (a2) (w : s.memOk) : (State.rtqOp s a1 a2).memOk := by
  unfold State.rtqOp; grind [State.memOk, foldl_memOk, Mem.writeBytes_wf, Mem.fill_wf, Mem.congr_wf, Mem.empty_wf, State.stall_memOk, State.relDone_memOk, State.retire_memOk, State.nextSeq_memOk, State.rteError_memOk, State.count_memOk]

theorem State.setRd_memOk (s : State) (a1) (a2) (a3) (a4) (w : s.memOk) : (State.setRd s a1 a2 a3 a4).memOk := by
  unfold State.setRd; grind [State.memOk, foldl_memOk, Mem.writeBytes_wf, Mem.fill_wf, Mem.congr_wf, Mem.empty_wf, State.retire_memOk, State.modCore_memOk]

theorem State.storeOp_memOk (s : State) (a1) (a2) (a3) (a4) (a5) (w : s.memOk) : (State.storeOp s a1 a2 a3 a4 a5).memOk := by
  unfold State.storeOp; grind [State.memOk, foldl_memOk, Mem.writeBytes_wf, Mem.fill_wf, Mem.congr_wf, Mem.empty_wf, State.scalarFault_memOk, State.stall_memOk, State.retire_memOk, State.wharfWrite_memOk, State.portStore_memOk]

theorem State.tokenOut_memOk (s : State) (a1) (a2) (a3) (a4) (w : s.memOk) : (State.tokenOut s a1 a2 a3 a4).memOk := by
  unfold State.tokenOut; grind [State.memOk, foldl_memOk, Mem.writeBytes_wf, Mem.fill_wf, Mem.congr_wf, Mem.empty_wf, State.modBerth_memOk, State.count_memOk, State.respond_memOk]

theorem State.sampleOne_memOk (s : State) (a1) (w : s.memOk) : (State.sampleOne s a1).memOk := by
  unfold State.sampleOne; grind [State.memOk, foldl_memOk, Mem.writeBytes_wf, Mem.fill_wf, Mem.congr_wf, Mem.empty_wf, State.count64_memOk, State.raiseCtx_memOk, State.count_memOk, State.endBerth_memOk, State.tokenOut_memOk, State.draw_memOk, State.modBerth_memOk]

theorem State.scoreArrive_memOk (s : State) (w : s.memOk) : (State.scoreArrive s).memOk := by
  unfold State.scoreArrive; grind [State.memOk, foldl_memOk, Mem.writeBytes_wf, Mem.fill_wf, Mem.congr_wf, Mem.empty_wf, State.modYard_memOk]

theorem State.setConn_memOk (s : State) (a1) (a2) (w : s.memOk) : (State.setConn s a1 a2).memOk := by
  unfold State.setConn; grind [State.memOk, foldl_memOk, Mem.writeBytes_wf, Mem.fill_wf, Mem.congr_wf, Mem.empty_wf]

theorem State.spdmSay_memOk (s : State) (a1) (a2) (a3) (a4) (a5) (w : s.memOk) : (State.spdmSay s a1 a2 a3 a4 a5).memOk := by
  unfold State.spdmSay; grind [State.memOk, foldl_memOk, Mem.writeBytes_wf, Mem.fill_wf, Mem.congr_wf, Mem.empty_wf, State.emit_memOk]

theorem State.spdmError_memOk (s : State) (a1) (a2) (a3) (w : s.memOk) : (State.spdmError s a1 a2 a3).memOk := by
  unfold State.spdmError; grind [State.memOk, foldl_memOk, Mem.writeBytes_wf, Mem.fill_wf, Mem.congr_wf, Mem.empty_wf, State.spdmSay_memOk]

theorem State.spdm_memOk (s : State) t f (w : s.memOk) (h : ∀ s, s.memOk → (f s).memOk) : (s.spdm t f).memOk := by
  unfold State.spdm; grind [State.memOk, foldl_memOk, Mem.writeBytes_wf, Mem.fill_wf, Mem.congr_wf, Mem.empty_wf, State.spdmError_memOk]

theorem State.spqOp_memOk (s : State) (a1) (a2) (w : s.memOk) : (State.spqOp s a1 a2).memOk := by
  unfold State.spqOp; grind [State.memOk, foldl_memOk, Mem.writeBytes_wf, Mem.fill_wf, Mem.congr_wf, Mem.empty_wf, State.stall_memOk, State.relDone_memOk, State.retire_memOk, State.badSample_memOk, State.memRead_memOk, State.modCtx_memOk]

theorem State.stackHeat_memOk (s : State) (a1) (w : s.memOk) : (State.stackHeat s a1).memOk := by
  unfold State.stackHeat; grind [State.memOk, foldl_memOk, Mem.writeBytes_wf, Mem.fill_wf, Mem.congr_wf, Mem.empty_wf, State.setFld_memOk, State.raisePage_memOk]

theorem State.startBackup_memOk (s : State) (w : s.memOk) : (State.startBackup s).memOk := by
  unfold State.startBackup; grind [State.memOk, foldl_memOk, Mem.writeBytes_wf, Mem.fill_wf, Mem.congr_wf, Mem.empty_wf, State.raisePage_memOk, State.optFailed_memOk, State.histEntry_memOk]

theorem State.startEntropy_memOk (s : State) (w : s.memOk) : (State.startEntropy s).memOk := by
  unfold State.startEntropy; grind [State.memOk, foldl_memOk, Mem.writeBytes_wf, Mem.fill_wf, Mem.congr_wf, Mem.empty_wf, State.draw_memOk, State.modMem_memOk, State.pickImage_memOk, State.stuck_memOk, State.startOptions_memOk]

theorem State.sywWaitEnd_memOk (s : State) (a1) (w : s.memOk) : (State.sywWaitEnd s a1).memOk := by
  unfold State.sywWaitEnd; grind [State.memOk, foldl_memOk, Mem.writeBytes_wf, Mem.fill_wf, Mem.congr_wf, Mem.empty_wf, State.sywEnd_memOk]

theorem State.takeIndex_memOk (s : State) (w : s.memOk) : (State.takeIndex s).memOk := by
  unfold State.takeIndex; grind [State.memOk, foldl_memOk, Mem.writeBytes_wf, Mem.fill_wf, Mem.congr_wf, Mem.empty_wf]

theorem State.throttleHeat_memOk (s : State) (w : s.memOk) : (State.throttleHeat s).memOk := by
  unfold State.throttleHeat; grind [State.memOk, foldl_memOk, Mem.writeBytes_wf, Mem.fill_wf, Mem.congr_wf, Mem.empty_wf, State.logEvent_memOk, State.raisePage_memOk]

theorem State.trip_memOk (s : State) (w : s.memOk) : (State.trip s).memOk := by
  unfold State.trip; grind [State.memOk, foldl_memOk, Mem.writeBytes_wf, Mem.fill_wf, Mem.congr_wf, Mem.empty_wf, State.raisePage_memOk, State.logEvent_memOk]

theorem State.unlock_memOk (s : State) (w : s.memOk) : (State.unlock s).memOk := by
  unfold State.unlock; grind [State.memOk, foldl_memOk, Mem.writeBytes_wf, Mem.fill_wf, Mem.congr_wf, Mem.empty_wf, State.raisePage_memOk, State.setFld_memOk, State.flightAbort_memOk, State.modPlan_memOk]

theorem State.vecRange_memOk (s : State) (a1) (a2) (w : s.memOk) : (State.vecRange s a1 a2).memOk := by
  unfold State.vecRange; grind [State.memOk, foldl_memOk, Mem.writeBytes_wf, Mem.fill_wf, Mem.congr_wf, Mem.empty_wf, State.count_memOk, State.modCore_memOk]

theorem State.vecCart_memOk (s : State) (a1) (a2) (a3) (w : s.memOk) : (State.vecCart s a1 a2 a3).memOk := by
  unfold State.vecCart; grind [State.memOk, foldl_memOk, Mem.writeBytes_wf, Mem.fill_wf, Mem.congr_wf, Mem.empty_wf, State.vecSx_memOk, State.modCore_memOk, State.vecRange_memOk, State.count_memOk]

theorem State.vecCmp_memOk (s : State) (a1) (a2) (a3) (w : s.memOk) : (State.vecCmp s a1 a2 a3).memOk := by
  unfold State.vecCmp; grind [State.memOk, foldl_memOk, Mem.writeBytes_wf, Mem.fill_wf, Mem.congr_wf, Mem.empty_wf, State.maskWrite_memOk]

theorem State.vecReport_memOk (s : State) (a1) (a2) (a3) (a4) (w : s.memOk) : (State.vecReport s a1 a2 a3 a4).memOk := by
  unfold State.vecReport; grind [State.memOk, foldl_memOk, Mem.writeBytes_wf, Mem.fill_wf, Mem.congr_wf, Mem.empty_wf, State.modCore_memOk, State.count_memOk, State.reportCore_memOk]

theorem State.vecWrite_memOk (s : State) (a1) (a2) (a3) (a4) (a5) (w : s.memOk) : (State.vecWrite s a1 a2 a3 a4 a5).memOk := by
  unfold State.vecWrite; grind [State.memOk, foldl_memOk, Mem.writeBytes_wf, Mem.fill_wf, Mem.congr_wf, Mem.empty_wf, State.modCore_memOk, State.vecOps_memOk, State.vecReport_memOk]

theorem State.vecCtrl_memOk (s : State) (a1) (a2) (a3) (w : s.memOk) : (State.vecCtrl s a1 a2 a3).memOk := by
  unfold State.vecCtrl; grind [State.memOk, foldl_memOk, Mem.writeBytes_wf, Mem.fill_wf, Mem.congr_wf, Mem.empty_wf, State.modCore_memOk, State.vecSx_memOk, State.vecWrite_memOk]

theorem State.vecCvt_memOk (s : State) (a1) (a2) (a3) (w : s.memOk) : (State.vecCvt s a1 a2 a3).memOk := by
  unfold State.vecCvt; grind [State.memOk, foldl_memOk, Mem.writeBytes_wf, Mem.fill_wf, Mem.congr_wf, Mem.empty_wf, State.modCore_memOk, State.vecOps_memOk, State.vecReport_memOk]

theorem State.vecElem_memOk (s : State) (a1) (a2) (a3) (w : s.memOk) : (State.vecElem s a1 a2 a3).memOk := by
  unfold State.vecElem; grind [State.memOk, foldl_memOk, Mem.writeBytes_wf, Mem.fill_wf, Mem.congr_wf, Mem.empty_wf, State.vecWrite_memOk]

theorem State.vecEmpty_memOk (s : State) (a1) (a2) (a3) (w : s.memOk) : (State.vecEmpty s a1 a2 a3).memOk := by
  unfold State.vecEmpty; grind [State.memOk, foldl_memOk, Mem.writeBytes_wf, Mem.fill_wf, Mem.congr_wf, Mem.empty_wf, State.modCore_memOk, State.count_memOk]

theorem State.vecMask_memOk (s : State) (a1) (a2) (w : s.memOk) : (State.vecMask s a1 a2).memOk := by
  unfold State.vecMask; grind [State.memOk, foldl_memOk, Mem.writeBytes_wf, Mem.fill_wf, Mem.congr_wf, Mem.empty_wf, State.maskWrite_memOk, State.modCore_memOk, State.vecSx_memOk]

theorem State.vecReject_memOk (s : State) (a1) (a2) (a3) (w : s.memOk) : (State.vecReject s a1 a2 a3).memOk := by
  unfold State.vecReject; grind [State.memOk, foldl_memOk, Mem.writeBytes_wf, Mem.fill_wf, Mem.congr_wf, Mem.empty_wf, State.wr_memOk, State.raiseCtx_memOk]

theorem State.vecMem_memOk (s : State) (a1) (a2) (a3) (w : s.memOk) : (State.vecMem s a1 a2 a3).memOk := by
  unfold State.vecMem; grind [State.memOk, foldl_memOk, Mem.writeBytes_wf, Mem.fill_wf, Mem.congr_wf, Mem.empty_wf, State.vecReject_memOk, State.vecWrite_memOk, State.vecOps_memOk, State.modCore_memOk, State.portBefore_memOk, State.dcacheRead_memOk, State.portStore_memOk]

theorem State.vecPerm_memOk (s : State) (a1) (a2) (a3) (w : s.memOk) : (State.vecPerm s a1 a2 a3).memOk := by
  unfold State.vecPerm; grind [State.memOk, foldl_memOk, Mem.writeBytes_wf, Mem.fill_wf, Mem.congr_wf, Mem.empty_wf, State.vecWrite_memOk, State.vecRange_memOk, State.modCore_memOk, State.vecOps_memOk, State.vecSx_memOk]

theorem State.vecQmx_memOk (s : State) (a1) (a2) (a3) (w : s.memOk) : (State.vecQmx s a1 a2 a3).memOk := by
  unfold State.vecQmx; grind [State.memOk, foldl_memOk, Mem.writeBytes_wf, Mem.fill_wf, Mem.congr_wf, Mem.empty_wf, State.modCore_memOk, State.vecOps_memOk, State.count_memOk]

theorem State.vecRed_memOk (s : State) (a1) (a2) (a3) (w : s.memOk) : (State.vecRed s a1 a2 a3).memOk := by
  unfold State.vecRed; grind [State.memOk, foldl_memOk, Mem.writeBytes_wf, Mem.fill_wf, Mem.congr_wf, Mem.empty_wf, State.vecOps_memOk, State.vecEmpty_memOk, State.redWrite_memOk, State.vecReport_memOk]

theorem State.vecExec_memOk (s : State) (a1) (a2) (a3) (w : s.memOk) : (State.vecExec s a1 a2 a3).memOk := by
  unfold State.vecExec; grind [State.memOk, foldl_memOk, Mem.writeBytes_wf, Mem.fill_wf, Mem.congr_wf, Mem.empty_wf, State.vecCtrl_memOk, State.vecElem_memOk, State.vecCmp_memOk, State.vecQmx_memOk, State.vecCvt_memOk, State.vecPerm_memOk, State.vecRed_memOk, State.vecMask_memOk, State.vecMem_memOk, State.vecCart_memOk]

theorem State.vecIssue_memOk (s : State) (a1) (w : s.memOk) : (State.vecIssue s a1).memOk := by
  unfold State.vecIssue; grind [State.memOk, foldl_memOk, Mem.writeBytes_wf, Mem.fill_wf, Mem.congr_wf, Mem.empty_wf, State.modCore_memOk, State.scbRelease_memOk, State.vecExec_memOk]

theorem State.vecOp_memOk (s : State) (a1) (a2) (a3) (a4) (w : s.memOk) : (State.vecOp s a1 a2 a3 a4).memOk := by
  unfold State.vecOp; grind (splits := 40) (ematch := 20) (gen := 20) [State.memOk, foldl_memOk, Mem.writeBytes_wf, Mem.fill_wf, Mem.congr_wf, Mem.empty_wf, State.stall_memOk, State.retire_memOk, State.vecReject_memOk, State.nextSeq_memOk, State.vecExec_memOk, State.scbAdd_memOk, State.modCore_memOk, State.highWater_memOk]

theorem State.windowRead_memOk (s : State) (a1) (a2) (a3) (w : s.memOk) : (State.windowRead s a1 a2 a3).1.memOk := by
  unfold State.windowRead; grind [State.memOk, foldl_memOk, Mem.writeBytes_wf, Mem.fill_wf, Mem.congr_wf, Mem.empty_wf, State.memRead_memOk, State.apertureFault_memOk]

theorem State.windowWrite_memOk (s : State) (a1) (a2) (a3) (w : s.memOk) : (State.windowWrite s a1 a2 a3).memOk := by
  unfold State.windowWrite; grind [State.memOk, foldl_memOk, Mem.writeBytes_wf, Mem.fill_wf, Mem.congr_wf, Mem.empty_wf, State.apertureFault_memOk, State.memWrite_memOk]

theorem State.xlatInv_memOk (s : State) (a1) (a2) (w : s.memOk) : (State.xlatInv s a1 a2).memOk := by
  unfold State.xlatInv; grind [State.memOk, foldl_memOk, Mem.writeBytes_wf, Mem.fill_wf, Mem.congr_wf, Mem.empty_wf]

theorem YardRun.item_memOk (s : State) (r : YardRun) a b (h : (r.s.memOk)) : (r.item a b).s.memOk := by
  unfold YardRun.item; grind [State.memOk, foldl_memOk, Mem.writeBytes_wf, Mem.fill_wf, Mem.congr_wf, Mem.empty_wf, State.modYard_memOk, State.makeCoach_memOk]

theorem YardRun.items_memOk (s : State) (xs : List ChainItem) a (r : YardRun) (h : (r.s.memOk)) : (xs.foldl (fun r it => r.item a it) r).s.memOk := by
  induction xs generalizing r with
  | nil => exact h
  | cons x xs ih => exact ih _ (YardRun.item_memOk s r a x h)

theorem YardRun.chains_memOk (s : State) (xs : List (Nat × List ChainItem)) a b (r : YardRun) (h : (r.s.memOk)) : (xs.foldl (fun r c => r.chainOf a b c) r).s.memOk := by
  induction xs generalizing r with
  | nil => exact h
  | cons x xs ih => exact ih _ (YardRun.items_memOk s x.2 a { r with chain := [] } h)

theorem State.yardApply_memOk (s : State) (a1) (a2) (a3) (w : s.memOk) : (State.yardApply s a1 a2 a3).1.memOk := by
  have h := YardRun.chains_memOk s a3.chains a1 a3.berth ⟨s, true, [], 0, 0⟩ w
  unfold State.yardApply
  generalize List.foldl _ _ a3.chains = r at h ⊢
  grind [State.memOk, foldl_memOk, Mem.writeBytes_wf, Mem.fill_wf, Mem.congr_wf, Mem.empty_wf, State.modCtx_memOk, State.count_memOk, State.count64_memOk]

theorem State.yardResult_memOk (s : State) (a1) (a2) (a3) (w : s.memOk) : (State.yardResult s a1 a2 a3).memOk := by
  unfold State.yardResult; grind [State.memOk, foldl_memOk, Mem.writeBytes_wf, Mem.fill_wf, Mem.congr_wf, Mem.empty_wf, State.wharfWrite_memOk]

theorem State.yardRefuse_memOk (s : State) (a1) (a2) (w : s.memOk) : (State.yardRefuse s a1 a2).memOk := by
  unfold State.yardRefuse; grind [State.memOk, foldl_memOk, Mem.writeBytes_wf, Mem.fill_wf, Mem.congr_wf, Mem.empty_wf, State.yardErr_memOk, State.count_memOk, State.yardResult_memOk]

theorem State.yardDo_memOk (s : State) (a1) (a2) (w : s.memOk) : (State.yardDo s a1 a2).memOk := by
  unfold State.yardDo; grind [State.memOk, foldl_memOk, Mem.writeBytes_wf, Mem.fill_wf, Mem.congr_wf, Mem.empty_wf, State.yardResult_memOk, State.modYard_memOk, State.modCtx_memOk, State.yardApply_memOk, State.yardRefuse_memOk]

theorem State.yardRetire_memOk (s : State) (a1) (w : s.memOk) : (State.yardRetire s a1).memOk := by
  unfold State.yardRetire; grind [State.memOk, foldl_memOk, Mem.writeBytes_wf, Mem.fill_wf, Mem.congr_wf, Mem.empty_wf, State.scbRelease_memOk]

theorem State.yardExec_memOk (s : State) (a1) (w : s.memOk) : (State.yardExec s a1).memOk := by
  unfold State.yardExec; grind [State.memOk, foldl_memOk, Mem.writeBytes_wf, Mem.fill_wf, Mem.congr_wf, Mem.empty_wf, State.modYard_memOk, State.count_memOk, State.yardErr_memOk, State.yardDo_memOk, State.yardRetire_memOk]

end Sys2Proof.Machine
end

