-- ==== Sys2Proof/Laws/EnginesFrame.lean ====
section
/-! SUPPORT. Which shared operations leave the engines (clusters, ports, yard, routing, collectives, serving) alone: one lemma per operation. -/

namespace Sys2Proof.Machine

theorem foldl_engines {α} (g : State → α → State) (xs : List α) (s : State) (h : ∀ s a, (g s a).engines = s.engines) : (xs.foldl g s).engines = s.engines := by
  induction xs generalizing s with
  | nil => rfl
  | cons x xs ih => simp [ih, h]

theorem State.wr_engines (s : State) (a1) (a2) (a3) (a4) (a5) : (State.wr s a1 a2 a3 a4 a5).engines = s.engines := by
  unfold State.wr; grind [State.engines, foldl_engines]

theorem State.wr64_engines (s : State) (a1) (a2) (a3) (a4) (a5) : (State.wr64 s a1 a2 a3 a4 a5).engines = s.engines := by
  unfold State.wr64; grind [State.engines, foldl_engines, State.wr_engines]

theorem State.count64_engines (s : State) (a1) (a2) (a3) (a4) (a5) : (State.count64 s a1 a2 a3 a4 a5).engines = s.engines := by
  unfold State.count64; grind [State.engines, foldl_engines, State.wr64_engines]

theorem State.count_engines (s : State) (a1) (a2) (a3) (a4) (a5) : (State.count s a1 a2 a3 a4 a5).engines = s.engines := by
  unfold State.count; grind [State.engines, foldl_engines, State.wr_engines]

theorem State.fceCount_engines (s : State) (a1) (a2) : (State.fceCount s a1 a2).engines = s.engines := by
  unfold State.fceCount; grind [State.engines, foldl_engines, State.count_engines]

theorem State.dropBarge_engines (s : State) (a1) (a2) : (State.dropBarge s a1 a2).engines = s.engines := by
  unfold State.dropBarge; grind [State.engines, foldl_engines, State.count_engines, State.fceCount_engines]

theorem State.setCtx_engines (s : State) (a1) (a2) : (State.setCtx s a1 a2).engines = s.engines := by
  unfold State.setCtx; grind [State.engines, foldl_engines]

theorem State.modCtx_engines (s : State) (a1) (a2) : (State.modCtx s a1 a2).engines = s.engines := by
  unfold State.modCtx; grind [State.engines, foldl_engines, State.setCtx_engines]

theorem State.condemn_engines (s : State) (a1) (a2) (a3) (a4) : (State.condemn s a1 a2 a3 a4).engines = s.engines := by
  unfold State.condemn; grind [State.engines, foldl_engines, State.modCtx_engines]

theorem State.emit_engines (s : State) (a1) : (State.emit s a1).engines = s.engines := by
  unfold State.emit; grind [State.engines, foldl_engines]

theorem State.recordIn_engines (s : State) (a1) (a2) : (State.recordIn s a1 a2).engines = s.engines := by
  unfold State.recordIn; grind [State.engines, foldl_engines, State.wr_engines, State.count_engines]

theorem State.record_engines (s : State) (a1) : (State.record s a1).engines = s.engines := by
  unfold State.record; grind [State.engines, foldl_engines, State.recordIn_engines, State.emit_engines]

theorem State.updAlert_engines (s : State) : (State.updAlert s).engines = s.engines := by
  unfold State.updAlert; grind [State.engines, foldl_engines, State.emit_engines]

theorem State.imageRefused_engines (s : State) (a1) : (State.imageRefused s a1).engines = s.engines := by
  unfold State.imageRefused; grind [State.engines, foldl_engines, State.updAlert_engines, State.record_engines]

theorem State.runImage_engines (s : State) (a1) (a2) : (State.runImage s a1 a2).engines = s.engines := by
  unfold State.runImage; grind [State.engines, foldl_engines]

theorem State.pickImage_engines (s : State) (a1) : (State.pickImage s a1).engines = s.engines := by
  unfold State.pickImage; grind [State.engines, foldl_engines, State.runImage_engines, State.imageRefused_engines]

theorem State.fwRestart_engines (s : State) : (State.fwRestart s).engines = s.engines := by
  unfold State.fwRestart; grind [State.engines, foldl_engines, State.pickImage_engines, State.count_engines, State.condemn_engines]

theorem State.askRestart_engines (s : State) : (State.askRestart s).engines = s.engines := by
  unfold State.askRestart; grind [State.engines, foldl_engines, State.fwRestart_engines]

theorem State.deviceStop_engines (s : State) (a1) : (State.deviceStop s a1).engines = s.engines := by
  unfold State.deviceStop; grind [State.engines, foldl_engines]

theorem State.modLink_engines (s : State) (a1) (a2) : (State.modLink s a1 a2).engines = s.engines := by
  unfold State.modLink; grind [State.engines, foldl_engines]

theorem State.dropLink_engines (s : State) (a1) : (State.dropLink s a1).engines = s.engines := by
  unfold State.dropLink; grind [State.engines, foldl_engines, State.modLink_engines, State.count_engines, State.wr_engines, State.record_engines]

theorem State.modMem_engines (s : State) (a1) : (State.modMem s a1).engines = s.engines := by
  unfold State.modMem; grind [State.engines, foldl_engines]

theorem State.fatalStop_engines (s : State) : (State.fatalStop s).engines = s.engines := by
  unfold State.fatalStop; grind [State.engines, foldl_engines, State.modMem_engines, State.dropLink_engines]

theorem State.trigCapture_engines (s : State) (a1) (a2) : (State.trigCapture s a1 a2).engines = s.engines := by
  unfold State.trigCapture; grind [State.engines, foldl_engines, State.record_engines, State.count_engines]

theorem State.act_engines (s : State) (a1) : (State.act s a1).engines = s.engines := by
  unfold State.act; grind [State.engines, foldl_engines, State.deviceStop_engines, State.trigCapture_engines, State.askRestart_engines, State.condemn_engines, State.fatalStop_engines]

theorem State.logEvent_engines (s : State) (a1) (a2) : (State.logEvent s a1 a2).engines = s.engines := by
  unfold State.logEvent; grind [State.engines, foldl_engines]

theorem State.logError_engines (s : State) (a1) : (State.logError s a1).engines = s.engines := by
  unfold State.logError; grind [State.engines, foldl_engines, State.logEvent_engines]

theorem State.draw_engines (s : State) : (State.draw s).2.engines = s.engines := by
  unfold State.draw; grind [State.engines, foldl_engines]

theorem State.quietWrite_engines (s : State) (a1) (a2) (a3) : (State.quietWrite s a1 a2 a3).engines = s.engines := by
  unfold State.quietWrite; grind [State.engines, foldl_engines, State.modMem_engines]

theorem State.trace_engines (s : State) (a1) (a2) (a3) (a4) (a5) : (State.trace s a1 a2 a3 a4 a5).engines = s.engines := by
  unfold State.trace; grind [State.engines, foldl_engines, State.draw_engines, State.modCtx_engines, State.wr_engines, State.quietWrite_engines]

theorem State.raise_engines (s : State) (a1) : (State.raise s a1).engines = s.engines := by
  unfold State.raise; grind [State.engines, foldl_engines, State.record_engines, State.trace_engines, State.updAlert_engines, State.act_engines, State.logError_engines]

theorem State.fceRaise_engines (s : State) (a1) (a2) (a3) : (State.fceRaise s a1 a2 a3).engines = s.engines := by
  unfold State.fceRaise; grind [State.engines, foldl_engines, State.raise_engines]

theorem State.putBarge_engines (s : State) (a1) (a2) (a3) : (State.putBarge s a1 a2 a3).engines = s.engines := by
  unfold State.putBarge; grind [State.engines, foldl_engines, State.count64_engines, State.emit_engines]

theorem State.hold_engines (s : State) (a1) : (State.hold s a1).engines = s.engines := by
  unfold State.hold; grind [State.engines, foldl_engines]

theorem State.raisePage_engines (s : State) (a1) (a2) (a3) (a4) : (State.raisePage s a1 a2 a3 a4).engines = s.engines := by
  unfold State.raisePage; grind [State.engines, foldl_engines, State.raise_engines]

theorem State.accessError_engines (s : State) (a1) (a2) : (State.accessError s a1 a2).engines = s.engines := by
  unfold State.accessError; grind [State.engines, foldl_engines, State.raise_engines, State.raisePage_engines]

theorem State.setCore_engines (s : State) (a1) (a2) : (State.setCore s a1 a2).engines = s.engines := by
  unfold State.setCore; grind [State.engines, foldl_engines]

theorem State.modCore_engines (s : State) (a1) (a2) : (State.modCore s a1 a2).engines = s.engines := by
  unfold State.modCore; grind [State.engines, foldl_engines, State.setCore_engines]

theorem State.dcacheInval_engines (s : State) (a1) : (State.dcacheInval s a1).engines = s.engines := by
  unfold State.dcacheInval; grind [State.engines, foldl_engines, State.count_engines, State.modCore_engines]

theorem State.acqDone_engines (s : State) (a1) (a2) : (State.acqDone s a1 a2).engines = s.engines := by
  unfold State.acqDone; grind [State.engines, foldl_engines, State.dcacheInval_engines]

theorem State.activateNow_engines (s : State) (a1) : (State.activateNow s a1).engines = s.engines := by
  unfold State.activateNow; grind [State.engines, foldl_engines, State.modCtx_engines]

theorem State.setFld_engines (s : State) (a1) (a2) (a3) (a4) (a5) (a6) (a7) : (State.setFld s a1 a2 a3 a4 a5 a6 a7).engines = s.engines := by
  unfold State.setFld; grind [State.engines, foldl_engines, State.wr_engines]

theorem State.addDeficit_engines (s : State) (a1) (a2) : (State.addDeficit s a1 a2).engines = s.engines := by
  unfold State.addDeficit; grind [State.engines, foldl_engines, State.setFld_engines]

theorem State.raiseCtx_engines (s : State) (a1) (a2) (a3) (a4) (a5) (a6) : (State.raiseCtx s a1 a2 a3 a4 a5 a6).engines = s.engines := by
  unfold State.raiseCtx; grind [State.engines, foldl_engines, State.raise_engines]

theorem State.memFault_engines (s : State) (a1) (a2) (a3) : (State.memFault s a1 a2 a3).engines = s.engines := by
  unfold State.memFault; grind [State.engines, foldl_engines, State.raiseCtx_engines]

theorem State.xlate_engines (s : State) (a1) (a2) (a3) (a4) : (State.xlate s a1 a2 a3 a4).1.engines = s.engines := by
  unfold State.xlate; grind [State.engines, foldl_engines, State.draw_engines, State.modMem_engines]

theorem State.writePieces_engines (s : State) (a1) (a2) (a3) (a4) (a5) : (State.writePieces s a1 a2 a3 a4 a5).1.engines = s.engines := by
  fun_induction State.writePieces s a1 a2 a3 a4 a5 <;> grind [State.engines, foldl_engines, State.xlate_engines, State.memFault_engines, State.modMem_engines]

theorem State.memWrite_engines (s : State) (a1) (a2) (a3) (a4) : (State.memWrite s a1 a2 a3 a4).1.engines = s.engines := by
  unfold State.memWrite; grind [State.engines, foldl_engines, State.raiseCtx_engines, State.writePieces_engines]

theorem State.addTotal_engines (s : State) (a1) (a2) (a3) : (State.addTotal s a1 a2 a3).engines = s.engines := by
  unfold State.addTotal; grind [State.engines, foldl_engines, State.wr_engines, State.count_engines]

theorem State.addTotals_engines (s : State) : (State.addTotals s).engines = s.engines := by
  unfold State.addTotals; grind [State.engines, foldl_engines, State.addTotal_engines]

theorem State.slotBack_engines (s : State) (a1) (a2) (a3) (a4) (a5) : (State.slotBack s a1 a2 a3 a4 a5).engines = s.engines := by
  unfold State.slotBack; grind [State.engines, foldl_engines, State.memWrite_engines]

theorem State.advance_engines (s : State) (a1) (a2) : (State.advance s a1 a2).engines = s.engines := by
  unfold State.advance; grind [State.engines, foldl_engines, State.modCore_engines]

theorem State.apertureFault_engines (s : State) (a1) : (State.apertureFault s a1).engines = s.engines := by
  unfold State.apertureFault; grind [State.engines, foldl_engines, State.accessError_engines]

theorem State.dropFrame_engines (s : State) : (State.dropFrame s).engines = s.engines := by
  unfold State.dropFrame; grind [State.engines, foldl_engines, State.count_engines]

theorem State.frameIn_engines (s : State) : (State.frameIn s).engines = s.engines := by
  unfold State.frameIn; grind [State.engines, foldl_engines, State.count_engines]

theorem State.outWrite_engines (s : State) (a1) (a2) : (State.outWrite s a1 a2).engines = s.engines := by
  unfold State.outWrite; grind [State.engines, foldl_engines, State.memWrite_engines, State.count_engines, State.wr_engines]

theorem State.ringOut_engines (s : State) (a1) (a2) : (State.ringOut s a1 a2).engines = s.engines := by
  unfold State.ringOut; grind [State.engines, foldl_engines, State.count_engines, State.modCtx_engines, State.outWrite_engines]

theorem State.nextSeq_engines (s : State) (a1) (a2) (a3) : (State.nextSeq s a1 a2 a3).2.engines = s.engines := by
  unfold State.nextSeq; grind [State.engines, foldl_engines, State.wr_engines]

theorem State.yardErr_engines (s : State) (a1) (a2) (a3) (a4) (a5) : (State.yardErr s a1 a2 a3 a4 a5).engines = s.engines := by
  unfold State.yardErr; grind [State.engines, foldl_engines, State.raiseCtx_engines]

theorem State.ctxDrop_engines (s : State) (a1) : (State.ctxDrop s a1).engines = s.engines := by
  unfold State.ctxDrop; grind [State.engines, foldl_engines, State.count_engines, State.raiseCtx_engines, State.modCtx_engines]

theorem State.frameTag_engines (s : State) (a1) (a2) (a3) : (State.frameTag s a1 a2 a3).1.engines = s.engines := by
  unfold State.frameTag; grind [State.engines, foldl_engines, State.draw_engines, State.modCtx_engines]

theorem State.openMark_engines (s : State) (a1) (a2) : (State.openMark s a1 a2).1.engines = s.engines := by
  unfold State.openMark; grind [State.engines, foldl_engines, State.modCtx_engines, State.ctxDrop_engines, State.raiseCtx_engines]

theorem State.newDrbg_engines (s : State) (a1) (a2) : (State.newDrbg s a1 a2).2.engines = s.engines := by
  unfold State.newDrbg; grind [State.engines, foldl_engines, State.draw_engines]

theorem State.rxBytes_engines (s : State) (a1) (a2) : (State.rxBytes s a1 a2).engines = s.engines := by
  unfold State.rxBytes; grind [State.engines, foldl_engines, State.count64_engines]

theorem State.applyField_engines (s : State) (a1) (a2) (a3) (a4) : (State.applyField s a1 a2 a3 a4).engines = s.engines := by
  unfold State.applyField; grind [State.engines, foldl_engines, State.setFld_engines, State.wr_engines]

theorem State.bindPolicy_engines (s : State) (a1) : (State.bindPolicy s a1).engines = s.engines := by
  unfold State.bindPolicy; grind [State.engines, foldl_engines, State.setFld_engines]

theorem State.putStaged_engines (s : State) (a1) (a2) (a3) : (State.putStaged s a1 a2 a3).engines = s.engines := by
  unfold State.putStaged; grind [State.engines, foldl_engines]

theorem State.deactivateNow_engines (s : State) (a1) : (State.deactivateNow s a1).engines = s.engines := by
  unfold State.deactivateNow; grind [State.engines, foldl_engines, State.wr_engines, State.modCtx_engines]

theorem State.modDom_engines (s : State) (a1) (a2) : (State.modDom s a1 a2).engines = s.engines := by
  unfold State.modDom; grind [State.engines, foldl_engines]

theorem State.vstepFault_engines (s : State) (a1) : (State.vstepFault s a1).engines = s.engines := by
  unfold State.vstepFault; grind [State.engines, foldl_engines, State.raisePage_engines, State.modDom_engines]

theorem State.applyPoint_engines (s : State) (a1) (a2) : (State.applyPoint s a1 a2).engines = s.engines := by
  unfold State.applyPoint; grind [State.engines, foldl_engines, State.modDom_engines, State.vstepFault_engines]

theorem State.applyRefresh_engines (s : State) : (State.applyRefresh s).engines = s.engines := by
  unfold State.applyRefresh; grind [State.engines, foldl_engines, State.logEvent_engines, State.setFld_engines]

theorem State.switchKeys_engines (s : State) (a1) : (State.switchKeys s a1).engines = s.engines := by
  unfold State.switchKeys; grind [State.engines, foldl_engines, State.modCtx_engines]

theorem State.capChanged_engines (s : State) (a1) : (State.capChanged s a1).engines = s.engines := by
  unfold State.capChanged; grind [State.engines, foldl_engines]

theorem State.forceFloors_engines (s : State) (a1) (a2) : (State.forceFloors s a1 a2).engines = s.engines := by
  unfold State.forceFloors; grind [State.engines, foldl_engines, State.count_engines, State.raiseCtx_engines]

theorem State.powerRecompute_engines (s : State) : (State.powerRecompute s).engines = s.engines := by
  unfold State.powerRecompute; grind [State.engines, foldl_engines, State.modDom_engines, State.forceFloors_engines]

theorem State.setMacs_engines (s : State) (a1) : (State.setMacs s a1).engines = s.engines := by
  unfold State.setMacs; grind [State.engines, foldl_engines, State.wr_engines]

theorem State.applyTrims_engines (s : State) : (State.applyTrims s).engines = s.engines := by
  unfold State.applyTrims; grind [State.engines, foldl_engines, State.setMacs_engines, State.wr_engines]

theorem State.readPieces_engines (s : State) (a1) (a2) (a3) (a4) (a5) (a6) : (State.readPieces s a1 a2 a3 a4 a5 a6).1.engines = s.engines := by
  fun_induction State.readPieces s a1 a2 a3 a4 a5 a6 <;> grind [State.engines, foldl_engines, State.xlate_engines, State.memFault_engines, State.modMem_engines]

theorem State.memRead_engines (s : State) (a1) (a2) (a3) (a4) (a5) : (State.memRead s a1 a2 a3 a4 a5).1.engines = s.engines := by
  unfold State.memRead; grind [State.engines, foldl_engines, State.raiseCtx_engines, State.readPieces_engines]

theorem State.atVector_engines (s : State) (a1) (a2) (a3) (a4) (a5) : (State.atVector s a1 a2 a3 a4 a5).1.engines = s.engines := by
  unfold State.atVector; grind [State.engines, foldl_engines, State.memRead_engines]

theorem State.atSlots_engines (s : State) (a1) (a2) (a3) (a4) (a5) (a6) : (State.atSlots s a1 a2 a3 a4 a5 a6).1.engines = s.engines := by
  fun_induction State.atSlots s a1 a2 a3 a4 a5 a6 <;> grind [State.engines, foldl_engines, State.atVector_engines]

theorem State.atCoaches_engines (s : State) (a1) (a2) (a3) (a4) (a5) : (State.atCoaches s a1 a2 a3 a4 a5).1.engines = s.engines := by
  fun_induction State.atCoaches s a1 a2 a3 a4 a5 <;> grind [State.engines, foldl_engines, State.atSlots_engines, State.count_engines]

theorem State.countAtp_engines (s : State) (a1) (a2) (a3) : (State.countAtp s a1 a2 a3).engines = s.engines := by
  unfold State.countAtp; grind [State.engines, foldl_engines, State.count_engines]

theorem State.fillRec_engines (s : State) (a1) (a2) (a3) (a4) : (State.fillRec s a1 a2 a3 a4).engines = s.engines := by
  unfold State.fillRec; grind [State.engines, foldl_engines, State.wr_engines]

theorem State.reportCore_engines (s : State) (a1) (a2) (a3) : (State.reportCore s a1 a2 a3).engines = s.engines := by
  unfold State.reportCore; grind [State.engines, foldl_engines, State.fillRec_engines]

theorem State.atTally_engines (s : State) (a1) (a2) (a3) (a4) : (State.atTally s a1 a2 a3 a4).engines = s.engines := by
  unfold State.atTally; grind [State.engines, foldl_engines, State.countAtp_engines, State.reportCore_engines]

theorem State.wharfWrite_engines (s : State) (a1) (a2) (a3) : (State.wharfWrite s a1 a2 a3).engines = s.engines := by
  unfold State.wharfWrite; grind [State.engines, foldl_engines, State.modCore_engines]

theorem State.scbRelease_engines (s : State) (a1) (a2) (a3) : (State.scbRelease s a1 a2 a3).engines = s.engines := by
  unfold State.scbRelease; grind [State.engines, foldl_engines, State.modCore_engines]

theorem State.atFinish_engines (s : State) (a1) (a2) : (State.atFinish s a1 a2).engines = s.engines := by
  unfold State.atFinish; grind [State.engines, foldl_engines, State.modCore_engines, State.scbRelease_engines]

theorem State.atReject_engines (s : State) (a1) (a2) (a3) (a4) : (State.atReject s a1 a2 a3 a4).engines = s.engines := by
  unfold State.atReject; grind [State.engines, foldl_engines, State.wr_engines, State.raiseCtx_engines]

theorem State.atScores_engines (s : State) (a1) (a2) : (State.atScores s a1 a2).1.engines = s.engines := by
  fun_induction State.atScores s a1 a2 <;> grind [State.engines, foldl_engines, State.draw_engines]

theorem State.atStop_engines (s : State) (a1) (a2) (a3) : (State.atStop s a1 a2 a3).engines = s.engines := by
  unfold State.atStop; grind [State.engines, foldl_engines, State.atFinish_engines, State.atReject_engines]

theorem State.atRun_engines (s : State) (a1) (a2) (a3) : (State.atRun s a1 a2 a3).engines = s.engines := by
  unfold State.atRun; grind [State.engines, foldl_engines, State.atStop_engines, State.atCoaches_engines, State.atScores_engines, State.count64_engines, State.modCore_engines, State.atTally_engines]

theorem State.reportUnit_engines (s : State) (a1) (a2) (a3) (a4) : (State.reportUnit s a1 a2 a3 a4).engines = s.engines := by
  unfold State.reportUnit; grind [State.engines, foldl_engines]

theorem State.atomNan_engines (s : State) (a1) (a2) (a3) (a4) (a5) : (State.atomNan s a1 a2 a3 a4 a5).engines = s.engines := by
  unfold State.atomNan; grind [State.engines, foldl_engines, State.reportUnit_engines]

theorem State.atomApply_engines (s : State) (a1) (a2) (a3) (a4) : (State.atomApply s a1 a2 a3 a4).1.engines = s.engines := by
  fun_induction State.atomApply s a1 a2 a3 a4 <;> grind [State.engines, foldl_engines, State.memRead_engines, State.memWrite_engines, State.wharfWrite_engines, State.xlate_engines, State.count64_engines, State.atomNan_engines]

theorem State.atpStart_engines (s : State) (a1) : (State.atpStart s a1).engines = s.engines := by
  unfold State.atpStart; grind [State.engines, foldl_engines, State.atRun_engines, State.modCore_engines]

theorem State.highWater_engines (s : State) (a1) (a2) (a3) (a4) (a5) (a6) : (State.highWater s a1 a2 a3 a4 a5 a6).engines = s.engines := by
  unfold State.highWater; grind [State.engines, foldl_engines, State.setFld_engines]

theorem State.retire_engines (s : State) (a1) (a2) : (State.retire s a1 a2).engines = s.engines := by
  unfold State.retire; grind [State.engines, foldl_engines, State.modCore_engines]

theorem State.scbAdd_engines (s : State) (a1) (a2) (a3) (a4) : (State.scbAdd s a1 a2 a3 a4).engines = s.engines := by
  unfold State.scbAdd; grind [State.engines, foldl_engines, State.modCore_engines, State.highWater_engines]

theorem State.stall_engines (s : State) (a1) (a2) : (State.stall s a1 a2).engines = s.engines := by
  unfold State.stall; grind [State.engines, foldl_engines, State.modCore_engines]

theorem State.atqOp_engines (s : State) (a1) (a2) (a3) : (State.atqOp s a1 a2 a3).engines = s.engines := by
  unfold State.atqOp; grind [State.engines, foldl_engines, State.stall_engines, State.retire_engines, State.atReject_engines, State.nextSeq_engines, State.scbAdd_engines, State.modCore_engines, State.highWater_engines]

theorem State.fallBack_engines (s : State) : (State.fallBack s).engines = s.engines := by
  unfold State.fallBack; grind [State.engines, foldl_engines, State.applyTrims_engines, State.raisePage_engines, State.wr_engines]

theorem State.histEntry_engines (s : State) (a1) (a2) (a3) (a4) (a5) : (State.histEntry s a1 a2 a3 a4 a5).engines = s.engines := by
  unfold State.histEntry; grind [State.engines, foldl_engines]

theorem State.optFailed_engines (s : State) : (State.optFailed s).engines = s.engines := by
  unfold State.optFailed; grind [State.engines, foldl_engines]

theorem State.optResult_engines (s : State) (a1) (a2) (a3) (a4) : (State.optResult s a1 a2 a3 a4).engines = s.engines := by
  unfold State.optResult; grind [State.engines, foldl_engines, State.wr_engines]

theorem State.attemptFailed_engines (s : State) (a1) (a2) (a3) (a4) (a5) (a6) : (State.attemptFailed s a1 a2 a3 a4 a5 a6).1.engines = s.engines := by
  unfold State.attemptFailed; grind [State.engines, foldl_engines, State.optResult_engines, State.histEntry_engines, State.optFailed_engines, State.fallBack_engines]

theorem State.badColl_engines (s : State) (a1) (a2) : (State.badColl s a1 a2).engines = s.engines := by
  unfold State.badColl; grind [State.engines, foldl_engines, State.raiseCtx_engines]

theorem State.badDesc_engines (s : State) (a1) : (State.badDesc s a1).engines = s.engines := by
  unfold State.badDesc; grind [State.engines, foldl_engines, State.raiseCtx_engines]

theorem State.scalarError_engines (s : State) (a1) (a2) (a3) (a4) : (State.scalarError s a1 a2 a3 a4).engines = s.engines := by
  unfold State.scalarError; grind [State.engines, foldl_engines, State.retire_engines, State.raiseCtx_engines]

theorem State.badFence_engines (s : State) (a1) : (State.badFence s a1).engines = s.engines := by
  unfold State.badFence; grind [State.engines, foldl_engines, State.scalarError_engines]

theorem State.badSample_engines (s : State) (a1) (a2) : (State.badSample s a1 a2).engines = s.engines := by
  unfold State.badSample; grind [State.engines, foldl_engines, State.raiseCtx_engines]

theorem State.basinAccept_engines (s : State) (a1) (a2) : (State.basinAccept s a1 a2).engines = s.engines := by
  unfold State.basinAccept; grind [State.engines, foldl_engines, State.modMem_engines]

theorem State.firstBeat_engines (s : State) : (State.firstBeat s).engines = s.engines := by
  unfold State.firstBeat; grind [State.engines, foldl_engines, State.updAlert_engines]

theorem State.beat_engines (s : State) (a1) : (State.beat s a1).engines = s.engines := by
  unfold State.beat; grind [State.engines, foldl_engines, State.firstBeat_engines]

theorem State.beatCheck_engines (s : State) : (State.beatCheck s).engines = s.engines := by
  unfold State.beatCheck; grind [State.engines, foldl_engines, State.raisePage_engines]

theorem State.clearLink_engines (s : State) (a1) : (State.clearLink s a1).engines = s.engines := by
  unfold State.clearLink; grind [State.engines, foldl_engines, State.dropLink_engines, State.modLink_engines]

theorem State.clearStatus_engines (s : State) (a1) : (State.clearStatus s a1).engines = s.engines := by
  unfold State.clearStatus; grind [State.engines, foldl_engines, State.setFld_engines]

theorem State.brakeHeat_engines (s : State) (a1) : (State.brakeHeat s a1).engines = s.engines := by
  unfold State.brakeHeat; grind [State.engines, foldl_engines]

theorem State.templateFault_engines (s : State) (a1) : (State.templateFault s a1).engines = s.engines := by
  unfold State.templateFault; grind [State.engines, foldl_engines, State.raiseCtx_engines]

theorem State.buildFor_engines (s : State) (a1) (a2) (a3) (a4) : (State.buildFor s a1 a2 a3 a4).engines = s.engines := by
  unfold State.buildFor; grind (splits := 40) (ematch := 20) (gen := 20) [State.engines, foldl_engines, State.memRead_engines, State.templateFault_engines, State.memWrite_engines, State.modCtx_engines]

theorem State.cartEnter_engines (s : State) (a1) : (State.cartEnter s a1).engines = s.engines := by
  unfold State.cartEnter; grind [State.engines, foldl_engines, State.highWater_engines, State.modCore_engines]

theorem State.rteError_engines (s : State) (a1) (a2) (a3) (a4) (a5) : (State.rteError s a1 a2 a3 a4 a5).engines = s.engines := by
  unfold State.rteError; grind [State.engines, foldl_engines, State.wr_engines, State.raiseCtx_engines]

theorem State.clTally_engines (s : State) (a1) (a2) : (State.clTally s a1 a2).engines = s.engines := by
  unfold State.clTally; grind [State.engines, foldl_engines, State.draw_engines, State.reportUnit_engines]

theorem State.skipSlot_engines (s : State) (a1) (a2) (a3) (a4) : (State.skipSlot s a1 a2 a3 a4).engines = s.engines := by
  unfold State.skipSlot; grind [State.engines, foldl_engines, State.slotBack_engines, State.count_engines, State.wr_engines, State.raiseCtx_engines, State.ctxDrop_engines, State.trace_engines]

theorem State.verifyLater_engines (s : State) (a1) (a2) (a3) (a4) : (State.verifyLater s a1 a2 a3 a4).engines = s.engines := by
  unfold State.verifyLater; grind [State.engines, foldl_engines, State.modCtx_engines]

theorem State.skipCand_engines (s : State) (a1) (a2) (a3) (a4) : (State.skipCand s a1 a2 a3 a4).engines = s.engines := by
  unfold State.skipCand; grind [State.engines, foldl_engines, State.addDeficit_engines, State.skipSlot_engines, State.verifyLater_engines]

theorem State.slotBody_engines (s : State) (a1) (a2) (a3) : (State.slotBody s a1 a2 a3).1.engines = s.engines := by
  unfold State.slotBody; grind [State.engines, foldl_engines, State.memRead_engines]

theorem State.classifyDue_engines (s : State) (a1) (a2) (a3) (a4) : (State.classifyDue s a1 a2 a3 a4).1.engines = s.engines := by
  unfold State.classifyDue; grind [State.engines, foldl_engines, State.skipSlot_engines, State.slotBody_engines, State.skipCand_engines]

theorem State.classify_engines (s : State) (a1) (a2) : (State.classify s a1 a2).1.engines = s.engines := by
  unfold State.classify; grind [State.engines, foldl_engines, State.memRead_engines, State.skipSlot_engines, State.count_engines, State.classifyDue_engines]

theorem State.classifyAll_engines (s : State) (a1) (a2) : (State.classifyAll s a1 a2).1.engines = s.engines := by
  fun_induction State.classifyAll s a1 a2 <;> grind [State.engines, foldl_engines, State.classify_engines]

theorem foldl_snd_engines {α β : Type} (g : β × State → α → β × State) (xs : List α) (p : β × State) (h : ∀ p a, (g p a).2.engines = p.2.engines) : (xs.foldl g p).2.engines = p.2.engines := by
  induction xs generalizing p with
  | nil => rfl
  | cons x xs ih => simp [ih, h]

theorem foldl_fst_engines {α β : Type} (g : State × β → α → State × β) (xs : List α) (p : State × β) (h : ∀ p a, (g p a).1.engines = p.1.engines) : (xs.foldl g p).1.engines = p.1.engines := by
  induction xs generalizing p with
  | nil => rfl
  | cons x xs ih => simp [ih, h]

theorem State.readColl_engines (s : State) (a1) (a2) (a3) : (State.readColl s a1 a2 a3).1.engines = s.engines := by
  unfold State.readColl; grind [State.engines, foldl_engines, State.memRead_engines]

theorem State.tamper_engines (s : State) (a1) : (State.tamper s a1).engines = s.engines := by
  unfold State.tamper; grind [State.engines, foldl_engines, State.raisePage_engines]

theorem State.copyBad_engines (s : State) (a1) : (State.copyBad s a1).engines = s.engines := by
  unfold State.copyBad; grind [State.engines, foldl_engines, State.tamper_engines, State.raisePage_engines]

theorem State.countDrn_engines (s : State) (a1) (a2) (a3) : (State.countDrn s a1 a2 a3).engines = s.engines := by
  unfold State.countDrn; grind [State.engines, foldl_engines, State.count_engines]

theorem State.countFence_engines (s : State) (a1) : (State.countFence s a1).engines = s.engines := by
  unfold State.countFence; grind [State.engines, foldl_engines, State.count_engines]

theorem State.countMacs_engines (s : State) (a1) (a2) : (State.countMacs s a1 a2).engines = s.engines := by
  unfold State.countMacs; grind [State.engines, foldl_engines, State.count64_engines]

theorem State.portFlush_engines (s : State) (a1) (a2) : (State.portFlush s a1 a2).engines = s.engines := by
  unfold State.portFlush; grind [State.engines, foldl_engines, State.modCore_engines, State.basinAccept_engines]

theorem State.portFlushAll_engines (s : State) (a1) : (State.portFlushAll s a1).engines = s.engines := by
  unfold State.portFlushAll; grind [State.engines, foldl_engines, State.portFlush_engines]

theorem State.relDone_engines (s : State) (a1) (a2) : (State.relDone s a1 a2).engines = s.engines := by
  unfold State.relDone; grind [State.engines, foldl_engines, State.portFlushAll_engines]

theorem State.fenceOp_engines (s : State) (a1) (a2) (a3) : (State.fenceOp s a1 a2 a3).engines = s.engines := by
  unfold State.fenceOp; grind [State.engines, foldl_engines, State.badFence_engines, State.stall_engines, State.relDone_engines, State.acqDone_engines, State.retire_engines, State.countFence_engines]

theorem State.portDrain_engines (s : State) (a1) : (State.portDrain s a1).engines = s.engines := by
  unfold State.portDrain; grind [State.engines, foldl_engines, State.modCore_engines, State.draw_engines, State.basinAccept_engines]

theorem State.portBefore_engines (s : State) (a1) (a2) (a3) : (State.portBefore s a1 a2 a3).engines = s.engines := by
  unfold State.portBefore; grind [State.engines, foldl_engines, State.portDrain_engines, State.portFlush_engines, State.portFlushAll_engines]

theorem State.lduOp_engines (s : State) (a1) (a2) (a3) (a4) : (State.lduOp s a1 a2 a3 a4).engines = s.engines := by
  unfold State.lduOp; grind [State.engines, foldl_engines, State.stall_engines, State.scalarError_engines, State.memRead_engines, State.portBefore_engines, State.retire_engines, State.modCore_engines]

theorem State.syrOp_engines (s : State) (a1) (a2) (a3) : (State.syrOp s a1 a2 a3).engines = s.engines := by
  unfold State.syrOp; grind [State.engines, foldl_engines, State.stall_engines, State.scalarError_engines, State.retire_engines, State.modCore_engines]

theorem State.judgeSyw_engines (s : State) (a1) (a2) (a3) : (State.judgeSyw s a1 a2 a3).engines = s.engines := by
  unfold State.judgeSyw; grind [State.engines, foldl_engines, State.wr_engines, State.raiseCtx_engines]

theorem State.sywEnd_engines (s : State) (a1) (a2) (a3) : (State.sywEnd s a1 a2 a3).engines = s.engines := by
  unfold State.sywEnd; grind [State.engines, foldl_engines, State.retire_engines, State.countFence_engines, State.acqDone_engines, State.judgeSyw_engines]

theorem State.sywOp_engines (s : State) (a1) (a2) (a3) (a4) : (State.sywOp s a1 a2 a3 a4).engines = s.engines := by
  unfold State.sywOp; grind [State.engines, foldl_engines, State.stall_engines, State.badFence_engines, State.scalarError_engines, State.sywEnd_engines]

theorem State.cydTimes_engines (s : State) (a1) : (State.cydTimes s a1).engines = s.engines := by
  unfold State.cydTimes; grind [State.engines, foldl_engines, State.highWater_engines, State.setFld_engines]

theorem State.dbgAccept_engines (s : State) (a1) : (State.dbgAccept s a1).engines = s.engines := by
  unfold State.dbgAccept; grind [State.engines, foldl_engines, State.wr_engines]

theorem State.dbgRefuse_engines (s : State) (a1) : (State.dbgRefuse s a1).engines = s.engines := by
  unfold State.dbgRefuse; grind [State.engines, foldl_engines, State.wr_engines, State.raisePage_engines]

theorem State.dcachePiece_engines (s : State) (a1) (a2) (a3) (a4) (a5) : (State.dcachePiece s a1 a2 a3 a4 a5).1.engines = s.engines := by
  unfold State.dcachePiece; grind [State.engines, foldl_engines, State.draw_engines, State.count_engines, State.readPieces_engines, State.modCore_engines]

theorem State.dcachePieces_engines (s : State) (a1) (a2) (a3) (a4) (a5) : (State.dcachePieces s a1 a2 a3 a4 a5).1.engines = s.engines := by
  fun_induction State.dcachePieces s a1 a2 a3 a4 a5 <;> grind [State.engines, foldl_engines, State.dcachePiece_engines]

theorem State.dcacheRead_engines (s : State) (a1) (a2) (a3) (a4) : (State.dcacheRead s a1 a2 a3 a4).1.engines = s.engines := by
  unfold State.dcacheRead; grind [State.engines, foldl_engines, State.raiseCtx_engines, State.dcachePieces_engines]

theorem State.dcinvOp_engines (s : State) (a1) : (State.dcinvOp s a1).engines = s.engines := by
  unfold State.dcinvOp; grind [State.engines, foldl_engines, State.retire_engines, State.dcacheInval_engines]

theorem State.escalate_engines (s : State) (a1) : (State.escalate s a1).engines = s.engines := by
  unfold State.escalate; grind [State.engines, foldl_engines, State.raisePage_engines, State.condemn_engines, State.askRestart_engines]

theorem State.declareHang_engines (s : State) : (State.declareHang s).engines = s.engines := by
  unfold State.declareHang; grind [State.engines, foldl_engines, State.raise_engines, State.count_engines, State.updAlert_engines, State.trigCapture_engines, State.escalate_engines]

theorem State.dmWrite_engines (s : State) (a1) (a2) (a3) : (State.dmWrite s a1 a2 a3).1.engines = s.engines := by
  fun_induction State.dmWrite s a1 a2 a3 <;> grind [State.engines, foldl_engines, State.memWrite_engines]

theorem State.dmFinish_engines (s : State) (a1) (a2) : (State.dmFinish s a1 a2).engines = s.engines := by
  unfold State.dmFinish; grind [State.engines, foldl_engines, State.scbRelease_engines, State.modCore_engines]

theorem State.dmReject_engines (s : State) (a1) (a2) (a3) (a4) : (State.dmReject s a1 a2 a3 a4).engines = s.engines := by
  unfold State.dmReject; grind [State.engines, foldl_engines, State.wr_engines, State.raiseCtx_engines]

theorem State.dmStop_engines (s : State) (a1) (a2) (a3) : (State.dmStop s a1 a2 a3).engines = s.engines := by
  unfold State.dmStop; grind [State.engines, foldl_engines, State.dmFinish_engines, State.dmReject_engines]

theorem State.dmRead_engines (s : State) (a1) (a2) (a3) (a4) (a5) : (State.dmRead s a1 a2 a3 a4 a5).1.engines = s.engines := by
  fun_induction State.dmRead s a1 a2 a3 a4 a5 <;> grind [State.engines, foldl_engines, State.memRead_engines]

theorem State.torn_engines (s : State) (a1) (a2) : (State.torn s a1 a2).1.engines = s.engines := by
  fun_induction State.torn s a1 a2 <;> grind [State.engines, foldl_engines, State.draw_engines]

theorem State.dmTear_engines (s : State) (a1) (a2) (a3) : (State.dmTear s a1 a2 a3).engines = s.engines := by
  unfold State.dmTear; grind [State.engines, foldl_engines, State.torn_engines, State.wharfWrite_engines, State.modMem_engines, State.draw_engines, State.atomApply_engines]

theorem State.dmqOp_engines (s : State) (a1) (a2) (a3) : (State.dmqOp s a1 a2 a3).engines = s.engines := by
  unfold State.dmqOp; grind [State.engines, foldl_engines, State.stall_engines, State.nextSeq_engines, State.retire_engines, State.dmReject_engines, State.scbAdd_engines, State.modCore_engines]

theorem State.domainHeat_engines (s : State) (a1) : (State.domainHeat s a1).engines = s.engines := by
  unfold State.domainHeat; grind [State.engines, foldl_engines, State.modDom_engines, State.wr_engines, State.raisePage_engines]

theorem State.drainDone_engines (s : State) (a1) (a2) : (State.drainDone s a1 a2).engines = s.engines := by
  unfold State.drainDone; grind [State.engines, foldl_engines, State.modCore_engines, State.scbRelease_engines]

theorem State.drainNan_engines (s : State) (a1) (a2) (a3) (a4) (a5) (a6) (a7) : (State.drainNan s a1 a2 a3 a4 a5 a6 a7).engines = s.engines := by
  unfold State.drainNan; grind [State.engines, foldl_engines, State.reportCore_engines, State.draw_engines]

theorem State.drainSat_engines (s : State) (a1) (a2) (a3) (a4) (a5) : (State.drainSat s a1 a2 a3 a4 a5).1.engines = s.engines := by
  unfold State.drainSat; grind [State.engines, foldl_engines, State.fillRec_engines, State.raiseCtx_engines]

theorem State.drainRow_engines (s : State) (a1) (a2) (a3) (a4) (a5) : (State.drainRow s a1 a2 a3 a4 a5).1.engines = s.engines := by
  unfold State.drainRow; grind [State.engines, foldl_engines, State.drainNan_engines, State.drainSat_engines, State.countDrn_engines, State.count64_engines]

theorem State.drainCarts_engines (s : State) (a1) (a2) (a3) (a4) (a5) : (State.drainCarts s a1 a2 a3 a4 a5).engines = s.engines := by
  fun_induction State.drainCarts s a1 a2 a3 a4 a5
  case case1 => rfl
  case case2 => exact State.drainDone_engines _ _ _
  case case3 => rfl
  case case4 s fuel it _ _ _ n s1 it1 bytes hs _ _ s2 s3 ih =>
    have h := foldl_fst_engines (fun (p : State × DrainItem × List Byte) i => ((p.1.drainRow a1 a2 p.2.1 a3 (it.next + i)).1, (p.1.drainRow a1 a2 p.2.1 a3 (it.next + i)).2.1, p.2.2 ++ (p.1.drainRow a1 a2 p.2.1 a3 (it.next + i)).2.2)) (List.range n) (s, it, []) (fun p a => State.drainRow_engines _ _ _ _ _ _)
    rw [hs] at h
    rw [ih]; exact (State.highWater_engines _ _ _ _ _ _ _).trans ((State.modCore_engines _ _ _).trans h)

theorem State.drainRows_engines (s : State) (a1) (a2) (a3) (a4) (a5) : (State.drainRows s a1 a2 a3 a4 a5).engines = s.engines := by
  fun_induction State.drainRows s a1 a2 a3 a4 a5 <;> grind [State.engines, foldl_engines, State.drainDone_engines, State.drainDone_engines, State.raiseCtx_engines, State.drainRow_engines, State.wharfWrite_engines]

theorem State.drainBank_engines (s : State) (a1) : (State.drainBank s a1).engines = s.engines := by
  unfold State.drainBank; grind [State.engines, foldl_engines, State.modCore_engines, State.drainRows_engines, State.drainCarts_engines]

theorem State.drawFrame_engines (s : State) (a1) : (State.drawFrame s a1).2.engines = s.engines := by
  unfold State.drawFrame; grind [State.engines, foldl_engines, State.draw_engines]

theorem State.drawIndex_engines (s : State) : (State.drawIndex s).2.engines = s.engines := by
  unfold State.drawIndex; grind [State.engines, foldl_engines, State.draw_engines]

theorem State.setPlan_engines (s : State) (a1) (a2) (a3) : (State.setPlan s a1 a2 a3).engines = s.engines := by
  unfold State.setPlan; grind [State.engines, foldl_engines, State.logEvent_engines, State.modDom_engines]

theorem State.droopStep_engines (s : State) (a1) : (State.droopStep s a1).engines = s.engines := by
  unfold State.droopStep; grind [State.engines, foldl_engines, State.setPlan_engines, State.raisePage_engines, State.modDom_engines]

theorem State.dropCarts_engines (s : State) (a1) (a2) : (State.dropCarts s a1 a2).engines = s.engines := by
  unfold State.dropCarts; grind [State.engines, foldl_engines, State.count_engines, State.modCore_engines, State.raiseCtx_engines]

theorem State.dsetOp_engines (s : State) (a1) (a2) (a3) : (State.dsetOp s a1 a2 a3).engines = s.engines := by
  unfold State.dsetOp; grind [State.engines, foldl_engines, State.stall_engines, State.retire_engines, State.badDesc_engines, State.modCore_engines]

theorem State.edgeFence_engines (s : State) : (State.edgeFence s).engines = s.engines := by
  unfold State.edgeFence; grind [State.engines, foldl_engines, State.portFlushAll_engines]

theorem State.tearStore_engines (s : State) (a1) (a2) : (State.tearStore s a1 a2).engines = s.engines := by
  unfold State.tearStore; grind [State.engines, foldl_engines, State.torn_engines, State.modMem_engines]

theorem State.removeCore_engines (s : State) (a1) (a2) : (State.removeCore s a1 a2).engines = s.engines := by
  unfold State.removeCore; grind [State.engines, foldl_engines, State.dmTear_engines, State.tearStore_engines, State.modCore_engines]

theorem State.scrubRecord_engines (s : State) (a1) (a2) : (State.scrubRecord s a1 a2).engines = s.engines := by
  unfold State.scrubRecord; grind [State.engines, foldl_engines, State.modCtx_engines, State.wr_engines, State.count_engines, State.emit_engines]

theorem State.scrubStorm_engines (s : State) (a1) : (State.scrubStorm s a1).engines = s.engines := by
  unfold State.scrubStorm; grind [State.engines, foldl_engines, State.raiseCtx_engines]

theorem State.thermalLimit_engines (s : State) : (State.thermalLimit s).engines = s.engines := by
  unfold State.thermalLimit; grind [State.engines, foldl_engines, State.modDom_engines, State.count_engines]

theorem State.gaugeSnap_engines (s : State) : (State.gaugeSnap s).engines = s.engines := by
  unfold State.gaugeSnap; grind [State.engines, foldl_engines, State.draw_engines]

theorem State.edgeStep7_engines (s : State) (a1) (a2) : (State.edgeStep7 s a1 a2).engines = s.engines := by
  unfold State.edgeStep7; grind [State.engines, foldl_engines, State.highWater_engines, State.setFld_engines, State.raisePage_engines, State.gaugeSnap_engines, State.beatCheck_engines]

theorem State.enterHoldover_engines (s : State) : (State.enterHoldover s).engines = s.engines := by
  unfold State.enterHoldover; grind [State.engines, foldl_engines, State.raisePage_engines, State.setFld_engines]

theorem State.edgeSync_engines (s : State) (a1) (a2) : (State.edgeSync s a1 a2).engines = s.engines := by
  unfold State.edgeSync; grind [State.engines, foldl_engines, State.setFld_engines, State.enterHoldover_engines, State.count_engines]

theorem State.spillStep_engines (s : State) (a1) : (State.spillStep s a1).engines = s.engines := by
  unfold State.spillStep; grind [State.engines, foldl_engines, State.count_engines, State.raiseCtx_engines, State.wr_engines, State.modCtx_engines]

theorem State.meterEdge_engines (s : State) : (State.meterEdge s).engines = s.engines := by
  unfold State.meterEdge; grind [State.engines, foldl_engines, State.wr_engines, State.modCtx_engines, State.count64_engines]

theorem State.openPound_engines (s : State) (a1) : (State.openPound s a1).engines = s.engines := by
  unfold State.openPound; grind [State.engines, foldl_engines, State.modCtx_engines]

theorem State.powerLearn_engines (s : State) (a1) : (State.powerLearn s a1).engines = s.engines := by
  unfold State.powerLearn; grind [State.engines, foldl_engines]

theorem State.guardBand_engines (s : State) (a1) (a2) (a3) : (State.guardBand s a1 a2 a3).engines = s.engines := by
  unfold State.guardBand; grind [State.engines, foldl_engines, State.modDom_engines, State.raisePage_engines]

theorem State.fitPoints_engines (s : State) (a1) (a2) : (State.fitPoints s a1 a2).engines = s.engines := by
  unfold State.fitPoints; grind [State.engines, foldl_engines, State.modDom_engines, State.logEvent_engines, State.raisePage_engines]

theorem State.marginStep_engines (s : State) (a1) : (State.marginStep s a1).engines = s.engines := by
  unfold State.marginStep; grind [State.engines, foldl_engines, State.fitPoints_engines, State.modDom_engines]

theorem State.powerStep6_engines (s : State) (a1) : (State.powerStep6 s a1).engines = s.engines := by
  unfold State.powerStep6; grind [State.engines, foldl_engines, State.applyPoint_engines, State.guardBand_engines, State.droopStep_engines, State.applyRefresh_engines, State.marginStep_engines]

theorem State.setPhase_engines (s : State) (a1) : (State.setPhase s a1).engines = s.engines := by
  unfold State.setPhase; grind [State.engines, foldl_engines]

theorem State.setTick_engines (s : State) (a1) : (State.setTick s a1).engines = s.engines := by
  unfold State.setTick; grind [State.engines, foldl_engines]

theorem State.fetchBytes_engines (s : State) (a1) (a2) (a3) : (State.fetchBytes s a1 a2 a3).1.engines = s.engines := by
  unfold State.fetchBytes; grind [State.engines, foldl_engines, State.memRead_engines, State.portBefore_engines]

theorem State.gaugeAccept_engines (s : State) (a1) (a2) : (State.gaugeAccept s a1 a2).engines = s.engines := by
  unfold State.gaugeAccept; grind [State.engines, foldl_engines, State.modCtx_engines, State.gaugeSnap_engines]

theorem State.gaugeWrite_engines (s : State) (a1) (a2) (a3) (a4) (a5) : (State.gaugeWrite s a1 a2 a3 a4 a5).engines = s.engines := by
  unfold State.gaugeWrite; grind [State.engines, foldl_engines, State.raise_engines, State.setFld_engines, State.memWrite_engines, State.emit_engines]

theorem State.idleRails_engines (s : State) : (State.idleRails s).engines = s.engines := by
  unfold State.idleRails; grind [State.engines, foldl_engines, State.modDom_engines]

theorem State.inject_engines (s : State) (a1) (a2) : (State.inject s a1 a2).engines = s.engines := by
  unfold State.inject; grind [State.engines, foldl_engines, State.accessError_engines, State.raise_engines]

theorem State.jump_engines (s : State) (a1) (a2) (a3) (a4) : (State.jump s a1 a2 a3 a4).engines = s.engines := by
  unfold State.jump; grind [State.engines, foldl_engines, State.modCore_engines]

theorem State.modLaunch_engines (s : State) (a1) (a2) (a3) : (State.modLaunch s a1 a2 a3).engines = s.engines := by
  unfold State.modLaunch; grind [State.engines, foldl_engines, State.modCtx_engines]

theorem State.slipAt_engines (s : State) (a1) (a2) (a3) : (State.slipAt s a1 a2 a3).engines = s.engines := by
  unfold State.slipAt; grind [State.engines, foldl_engines, State.highWater_engines, State.raiseCtx_engines]

theorem State.launchCore_engines (s : State) (a1) (a2) (a3) (a4) (a5) : (State.launchCore s a1 a2 a3 a4 a5).engines = s.engines := by
  unfold State.launchCore; grind [State.engines, foldl_engines, State.raiseCtx_engines, State.dcacheInval_engines, State.modCore_engines, State.modLaunch_engines, State.trace_engines, State.slipAt_engines]

theorem State.launch_engines (s : State) (a1) (a2) (a3) (a4) (a5) : (State.launch s a1 a2 a3 a4 a5).engines = s.engines := by
  unfold State.launch; grind [State.engines, foldl_engines, State.launchCore_engines]

theorem State.lineCorrected_engines (s : State) (a1) : (State.lineCorrected s a1).engines = s.engines := by
  unfold State.lineCorrected; grind [State.engines, foldl_engines, State.modMem_engines, State.count_engines, State.raisePage_engines]

theorem State.linePoisoned_engines (s : State) (a1) (a2) : (State.linePoisoned s a1 a2).engines = s.engines := by
  unfold State.linePoisoned; grind [State.engines, foldl_engines, State.count_engines, State.modMem_engines, State.raisePage_engines]

theorem State.toHoldover_engines (s : State) : (State.toHoldover s).engines = s.engines := by
  unfold State.toHoldover; grind [State.engines, foldl_engines, State.raisePage_engines, State.setFld_engines]

theorem State.loadAttempt_engines (s : State) : (State.loadAttempt s).1.engines = s.engines := by
  unfold State.loadAttempt; grind [State.engines, foldl_engines, State.wr_engines, State.copyBad_engines, State.attemptFailed_engines, State.raisePage_engines, State.optResult_engines, State.histEntry_engines, State.applyTrims_engines]

theorem State.scalarFault_engines (s : State) (a1) (a2) : (State.scalarFault s a1 a2).engines = s.engines := by
  unfold State.scalarFault; grind [State.engines, foldl_engines, State.retire_engines, State.raiseCtx_engines]

theorem State.loadOp_engines (s : State) (a1) (a2) (a3) (a4) (a5) : (State.loadOp s a1 a2 a3 a4 a5).engines = s.engines := by
  unfold State.loadOp; grind [State.engines, foldl_engines, State.stall_engines, State.scalarFault_engines, State.retire_engines, State.modCore_engines, State.dcacheRead_engines, State.portBefore_engines]

theorem State.yardCopyBytes_engines (s : State) (a1) (a2) (a3) (a4) (a5) : (State.yardCopyBytes s a1 a2 a3 a4 a5).1.engines = s.engines := by
  unfold State.yardCopyBytes; grind [State.engines, foldl_engines, State.memRead_engines, State.yardErr_engines, State.memWrite_engines]

theorem State.yardCopy_engines (s : State) (a1) (a2) (a3) (a4) : (State.yardCopy s a1 a2 a3 a4).1.engines = s.engines := by
  unfold State.yardCopy; grind [State.engines, foldl_engines, State.yardCopyBytes_engines]

theorem State.vecOps_engines (s : State) (a1) (a2) : (State.vecOps s a1 a2).engines = s.engines := by
  unfold State.vecOps; grind [State.engines, foldl_engines, State.count64_engines]

theorem State.maskWrite_engines (s : State) (a1) (a2) (a3) (a4) : (State.maskWrite s a1 a2 a3 a4).engines = s.engines := by
  unfold State.maskWrite; grind [State.engines, foldl_engines, State.vecOps_engines, State.modCore_engines]

theorem State.mergeTally_engines (s : State) (a1) (a2) (a3) (a4) : (State.mergeTally s a1 a2 a3 a4).engines = s.engines := by
  unfold State.mergeTally; grind [State.engines, foldl_engines, State.countAtp_engines, State.count_engines, State.reportCore_engines]

theorem State.minute_engines (s : State) : (State.minute s).engines = s.engines := by
  unfold State.minute; grind [State.engines, foldl_engines]

theorem State.mxReject_engines (s : State) (a1) (a2) (a3) (a4) (a5) : (State.mxReject s a1 a2 a3 a4 a5).engines = s.engines := by
  unfold State.mxReject; grind [State.engines, foldl_engines, State.wr_engines, State.raiseCtx_engines]

theorem State.mxaHandover_engines (s : State) (a1) : (State.mxaHandover s a1).engines = s.engines := by
  unfold State.mxaHandover; grind [State.engines, foldl_engines, State.modCore_engines, State.scbRelease_engines]

theorem State.mxaOsSwapOut_engines (s : State) (a1) : (State.mxaOsSwapOut s a1).engines = s.engines := by
  unfold State.mxaOsSwapOut; grind [State.engines, foldl_engines, State.modCore_engines, State.scbRelease_engines]

theorem State.mxaShadowFull_engines (s : State) (a1) (a2) : (State.mxaShadowFull s a1 a2).engines = s.engines := by
  unfold State.mxaShadowFull; grind [State.engines, foldl_engines, State.scbRelease_engines, State.modCore_engines]

theorem State.startClaim_engines (s : State) (a1) (a2) : (State.startClaim s a1 a2).engines = s.engines := by
  unfold State.startClaim; grind [State.engines, foldl_engines, State.modCore_engines, State.scbRelease_engines, State.atReject_engines, State.mxReject_engines]

theorem State.osArray_engines (s : State) (a1) (a2) (a3) (a4) (a5) (a6) : (State.osArray s a1 a2 a3 a4 a5 a6).engines = s.engines := by
  unfold State.osArray; grind [State.engines, foldl_engines, State.modCore_engines, State.countMacs_engines, State.countDrn_engines]

theorem State.startOsmul_engines (s : State) (a1) (a2) (a3) : (State.startOsmul s a1 a2 a3).engines = s.engines := by
  unfold State.startOsmul; grind [State.engines, foldl_engines, State.osArray_engines, State.modCore_engines, State.scbRelease_engines]

theorem State.startSload_engines (s : State) (a1) (a2) : (State.startSload s a1 a2).engines = s.engines := by
  unfold State.startSload; grind [State.engines, foldl_engines, State.modCore_engines]

theorem State.wsArray_engines (s : State) (a1) (a2) (a3) (a4) (a5) (a6) : (State.wsArray s a1 a2 a3 a4 a5 a6).engines = s.engines := by
  unfold State.wsArray; grind [State.engines, foldl_engines, State.modCore_engines, State.countMacs_engines, State.countDrn_engines]

theorem State.startWsmul_engines (s : State) (a1) (a2) (a3) : (State.startWsmul s a1 a2 a3).engines = s.engines := by
  unfold State.startWsmul; grind [State.engines, foldl_engines, State.modCore_engines, State.scbRelease_engines, State.mxReject_engines, State.wsArray_engines]

theorem State.mxaStart_engines (s : State) (a1) (a2) : (State.mxaStart s a1 a2).engines = s.engines := by
  unfold State.mxaStart; grind [State.engines, foldl_engines, State.modCore_engines, State.startClaim_engines, State.startSload_engines, State.startWsmul_engines, State.startOsmul_engines, State.scbRelease_engines]

theorem State.mxaSwapEffect_engines (s : State) (a1) (a2) : (State.mxaSwapEffect s a1 a2).engines = s.engines := by
  unfold State.mxaSwapEffect; grind [State.engines, foldl_engines, State.modCore_engines, State.scbRelease_engines]

theorem State.mxqOp_engines (s : State) (a1) (a2) (a3) : (State.mxqOp s a1 a2 a3).engines = s.engines := by
  unfold State.mxqOp; grind [State.engines, foldl_engines, State.stall_engines, State.retire_engines, State.mxReject_engines, State.nextSeq_engines, State.scbAdd_engines, State.modCore_engines, State.highWater_engines]

theorem State.nanArrive_engines (s : State) : (State.nanArrive s).engines = s.engines := by
  unfold State.nanArrive; grind [State.engines, foldl_engines, State.fillRec_engines, State.raise_engines]

theorem State.newNonce_engines (s : State) : (State.newNonce s).engines = s.engines := by
  unfold State.newNonce; grind [State.engines, foldl_engines, State.draw_engines]

theorem State.newSid_engines (s : State) (a1) : (State.newSid s a1).2.engines = s.engines := by
  unfold State.newSid; grind [State.engines, foldl_engines, State.draw_engines]

theorem State.pciFault_engines (s : State) (a1) (a2) : (State.pciFault s a1 a2).engines = s.engines := by
  unfold State.pciFault; grind [State.engines, foldl_engines, State.accessError_engines]

theorem State.pldmSay_engines (s : State) (a1) (a2) : (State.pldmSay s a1 a2).engines = s.engines := by
  unfold State.pldmSay; grind [State.engines, foldl_engines, State.emit_engines]

theorem State.storePieces_engines (s : State) (a1) (a2) (a3) (a4) (a5) : (State.storePieces s a1 a2 a3 a4 a5).1.engines = s.engines := by
  fun_induction State.storePieces s a1 a2 a3 a4 a5 <;> grind [State.engines, foldl_engines, State.xlate_engines, State.memFault_engines]

theorem State.storeRuns_engines (s : State) (a1) (a2) (a3) (a4) : (State.storeRuns s a1 a2 a3 a4).1.engines = s.engines := by
  fun_induction State.storeRuns s a1 a2 a3 a4 <;> grind [State.engines, foldl_engines, State.storePieces_engines]

theorem State.portStore_engines (s : State) (a1) (a2) (a3) : (State.portStore s a1 a2 a3).1.engines = s.engines := by
  unfold State.portStore; grind [State.engines, foldl_engines, State.raiseCtx_engines, State.storeRuns_engines, State.modMem_engines, State.modCore_engines]

theorem State.preread_engines (s : State) (a1) : (State.preread s a1).engines = s.engines := by
  unfold State.preread; grind [State.engines, foldl_engines, State.memRead_engines, State.modCtx_engines]

theorem State.readMaybe_engines (s : State) (a1) (a2) (a3) : (State.readMaybe s a1 a2 a3).1.engines = s.engines := by
  unfold State.readMaybe; grind [State.engines, foldl_engines, State.memRead_engines]

theorem State.readReg_engines (s : State) (a1) (a2) (a3) : (State.readReg s a1 a2 a3).engines = s.engines := by
  unfold State.readReg; grind [State.engines, foldl_engines]

theorem State.readSensors_engines (s : State) (a1) : (State.readSensors s a1).engines = s.engines := by
  unfold State.readSensors; grind [State.engines, foldl_engines, State.raisePage_engines]

theorem State.stageImage_engines (s : State) (a1) : (State.stageImage s a1).engines = s.engines := by
  unfold State.stageImage; grind [State.engines, foldl_engines]

theorem State.startAttest_engines (s : State) : (State.startAttest s).engines = s.engines := by
  unfold State.startAttest; grind [State.engines, foldl_engines, State.tamper_engines, State.raisePage_engines]

theorem State.startLog_engines (s : State) : (State.startLog s).engines = s.engines := by
  unfold State.startLog; grind [State.engines, foldl_engines, State.modDom_engines, State.fitPoints_engines]

theorem State.startPower_engines (s : State) : (State.startPower s).engines = s.engines := by
  unfold State.startPower; grind [State.engines, foldl_engines, State.idleRails_engines, State.startLog_engines, State.modDom_engines, State.setFld_engines]

theorem State.startReady_engines (s : State) : (State.startReady s).engines = s.engines := by
  unfold State.startReady; grind [State.engines, foldl_engines, State.modCtx_engines, State.wr_engines, State.logEvent_engines]

theorem State.stuck_engines (s : State) : (State.stuck s).engines = s.engines := by
  unfold State.stuck; grind [State.engines, foldl_engines]

theorem State.startRest_engines (s : State) : (State.startRest s).engines = s.engines := by
  unfold State.startRest; grind [State.engines, foldl_engines, State.pickImage_engines, State.startAttest_engines, State.startPower_engines, State.stuck_engines, State.startReady_engines]

theorem State.startOptions_engines (s : State) : (State.startOptions s).engines = s.engines := by
  unfold State.startOptions; grind [State.engines, foldl_engines, State.startRest_engines, State.fallBack_engines, State.optResult_engines, State.loadAttempt_engines]

theorem State.recover_engines (s : State) (a1) : (State.recover s a1).engines = s.engines := by
  unfold State.recover; grind [State.engines, foldl_engines, State.stageImage_engines, State.runImage_engines, State.pldmSay_engines, State.startOptions_engines, State.startReady_engines, State.imageRefused_engines]

theorem State.vecSx_engines (s : State) (a1) (a2) (a3) : (State.vecSx s a1 a2 a3).engines = s.engines := by
  unfold State.vecSx; grind [State.engines, foldl_engines, State.modCore_engines]

theorem State.redWrite_engines (s : State) (a1) (a2) (a3) : (State.redWrite s a1 a2 a3).engines = s.engines := by
  unfold State.redWrite; grind [State.engines, foldl_engines, State.vecSx_engines, State.modCore_engines]

theorem State.tickStop_engines (s : State) (a1) (a2) : (State.tickStop s a1 a2).engines = s.engines := by
  unfold State.tickStop; grind [State.engines, foldl_engines, State.accessError_engines]

theorem State.rtWriteDir_engines (s : State) (a1) (a2) : (State.rtWriteDir s a1 a2).1.engines = s.engines := by
  fun_induction State.rtWriteDir s a1 a2 <;> grind [State.engines, foldl_engines, State.memWrite_engines]

theorem State.ringDrain_engines (s : State) (a1) (a2) : (State.ringDrain s a1 a2).engines = s.engines := by
  fun_induction State.ringDrain s a1 a2 <;> grind [State.engines, foldl_engines, State.outWrite_engines, State.modCtx_engines]

theorem State.rtReadRows_engines (s : State) (a1) (a2) (a3) (a4) : (State.rtReadRows s a1 a2 a3 a4).1.engines = s.engines := by
  fun_induction State.rtReadRows s a1 a2 a3 a4 <;> grind [State.engines, foldl_engines, State.memRead_engines, State.rteError_engines]

theorem State.rteFault_engines (s : State) (a1) (a2) : (State.rteFault s a1 a2).engines = s.engines := by
  unfold State.rteFault; grind [State.engines, foldl_engines, State.rteError_engines]

theorem State.setRd_engines (s : State) (a1) (a2) (a3) (a4) : (State.setRd s a1 a2 a3 a4).engines = s.engines := by
  unfold State.setRd; grind [State.engines, foldl_engines, State.retire_engines, State.modCore_engines]

theorem State.storeOp_engines (s : State) (a1) (a2) (a3) (a4) (a5) : (State.storeOp s a1 a2 a3 a4 a5).engines = s.engines := by
  unfold State.storeOp; grind [State.engines, foldl_engines, State.scalarFault_engines, State.stall_engines, State.retire_engines, State.wharfWrite_engines, State.portStore_engines]

theorem State.setConn_engines (s : State) (a1) (a2) : (State.setConn s a1 a2).engines = s.engines := by
  unfold State.setConn; grind [State.engines, foldl_engines]

theorem State.spdmSay_engines (s : State) (a1) (a2) (a3) (a4) (a5) : (State.spdmSay s a1 a2 a3 a4 a5).engines = s.engines := by
  unfold State.spdmSay; grind [State.engines, foldl_engines, State.emit_engines]

theorem State.spdmError_engines (s : State) (a1) (a2) (a3) : (State.spdmError s a1 a2 a3).engines = s.engines := by
  unfold State.spdmError; grind [State.engines, foldl_engines, State.spdmSay_engines]

theorem State.spdm_engines (s : State) t f (h : ∀ s, (f s).engines = s.engines) : (s.spdm t f).engines = s.engines := by
  unfold State.spdm; grind [State.engines, foldl_engines, State.spdmError_engines]

theorem State.stackHeat_engines (s : State) (a1) : (State.stackHeat s a1).engines = s.engines := by
  unfold State.stackHeat; grind [State.engines, foldl_engines, State.setFld_engines, State.raisePage_engines]

theorem State.startBackup_engines (s : State) : (State.startBackup s).engines = s.engines := by
  unfold State.startBackup; grind [State.engines, foldl_engines, State.raisePage_engines, State.optFailed_engines, State.histEntry_engines]

theorem State.startEntropy_engines (s : State) : (State.startEntropy s).engines = s.engines := by
  unfold State.startEntropy; grind [State.engines, foldl_engines, State.draw_engines, State.modMem_engines, State.pickImage_engines, State.stuck_engines, State.startOptions_engines]

theorem State.sywWaitEnd_engines (s : State) (a1) : (State.sywWaitEnd s a1).engines = s.engines := by
  unfold State.sywWaitEnd; grind [State.engines, foldl_engines, State.sywEnd_engines]

theorem State.takeIndex_engines (s : State) : (State.takeIndex s).engines = s.engines := by
  unfold State.takeIndex; grind [State.engines, foldl_engines]

theorem State.throttleHeat_engines (s : State) : (State.throttleHeat s).engines = s.engines := by
  unfold State.throttleHeat; grind [State.engines, foldl_engines, State.logEvent_engines, State.raisePage_engines]

theorem State.trip_engines (s : State) : (State.trip s).engines = s.engines := by
  unfold State.trip; grind [State.engines, foldl_engines, State.raisePage_engines, State.logEvent_engines]

theorem State.vecRange_engines (s : State) (a1) (a2) : (State.vecRange s a1 a2).engines = s.engines := by
  unfold State.vecRange; grind [State.engines, foldl_engines, State.count_engines, State.modCore_engines]

theorem State.vecCart_engines (s : State) (a1) (a2) (a3) : (State.vecCart s a1 a2 a3).engines = s.engines := by
  unfold State.vecCart; grind [State.engines, foldl_engines, State.vecSx_engines, State.modCore_engines, State.vecRange_engines, State.count_engines]

theorem State.vecCmp_engines (s : State) (a1) (a2) (a3) : (State.vecCmp s a1 a2 a3).engines = s.engines := by
  unfold State.vecCmp; grind [State.engines, foldl_engines, State.maskWrite_engines]

theorem State.vecReport_engines (s : State) (a1) (a2) (a3) (a4) : (State.vecReport s a1 a2 a3 a4).engines = s.engines := by
  unfold State.vecReport; grind [State.engines, foldl_engines, State.modCore_engines, State.count_engines, State.reportCore_engines]

theorem State.vecWrite_engines (s : State) (a1) (a2) (a3) (a4) (a5) : (State.vecWrite s a1 a2 a3 a4 a5).engines = s.engines := by
  unfold State.vecWrite; grind [State.engines, foldl_engines, State.modCore_engines, State.vecOps_engines, State.vecReport_engines]

theorem State.vecCtrl_engines (s : State) (a1) (a2) (a3) : (State.vecCtrl s a1 a2 a3).engines = s.engines := by
  unfold State.vecCtrl; grind [State.engines, foldl_engines, State.modCore_engines, State.vecSx_engines, State.vecWrite_engines]

theorem State.vecCvt_engines (s : State) (a1) (a2) (a3) : (State.vecCvt s a1 a2 a3).engines = s.engines := by
  unfold State.vecCvt; grind [State.engines, foldl_engines, State.modCore_engines, State.vecOps_engines, State.vecReport_engines]

theorem State.vecElem_engines (s : State) (a1) (a2) (a3) : (State.vecElem s a1 a2 a3).engines = s.engines := by
  unfold State.vecElem; grind [State.engines, foldl_engines, State.vecWrite_engines]

theorem State.vecEmpty_engines (s : State) (a1) (a2) (a3) : (State.vecEmpty s a1 a2 a3).engines = s.engines := by
  unfold State.vecEmpty; grind [State.engines, foldl_engines, State.modCore_engines, State.count_engines]

theorem State.vecMask_engines (s : State) (a1) (a2) : (State.vecMask s a1 a2).engines = s.engines := by
  unfold State.vecMask; grind [State.engines, foldl_engines, State.maskWrite_engines, State.modCore_engines, State.vecSx_engines]

theorem State.vecReject_engines (s : State) (a1) (a2) (a3) : (State.vecReject s a1 a2 a3).engines = s.engines := by
  unfold State.vecReject; grind [State.engines, foldl_engines, State.wr_engines, State.raiseCtx_engines]

theorem State.vecMem_engines (s : State) (a1) (a2) (a3) : (State.vecMem s a1 a2 a3).engines = s.engines := by
  unfold State.vecMem; grind [State.engines, foldl_engines, State.vecReject_engines, State.vecWrite_engines, State.vecOps_engines, State.modCore_engines, State.portBefore_engines, State.dcacheRead_engines, State.portStore_engines]

theorem State.vecPerm_engines (s : State) (a1) (a2) (a3) : (State.vecPerm s a1 a2 a3).engines = s.engines := by
  unfold State.vecPerm; grind [State.engines, foldl_engines, State.vecWrite_engines, State.vecRange_engines, State.modCore_engines, State.vecOps_engines, State.vecSx_engines]

theorem State.vecQmx_engines (s : State) (a1) (a2) (a3) : (State.vecQmx s a1 a2 a3).engines = s.engines := by
  unfold State.vecQmx; grind [State.engines, foldl_engines, State.modCore_engines, State.vecOps_engines, State.count_engines]

theorem State.vecRed_engines (s : State) (a1) (a2) (a3) : (State.vecRed s a1 a2 a3).engines = s.engines := by
  unfold State.vecRed; grind [State.engines, foldl_engines, State.vecOps_engines, State.vecEmpty_engines, State.redWrite_engines, State.vecReport_engines]

theorem State.vecExec_engines (s : State) (a1) (a2) (a3) : (State.vecExec s a1 a2 a3).engines = s.engines := by
  unfold State.vecExec; grind [State.engines, foldl_engines, State.vecCtrl_engines, State.vecElem_engines, State.vecCmp_engines, State.vecQmx_engines, State.vecCvt_engines, State.vecPerm_engines, State.vecRed_engines, State.vecMask_engines, State.vecMem_engines, State.vecCart_engines]

theorem State.vecIssue_engines (s : State) (a1) : (State.vecIssue s a1).engines = s.engines := by
  unfold State.vecIssue; grind [State.engines, foldl_engines, State.modCore_engines, State.scbRelease_engines, State.vecExec_engines]

theorem State.vecOp_engines (s : State) (a1) (a2) (a3) (a4) : (State.vecOp s a1 a2 a3 a4).engines = s.engines := by
  unfold State.vecOp; grind (splits := 40) (ematch := 20) (gen := 20) [State.engines, foldl_engines, State.stall_engines, State.retire_engines, State.vecReject_engines, State.nextSeq_engines, State.vecExec_engines, State.scbAdd_engines, State.modCore_engines, State.highWater_engines]

theorem State.windowRead_engines (s : State) (a1) (a2) (a3) : (State.windowRead s a1 a2 a3).1.engines = s.engines := by
  unfold State.windowRead; grind [State.engines, foldl_engines, State.memRead_engines, State.apertureFault_engines]

theorem State.windowWrite_engines (s : State) (a1) (a2) (a3) : (State.windowWrite s a1 a2 a3).engines = s.engines := by
  unfold State.windowWrite; grind [State.engines, foldl_engines, State.apertureFault_engines, State.memWrite_engines]

theorem State.xlatInv_engines (s : State) (a1) (a2) : (State.xlatInv s a1 a2).engines = s.engines := by
  unfold State.xlatInv; grind [State.engines, foldl_engines]

theorem State.yardResult_engines (s : State) (a1) (a2) (a3) : (State.yardResult s a1 a2 a3).engines = s.engines := by
  unfold State.yardResult; grind [State.engines, foldl_engines, State.wharfWrite_engines]

theorem State.yardRefuse_engines (s : State) (a1) (a2) : (State.yardRefuse s a1 a2).engines = s.engines := by
  unfold State.yardRefuse; grind [State.engines, foldl_engines, State.yardErr_engines, State.count_engines, State.yardResult_engines]

theorem State.yardRetire_engines (s : State) (a1) : (State.yardRetire s a1).engines = s.engines := by
  unfold State.yardRetire; grind [State.engines, foldl_engines, State.scbRelease_engines]

end Sys2Proof.Machine
end

