-- ==== Sys2Proof/Laws/ManagementFrame.lean ====
section
/-! SUPPORT. Which shared operations leave security, debug, the backup domain, power, sensors, the towpath and the host interface alone: one lemma per operation. -/

namespace Sys2Proof.Machine

theorem foldl_management {α} (g : State → α → State) (xs : List α) (s : State) (h : ∀ s a, (g s a).management = s.management) : (xs.foldl g s).management = s.management := by
  induction xs generalizing s with
  | nil => rfl
  | cons x xs ih => simp [ih, h]

theorem State.wr_management (s : State) (a1) (a2) (a3) (a4) (a5) : (State.wr s a1 a2 a3 a4 a5).management = s.management := by
  unfold State.wr; grind [State.management, foldl_management]

theorem State.wr64_management (s : State) (a1) (a2) (a3) (a4) (a5) : (State.wr64 s a1 a2 a3 a4 a5).management = s.management := by
  unfold State.wr64; grind [State.management, foldl_management, State.wr_management]

theorem State.count64_management (s : State) (a1) (a2) (a3) (a4) (a5) : (State.count64 s a1 a2 a3 a4 a5).management = s.management := by
  unfold State.count64; grind [State.management, foldl_management, State.wr64_management]

theorem State.count_management (s : State) (a1) (a2) (a3) (a4) (a5) : (State.count s a1 a2 a3 a4 a5).management = s.management := by
  unfold State.count; grind [State.management, foldl_management, State.wr_management]

theorem State.fceCount_management (s : State) (a1) (a2) : (State.fceCount s a1 a2).management = s.management := by
  unfold State.fceCount; grind [State.management, foldl_management, State.count_management]

theorem State.dropBarge_management (s : State) (a1) (a2) : (State.dropBarge s a1 a2).management = s.management := by
  unfold State.dropBarge; grind [State.management, foldl_management, State.count_management, State.fceCount_management]

theorem State.setCtx_management (s : State) (a1) (a2) : (State.setCtx s a1 a2).management = s.management := by
  unfold State.setCtx; grind [State.management, foldl_management]

theorem State.modCtx_management (s : State) (a1) (a2) : (State.modCtx s a1 a2).management = s.management := by
  unfold State.modCtx; grind [State.management, foldl_management, State.setCtx_management]

theorem State.condemn_management (s : State) (a1) (a2) (a3) (a4) : (State.condemn s a1 a2 a3 a4).management = s.management := by
  unfold State.condemn; grind [State.management, foldl_management, State.modCtx_management]

theorem State.emit_management (s : State) (a1) : (State.emit s a1).management = s.management := by
  unfold State.emit; grind [State.management, foldl_management]

theorem State.recordIn_management (s : State) (a1) (a2) : (State.recordIn s a1 a2).management = s.management := by
  unfold State.recordIn; grind [State.management, foldl_management, State.wr_management, State.count_management]

theorem State.record_management (s : State) (a1) : (State.record s a1).management = s.management := by
  unfold State.record; grind [State.management, foldl_management, State.recordIn_management, State.emit_management]

theorem State.updAlert_management (s : State) : (State.updAlert s).management = s.management := by
  unfold State.updAlert; grind [State.management, foldl_management, State.emit_management]

theorem State.imageRefused_management (s : State) (a1) : (State.imageRefused s a1).management = s.management := by
  unfold State.imageRefused; grind [State.management, foldl_management, State.updAlert_management, State.record_management]

theorem State.runImage_management (s : State) (a1) (a2) : (State.runImage s a1 a2).management = s.management := by
  unfold State.runImage; grind [State.management, foldl_management]

theorem State.pickImage_management (s : State) (a1) : (State.pickImage s a1).management = s.management := by
  unfold State.pickImage; grind [State.management, foldl_management, State.runImage_management, State.imageRefused_management]

theorem State.fwRestart_management (s : State) : (State.fwRestart s).management = s.management := by
  unfold State.fwRestart; grind [State.management, foldl_management, State.pickImage_management, State.count_management, State.condemn_management]

theorem State.askRestart_management (s : State) : (State.askRestart s).management = s.management := by
  unfold State.askRestart; grind [State.management, foldl_management, State.fwRestart_management]

theorem State.deviceStop_management (s : State) (a1) : (State.deviceStop s a1).management = s.management := by
  unfold State.deviceStop; grind [State.management, foldl_management]

theorem State.modLink_management (s : State) (a1) (a2) : (State.modLink s a1 a2).management = s.management := by
  unfold State.modLink; grind [State.management, foldl_management]

theorem State.dropLink_management (s : State) (a1) : (State.dropLink s a1).management = s.management := by
  unfold State.dropLink; grind [State.management, foldl_management, State.modLink_management, State.count_management, State.wr_management, State.record_management]

theorem State.modMem_management (s : State) (a1) : (State.modMem s a1).management = s.management := by
  unfold State.modMem; grind [State.management, foldl_management]

theorem State.fatalStop_management (s : State) : (State.fatalStop s).management = s.management := by
  unfold State.fatalStop; grind [State.management, foldl_management, State.modMem_management, State.dropLink_management]

theorem State.trigCapture_management (s : State) (a1) (a2) : (State.trigCapture s a1 a2).management = s.management := by
  unfold State.trigCapture; grind [State.management, foldl_management, State.record_management, State.count_management]

theorem State.act_management (s : State) (a1) : (State.act s a1).management = s.management := by
  unfold State.act; grind [State.management, foldl_management, State.deviceStop_management, State.trigCapture_management, State.askRestart_management, State.condemn_management, State.fatalStop_management]

theorem State.logEvent_management (s : State) (a1) (a2) : (State.logEvent s a1 a2).management = s.management := by
  unfold State.logEvent; grind [State.management, foldl_management]

theorem State.logError_management (s : State) (a1) : (State.logError s a1).management = s.management := by
  unfold State.logError; grind [State.management, foldl_management, State.logEvent_management]

theorem State.draw_management (s : State) : (State.draw s).2.management = s.management := by
  unfold State.draw; grind [State.management, foldl_management]

theorem State.quietWrite_management (s : State) (a1) (a2) (a3) : (State.quietWrite s a1 a2 a3).management = s.management := by
  unfold State.quietWrite; grind [State.management, foldl_management, State.modMem_management]

theorem State.trace_management (s : State) (a1) (a2) (a3) (a4) (a5) : (State.trace s a1 a2 a3 a4 a5).management = s.management := by
  unfold State.trace; grind [State.management, foldl_management, State.draw_management, State.modCtx_management, State.wr_management, State.quietWrite_management]

theorem State.raise_management (s : State) (a1) : (State.raise s a1).management = s.management := by
  unfold State.raise; grind [State.management, foldl_management, State.record_management, State.trace_management, State.updAlert_management, State.act_management, State.logError_management]

theorem State.fceRaise_management (s : State) (a1) (a2) (a3) : (State.fceRaise s a1 a2 a3).management = s.management := by
  unfold State.fceRaise; grind [State.management, foldl_management, State.raise_management]

theorem State.modPlan_management (s : State) (a1) (a2) : (State.modPlan s a1 a2).management = s.management := by
  unfold State.modPlan; grind [State.management, foldl_management]

theorem State.putBarge_management (s : State) (a1) (a2) (a3) : (State.putBarge s a1 a2 a3).management = s.management := by
  unfold State.putBarge; grind [State.management, foldl_management, State.count64_management, State.emit_management]

theorem State.sendAcks_management (s : State) (a1) : (State.sendAcks s a1).management = s.management := by
  unfold State.sendAcks; grind [State.management, foldl_management, State.putBarge_management]

theorem State.oweAck_management (s : State) (a1) (a2) : (State.oweAck s a1 a2).management = s.management := by
  unfold State.oweAck; grind [State.management, foldl_management, State.sendAcks_management]

theorem State.bargeIn_management (s : State) (a1) (a2) (a3) : (State.bargeIn s a1 a2 a3).1.management = s.management := by
  unfold State.bargeIn; grind (splits := 40) (ematch := 20) (gen := 20) [State.management, foldl_management, State.count64_management, State.dropBarge_management, State.fceRaise_management, State.oweAck_management, State.fceCount_management, State.modPlan_management]

theorem State.undeliverable_management (s : State) (a1) : (State.undeliverable s a1).management = s.management := by
  unfold State.undeliverable; grind [State.management, foldl_management, State.modPlan_management]

theorem State.offer_management (s : State) (a1) (a2) : (State.offer s a1 a2).management = s.management := by
  unfold State.offer; grind [State.management, foldl_management, State.undeliverable_management, State.putBarge_management]

theorem State.floodBarge_management (s : State) (a1) (a2) (a3) : (State.floodBarge s a1 a2 a3).management = s.management := by
  unfold State.floodBarge; grind [State.management, foldl_management, State.offer_management]

theorem State.takeSeq_management (s : State) (a1) (a2) : (State.takeSeq s a1 a2).2.management = s.management := by
  unfold State.takeSeq; grind [State.management, foldl_management, State.modPlan_management]

theorem State.sendNotice_management (s : State) (a1) (a2) (a3) (a4) : (State.sendNotice s a1 a2 a3 a4).management = s.management := by
  unfold State.sendNotice; grind [State.management, foldl_management, State.takeSeq_management, State.modPlan_management, State.floodBarge_management]

theorem State.flightAbort_management (s : State) (a1) (a2) (a3) (a4) (a5) (a6) : (State.flightAbort s a1 a2 a3 a4 a5 a6).management = s.management := by
  unfold State.flightAbort; grind [State.management, foldl_management, State.count_management, State.modPlan_management, State.wr_management, State.fceRaise_management, State.sendNotice_management]

theorem State.hold_management (s : State) (a1) : (State.hold s a1).management = s.management := by
  unfold State.hold; grind [State.management, foldl_management]

theorem State.abortBarge_management (s : State) (a1) (a2) (a3) : (s.abortBarge a1 a2 a3).management = s.management := by
  unfold State.abortBarge
  split
  · exact State.hold_management s _
  · generalize (⟨a2, a3⟩ : Barge) = b
    dsimp only
    have hb := State.bargeIn_management s 7 a1 b
    generalize s.bargeIn 7 a1 b = r at hb ⊢
    obtain ⟨s1, _ | i⟩ := r
    · exact hb
    have h2 : (if b.hops = 0 then s1 else s1.floodBarge i (b.setFld 2 24 4 (b.hops - 1)) (s1.portOf a1)).management = s.management := by
      split
      · exact hb
      · exact (State.floodBarge_management _ _ _ _).trans hb
    dsimp only
    generalize (if b.hops = 0 then s1 else _) = s2 at h2 ⊢
    have h3 : (if b.step < s2.lkp.now then s2 else s2.modPlan i fun p => { p with abortN := p.abortN ++ [(b.src, b.step)] }).management = s.management := by
      split
      · exact h2
      · exact (State.modPlan_management _ _ _).trans h2
    generalize (if b.step < s2.lkp.now then s2 else _) = s3 at h3 ⊢
    split
    · exact h3
    · exact (State.flightAbort_management _ _ _ _ _ _ _).trans h3

theorem State.raisePage_management (s : State) (a1) (a2) (a3) (a4) : (State.raisePage s a1 a2 a3 a4).management = s.management := by
  unfold State.raisePage; grind [State.management, foldl_management, State.raise_management]

theorem State.accessError_management (s : State) (a1) (a2) : (State.accessError s a1 a2).management = s.management := by
  unfold State.accessError; grind [State.management, foldl_management, State.raise_management, State.raisePage_management]

theorem State.barged_management (s : State) (a1) : (State.barged s a1).management = s.management := by
  unfold State.barged; grind [State.management, foldl_management, State.count_management]

theorem State.ackOne_management (s : State) (a1) (a2) (a3) (a4) (a5) : (State.ackOne s a1 a2 a3 a4 a5).management = s.management := by
  unfold State.ackOne; grind [State.management, foldl_management, State.barged_management]

theorem State.pump1_management (s : State) : (State.pump1 s).management = s.management := by
  unfold State.pump1; grind [State.management, foldl_management, State.undeliverable_management, State.putBarge_management]

theorem State.pump_management (s : State) : (State.pump s).management = s.management := by
  unfold State.pump; grind [State.management, foldl_management, State.pump1_management]

theorem State.ackBarge_management (s : State) (a1) (a2) (a3) : (State.ackBarge s a1 a2 a3).management = s.management := by
  unfold State.ackBarge; grind [State.management, foldl_management, State.hold_management, State.bargeIn_management, State.pump_management, State.ackOne_management]

theorem State.setCore_management (s : State) (a1) (a2) : (State.setCore s a1 a2).management = s.management := by
  unfold State.setCore; grind [State.management, foldl_management]

theorem State.modCore_management (s : State) (a1) (a2) : (State.modCore s a1 a2).management = s.management := by
  unfold State.modCore; grind [State.management, foldl_management, State.setCore_management]

theorem State.dcacheInval_management (s : State) (a1) : (State.dcacheInval s a1).management = s.management := by
  unfold State.dcacheInval; grind [State.management, foldl_management, State.count_management, State.modCore_management]

theorem State.acqDone_management (s : State) (a1) (a2) : (State.acqDone s a1 a2).management = s.management := by
  unfold State.acqDone; grind [State.management, foldl_management, State.dcacheInval_management]

theorem State.setFld_management (s : State) (a1) (a2) (a3) (a4) (a5) (a6) (a7) : (State.setFld s a1 a2 a3 a4 a5 a6 a7).management = s.management := by
  unfold State.setFld; grind [State.management, foldl_management, State.wr_management]

theorem State.addDeficit_management (s : State) (a1) (a2) : (State.addDeficit s a1 a2).management = s.management := by
  unfold State.addDeficit; grind [State.management, foldl_management, State.setFld_management]

theorem State.raiseCtx_management (s : State) (a1) (a2) (a3) (a4) (a5) (a6) : (State.raiseCtx s a1 a2 a3 a4 a5 a6).management = s.management := by
  unfold State.raiseCtx; grind [State.management, foldl_management, State.raise_management]

theorem State.memFault_management (s : State) (a1) (a2) (a3) : (State.memFault s a1 a2 a3).management = s.management := by
  unfold State.memFault; grind [State.management, foldl_management, State.raiseCtx_management]

theorem State.xlate_management (s : State) (a1) (a2) (a3) (a4) : (State.xlate s a1 a2 a3 a4).1.management = s.management := by
  unfold State.xlate; grind [State.management, foldl_management, State.draw_management, State.modMem_management]

theorem State.writePieces_management (s : State) (a1) (a2) (a3) (a4) (a5) : (State.writePieces s a1 a2 a3 a4 a5).1.management = s.management := by
  fun_induction State.writePieces s a1 a2 a3 a4 a5 <;> grind [State.management, foldl_management, State.xlate_management, State.memFault_management, State.modMem_management]

theorem State.memWrite_management (s : State) (a1) (a2) (a3) (a4) : (State.memWrite s a1 a2 a3 a4).1.management = s.management := by
  unfold State.memWrite; grind [State.management, foldl_management, State.raiseCtx_management, State.writePieces_management]

theorem State.modBerth_management (s : State) (a1) (a2) : (State.modBerth s a1 a2).management = s.management := by
  unfold State.modBerth; grind [State.management, foldl_management]

theorem State.addToks_management (s : State) (a1) (a2) (a3) : (State.addToks s a1 a2 a3).management = s.management := by
  unfold State.addToks; grind [State.management, foldl_management, State.modBerth_management, State.memWrite_management, State.raiseCtx_management]

theorem State.addTotal_management (s : State) (a1) (a2) (a3) : (State.addTotal s a1 a2 a3).management = s.management := by
  unfold State.addTotal; grind [State.management, foldl_management, State.wr_management, State.count_management]

theorem State.addTotals_management (s : State) : (State.addTotals s).management = s.management := by
  unfold State.addTotals; grind [State.management, foldl_management, State.addTotal_management]

theorem State.setCluster_management (s : State) (a1) (a2) : (State.setCluster s a1 a2).management = s.management := by
  unfold State.setCluster; grind [State.management, foldl_management]

theorem State.modCluster_management (s : State) (a1) (a2) : (State.modCluster s a1 a2).management = s.management := by
  unfold State.modCluster; grind [State.management, foldl_management, State.setCluster_management]

theorem State.ownClusters_management (s : State) (a1) : (State.ownClusters s a1).management = s.management := by
  unfold State.ownClusters; grind [State.management, foldl_management, State.modCluster_management]

theorem State.slotBack_management (s : State) (a1) (a2) (a3) (a4) (a5) : (State.slotBack s a1 a2 a3 a4 a5).management = s.management := by
  unfold State.slotBack; grind [State.management, foldl_management, State.memWrite_management]

theorem State.admitStep_management (s : State) (a1) (a2) (a3) : (State.admitStep s a1 a2 a3).management = s.management := by
  unfold State.admitStep; grind [State.management, foldl_management, State.count_management, State.slotBack_management, State.ownClusters_management, State.wr_management, State.modCtx_management, State.trace_management]

theorem State.advance_management (s : State) (a1) (a2) : (State.advance s a1 a2).management = s.management := by
  unfold State.advance; grind [State.management, foldl_management, State.modCore_management]

theorem State.apertureFault_management (s : State) (a1) : (State.apertureFault s a1).management = s.management := by
  unfold State.apertureFault; grind [State.management, foldl_management, State.accessError_management]

theorem State.dropFrame_management (s : State) : (State.dropFrame s).management = s.management := by
  unfold State.dropFrame; grind [State.management, foldl_management, State.count_management]

theorem State.frameIn_management (s : State) : (State.frameIn s).management = s.management := by
  unfold State.frameIn; grind [State.management, foldl_management, State.count_management]

theorem State.modPort_management (s : State) (a1) (a2) : (State.modPort s a1 a2).management = s.management := by
  unfold State.modPort; grind [State.management, foldl_management]

theorem State.putFrame_management (s : State) (a1) (a2) : (State.putFrame s a1 a2).management = s.management := by
  unfold State.putFrame; grind [State.management, foldl_management, State.modPort_management, State.count64_management, State.emit_management]

theorem State.outWrite_management (s : State) (a1) (a2) : (State.outWrite s a1 a2).management = s.management := by
  unfold State.outWrite; grind [State.management, foldl_management, State.memWrite_management, State.count_management, State.wr_management]

theorem State.ringOut_management (s : State) (a1) (a2) : (State.ringOut s a1 a2).management = s.management := by
  unfold State.ringOut; grind [State.management, foldl_management, State.count_management, State.modCtx_management, State.outWrite_management]

theorem State.respond_management (s : State) (a1) (a2) (a3) (a4) : (State.respond s a1 a2 a3 a4).management = s.management := by
  unfold State.respond; grind [State.management, foldl_management, State.ringOut_management, State.putFrame_management, State.count_management]

theorem State.reject_management (s : State) (a1) (a2) (a3) (a4) : (State.reject s a1 a2 a3 a4).management = s.management := by
  unfold State.reject; grind [State.management, foldl_management, State.count_management, State.raiseCtx_management, State.respond_management]

theorem State.appendOp_management (s : State) (a1) (a2) (a3) : (State.appendOp s a1 a2 a3).1.management = s.management := by
  unfold State.appendOp; grind [State.management, foldl_management, State.dropFrame_management, State.frameIn_management, State.reject_management, State.modBerth_management, State.addToks_management]

theorem State.modYard_management (s : State) (a1) : (State.modYard s a1).management = s.management := by
  unfold State.modYard; grind [State.management, foldl_management]

theorem State.nextSeq_management (s : State) (a1) (a2) (a3) : (State.nextSeq s a1 a2 a3).2.management = s.management := by
  unfold State.nextSeq; grind [State.management, foldl_management, State.wr_management]

theorem State.yardErr_management (s : State) (a1) (a2) (a3) (a4) (a5) : (State.yardErr s a1 a2 a3 a4 a5).management = s.management := by
  unfold State.yardErr; grind [State.management, foldl_management, State.raiseCtx_management]

theorem State.srvYard_management (s : State) (a1) (a2) : (State.srvYard s a1 a2).management = s.management := by
  unfold State.srvYard; grind [State.management, foldl_management, State.nextSeq_management, State.yardErr_management, State.modYard_management]

theorem State.yardRelease_management (s : State) (a1) (a2) : (State.yardRelease s a1 a2).management = s.management := by
  unfold State.yardRelease; grind [State.management, foldl_management, State.srvYard_management]

theorem State.cancelOp_management (s : State) (a1) (a2) : (State.cancelOp s a1 a2).1.management = s.management := by
  unfold State.cancelOp; grind [State.management, foldl_management, State.dropFrame_management, State.count_management, State.frameIn_management, State.modBerth_management, State.yardRelease_management]

theorem State.ctxDrop_management (s : State) (a1) : (State.ctxDrop s a1).management = s.management := by
  unfold State.ctxDrop; grind [State.management, foldl_management, State.count_management, State.raiseCtx_management, State.modCtx_management]

theorem State.frameTag_management (s : State) (a1) (a2) (a3) : (State.frameTag s a1 a2 a3).1.management = s.management := by
  unfold State.frameTag; grind [State.management, foldl_management, State.draw_management, State.modCtx_management]

theorem State.openMark_management (s : State) (a1) (a2) : (State.openMark s a1 a2).1.management = s.management := by
  unfold State.openMark; grind [State.management, foldl_management, State.modCtx_management, State.ctxDrop_management, State.raiseCtx_management]

theorem State.newDrbg_management (s : State) (a1) (a2) : (State.newDrbg s a1 a2).2.management = s.management := by
  unfold State.newDrbg; grind [State.management, foldl_management, State.draw_management]

theorem State.yardOpen_management (s : State) (a1) (a2) (a3) : (State.yardOpen s a1 a2 a3).management = s.management := by
  unfold State.yardOpen; grind [State.management, foldl_management, State.srvYard_management]

theorem State.openOp_management (s : State) (a1) (a2) (a3) : (State.openOp s a1 a2 a3).management = s.management := by
  unfold State.openOp; grind [State.management, foldl_management, State.reject_management, State.newDrbg_management, State.modBerth_management, State.count_management, State.yardOpen_management, State.addToks_management, State.respond_management]

theorem State.frameOp_management (s : State) (a1) (a2) : (State.frameOp s a1 a2).1.management = s.management := by
  have h1 := State.frameTag_management s (frCtx a2) (a2.take (a2.length - 16)) (a2.drop ((a2.take (a2.length - 16)).length))
  unfold State.frameOp
  dsimp only
  repeat' split
  all_goals grind [State.dropFrame_management, State.raisePage_management, State.frameTag_management, State.raiseCtx_management, State.ctxDrop_management, State.openMark_management, State.frameIn_management, State.openOp_management, State.appendOp_management, State.cancelOp_management]

theorem State.rxBytes_management (s : State) (a1) (a2) : (State.rxBytes s a1 a2).management = s.management := by
  unfold State.rxBytes; grind [State.management, foldl_management, State.count64_management]

theorem State.frameRow_management (s : State) (a1) (a2) (a3) (a4) : (State.frameRow s a1 a2 a3 a4).management = s.management := by
  unfold State.frameRow; grind [State.management, foldl_management, State.hold_management, State.frameOp_management, State.rxBytes_management]

theorem State.appendFrame_management (s : State) (a1) (a2) : (State.appendFrame s a1 a2).management = s.management := by
  unfold State.appendFrame; grind [State.management, foldl_management, State.frameRow_management]

theorem State.applyField_management (s : State) (a1) (a2) (a3) (a4) : (State.applyField s a1 a2 a3 a4).management = s.management := by
  unfold State.applyField; grind [State.management, foldl_management, State.setFld_management, State.wr_management]

theorem State.bindPolicy_management (s : State) (a1) : (State.bindPolicy s a1).management = s.management := by
  unfold State.bindPolicy; grind [State.management, foldl_management, State.setFld_management]

theorem State.portsCheck_management (s : State) : (State.portsCheck s).management = s.management := by
  unfold State.portsCheck; grind [State.management, foldl_management, State.modPort_management, State.raisePage_management, State.modLink_management]

theorem State.putStaged_management (s : State) (a1) (a2) (a3) : (State.putStaged s a1 a2 a3).management = s.management := by
  unfold State.putStaged; grind [State.management, foldl_management]

theorem State.rtFree_management (s : State) (a1) (a2) : (State.rtFree s a1 a2).management = s.management := by
  unfold State.rtFree; grind [State.management, foldl_management, State.quietWrite_management]

theorem State.rtFlushCache_management (s : State) (a1) : (State.rtFlushCache s a1).management = s.management := by
  unfold State.rtFlushCache; grind [State.management, foldl_management, State.rtFree_management]

theorem State.applyStagedField_management (s : State) (a1) (a2) (a3) : (State.applyStagedField s a1 a2 a3).management = s.management := by
  unfold State.applyStagedField; grind [State.management, foldl_management, State.putStaged_management, State.bindPolicy_management, State.rtFlushCache_management, State.portsCheck_management]

theorem State.deactivateNow_management (s : State) (a1) : (State.deactivateNow s a1).management = s.management := by
  unfold State.deactivateNow; grind [State.management, foldl_management, State.wr_management, State.modCtx_management]

theorem State.zeroCluster_management (s : State) (a1) : (State.zeroCluster s a1).management = s.management := by
  unfold State.zeroCluster; grind [State.management, foldl_management, State.count_management, State.modCore_management, State.modMem_management, State.modCluster_management]

theorem State.enterField_management (s : State) : (State.enterField s).management = s.management := by
  unfold State.enterField; grind [State.management, foldl_management, State.deactivateNow_management, State.zeroCluster_management, State.logEvent_management]

theorem State.applyRefresh_management (s : State) : (State.applyRefresh s).management = s.management := by
  unfold State.applyRefresh; grind [State.management, foldl_management, State.logEvent_management, State.setFld_management]

theorem State.switchKeys_management (s : State) (a1) : (State.switchKeys s a1).management = s.management := by
  unfold State.switchKeys; grind [State.management, foldl_management, State.modCtx_management]

theorem State.planStep3_management (s : State) (a1) : (State.planStep3 s a1).management = s.management := by
  unfold State.planStep3; grind [State.management, foldl_management, State.modPlan_management, State.setFld_management, State.modCtx_management, State.fceRaise_management]

theorem State.forceFloors_management (s : State) (a1) (a2) : (State.forceFloors s a1 a2).management = s.management := by
  unfold State.forceFloors; grind [State.management, foldl_management, State.count_management, State.raiseCtx_management]

theorem State.setMacs_management (s : State) (a1) : (State.setMacs s a1).management = s.management := by
  unfold State.setMacs; grind [State.management, foldl_management, State.wr_management]

theorem State.readPieces_management (s : State) (a1) (a2) (a3) (a4) (a5) (a6) : (State.readPieces s a1 a2 a3 a4 a5 a6).1.management = s.management := by
  fun_induction State.readPieces s a1 a2 a3 a4 a5 a6 <;> grind [State.management, foldl_management, State.xlate_management, State.memFault_management, State.modMem_management]

theorem State.memRead_management (s : State) (a1) (a2) (a3) (a4) (a5) : (State.memRead s a1 a2 a3 a4 a5).1.management = s.management := by
  unfold State.memRead; grind [State.management, foldl_management, State.raiseCtx_management, State.readPieces_management]

theorem State.atVector_management (s : State) (a1) (a2) (a3) (a4) (a5) : (State.atVector s a1 a2 a3 a4 a5).1.management = s.management := by
  unfold State.atVector; grind [State.management, foldl_management, State.memRead_management]

theorem State.atSlots_management (s : State) (a1) (a2) (a3) (a4) (a5) (a6) : (State.atSlots s a1 a2 a3 a4 a5 a6).1.management = s.management := by
  fun_induction State.atSlots s a1 a2 a3 a4 a5 a6 <;> grind [State.management, foldl_management, State.atVector_management]

theorem State.atCoaches_management (s : State) (a1) (a2) (a3) (a4) (a5) : (State.atCoaches s a1 a2 a3 a4 a5).1.management = s.management := by
  fun_induction State.atCoaches s a1 a2 a3 a4 a5 <;> grind [State.management, foldl_management, State.atSlots_management, State.count_management]

theorem State.countAtp_management (s : State) (a1) (a2) (a3) : (State.countAtp s a1 a2 a3).management = s.management := by
  unfold State.countAtp; grind [State.management, foldl_management, State.count_management]

theorem State.fillRec_management (s : State) (a1) (a2) (a3) (a4) : (State.fillRec s a1 a2 a3 a4).management = s.management := by
  unfold State.fillRec; grind [State.management, foldl_management, State.wr_management]

theorem State.reportCore_management (s : State) (a1) (a2) (a3) : (State.reportCore s a1 a2 a3).management = s.management := by
  unfold State.reportCore; grind [State.management, foldl_management, State.fillRec_management]

theorem State.atTally_management (s : State) (a1) (a2) (a3) (a4) : (State.atTally s a1 a2 a3 a4).management = s.management := by
  unfold State.atTally; grind [State.management, foldl_management, State.countAtp_management, State.reportCore_management]

theorem State.wharfWrite_management (s : State) (a1) (a2) (a3) : (State.wharfWrite s a1 a2 a3).management = s.management := by
  unfold State.wharfWrite; grind [State.management, foldl_management, State.modCore_management]

theorem State.atDeliver_management (s : State) (a1) (a2) (a3) : (State.atDeliver s a1 a2 a3).management = s.management := by
  unfold State.atDeliver; grind [State.management, foldl_management, State.countAtp_management, State.wharfWrite_management, State.atTally_management, State.modCluster_management]

theorem State.scbRelease_management (s : State) (a1) (a2) (a3) : (State.scbRelease s a1 a2 a3).management = s.management := by
  unfold State.scbRelease; grind [State.management, foldl_management, State.modCore_management]

theorem State.atFinish_management (s : State) (a1) (a2) : (State.atFinish s a1 a2).management = s.management := by
  unfold State.atFinish; grind [State.management, foldl_management, State.modCore_management, State.scbRelease_management]

theorem State.atReject_management (s : State) (a1) (a2) (a3) (a4) : (State.atReject s a1 a2 a3 a4).management = s.management := by
  unfold State.atReject; grind [State.management, foldl_management, State.wr_management, State.raiseCtx_management]

theorem State.atScores_management (s : State) (a1) (a2) : (State.atScores s a1 a2).1.management = s.management := by
  fun_induction State.atScores s a1 a2 <;> grind [State.management, foldl_management, State.draw_management]

theorem State.atStop_management (s : State) (a1) (a2) (a3) : (State.atStop s a1 a2 a3).management = s.management := by
  unfold State.atStop; grind [State.management, foldl_management, State.atFinish_management, State.atReject_management]

theorem State.atRun_management (s : State) (a1) (a2) (a3) : (State.atRun s a1 a2 a3).management = s.management := by
  unfold State.atRun; grind [State.management, foldl_management, State.atStop_management, State.atCoaches_management, State.atScores_management, State.count64_management, State.modCore_management, State.atTally_management]

theorem State.reportUnit_management (s : State) (a1) (a2) (a3) (a4) : (State.reportUnit s a1 a2 a3 a4).management = s.management := by
  unfold State.reportUnit; grind [State.management, foldl_management]

theorem State.atomNan_management (s : State) (a1) (a2) (a3) (a4) (a5) : (State.atomNan s a1 a2 a3 a4 a5).management = s.management := by
  unfold State.atomNan; grind [State.management, foldl_management, State.reportUnit_management]

theorem State.atomApply_management (s : State) (a1) (a2) (a3) (a4) : (State.atomApply s a1 a2 a3 a4).1.management = s.management := by
  fun_induction State.atomApply s a1 a2 a3 a4 <;> grind [State.management, foldl_management, State.memRead_management, State.memWrite_management, State.wharfWrite_management, State.xlate_management, State.count64_management, State.atomNan_management]

theorem State.atpEnd_management (s : State) (a1) : (State.atpEnd s a1).management = s.management := by
  unfold State.atpEnd; grind [State.management, foldl_management, State.atDeliver_management, State.modYard_management, State.atFinish_management]

theorem State.atpStart_management (s : State) (a1) : (State.atpStart s a1).management = s.management := by
  unfold State.atpStart; grind [State.management, foldl_management, State.atRun_management, State.modCore_management]

theorem State.highWater_management (s : State) (a1) (a2) (a3) (a4) (a5) (a6) : (State.highWater s a1 a2 a3 a4 a5 a6).management = s.management := by
  unfold State.highWater; grind [State.management, foldl_management, State.setFld_management]

theorem State.retire_management (s : State) (a1) (a2) : (State.retire s a1 a2).management = s.management := by
  unfold State.retire; grind [State.management, foldl_management, State.modCore_management]

theorem State.scbAdd_management (s : State) (a1) (a2) (a3) (a4) : (State.scbAdd s a1 a2 a3 a4).management = s.management := by
  unfold State.scbAdd; grind [State.management, foldl_management, State.modCore_management, State.highWater_management]

theorem State.stall_management (s : State) (a1) (a2) : (State.stall s a1 a2).management = s.management := by
  unfold State.stall; grind [State.management, foldl_management, State.modCore_management]

theorem State.atqOp_management (s : State) (a1) (a2) (a3) : (State.atqOp s a1 a2 a3).management = s.management := by
  unfold State.atqOp; grind [State.management, foldl_management, State.stall_management, State.retire_management, State.atReject_management, State.nextSeq_management, State.scbAdd_management, State.modCore_management, State.highWater_management]

theorem State.optResult_management (s : State) (a1) (a2) (a3) (a4) : (State.optResult s a1 a2 a3 a4).management = s.management := by
  unfold State.optResult; grind [State.management, foldl_management, State.wr_management]

theorem State.badColl_management (s : State) (a1) (a2) : (State.badColl s a1 a2).management = s.management := by
  unfold State.badColl; grind [State.management, foldl_management, State.raiseCtx_management]

theorem State.badDesc_management (s : State) (a1) : (State.badDesc s a1).management = s.management := by
  unfold State.badDesc; grind [State.management, foldl_management, State.raiseCtx_management]

theorem State.scalarError_management (s : State) (a1) (a2) (a3) (a4) : (State.scalarError s a1 a2 a3 a4).management = s.management := by
  unfold State.scalarError; grind [State.management, foldl_management, State.retire_management, State.raiseCtx_management]

theorem State.badFence_management (s : State) (a1) : (State.badFence s a1).management = s.management := by
  unfold State.badFence; grind [State.management, foldl_management, State.scalarError_management]

theorem State.badSample_management (s : State) (a1) (a2) : (State.badSample s a1 a2).management = s.management := by
  unfold State.badSample; grind [State.management, foldl_management, State.raiseCtx_management]

theorem State.basinAccept_management (s : State) (a1) (a2) : (State.basinAccept s a1 a2).management = s.management := by
  unfold State.basinAccept; grind [State.management, foldl_management, State.modMem_management]

theorem State.firstBeat_management (s : State) : (State.firstBeat s).management = s.management := by
  unfold State.firstBeat; grind [State.management, foldl_management, State.updAlert_management]

theorem State.beat_management (s : State) (a1) : (State.beat s a1).management = s.management := by
  unfold State.beat; grind [State.management, foldl_management, State.firstBeat_management]

theorem State.beatCheck_management (s : State) : (State.beatCheck s).management = s.management := by
  unfold State.beatCheck; grind [State.management, foldl_management, State.raisePage_management]

theorem State.clearLink_management (s : State) (a1) : (State.clearLink s a1).management = s.management := by
  unfold State.clearLink; grind [State.management, foldl_management, State.dropLink_management, State.modLink_management]

theorem State.clearStatus_management (s : State) (a1) : (State.clearStatus s a1).management = s.management := by
  unfold State.clearStatus; grind [State.management, foldl_management, State.setFld_management]

theorem State.templateFault_management (s : State) (a1) : (State.templateFault s a1).management = s.management := by
  unfold State.templateFault; grind [State.management, foldl_management, State.raiseCtx_management]

theorem State.buildFor_management (s : State) (a1) (a2) (a3) (a4) : (State.buildFor s a1 a2 a3 a4).management = s.management := by
  unfold State.buildFor; grind (splits := 40) (ematch := 20) (gen := 20) [State.management, foldl_management, State.memRead_management, State.templateFault_management, State.memWrite_management, State.modCtx_management]

theorem State.cancelFrame_management (s : State) (a1) (a2) : (State.cancelFrame s a1 a2).management = s.management := by
  unfold State.cancelFrame; grind [State.management, foldl_management, State.frameRow_management]

theorem State.cartEnter_management (s : State) (a1) : (State.cartEnter s a1).management = s.management := by
  unfold State.cartEnter; grind [State.management, foldl_management, State.highWater_management, State.modCore_management]

theorem State.mergeJudge_management (s : State) (a1) (a2) : (State.mergeJudge s a1 a2).management = s.management := by
  unfold State.mergeJudge; grind [State.management, foldl_management, State.modCluster_management, State.raiseCtx_management]

theorem State.mergeJudgeAll_management (s : State) (a1) : (State.mergeJudgeAll s a1).management = s.management := by
  unfold State.mergeJudgeAll; grind [State.management, foldl_management, State.mergeJudge_management]

theorem State.checkDone_management (s : State) (a1) (a2) : (State.checkDone s a1 a2).management = s.management := by
  unfold State.checkDone; grind [State.management, foldl_management, State.modCtx_management, State.mergeJudgeAll_management, State.wr_management]

theorem State.rteError_management (s : State) (a1) (a2) (a3) (a4) (a5) : (State.rteError s a1 a2 a3 a4 a5).management = s.management := by
  unfold State.rteError; grind [State.management, foldl_management, State.wr_management, State.raiseCtx_management]

theorem State.failAll_management (s : State) (a1) (a2) (a3) (a4) : (State.failAll s a1 a2 a3 a4).management = s.management := by
  unfold State.failAll; grind [State.management, foldl_management, State.count_management, State.rteError_management, State.flightAbort_management]

theorem State.checkFlight_management (s : State) (a1) : (State.checkFlight s a1).management = s.management := by
  unfold State.checkFlight; grind [State.management, foldl_management, State.failAll_management]

theorem State.checkGuard_management (s : State) (a1) : (State.checkGuard s a1).management = s.management := by
  unfold State.checkGuard; grind [State.management, foldl_management, State.failAll_management]

theorem State.clTally_management (s : State) (a1) (a2) : (State.clTally s a1 a2).management = s.management := by
  unfold State.clTally; grind [State.management, foldl_management, State.draw_management, State.reportUnit_management]

theorem State.skipSlot_management (s : State) (a1) (a2) (a3) (a4) : (State.skipSlot s a1 a2 a3 a4).management = s.management := by
  unfold State.skipSlot; grind [State.management, foldl_management, State.slotBack_management, State.count_management, State.wr_management, State.raiseCtx_management, State.ctxDrop_management, State.trace_management]

theorem State.verifyLater_management (s : State) (a1) (a2) (a3) (a4) : (State.verifyLater s a1 a2 a3 a4).management = s.management := by
  unfold State.verifyLater; grind [State.management, foldl_management, State.modCtx_management]

theorem State.skipCand_management (s : State) (a1) (a2) (a3) (a4) : (State.skipCand s a1 a2 a3 a4).management = s.management := by
  unfold State.skipCand; grind [State.management, foldl_management, State.addDeficit_management, State.skipSlot_management, State.verifyLater_management]

theorem State.slotBody_management (s : State) (a1) (a2) (a3) : (State.slotBody s a1 a2 a3).1.management = s.management := by
  unfold State.slotBody; grind [State.management, foldl_management, State.memRead_management]

theorem State.classifyDue_management (s : State) (a1) (a2) (a3) (a4) : (State.classifyDue s a1 a2 a3 a4).1.management = s.management := by
  unfold State.classifyDue; grind [State.management, foldl_management, State.skipSlot_management, State.slotBody_management, State.skipCand_management]

theorem State.classify_management (s : State) (a1) (a2) : (State.classify s a1 a2).1.management = s.management := by
  unfold State.classify; grind [State.management, foldl_management, State.memRead_management, State.skipSlot_management, State.count_management, State.classifyDue_management]

theorem State.classifyAll_management (s : State) (a1) (a2) : (State.classifyAll s a1 a2).1.management = s.management := by
  fun_induction State.classifyAll s a1 a2 <;> grind [State.management, foldl_management, State.classify_management]

theorem State.rtJudge_management (s : State) (a1) : (State.rtJudge s a1).management = s.management := by
  unfold State.rtJudge; grind [State.management, foldl_management]

theorem State.closePound_management (s : State) (a1) : (State.closePound s a1).management = s.management := by
  unfold State.closePound; grind [State.management, foldl_management, State.rtJudge_management, State.flightAbort_management]

theorem State.modInst_management (s : State) (a1) (a2) : (State.modInst s a1 a2).management = s.management := by
  unfold State.modInst; grind [State.management, foldl_management]

theorem State.sendBarge_management (s : State) (a1) (a2) : (State.sendBarge s a1 a2).2.management = s.management := by
  unfold State.sendBarge; grind [State.management, foldl_management, State.takeSeq_management, State.offer_management]

theorem foldl_snd_management {α β : Type} (g : β × State → α → β × State) (xs : List α) (p : β × State) (h : ∀ p a, (g p a).2.management = p.2.management) : (xs.foldl g p).2.management = p.2.management := by
  induction xs generalizing p with
  | nil => rfl
  | cons x xs ih => simp [ih, h]

theorem foldl_fst_management {α β : Type} (g : State × β → α → State × β) (xs : List α) (p : State × β) (h : ∀ p a, (g p a).1.management = p.1.management) : (xs.foldl g p).1.management = p.1.management := by
  induction xs generalizing p with
  | nil => rfl
  | cons x xs ih => simp [ih, h]

theorem State.collSend_management (s : State) (a1) (a2) (a3) (a4) (a5) (a6) : (State.collSend s a1 a2 a3 a4 a5 a6).management = s.management := by
  unfold State.collSend
  split
  · rfl
  · rw [State.modInst_management]; exact foldl_snd_management _ _ _ fun p a => State.sendBarge_management _ _ _

theorem State.collAdvance_management (s : State) (a1) (a2) : (State.collAdvance s a1 a2).management = s.management := by
  unfold State.collAdvance; grind [State.management, foldl_management, State.collSend_management, State.clTally_management]

theorem State.collDone_management (s : State) (a1) : (State.collDone s a1).management = s.management := by
  unfold State.collDone; grind [State.management, foldl_management, State.count_management, State.modInst_management]

theorem State.syncInc_management (s : State) (a1) (a2) (a3) (a4) : (State.syncInc s a1 a2 a3 a4).management = s.management := by
  unfold State.syncInc; grind [State.management, foldl_management, State.count_management, State.modCluster_management]

theorem State.collWrite_management (s : State) (a1) (a2) (a3) : (State.collWrite s a1 a2 a3).management = s.management := by
  unfold State.collWrite; grind [State.management, foldl_management, State.memWrite_management, State.badColl_management, State.wharfWrite_management, State.syncInc_management]

theorem State.collComplete_management (s : State) (a1) : (State.collComplete s a1).management = s.management := by
  unfold State.collComplete; grind [State.management, foldl_management, State.collDone_management, State.collWrite_management, State.clTally_management]

theorem State.needInst_management (s : State) (a1) (a2) (a3) (a4) : (State.needInst s a1 a2 a3 a4).2.management = s.management := by
  unfold State.needInst; grind [State.management, foldl_management]

theorem State.readColl_management (s : State) (a1) (a2) (a3) : (State.readColl s a1 a2 a3).1.management = s.management := by
  unfold State.readColl; grind [State.management, foldl_management, State.memRead_management]

theorem State.collIn_management (s : State) (a1) (a2) (a3) : (State.collIn s a1 a2 a3).management = s.management := by
  have h1 := State.needInst_management s a2 a3.coll a3.inst a3.step
  unfold State.collIn
  split
  · rfl
  · generalize State.needInst s a2 a3.coll a3.inst a3.step = r at h1 ⊢
    grind [State.modInst_management, State.collAdvance_management, State.readColl_management]

theorem State.collLeaf_management (s : State) (a1) (a2) (a3) (a4) : (State.collLeaf s a1 a2 a3 a4).management = s.management := by
  unfold State.collLeaf
  split
  · exact State.badColl_management s a1 _
  · dsimp only
    split
    · exact State.badColl_management s a1 _
    · rename_i slot _ _ n _
      have h1 := State.needInst_management s a1 a3 n (s.collTick a1)
      generalize State.needInst s a1 a3 n (s.collTick a1) = r at h1 ⊢
      grind [State.modInst_management, State.collAdvance_management, State.readColl_management, State.badColl_management]

theorem State.countDrn_management (s : State) (a1) (a2) (a3) : (State.countDrn s a1 a2 a3).management = s.management := by
  unfold State.countDrn; grind [State.management, foldl_management, State.count_management]

theorem State.countFence_management (s : State) (a1) : (State.countFence s a1).management = s.management := by
  unfold State.countFence; grind [State.management, foldl_management, State.count_management]

theorem State.countMacs_management (s : State) (a1) (a2) : (State.countMacs s a1 a2).management = s.management := by
  unfold State.countMacs; grind [State.management, foldl_management, State.count64_management]

theorem State.ctxFlightAbort_management (s : State) (a1) (a2) : (State.ctxFlightAbort s a1 a2).management = s.management := by
  unfold State.ctxFlightAbort; grind [State.management, foldl_management, State.flightAbort_management]

theorem State.portFlush_management (s : State) (a1) (a2) : (State.portFlush s a1 a2).management = s.management := by
  unfold State.portFlush; grind [State.management, foldl_management, State.modCore_management, State.basinAccept_management]

theorem State.portFlushAll_management (s : State) (a1) : (State.portFlushAll s a1).management = s.management := by
  unfold State.portFlushAll; grind [State.management, foldl_management, State.portFlush_management]

theorem State.relDone_management (s : State) (a1) (a2) : (State.relDone s a1 a2).management = s.management := by
  unfold State.relDone; grind [State.management, foldl_management, State.portFlushAll_management]

theorem State.fenceOp_management (s : State) (a1) (a2) (a3) : (State.fenceOp s a1 a2 a3).management = s.management := by
  unfold State.fenceOp; grind [State.management, foldl_management, State.badFence_management, State.stall_management, State.relDone_management, State.acqDone_management, State.retire_management, State.countFence_management]

theorem State.portDrain_management (s : State) (a1) : (State.portDrain s a1).management = s.management := by
  unfold State.portDrain; grind [State.management, foldl_management, State.modCore_management, State.draw_management, State.basinAccept_management]

theorem State.portBefore_management (s : State) (a1) (a2) (a3) : (State.portBefore s a1 a2 a3).management = s.management := by
  unfold State.portBefore; grind [State.management, foldl_management, State.portDrain_management, State.portFlush_management, State.portFlushAll_management]

theorem State.lduOp_management (s : State) (a1) (a2) (a3) (a4) : (State.lduOp s a1 a2 a3 a4).management = s.management := by
  unfold State.lduOp; grind [State.management, foldl_management, State.stall_management, State.scalarError_management, State.memRead_management, State.portBefore_management, State.retire_management, State.modCore_management]

theorem State.syiOp_management (s : State) (a1) (a2) (a3) (a4) : (State.syiOp s a1 a2 a3 a4).management = s.management := by
  unfold State.syiOp; grind [State.management, foldl_management, State.stall_management, State.badFence_management, State.scalarError_management, State.relDone_management, State.syncInc_management, State.retire_management, State.countFence_management]

theorem State.syrOp_management (s : State) (a1) (a2) (a3) : (State.syrOp s a1 a2 a3).management = s.management := by
  unfold State.syrOp; grind [State.management, foldl_management, State.stall_management, State.scalarError_management, State.retire_management, State.modCore_management]

theorem State.judgeSyw_management (s : State) (a1) (a2) (a3) : (State.judgeSyw s a1 a2 a3).management = s.management := by
  unfold State.judgeSyw; grind [State.management, foldl_management, State.wr_management, State.raiseCtx_management]

theorem State.sywEnd_management (s : State) (a1) (a2) (a3) : (State.sywEnd s a1 a2 a3).management = s.management := by
  unfold State.sywEnd; grind [State.management, foldl_management, State.retire_management, State.countFence_management, State.acqDone_management, State.judgeSyw_management]

theorem State.sywOp_management (s : State) (a1) (a2) (a3) (a4) : (State.sywOp s a1 a2 a3 a4).management = s.management := by
  unfold State.sywOp; grind [State.management, foldl_management, State.stall_management, State.badFence_management, State.scalarError_management, State.sywEnd_management]

theorem State.customOp_management (s : State) (a1) (a2) : (State.customOp s a1 a2).management = s.management := by
  unfold State.customOp; grind [State.management, foldl_management, State.fenceOp_management, State.badFence_management, State.syiOp_management, State.sywOp_management, State.syrOp_management, State.lduOp_management]

theorem State.cydTimes_management (s : State) (a1) : (State.cydTimes s a1).management = s.management := by
  unfold State.cydTimes; grind [State.management, foldl_management, State.highWater_management, State.setFld_management]

theorem State.cyqOp_management (s : State) (a1) (a2) (a3) : (State.cyqOp s a1 a2 a3).management = s.management := by
  unfold State.cyqOp; grind [State.management, foldl_management, State.nextSeq_management, State.retire_management, State.yardErr_management, State.stall_management, State.scbAdd_management, State.modYard_management]

theorem State.relay_management (s : State) (a1) (a2) (a3) : (State.relay s a1 a2 a3).management = s.management := by
  unfold State.relay; grind [State.management, foldl_management, State.dropBarge_management, State.offer_management]

theorem State.rwApply_management (s : State) (a1) (a2) (a3) : (State.rwApply s a1 a2 a3).management = s.management := by
  unfold State.rwApply; grind [State.management, foldl_management, State.memWrite_management, State.fceCount_management, State.raiseCtx_management, State.modMem_management, State.sendBarge_management]

theorem State.rwDrain_management (s : State) (a1) (a2) (a3) : (State.rwDrain s a1 a2 a3).management = s.management := by
  unfold State.rwDrain; grind [State.management, foldl_management, State.modPlan_management, State.rwApply_management]

theorem State.dataIn_management (s : State) a b c f (h : ∀ s i j, (f s i j).management = s.management) : (s.dataIn a b c f).management = s.management := by
  unfold State.dataIn; grind [State.management, foldl_management, State.bargeIn_management, State.relay_management, State.dropBarge_management, State.rwDrain_management]

theorem State.dataBarge_management (s : State) (a1) (a2) (a3) : (s.dataBarge a1 a2 a3).management = s.management := by
  unfold State.dataBarge
  split
  · exact State.hold_management s _
  · exact State.dataIn_management s _ _ _ _ (fun s i j => State.collIn_management s i j _)

theorem State.dbgRefuse_management (s : State) (a1) : (State.dbgRefuse s a1).management = s.management := by
  unfold State.dbgRefuse; grind [State.management, foldl_management, State.wr_management, State.raisePage_management]

theorem State.dcachePiece_management (s : State) (a1) (a2) (a3) (a4) (a5) : (State.dcachePiece s a1 a2 a3 a4 a5).1.management = s.management := by
  unfold State.dcachePiece; grind [State.management, foldl_management, State.draw_management, State.count_management, State.readPieces_management, State.modCore_management]

theorem State.dcachePieces_management (s : State) (a1) (a2) (a3) (a4) (a5) : (State.dcachePieces s a1 a2 a3 a4 a5).1.management = s.management := by
  fun_induction State.dcachePieces s a1 a2 a3 a4 a5 <;> grind [State.management, foldl_management, State.dcachePiece_management]

theorem State.dcacheRead_management (s : State) (a1) (a2) (a3) (a4) : (State.dcacheRead s a1 a2 a3 a4).1.management = s.management := by
  unfold State.dcacheRead; grind [State.management, foldl_management, State.raiseCtx_management, State.dcachePieces_management]

theorem State.dcinvOp_management (s : State) (a1) : (State.dcinvOp s a1).management = s.management := by
  unfold State.dcinvOp; grind [State.management, foldl_management, State.retire_management, State.dcacheInval_management]

theorem State.escalate_management (s : State) (a1) : (State.escalate s a1).management = s.management := by
  unfold State.escalate; grind [State.management, foldl_management, State.raisePage_management, State.condemn_management, State.askRestart_management]

theorem State.declareHang_management (s : State) : (State.declareHang s).management = s.management := by
  unfold State.declareHang; grind [State.management, foldl_management, State.raise_management, State.count_management, State.updAlert_management, State.trigCapture_management, State.escalate_management]

theorem State.dmWrite_management (s : State) (a1) (a2) (a3) : (State.dmWrite s a1 a2 a3).1.management = s.management := by
  fun_induction State.dmWrite s a1 a2 a3 <;> grind [State.management, foldl_management, State.memWrite_management]

theorem State.dmApply_management (s : State) (a1) (a2) (a3) : (State.dmApply s a1 a2 a3).1.management = s.management := by
  unfold State.dmApply; grind [State.management, foldl_management, State.yardErr_management, State.dmWrite_management, State.modYard_management, State.atomApply_management, State.wharfWrite_management]

theorem State.rwSend_management (s : State) (a1) (a2) (a3) (a4) : (State.rwSend s a1 a2 a3 a4).2.management = s.management := by
  fun_induction State.rwSend s a1 a2 a3 a4 <;> grind [State.management, foldl_management, State.takeSeq_management, State.offer_management]

theorem State.rwStart_management (s : State) (a1) (a2) (a3) (a4) : (State.rwStart s a1 a2 a3 a4).management = s.management := by
  unfold State.rwStart; grind [State.management, foldl_management, State.modCore_management, State.rwSend_management]

theorem State.dmBegin_management (s : State) (a1) (a2) (a3) (a4) (a5) : (State.dmBegin s a1 a2 a3 a4 a5).management = s.management := by
  unfold State.dmBegin; grind [State.management, foldl_management, State.modCore_management, State.rwStart_management]

theorem State.dmFinish_management (s : State) (a1) (a2) : (State.dmFinish s a1 a2).management = s.management := by
  unfold State.dmFinish; grind [State.management, foldl_management, State.scbRelease_management, State.modCore_management]

theorem State.dmReject_management (s : State) (a1) (a2) (a3) (a4) : (State.dmReject s a1 a2 a3 a4).management = s.management := by
  unfold State.dmReject; grind [State.management, foldl_management, State.wr_management, State.raiseCtx_management]

theorem State.dmStop_management (s : State) (a1) (a2) (a3) : (State.dmStop s a1 a2 a3).management = s.management := by
  unfold State.dmStop; grind [State.management, foldl_management, State.dmFinish_management, State.dmReject_management]

theorem State.dmSyncInc_management (s : State) (a1) (a2) (a3) : (State.dmSyncInc s a1 a2 a3).management = s.management := by
  unfold State.dmSyncInc; grind [State.management, foldl_management, State.syncInc_management]

theorem State.dmComplete_management (s : State) (a1) (a2) : (State.dmComplete s a1 a2).management = s.management := by
  unfold State.dmComplete; grind [State.management, foldl_management, State.dmApply_management, State.dmStop_management, State.dmSyncInc_management, State.dmFinish_management, State.count64_management]

theorem State.dmRead_management (s : State) (a1) (a2) (a3) (a4) (a5) : (State.dmRead s a1 a2 a3 a4 a5).1.management = s.management := by
  fun_induction State.dmRead s a1 a2 a3 a4 a5 <;> grind [State.management, foldl_management, State.memRead_management]

theorem State.dmStart_management (s : State) (a1) (a2) (a3) : (State.dmStart s a1 a2 a3).management = s.management := by
  unfold State.dmStart; grind [State.management, foldl_management, State.dmStop_management, State.yardErr_management, State.dmFinish_management, State.dmRead_management, State.portBefore_management, State.dmBegin_management]

theorem State.torn_management (s : State) (a1) (a2) : (State.torn s a1 a2).1.management = s.management := by
  fun_induction State.torn s a1 a2 <;> grind [State.management, foldl_management, State.draw_management]

theorem State.dmTear_management (s : State) (a1) (a2) (a3) : (State.dmTear s a1 a2 a3).management = s.management := by
  unfold State.dmTear; grind [State.management, foldl_management, State.torn_management, State.wharfWrite_management, State.modMem_management, State.draw_management, State.atomApply_management]

theorem State.dmaStart_management (s : State) (a1) : (State.dmaStart s a1).management = s.management := by
  unfold State.dmaStart; grind [State.management, foldl_management, State.dmStart_management, State.modCore_management]

theorem State.dmqOp_management (s : State) (a1) (a2) (a3) : (State.dmqOp s a1 a2 a3).management = s.management := by
  unfold State.dmqOp; grind [State.management, foldl_management, State.stall_management, State.nextSeq_management, State.retire_management, State.dmReject_management, State.scbAdd_management, State.modCore_management]

theorem State.drainDone_management (s : State) (a1) (a2) : (State.drainDone s a1 a2).management = s.management := by
  unfold State.drainDone; grind [State.management, foldl_management, State.modCore_management, State.scbRelease_management]

theorem State.drainNan_management (s : State) (a1) (a2) (a3) (a4) (a5) (a6) (a7) : (State.drainNan s a1 a2 a3 a4 a5 a6 a7).management = s.management := by
  unfold State.drainNan; grind [State.management, foldl_management, State.reportCore_management, State.draw_management]

theorem State.drainSat_management (s : State) (a1) (a2) (a3) (a4) (a5) : (State.drainSat s a1 a2 a3 a4 a5).1.management = s.management := by
  unfold State.drainSat; grind [State.management, foldl_management, State.fillRec_management, State.raiseCtx_management]

theorem State.drainRow_management (s : State) (a1) (a2) (a3) (a4) (a5) : (State.drainRow s a1 a2 a3 a4 a5).1.management = s.management := by
  unfold State.drainRow; grind [State.management, foldl_management, State.drainNan_management, State.drainSat_management, State.countDrn_management, State.count64_management]

theorem State.drainCarts_management (s : State) (a1) (a2) (a3) (a4) (a5) : (State.drainCarts s a1 a2 a3 a4 a5).management = s.management := by
  fun_induction State.drainCarts s a1 a2 a3 a4 a5
  case case1 => rfl
  case case2 => exact State.drainDone_management _ _ _
  case case3 => rfl
  case case4 s fuel it _ _ _ n s1 it1 bytes hs _ _ s2 s3 ih =>
    have h := foldl_fst_management (fun (p : State × DrainItem × List Byte) i => ((p.1.drainRow a1 a2 p.2.1 a3 (it.next + i)).1, (p.1.drainRow a1 a2 p.2.1 a3 (it.next + i)).2.1, p.2.2 ++ (p.1.drainRow a1 a2 p.2.1 a3 (it.next + i)).2.2)) (List.range n) (s, it, []) (fun p a => State.drainRow_management _ _ _ _ _ _)
    rw [hs] at h
    rw [ih]; exact (State.highWater_management _ _ _ _ _ _ _).trans ((State.modCore_management _ _ _).trans h)

theorem State.drainRows_management (s : State) (a1) (a2) (a3) (a4) (a5) : (State.drainRows s a1 a2 a3 a4 a5).management = s.management := by
  fun_induction State.drainRows s a1 a2 a3 a4 a5 <;> grind [State.management, foldl_management, State.drainDone_management, State.drainDone_management, State.raiseCtx_management, State.drainRow_management, State.wharfWrite_management]

theorem State.drainBank_management (s : State) (a1) : (State.drainBank s a1).management = s.management := by
  unfold State.drainBank; grind [State.management, foldl_management, State.modCore_management, State.drainRows_management, State.drainCarts_management]

theorem State.drawFrame_management (s : State) (a1) : (State.drawFrame s a1).2.management = s.management := by
  unfold State.drawFrame; grind [State.management, foldl_management, State.draw_management]

theorem State.drawIndex_management (s : State) : (State.drawIndex s).2.management = s.management := by
  unfold State.drawIndex; grind [State.management, foldl_management, State.draw_management]

theorem State.dropCarts_management (s : State) (a1) (a2) : (State.dropCarts s a1 a2).management = s.management := by
  unfold State.dropCarts; grind [State.management, foldl_management, State.count_management, State.modCore_management, State.raiseCtx_management]

theorem State.dsetOp_management (s : State) (a1) (a2) (a3) : (State.dsetOp s a1 a2 a3).management = s.management := by
  unfold State.dsetOp; grind [State.management, foldl_management, State.stall_management, State.retire_management, State.badDesc_management, State.modCore_management]

theorem State.edgeFence_management (s : State) : (State.edgeFence s).management = s.management := by
  unfold State.edgeFence; grind [State.management, foldl_management, State.portFlushAll_management]

theorem State.forgetPounds_management (s : State) (a1) : (State.forgetPounds s a1).management = s.management := by
  unfold State.forgetPounds; grind [State.management, foldl_management]

theorem State.tearStore_management (s : State) (a1) (a2) : (State.tearStore s a1 a2).management = s.management := by
  unfold State.tearStore; grind [State.management, foldl_management, State.torn_management, State.modMem_management]

theorem State.removeCore_management (s : State) (a1) (a2) : (State.removeCore s a1 a2).management = s.management := by
  unfold State.removeCore; grind [State.management, foldl_management, State.dmTear_management, State.tearStore_management, State.modCore_management]

theorem State.rtRemove_management (s : State) (a1) : (State.rtRemove s a1).management = s.management := by
  unfold State.rtRemove; grind [State.management, foldl_management, State.rtFree_management]

theorem State.smpDrop_management (s : State) (a1) : (State.smpDrop s a1).management = s.management := by
  unfold State.smpDrop; grind [State.management, foldl_management]

theorem State.yardDrop_management (s : State) (a1) : (State.yardDrop s a1).management = s.management := by
  unfold State.yardDrop; grind [State.management, foldl_management, State.modYard_management]

theorem State.removeWork_management (s : State) (a1) (a2) : (State.removeWork s a1 a2).management = s.management := by
  unfold State.removeWork; grind [State.management, foldl_management, State.modCluster_management, State.removeCore_management, State.smpDrop_management, State.rtRemove_management, State.yardDrop_management]

theorem State.scrubRecord_management (s : State) (a1) (a2) : (State.scrubRecord s a1 a2).management = s.management := by
  unfold State.scrubRecord; grind [State.management, foldl_management, State.modCtx_management, State.wr_management, State.count_management, State.emit_management]

theorem State.stopPlans_management (s : State) (a1) (a2) : (State.stopPlans s a1 a2).management = s.management := by
  unfold State.stopPlans; grind [State.management, foldl_management, State.modPlan_management]

theorem State.edgeStep2_management (s : State) (a1) (a2) (a3) : (State.edgeStep2 s a1 a2 a3).management = s.management := by
  unfold State.edgeStep2; grind [State.management, foldl_management, State.addTotals_management, State.removeWork_management, State.forgetPounds_management, State.stopPlans_management, State.edgeFence_management, State.scrubRecord_management]

theorem State.scrubStorm_management (s : State) (a1) : (State.scrubStorm s a1).management = s.management := by
  unfold State.scrubStorm; grind [State.management, foldl_management, State.raiseCtx_management]

theorem State.srvAfterYard_management (s : State) (a1) : (State.srvAfterYard s a1).management = s.management := by
  unfold State.srvAfterYard; grind [State.management, foldl_management, State.respond_management, State.modBerth_management, State.yardRelease_management, State.yardOpen_management]

theorem State.yardDecide_management (s : State) (a1) (a2) : (State.yardDecide s a1 a2).management = s.management := by
  unfold State.yardDecide; grind [State.management, foldl_management, State.count_management]

theorem State.yardTrim_management (s : State) (a1) (a2) (a3) : (State.yardTrim s a1 a2 a3).management = s.management := by
  unfold State.yardTrim; grind [State.management, foldl_management, State.modYard_management, State.count_management, State.yardErr_management]

theorem State.yardEdge_management (s : State) (a1) (a2) : (State.yardEdge s a1 a2).management = s.management := by
  unfold State.yardEdge; grind [State.management, foldl_management, State.yardDecide_management, State.yardTrim_management]

theorem State.edgeStep4_management (s : State) (a1) (a2) (a3) : (State.edgeStep4 s a1 a2 a3).management = s.management := by
  unfold State.edgeStep4; grind [State.management, foldl_management, State.cydTimes_management, State.yardEdge_management, State.srvAfterYard_management]

theorem State.grantCluster_management (s : State) (a1) (a2) : (State.grantCluster s a1 a2).management = s.management := by
  unfold State.grantCluster; grind [State.management, foldl_management, State.count_management, State.zeroCluster_management, State.modCluster_management]

theorem State.grantCand_management (s : State) (a1) (a2) (a3) : (State.grantCand s a1 a2 a3).management = s.management := by
  unfold State.grantCand; grind [State.management, foldl_management, State.grantCluster_management, State.setFld_management, State.modCtx_management, State.trace_management, State.admitStep_management, State.verifyLater_management]

theorem State.grantAll_management (s : State) (a1) (a2) (a3) (a4) : (State.grantAll s a1 a2 a3 a4).1.management = s.management := by
  fun_induction State.grantAll s a1 a2 a3 a4 <;> grind [State.management, foldl_management, State.grantCand_management, State.skipCand_management]

theorem State.edgeAdmit_management (s : State) (a1) (a2) (a3) (a4) : (State.edgeAdmit s a1 a2 a3 a4).management = s.management := by
  unfold State.edgeAdmit; grind [State.management, foldl_management, State.classifyAll_management, State.grantAll_management, State.setFld_management]

theorem State.openClusters_management (s : State) : (State.openClusters s).management = s.management := by
  unfold State.openClusters; grind [State.management, foldl_management, State.setFld_management]

theorem State.releaseGrants_management (s : State) : (State.releaseGrants s).management = s.management := by
  unfold State.releaseGrants; grind [State.management, foldl_management]

theorem State.edgeStep5_management (s : State) (a1) (a2) (a3) : (State.edgeStep5 s a1 a2 a3).management = s.management := by
  unfold State.edgeStep5; grind [State.management, foldl_management, State.openClusters_management, State.edgeAdmit_management, State.releaseGrants_management]

theorem State.gaugeSnap_management (s : State) : (State.gaugeSnap s).management = s.management := by
  unfold State.gaugeSnap; grind [State.management, foldl_management, State.draw_management]

theorem State.edgeStep7_management (s : State) (a1) (a2) : (State.edgeStep7 s a1 a2).management = s.management := by
  unfold State.edgeStep7; grind [State.management, foldl_management, State.highWater_management, State.setFld_management, State.raisePage_management, State.gaugeSnap_management, State.beatCheck_management]

theorem State.enterHoldover_management (s : State) : (State.enterHoldover s).management = s.management := by
  unfold State.enterHoldover; grind [State.management, foldl_management, State.raisePage_management, State.setFld_management]

theorem State.edgeSync_management (s : State) (a1) (a2) : (State.edgeSync s a1 a2).management = s.management := by
  unfold State.edgeSync; grind [State.management, foldl_management, State.setFld_management, State.enterHoldover_management, State.count_management]

theorem State.srvJudge_management (s : State) (a1) (a2) : (State.srvJudge s a1 a2).management = s.management := by
  unfold State.srvJudge; grind [State.management, foldl_management, State.addToks_management, State.modBerth_management, State.modCtx_management]

theorem State.endStep_management (s : State) (a1) (a2) : (State.endStep s a1 a2).management = s.management := by
  unfold State.endStep; grind [State.management, foldl_management, State.trace_management, State.mergeJudgeAll_management, State.count_management, State.srvJudge_management, State.modCtx_management]

theorem State.spillStep_management (s : State) (a1) : (State.spillStep s a1).management = s.management := by
  unfold State.spillStep; grind [State.management, foldl_management, State.count_management, State.raiseCtx_management, State.wr_management, State.modCtx_management]

theorem State.judge_management (s : State) (a1) (a2) (a3) : (State.judge s a1 a2 a3).management = s.management := by
  unfold State.judge; grind [State.management, foldl_management, State.count_management, State.endStep_management, State.spillStep_management, State.raiseCtx_management]

theorem State.meterEdge_management (s : State) : (State.meterEdge s).management = s.management := by
  unfold State.meterEdge; grind [State.management, foldl_management, State.wr_management, State.modCtx_management, State.count64_management]

theorem State.openPound_management (s : State) (a1) : (State.openPound s a1).management = s.management := by
  unfold State.openPound; grind [State.management, foldl_management, State.modCtx_management]

theorem State.setPhase_management (s : State) (a1) : (State.setPhase s a1).management = s.management := by
  unfold State.setPhase; grind [State.management, foldl_management]

theorem State.setTick_management (s : State) (a1) : (State.setTick s a1).management = s.management := by
  unfold State.setTick; grind [State.management, foldl_management]

theorem State.flightCheck_management (s : State) : (State.flightCheck s).management = s.management := by
  unfold State.flightCheck; grind [State.management, foldl_management, State.checkFlight_management]

theorem State.finishVerify_management (s : State) (a1) (a2) : (State.finishVerify s a1 a2).management = s.management := by
  unfold State.finishVerify; grind [State.management, foldl_management, State.modCtx_management, State.addDeficit_management, State.skipSlot_management, State.admitStep_management]

theorem State.finishVerifies_management (s : State) (a1) : (State.finishVerifies s a1).management = s.management := by
  unfold State.finishVerifies; grind [State.management, foldl_management, State.finishVerify_management]

theorem State.judgeLate_management (s : State) (a1) : (State.judgeLate s a1).management = s.management := by
  unfold State.judgeLate; grind [State.management, foldl_management, State.modCtx_management, State.sendNotice_management]

theorem State.guardOpen_management (s : State) : (State.guardOpen s).management = s.management := by
  unfold State.guardOpen; grind [State.management, foldl_management, State.finishVerifies_management, State.checkGuard_management, State.judgeLate_management]

theorem State.endBerth_management (s : State) (a1) (a2) : (State.endBerth s a1 a2).management = s.management := by
  unfold State.endBerth; grind [State.management, foldl_management, State.count_management, State.modBerth_management, State.yardRelease_management]

theorem State.fcqOp_management (s : State) (a1) (a2) : (State.fcqOp s a1 a2).management = s.management := by
  unfold State.fcqOp; grind (splits := 40) (ematch := 20) (gen := 20) [State.management, foldl_management, State.stall_management, State.retire_management, State.badColl_management, State.relDone_management, State.readColl_management, State.memRead_management, State.modCtx_management, State.needInst_management, State.modInst_management, State.collAdvance_management]

theorem State.fetchBytes_management (s : State) (a1) (a2) (a3) : (State.fetchBytes s a1 a2 a3).1.management = s.management := by
  unfold State.fetchBytes; grind [State.management, foldl_management, State.memRead_management, State.portBefore_management]

theorem State.modExch_management (s : State) (a1) (a2) (a3) (a4) : (State.modExch s a1 a2 a3 a4).management = s.management := by
  unfold State.modExch; grind [State.management, foldl_management]

theorem State.rtServe_management (s : State) (a1) (a2) (a3) (a4) (a5) (a6) : (State.rtServe s a1 a2 a3 a4 a5 a6).management = s.management := by
  unfold State.rtServe; grind [State.management, foldl_management, State.sendBarge_management, State.raiseCtx_management, State.memRead_management, State.draw_management, State.count64_management, State.count_management]

theorem State.fetchReqBarge_management (s : State) (a1) (a2) (a3) : (s.fetchReqBarge a1 a2 a3).management = s.management := by
  unfold State.fetchReqBarge
  split
  · exact State.hold_management s _
  · refine State.dataIn_management s _ _ _ _ (fun s i j => ?_)
    dsimp only
    generalize (⟨a2, a3⟩ : Barge) = b
    refine (foldl_management _ _ _ fun s r => State.rtServe_management s _ _ _ _ _ _).trans ?_
    split
    · rfl
    · exact State.modExch_management s _ _ _ _

theorem State.gaugeAccept_management (s : State) (a1) (a2) : (State.gaugeAccept s a1 a2).management = s.management := by
  unfold State.gaugeAccept; grind [State.management, foldl_management, State.modCtx_management, State.gaugeSnap_management]

theorem State.linkEnable_management (s : State) (a1) : (State.linkEnable s a1).management = s.management := by
  unfold State.linkEnable; grind [State.management, foldl_management, State.portsCheck_management, State.modLink_management, State.raisePage_management, State.wr_management, State.count_management]

theorem State.writeReg_management (s : State) (a1) (a2) (a3) (a4) : (State.writeReg s a1 a2 a3 a4).management = s.management := by
  unfold State.writeReg; grind [State.management, foldl_management, State.applyField_management, State.linkEnable_management, State.wr_management, State.accessError_management, State.updAlert_management]

theorem State.gaugeRequest_management (s : State) (a1) (a2) : (State.gaugeRequest s a1 a2).management = s.management := by
  unfold State.gaugeRequest; grind [State.management, foldl_management, State.writeReg_management, State.accessError_management, State.gaugeAccept_management]

theorem State.gaugeWrite_management (s : State) (a1) (a2) (a3) (a4) (a5) : (State.gaugeWrite s a1 a2 a3 a4 a5).management = s.management := by
  unfold State.gaugeWrite; grind [State.management, foldl_management, State.raise_management, State.setFld_management, State.memWrite_management, State.emit_management]

theorem State.inject_management (s : State) (a1) (a2) : (State.inject s a1 a2).management = s.management := by
  unfold State.inject; grind [State.management, foldl_management, State.accessError_management, State.raise_management]

theorem State.jump_management (s : State) (a1) (a2) (a3) (a4) : (State.jump s a1 a2 a3 a4).management = s.management := by
  unfold State.jump; grind [State.management, foldl_management, State.modCore_management]

theorem State.kernelEnd_management (s : State) (a1) (a2) (a3) : (State.kernelEnd s a1 a2 a3).management = s.management := by
  unfold State.kernelEnd; grind [State.management, foldl_management, State.stall_management, State.dropCarts_management, State.modCore_management, State.checkDone_management, State.trace_management]

theorem State.lateBarge_management (s : State) (a1) (a2) (a3) : (s.lateBarge a1 a2 a3).management = s.management := by
  unfold State.lateBarge
  split
  · exact State.hold_management s _
  · generalize (⟨a2, a3⟩ : Barge) = b
    dsimp only
    have hb := State.bargeIn_management s 6 a1 b
    generalize s.bargeIn 6 a1 b = r at hb ⊢
    obtain ⟨s1, _ | i⟩ := r
    · exact hb
    have h2 : (if b.hops = 0 then s1 else s1.floodBarge i (b.setFld 2 24 4 (b.hops - 1)) (s1.portOf a1)).management = s.management := by
      split
      · exact hb
      · exact (State.floodBarge_management _ _ _ _).trans hb
    dsimp only
    generalize (if b.hops = 0 then s1 else _) = s2 at h2 ⊢
    split
    · exact (State.flightAbort_management _ _ _ _ _ _ _).trans ((State.raise_management _ _).trans h2)
    · exact (State.modPlan_management _ _ _).trans h2

theorem State.modLaunch_management (s : State) (a1) (a2) (a3) : (State.modLaunch s a1 a2 a3).management = s.management := by
  unfold State.modLaunch; grind [State.management, foldl_management, State.modCtx_management]

theorem State.slipAt_management (s : State) (a1) (a2) (a3) : (State.slipAt s a1 a2 a3).management = s.management := by
  unfold State.slipAt; grind [State.management, foldl_management, State.highWater_management, State.raiseCtx_management]

theorem State.launchCore_management (s : State) (a1) (a2) (a3) (a4) (a5) : (State.launchCore s a1 a2 a3 a4 a5).management = s.management := by
  unfold State.launchCore; grind [State.management, foldl_management, State.raiseCtx_management, State.dcacheInval_management, State.modCore_management, State.modLaunch_management, State.trace_management, State.slipAt_management]

theorem State.launch_management (s : State) (a1) (a2) (a3) (a4) (a5) : (State.launch s a1 a2 a3 a4 a5).management = s.management := by
  unfold State.launch; grind [State.management, foldl_management, State.launchCore_management]

theorem State.lineCorrected_management (s : State) (a1) : (State.lineCorrected s a1).management = s.management := by
  unfold State.lineCorrected; grind [State.management, foldl_management, State.modMem_management, State.count_management, State.raisePage_management]

theorem State.linePoisoned_management (s : State) (a1) (a2) : (State.linePoisoned s a1 a2).management = s.management := by
  unfold State.linePoisoned; grind [State.management, foldl_management, State.count_management, State.modMem_management, State.raisePage_management]

theorem State.toHoldover_management (s : State) : (State.toHoldover s).management = s.management := by
  unfold State.toHoldover; grind [State.management, foldl_management, State.raisePage_management, State.setFld_management]

theorem State.linksChanged_management (s : State) : (State.linksChanged s).management = s.management := by
  unfold State.linksChanged; grind [State.management, foldl_management, State.portsCheck_management, State.pump_management, State.toHoldover_management]

theorem State.resend_management (s : State) (a1) : (State.resend s a1).management = s.management := by
  unfold State.resend; grind [State.management, foldl_management, State.undeliverable_management, State.count_management, State.putBarge_management, State.fceCount_management]

theorem State.linkDown_management (s : State) (a1) : (State.linkDown s a1).management = s.management := by
  unfold State.linkDown; grind [State.management, foldl_management, State.updAlert_management, State.dropLink_management, State.linksChanged_management, State.resend_management]

theorem State.linkUp_management (s : State) (a1) : (State.linkUp s a1).management = s.management := by
  unfold State.linkUp; grind [State.management, foldl_management, State.modLink_management, State.linksChanged_management]

theorem State.scalarFault_management (s : State) (a1) (a2) : (State.scalarFault s a1 a2).management = s.management := by
  unfold State.scalarFault; grind [State.management, foldl_management, State.retire_management, State.raiseCtx_management]

theorem State.loadOp_management (s : State) (a1) (a2) (a3) (a4) (a5) : (State.loadOp s a1 a2 a3 a4 a5).management = s.management := by
  unfold State.loadOp; grind [State.management, foldl_management, State.stall_management, State.scalarFault_management, State.retire_management, State.modCore_management, State.dcacheRead_management, State.portBefore_management]

theorem State.yardCopyBytes_management (s : State) (a1) (a2) (a3) (a4) (a5) : (State.yardCopyBytes s a1 a2 a3 a4 a5).1.management = s.management := by
  unfold State.yardCopyBytes; grind [State.management, foldl_management, State.memRead_management, State.yardErr_management, State.memWrite_management]

theorem State.yardCopy_management (s : State) (a1) (a2) (a3) (a4) : (State.yardCopy s a1 a2 a3 a4).1.management = s.management := by
  unfold State.yardCopy; grind [State.management, foldl_management, State.yardCopyBytes_management]

theorem State.makeCoach_management (s : State) (a1) (a2) : (State.makeCoach s a1 a2).1.management = s.management := by
  unfold State.makeCoach; grind [State.management, foldl_management, State.drawIndex_management, State.drawFrame_management, State.modYard_management, State.yardCopy_management]

theorem State.vecOps_management (s : State) (a1) (a2) : (State.vecOps s a1 a2).management = s.management := by
  unfold State.vecOps; grind [State.management, foldl_management, State.count64_management]

theorem State.maskWrite_management (s : State) (a1) (a2) (a3) (a4) : (State.maskWrite s a1 a2 a3 a4).management = s.management := by
  unfold State.maskWrite; grind [State.management, foldl_management, State.vecOps_management, State.modCore_management]

theorem State.mergeArrive_management (s : State) (a1) : (State.mergeArrive s a1).management = s.management := by
  unfold State.mergeArrive; grind [State.management, foldl_management, State.modCluster_management, State.raiseCtx_management, State.count_management]

theorem State.mergeBarge_management (s : State) (a1) (a2) (a3) : (s.mergeBarge a1 a2 a3).management = s.management := by
  unfold State.mergeBarge
  split
  · exact State.hold_management s _
  · exact State.dataIn_management s _ _ _ _ (fun s i j => State.collIn_management s i j _)

theorem State.mergeTally_management (s : State) (a1) (a2) (a3) (a4) : (State.mergeTally s a1 a2 a3 a4).management = s.management := by
  unfold State.mergeTally; grind [State.management, foldl_management, State.countAtp_management, State.count_management, State.reportCore_management]

theorem State.mergeToWharf_management (s : State) (a1) (a2) (a3) (a4) (a5) : (State.mergeToWharf s a1 a2 a3 a4 a5).management = s.management := by
  unfold State.mergeToWharf; grind [State.management, foldl_management, State.countAtp_management, State.mergeTally_management, State.wharfWrite_management, State.syncInc_management]

theorem State.mergeDeliver_management (s : State) (a1) (a2) : (State.mergeDeliver s a1 a2).management = s.management := by
  unfold State.mergeDeliver; grind [State.management, foldl_management, State.modCluster_management, State.count64_management, State.mergeToWharf_management, State.collLeaf_management, State.mergeTally_management]

theorem State.mxReject_management (s : State) (a1) (a2) (a3) (a4) (a5) : (State.mxReject s a1 a2 a3 a4 a5).management = s.management := by
  unfold State.mxReject; grind [State.management, foldl_management, State.wr_management, State.raiseCtx_management]

theorem State.mxaHandover_management (s : State) (a1) : (State.mxaHandover s a1).management = s.management := by
  unfold State.mxaHandover; grind [State.management, foldl_management, State.modCore_management, State.scbRelease_management]

theorem State.mxaOsSwapOut_management (s : State) (a1) : (State.mxaOsSwapOut s a1).management = s.management := by
  unfold State.mxaOsSwapOut; grind [State.management, foldl_management, State.modCore_management, State.scbRelease_management]

theorem State.mxaShadowFull_management (s : State) (a1) (a2) : (State.mxaShadowFull s a1 a2).management = s.management := by
  unfold State.mxaShadowFull; grind [State.management, foldl_management, State.scbRelease_management, State.modCore_management]

theorem State.startClaim_management (s : State) (a1) (a2) : (State.startClaim s a1 a2).management = s.management := by
  unfold State.startClaim; grind [State.management, foldl_management, State.modCore_management, State.scbRelease_management, State.atReject_management, State.mxReject_management]

theorem State.osArray_management (s : State) (a1) (a2) (a3) (a4) (a5) (a6) : (State.osArray s a1 a2 a3 a4 a5 a6).management = s.management := by
  unfold State.osArray; grind [State.management, foldl_management, State.modCore_management, State.countMacs_management, State.countDrn_management]

theorem State.startOsmul_management (s : State) (a1) (a2) (a3) : (State.startOsmul s a1 a2 a3).management = s.management := by
  unfold State.startOsmul; grind [State.management, foldl_management, State.osArray_management, State.modCore_management, State.scbRelease_management]

theorem State.startSload_management (s : State) (a1) (a2) : (State.startSload s a1 a2).management = s.management := by
  unfold State.startSload; grind [State.management, foldl_management, State.modCore_management]

theorem State.wsArray_management (s : State) (a1) (a2) (a3) (a4) (a5) (a6) : (State.wsArray s a1 a2 a3 a4 a5 a6).management = s.management := by
  unfold State.wsArray; grind [State.management, foldl_management, State.modCore_management, State.countMacs_management, State.countDrn_management]

theorem State.startWsmul_management (s : State) (a1) (a2) (a3) : (State.startWsmul s a1 a2 a3).management = s.management := by
  unfold State.startWsmul; grind [State.management, foldl_management, State.modCore_management, State.scbRelease_management, State.mxReject_management, State.wsArray_management]

theorem State.mxaStart_management (s : State) (a1) (a2) : (State.mxaStart s a1 a2).management = s.management := by
  unfold State.mxaStart; grind [State.management, foldl_management, State.modCore_management, State.startClaim_management, State.startSload_management, State.startWsmul_management, State.startOsmul_management, State.scbRelease_management]

theorem State.mxaSwapEffect_management (s : State) (a1) (a2) : (State.mxaSwapEffect s a1 a2).management = s.management := by
  unfold State.mxaSwapEffect; grind [State.management, foldl_management, State.modCore_management, State.scbRelease_management]

theorem State.mxqOp_management (s : State) (a1) (a2) (a3) : (State.mxqOp s a1 a2 a3).management = s.management := by
  unfold State.mxqOp; grind [State.management, foldl_management, State.stall_management, State.retire_management, State.mxReject_management, State.nextSeq_management, State.scbAdd_management, State.modCore_management, State.highWater_management]

theorem State.nanArrive_management (s : State) : (State.nanArrive s).management = s.management := by
  unfold State.nanArrive; grind [State.management, foldl_management, State.fillRec_management, State.raise_management]

theorem State.newSid_management (s : State) (a1) : (State.newSid s a1).2.management = s.management := by
  unfold State.newSid; grind [State.management, foldl_management, State.draw_management]

theorem State.openFrame_management (s : State) (a1) (a2) : (State.openFrame s a1 a2).management = s.management := by
  unfold State.openFrame; grind [State.management, foldl_management, State.frameRow_management]

theorem State.pciFault_management (s : State) (a1) (a2) : (State.pciFault s a1 a2).management = s.management := by
  unfold State.pciFault; grind [State.management, foldl_management, State.accessError_management]

theorem State.planCmd_management (s : State) (a1) (a2) (a3) (a4) (a5) (a6) : (State.planCmd s a1 a2 a3 a4 a5 a6).management = s.management := by
  unfold State.planCmd; grind [State.management, foldl_management, State.hold_management, State.modPlan_management, State.accessError_management]

theorem State.planArm_management (s : State) (a1) (a2) : (State.planArm s a1 a2).management = s.management := by
  unfold State.planArm; grind [State.management, foldl_management, State.planCmd_management]

theorem State.planClear_management (s : State) (a1) (a2) : (State.planClear s a1 a2).management = s.management := by
  unfold State.planClear; grind [State.management, foldl_management, State.planCmd_management]

theorem State.planDisarm_management (s : State) (a1) (a2) : (State.planDisarm s a1 a2).management = s.management := by
  unfold State.planDisarm; grind [State.management, foldl_management, State.planCmd_management]

theorem State.planLoad_management (s : State) (a1) (a2) : (State.planLoad s a1 a2).management = s.management := by
  unfold State.planLoad; grind [State.management, foldl_management, State.planCmd_management]

theorem State.planLoaded_management (s : State) (a1) : (State.planLoaded s a1).management = s.management := by
  unfold State.planLoaded; grind [State.management, foldl_management, State.modPlan_management, State.fceRaise_management, State.setFld_management, State.memRead_management, State.portsCheck_management]

theorem State.pldmSay_management (s : State) (a1) (a2) : (State.pldmSay s a1 a2).management = s.management := by
  unfold State.pldmSay; grind [State.management, foldl_management, State.emit_management]

theorem State.storePieces_management (s : State) (a1) (a2) (a3) (a4) (a5) : (State.storePieces s a1 a2 a3 a4 a5).1.management = s.management := by
  fun_induction State.storePieces s a1 a2 a3 a4 a5 <;> grind [State.management, foldl_management, State.xlate_management, State.memFault_management]

theorem State.storeRuns_management (s : State) (a1) (a2) (a3) (a4) : (State.storeRuns s a1 a2 a3 a4).1.management = s.management := by
  fun_induction State.storeRuns s a1 a2 a3 a4 <;> grind [State.management, foldl_management, State.storePieces_management]

theorem State.portStore_management (s : State) (a1) (a2) (a3) : (State.portStore s a1 a2 a3).1.management = s.management := by
  unfold State.portStore; grind [State.management, foldl_management, State.raiseCtx_management, State.storeRuns_management, State.modMem_management, State.modCore_management]

theorem State.preread_management (s : State) (a1) : (State.preread s a1).management = s.management := by
  unfold State.preread; grind [State.management, foldl_management, State.memRead_management, State.modCtx_management]

theorem State.quarantine_management (s : State) (a1) (a2) : (State.quarantine s a1 a2).management = s.management := by
  unfold State.quarantine; grind [State.management, foldl_management, State.modLink_management, State.raisePage_management, State.linksChanged_management, State.resend_management]

theorem State.readMaybe_management (s : State) (a1) (a2) (a3) : (State.readMaybe s a1 a2 a3).1.management = s.management := by
  unfold State.readMaybe; grind [State.management, foldl_management, State.memRead_management]

theorem State.readReg_management (s : State) (a1) (a2) (a3) : (State.readReg s a1 a2 a3).management = s.management := by
  unfold State.readReg; grind [State.management, foldl_management]

theorem State.stageImage_management (s : State) (a1) : (State.stageImage s a1).management = s.management := by
  unfold State.stageImage; grind [State.management, foldl_management]

theorem State.stuck_management (s : State) : (State.stuck s).management = s.management := by
  unfold State.stuck; grind [State.management, foldl_management]

theorem State.vecSx_management (s : State) (a1) (a2) (a3) : (State.vecSx s a1 a2 a3).management = s.management := by
  unfold State.vecSx; grind [State.management, foldl_management, State.modCore_management]

theorem State.redWrite_management (s : State) (a1) (a2) (a3) : (State.redWrite s a1 a2 a3).management = s.management := by
  unfold State.redWrite; grind [State.management, foldl_management, State.vecSx_management, State.modCore_management]

theorem State.rwAcked_management (s : State) (a1) (a2) (a3) : (State.rwAcked s a1 a2 a3).management = s.management := by
  unfold State.rwAcked; grind [State.management, foldl_management, State.flightAbort_management, State.dmStop_management, State.modCore_management]

theorem State.rwackBarge_management (s : State) (a1) (a2) (a3) : (State.rwackBarge s a1 a2 a3).management = s.management := by
  unfold State.rwackBarge; grind [State.management, foldl_management, State.hold_management, State.dataIn_management, State.rwAcked_management]

theorem State.rwriteBarge_management (s : State) (a1) (a2) (a3) : (State.rwriteBarge s a1 a2 a3).management = s.management := by
  unfold State.rwriteBarge; grind [State.management, foldl_management, State.hold_management, State.dataIn_management, State.modPlan_management]

theorem State.tickStop_management (s : State) (a1) (a2) : (State.tickStop s a1 a2).management = s.management := by
  unfold State.tickStop; grind [State.management, foldl_management, State.accessError_management]

theorem State.rtSync_management (s : State) (a1) (a2) (a3) : (State.rtSync s a1 a2 a3).management = s.management := by
  unfold State.rtSync; grind [State.management, foldl_management, State.syncInc_management]

theorem State.rtLand_management (s : State) (a1) (a2) : (State.rtLand s a1 a2).management = s.management := by
  unfold State.rtLand; grind [State.management, foldl_management, State.memWrite_management, State.rteError_management, State.rtSync_management]

theorem State.rtWriteDir_management (s : State) (a1) (a2) : (State.rtWriteDir s a1 a2).1.management = s.management := by
  fun_induction State.rtWriteDir s a1 a2 <;> grind [State.management, foldl_management, State.memWrite_management]

theorem State.rtFetchEnd_management (s : State) (a1) (a2) : (State.rtFetchEnd s a1 a2).management = s.management := by
  unfold State.rtFetchEnd; grind [State.management, foldl_management, State.raiseCtx_management, State.count_management, State.rtWriteDir_management, State.rteError_management, State.rtLand_management]

theorem State.rtWeight_management (s : State) (a1) : (State.rtWeight s a1).management = s.management := by
  unfold State.rtWeight; grind [State.management, foldl_management, State.raiseCtx_management, State.rtFetchEnd_management, State.memWrite_management, State.rteError_management]

theorem State.rtDrain_management (s : State) : (State.rtDrain s).management = s.management := by
  unfold State.rtDrain; grind [State.management, foldl_management, State.rtWeight_management]

theorem State.weightBarge_management (s : State) (a1) (a2) (a3) : (State.weightBarge s a1 a2 a3).management = s.management := by
  unfold State.weightBarge; grind [State.management, foldl_management, State.hold_management, State.dataIn_management, State.count64_management, State.rtDrain_management]

theorem State.ringDrain_management (s : State) (a1) (a2) : (State.ringDrain s a1 a2).management = s.management := by
  fun_induction State.ringDrain s a1 a2 <;> grind [State.management, foldl_management, State.outWrite_management, State.modCtx_management]

theorem State.rtCommit_management (s : State) (a1) (a2) (a3) : (State.rtCommit s a1 a2 a3).management = s.management := by
  unfold State.rtCommit; grind [State.management, foldl_management, State.modCtx_management, State.count_management, State.rteError_management]

theorem State.rtReadRows_management (s : State) (a1) (a2) (a3) (a4) : (State.rtReadRows s a1 a2 a3 a4).1.management = s.management := by
  fun_induction State.rtReadRows s a1 a2 a3 a4 <;> grind [State.management, foldl_management, State.memRead_management, State.rteError_management]

theorem State.rtRequests_management (s : State) (a1) (a2) (a3) : (State.rtRequests s a1 a2 a3).management = s.management := by
  unfold State.rtRequests; grind [State.management, foldl_management, State.modExch_management, State.sendBarge_management]

theorem State.rteFault_management (s : State) (a1) (a2) : (State.rteFault s a1 a2).management = s.management := by
  unfold State.rteFault; grind [State.management, foldl_management, State.rteError_management]

theorem State.rtRun_management (s : State) (a1) : (State.rtRun s a1).management = s.management := by
  unfold State.rtRun; grind (splits := 40) (ematch := 20) (gen := 20) [State.management, foldl_management, State.readMaybe_management, State.rteFault_management, State.rtReadRows_management, State.memWrite_management, State.rtWriteDir_management, State.rtSync_management, State.rtRequests_management, State.rtCommit_management]

theorem State.rteSelectOp_management (s : State) : (State.rteSelectOp s).management = s.management := by
  unfold State.rteSelectOp; grind [State.management, foldl_management, State.rteError_management, State.rtRun_management]

theorem State.rtqOp_management (s : State) (a1) (a2) : (State.rtqOp s a1 a2).management = s.management := by
  unfold State.rtqOp; grind [State.management, foldl_management, State.stall_management, State.relDone_management, State.retire_management, State.nextSeq_management, State.rteError_management, State.count_management]

theorem State.setRd_management (s : State) (a1) (a2) (a3) (a4) : (State.setRd s a1 a2 a3 a4).management = s.management := by
  unfold State.setRd; grind [State.management, foldl_management, State.retire_management, State.modCore_management]

theorem State.storeOp_management (s : State) (a1) (a2) (a3) (a4) (a5) : (State.storeOp s a1 a2 a3 a4 a5).management = s.management := by
  unfold State.storeOp; grind [State.management, foldl_management, State.scalarFault_management, State.stall_management, State.retire_management, State.wharfWrite_management, State.portStore_management]

theorem State.tokenOut_management (s : State) (a1) (a2) (a3) (a4) : (State.tokenOut s a1 a2 a3 a4).management = s.management := by
  unfold State.tokenOut; grind [State.management, foldl_management, State.modBerth_management, State.count_management, State.respond_management]

theorem State.sampleOne_management (s : State) (a1) : (State.sampleOne s a1).management = s.management := by
  unfold State.sampleOne; grind [State.management, foldl_management, State.count64_management, State.raiseCtx_management, State.count_management, State.endBerth_management, State.tokenOut_management, State.draw_management, State.modBerth_management]

theorem State.scoreArrive_management (s : State) : (State.scoreArrive s).management = s.management := by
  unfold State.scoreArrive; grind [State.management, foldl_management, State.modYard_management]

theorem State.spdmSay_management (s : State) (a1) (a2) (a3) (a4) (a5) : (State.spdmSay s a1 a2 a3 a4 a5).management = s.management := by
  unfold State.spdmSay; grind [State.management, foldl_management, State.emit_management]

theorem State.spdmError_management (s : State) (a1) (a2) (a3) : (State.spdmError s a1 a2 a3).management = s.management := by
  unfold State.spdmError; grind [State.management, foldl_management, State.spdmSay_management]

theorem State.spdm_management (s : State) t f (h : ∀ s, (f s).management = s.management) : (s.spdm t f).management = s.management := by
  unfold State.spdm; grind [State.management, foldl_management, State.spdmError_management]

theorem State.spqOp_management (s : State) (a1) (a2) : (State.spqOp s a1 a2).management = s.management := by
  unfold State.spqOp; grind [State.management, foldl_management, State.stall_management, State.relDone_management, State.retire_management, State.badSample_management, State.memRead_management, State.modCtx_management]

theorem State.sywWaitEnd_management (s : State) (a1) : (State.sywWaitEnd s a1).management = s.management := by
  unfold State.sywWaitEnd; grind [State.management, foldl_management, State.sywEnd_management]

theorem State.unlock_management (s : State) : (State.unlock s).management = s.management := by
  unfold State.unlock; grind [State.management, foldl_management, State.raisePage_management, State.setFld_management, State.flightAbort_management, State.modPlan_management]

theorem State.vecRange_management (s : State) (a1) (a2) : (State.vecRange s a1 a2).management = s.management := by
  unfold State.vecRange; grind [State.management, foldl_management, State.count_management, State.modCore_management]

theorem State.vecCart_management (s : State) (a1) (a2) (a3) : (State.vecCart s a1 a2 a3).management = s.management := by
  unfold State.vecCart; grind [State.management, foldl_management, State.vecSx_management, State.modCore_management, State.vecRange_management, State.count_management]

theorem State.vecCmp_management (s : State) (a1) (a2) (a3) : (State.vecCmp s a1 a2 a3).management = s.management := by
  unfold State.vecCmp; grind [State.management, foldl_management, State.maskWrite_management]

theorem State.vecReport_management (s : State) (a1) (a2) (a3) (a4) : (State.vecReport s a1 a2 a3 a4).management = s.management := by
  unfold State.vecReport; grind [State.management, foldl_management, State.modCore_management, State.count_management, State.reportCore_management]

theorem State.vecWrite_management (s : State) (a1) (a2) (a3) (a4) (a5) : (State.vecWrite s a1 a2 a3 a4 a5).management = s.management := by
  unfold State.vecWrite; grind [State.management, foldl_management, State.modCore_management, State.vecOps_management, State.vecReport_management]

theorem State.vecCtrl_management (s : State) (a1) (a2) (a3) : (State.vecCtrl s a1 a2 a3).management = s.management := by
  unfold State.vecCtrl; grind [State.management, foldl_management, State.modCore_management, State.vecSx_management, State.vecWrite_management]

theorem State.vecCvt_management (s : State) (a1) (a2) (a3) : (State.vecCvt s a1 a2 a3).management = s.management := by
  unfold State.vecCvt; grind [State.management, foldl_management, State.modCore_management, State.vecOps_management, State.vecReport_management]

theorem State.vecElem_management (s : State) (a1) (a2) (a3) : (State.vecElem s a1 a2 a3).management = s.management := by
  unfold State.vecElem; grind [State.management, foldl_management, State.vecWrite_management]

theorem State.vecEmpty_management (s : State) (a1) (a2) (a3) : (State.vecEmpty s a1 a2 a3).management = s.management := by
  unfold State.vecEmpty; grind [State.management, foldl_management, State.modCore_management, State.count_management]

theorem State.vecMask_management (s : State) (a1) (a2) : (State.vecMask s a1 a2).management = s.management := by
  unfold State.vecMask; grind [State.management, foldl_management, State.maskWrite_management, State.modCore_management, State.vecSx_management]

theorem State.vecReject_management (s : State) (a1) (a2) (a3) : (State.vecReject s a1 a2 a3).management = s.management := by
  unfold State.vecReject; grind [State.management, foldl_management, State.wr_management, State.raiseCtx_management]

theorem State.vecMem_management (s : State) (a1) (a2) (a3) : (State.vecMem s a1 a2 a3).management = s.management := by
  unfold State.vecMem; grind [State.management, foldl_management, State.vecReject_management, State.vecWrite_management, State.vecOps_management, State.modCore_management, State.portBefore_management, State.dcacheRead_management, State.portStore_management]

theorem State.vecPerm_management (s : State) (a1) (a2) (a3) : (State.vecPerm s a1 a2 a3).management = s.management := by
  unfold State.vecPerm; grind [State.management, foldl_management, State.vecWrite_management, State.vecRange_management, State.modCore_management, State.vecOps_management, State.vecSx_management]

theorem State.vecQmx_management (s : State) (a1) (a2) (a3) : (State.vecQmx s a1 a2 a3).management = s.management := by
  unfold State.vecQmx; grind [State.management, foldl_management, State.modCore_management, State.vecOps_management, State.count_management]

theorem State.vecRed_management (s : State) (a1) (a2) (a3) : (State.vecRed s a1 a2 a3).management = s.management := by
  unfold State.vecRed; grind [State.management, foldl_management, State.vecOps_management, State.vecEmpty_management, State.redWrite_management, State.vecReport_management]

theorem State.vecExec_management (s : State) (a1) (a2) (a3) : (State.vecExec s a1 a2 a3).management = s.management := by
  unfold State.vecExec; grind [State.management, foldl_management, State.vecCtrl_management, State.vecElem_management, State.vecCmp_management, State.vecQmx_management, State.vecCvt_management, State.vecPerm_management, State.vecRed_management, State.vecMask_management, State.vecMem_management, State.vecCart_management]

theorem State.vecIssue_management (s : State) (a1) : (State.vecIssue s a1).management = s.management := by
  unfold State.vecIssue; grind [State.management, foldl_management, State.modCore_management, State.scbRelease_management, State.vecExec_management]

theorem State.vecOp_management (s : State) (a1) (a2) (a3) (a4) : (State.vecOp s a1 a2 a3 a4).management = s.management := by
  unfold State.vecOp; grind (splits := 40) (ematch := 20) (gen := 20) [State.management, foldl_management, State.stall_management, State.retire_management, State.vecReject_management, State.nextSeq_management, State.vecExec_management, State.scbAdd_management, State.modCore_management, State.highWater_management]

theorem State.windowRead_management (s : State) (a1) (a2) (a3) : (State.windowRead s a1 a2 a3).1.management = s.management := by
  unfold State.windowRead; grind [State.management, foldl_management, State.memRead_management, State.apertureFault_management]

theorem State.windowWrite_management (s : State) (a1) (a2) (a3) : (State.windowWrite s a1 a2 a3).management = s.management := by
  unfold State.windowWrite; grind [State.management, foldl_management, State.apertureFault_management, State.memWrite_management]

theorem State.xlatInv_management (s : State) (a1) (a2) : (State.xlatInv s a1 a2).management = s.management := by
  unfold State.xlatInv; grind [State.management, foldl_management]

theorem YardRun.item_management (s : State) (r : YardRun) a b (h : (r.s.management = s.management)) : (r.item a b).s.management = s.management := by
  unfold YardRun.item; grind [State.management, foldl_management, State.modYard_management, State.makeCoach_management]

theorem YardRun.items_management (s : State) (xs : List ChainItem) a (r : YardRun) (h : (r.s.management = s.management)) : (xs.foldl (fun r it => r.item a it) r).s.management = s.management := by
  induction xs generalizing r with
  | nil => exact h
  | cons x xs ih => exact ih _ (YardRun.item_management s r a x h)

theorem YardRun.chains_management (s : State) (xs : List (Nat × List ChainItem)) a b (r : YardRun) (h : (r.s.management = s.management)) : (xs.foldl (fun r c => r.chainOf a b c) r).s.management = s.management := by
  induction xs generalizing r with
  | nil => exact h
  | cons x xs ih => exact ih _ (YardRun.items_management s x.2 a { r with chain := [] } h)

theorem State.yardApply_management (s : State) (a1) (a2) (a3) : (State.yardApply s a1 a2 a3).1.management = s.management := by
  have h := YardRun.chains_management s a3.chains a1 a3.berth ⟨s, true, [], 0, 0⟩ rfl
  unfold State.yardApply
  generalize List.foldl _ _ a3.chains = r at h ⊢
  grind [State.management, foldl_management, State.modCtx_management, State.count_management, State.count64_management]

theorem State.yardResult_management (s : State) (a1) (a2) (a3) : (State.yardResult s a1 a2 a3).management = s.management := by
  unfold State.yardResult; grind [State.management, foldl_management, State.wharfWrite_management]

theorem State.yardRefuse_management (s : State) (a1) (a2) : (State.yardRefuse s a1 a2).management = s.management := by
  unfold State.yardRefuse; grind [State.management, foldl_management, State.yardErr_management, State.count_management, State.yardResult_management]

theorem State.yardDo_management (s : State) (a1) (a2) : (State.yardDo s a1 a2).management = s.management := by
  unfold State.yardDo; grind [State.management, foldl_management, State.yardResult_management, State.modYard_management, State.modCtx_management, State.yardApply_management, State.yardRefuse_management]

theorem State.yardRetire_management (s : State) (a1) : (State.yardRetire s a1).management = s.management := by
  unfold State.yardRetire; grind [State.management, foldl_management, State.scbRelease_management]

theorem State.yardExec_management (s : State) (a1) : (State.yardExec s a1).management = s.management := by
  unfold State.yardExec; grind [State.management, foldl_management, State.modYard_management, State.count_management, State.yardErr_management, State.yardDo_management, State.yardRetire_management]

end Sys2Proof.Machine
end

