-- ==== Sys2Proof/Laws/CoresFrame.lean ====
section
/-! SUPPORT. Which shared operations leave the cores alone: one lemma per operation. -/

namespace Sys2Proof.Machine

theorem foldl_coresOf {α} (g : State → α → State) (xs : List α) (s : State) (h : ∀ s a, (g s a).coresOf = s.coresOf) : (xs.foldl g s).coresOf = s.coresOf := by
  induction xs generalizing s with
  | nil => rfl
  | cons x xs ih => simp [ih, h]

theorem State.wr_coresOf (s : State) (a1) (a2) (a3) (a4) (a5) : (State.wr s a1 a2 a3 a4 a5).coresOf = s.coresOf := by
  unfold State.wr; grind [State.coresOf, foldl_coresOf]

theorem State.wr64_coresOf (s : State) (a1) (a2) (a3) (a4) (a5) : (State.wr64 s a1 a2 a3 a4 a5).coresOf = s.coresOf := by
  unfold State.wr64; grind [State.coresOf, foldl_coresOf, State.wr_coresOf]

theorem State.count64_coresOf (s : State) (a1) (a2) (a3) (a4) (a5) : (State.count64 s a1 a2 a3 a4 a5).coresOf = s.coresOf := by
  unfold State.count64; grind [State.coresOf, foldl_coresOf, State.wr64_coresOf]

theorem State.count_coresOf (s : State) (a1) (a2) (a3) (a4) (a5) : (State.count s a1 a2 a3 a4 a5).coresOf = s.coresOf := by
  unfold State.count; grind [State.coresOf, foldl_coresOf, State.wr_coresOf]

theorem State.fceCount_coresOf (s : State) (a1) (a2) : (State.fceCount s a1 a2).coresOf = s.coresOf := by
  unfold State.fceCount; grind [State.coresOf, foldl_coresOf, State.count_coresOf]

theorem State.dropBarge_coresOf (s : State) (a1) (a2) : (State.dropBarge s a1 a2).coresOf = s.coresOf := by
  unfold State.dropBarge; grind [State.coresOf, foldl_coresOf, State.count_coresOf, State.fceCount_coresOf]

theorem State.setCtx_coresOf (s : State) (a1) (a2) : (State.setCtx s a1 a2).coresOf = s.coresOf := by
  unfold State.setCtx; grind [State.coresOf, foldl_coresOf]

theorem State.modCtx_coresOf (s : State) (a1) (a2) : (State.modCtx s a1 a2).coresOf = s.coresOf := by
  unfold State.modCtx; grind [State.coresOf, foldl_coresOf, State.setCtx_coresOf]

theorem State.condemn_coresOf (s : State) (a1) (a2) (a3) (a4) : (State.condemn s a1 a2 a3 a4).coresOf = s.coresOf := by
  unfold State.condemn; grind [State.coresOf, foldl_coresOf, State.modCtx_coresOf]

theorem State.emit_coresOf (s : State) (a1) : (State.emit s a1).coresOf = s.coresOf := by
  unfold State.emit; grind [State.coresOf, foldl_coresOf]

theorem State.recordIn_coresOf (s : State) (a1) (a2) : (State.recordIn s a1 a2).coresOf = s.coresOf := by
  unfold State.recordIn; grind [State.coresOf, foldl_coresOf, State.wr_coresOf, State.count_coresOf]

theorem State.record_coresOf (s : State) (a1) : (State.record s a1).coresOf = s.coresOf := by
  unfold State.record; grind [State.coresOf, foldl_coresOf, State.recordIn_coresOf, State.emit_coresOf]

theorem State.updAlert_coresOf (s : State) : (State.updAlert s).coresOf = s.coresOf := by
  unfold State.updAlert; grind [State.coresOf, foldl_coresOf, State.emit_coresOf]

theorem State.imageRefused_coresOf (s : State) (a1) : (State.imageRefused s a1).coresOf = s.coresOf := by
  unfold State.imageRefused; grind [State.coresOf, foldl_coresOf, State.updAlert_coresOf, State.record_coresOf]

theorem State.runImage_coresOf (s : State) (a1) (a2) : (State.runImage s a1 a2).coresOf = s.coresOf := by
  unfold State.runImage; grind [State.coresOf, foldl_coresOf]

theorem State.pickImage_coresOf (s : State) (a1) : (State.pickImage s a1).coresOf = s.coresOf := by
  unfold State.pickImage; grind [State.coresOf, foldl_coresOf, State.runImage_coresOf, State.imageRefused_coresOf]

theorem State.fwRestart_coresOf (s : State) : (State.fwRestart s).coresOf = s.coresOf := by
  unfold State.fwRestart; grind [State.coresOf, foldl_coresOf, State.pickImage_coresOf, State.count_coresOf, State.condemn_coresOf]

theorem State.askRestart_coresOf (s : State) : (State.askRestart s).coresOf = s.coresOf := by
  unfold State.askRestart; grind [State.coresOf, foldl_coresOf, State.fwRestart_coresOf]

theorem State.deviceStop_coresOf (s : State) (a1) : (State.deviceStop s a1).coresOf = s.coresOf := by
  unfold State.deviceStop; grind [State.coresOf, foldl_coresOf]

theorem State.modLink_coresOf (s : State) (a1) (a2) : (State.modLink s a1 a2).coresOf = s.coresOf := by
  unfold State.modLink; grind [State.coresOf, foldl_coresOf]

theorem State.dropLink_coresOf (s : State) (a1) : (State.dropLink s a1).coresOf = s.coresOf := by
  unfold State.dropLink; grind [State.coresOf, foldl_coresOf, State.modLink_coresOf, State.count_coresOf, State.wr_coresOf, State.record_coresOf]

theorem State.modMem_coresOf (s : State) (a1) : (State.modMem s a1).coresOf = s.coresOf := by
  unfold State.modMem; grind [State.coresOf, foldl_coresOf]

theorem State.fatalStop_coresOf (s : State) : (State.fatalStop s).coresOf = s.coresOf := by
  unfold State.fatalStop; grind [State.coresOf, foldl_coresOf, State.modMem_coresOf, State.dropLink_coresOf]

theorem State.trigCapture_coresOf (s : State) (a1) (a2) : (State.trigCapture s a1 a2).coresOf = s.coresOf := by
  unfold State.trigCapture; grind [State.coresOf, foldl_coresOf, State.record_coresOf, State.count_coresOf]

theorem State.act_coresOf (s : State) (a1) : (State.act s a1).coresOf = s.coresOf := by
  unfold State.act; grind [State.coresOf, foldl_coresOf, State.deviceStop_coresOf, State.trigCapture_coresOf, State.askRestart_coresOf, State.condemn_coresOf, State.fatalStop_coresOf]

theorem State.logEvent_coresOf (s : State) (a1) (a2) : (State.logEvent s a1 a2).coresOf = s.coresOf := by
  unfold State.logEvent; grind [State.coresOf, foldl_coresOf]

theorem State.logError_coresOf (s : State) (a1) : (State.logError s a1).coresOf = s.coresOf := by
  unfold State.logError; grind [State.coresOf, foldl_coresOf, State.logEvent_coresOf]

theorem State.draw_coresOf (s : State) : (State.draw s).2.coresOf = s.coresOf := by
  unfold State.draw; grind [State.coresOf, foldl_coresOf]

theorem State.quietWrite_coresOf (s : State) (a1) (a2) (a3) : (State.quietWrite s a1 a2 a3).coresOf = s.coresOf := by
  unfold State.quietWrite; grind [State.coresOf, foldl_coresOf, State.modMem_coresOf]

theorem State.trace_coresOf (s : State) (a1) (a2) (a3) (a4) (a5) : (State.trace s a1 a2 a3 a4 a5).coresOf = s.coresOf := by
  unfold State.trace; grind [State.coresOf, foldl_coresOf, State.draw_coresOf, State.modCtx_coresOf, State.wr_coresOf, State.quietWrite_coresOf]

theorem State.raise_coresOf (s : State) (a1) : (State.raise s a1).coresOf = s.coresOf := by
  unfold State.raise; grind [State.coresOf, foldl_coresOf, State.record_coresOf, State.trace_coresOf, State.updAlert_coresOf, State.act_coresOf, State.logError_coresOf]

theorem State.fceRaise_coresOf (s : State) (a1) (a2) (a3) : (State.fceRaise s a1 a2 a3).coresOf = s.coresOf := by
  unfold State.fceRaise; grind [State.coresOf, foldl_coresOf, State.raise_coresOf]

theorem State.modPlan_coresOf (s : State) (a1) (a2) : (State.modPlan s a1 a2).coresOf = s.coresOf := by
  unfold State.modPlan; grind [State.coresOf, foldl_coresOf]

theorem State.putBarge_coresOf (s : State) (a1) (a2) (a3) : (State.putBarge s a1 a2 a3).coresOf = s.coresOf := by
  unfold State.putBarge; grind [State.coresOf, foldl_coresOf, State.count64_coresOf, State.emit_coresOf]

theorem State.sendAcks_coresOf (s : State) (a1) : (State.sendAcks s a1).coresOf = s.coresOf := by
  unfold State.sendAcks; grind [State.coresOf, foldl_coresOf, State.putBarge_coresOf]

theorem State.oweAck_coresOf (s : State) (a1) (a2) : (State.oweAck s a1 a2).coresOf = s.coresOf := by
  unfold State.oweAck; grind [State.coresOf, foldl_coresOf, State.sendAcks_coresOf]

theorem State.bargeIn_coresOf (s : State) (a1) (a2) (a3) : (State.bargeIn s a1 a2 a3).1.coresOf = s.coresOf := by
  unfold State.bargeIn; grind (splits := 40) (ematch := 20) (gen := 20) [State.coresOf, foldl_coresOf, State.count64_coresOf, State.dropBarge_coresOf, State.fceRaise_coresOf, State.oweAck_coresOf, State.fceCount_coresOf, State.modPlan_coresOf]

theorem State.undeliverable_coresOf (s : State) (a1) : (State.undeliverable s a1).coresOf = s.coresOf := by
  unfold State.undeliverable; grind [State.coresOf, foldl_coresOf, State.modPlan_coresOf]

theorem State.offer_coresOf (s : State) (a1) (a2) : (State.offer s a1 a2).coresOf = s.coresOf := by
  unfold State.offer; grind [State.coresOf, foldl_coresOf, State.undeliverable_coresOf, State.putBarge_coresOf]

theorem State.floodBarge_coresOf (s : State) (a1) (a2) (a3) : (State.floodBarge s a1 a2 a3).coresOf = s.coresOf := by
  unfold State.floodBarge; grind [State.coresOf, foldl_coresOf, State.offer_coresOf]

theorem State.takeSeq_coresOf (s : State) (a1) (a2) : (State.takeSeq s a1 a2).2.coresOf = s.coresOf := by
  unfold State.takeSeq; grind [State.coresOf, foldl_coresOf, State.modPlan_coresOf]

theorem State.sendNotice_coresOf (s : State) (a1) (a2) (a3) (a4) : (State.sendNotice s a1 a2 a3 a4).coresOf = s.coresOf := by
  unfold State.sendNotice; grind [State.coresOf, foldl_coresOf, State.takeSeq_coresOf, State.modPlan_coresOf, State.floodBarge_coresOf]

theorem State.flightAbort_coresOf (s : State) (a1) (a2) (a3) (a4) (a5) (a6) : (State.flightAbort s a1 a2 a3 a4 a5 a6).coresOf = s.coresOf := by
  unfold State.flightAbort; grind [State.coresOf, foldl_coresOf, State.count_coresOf, State.modPlan_coresOf, State.wr_coresOf, State.fceRaise_coresOf, State.sendNotice_coresOf]

theorem State.hold_coresOf (s : State) (a1) : (State.hold s a1).coresOf = s.coresOf := by
  unfold State.hold; grind [State.coresOf, foldl_coresOf]

theorem State.abortBarge_coresOf (s : State) (a1) (a2) (a3) : (s.abortBarge a1 a2 a3).coresOf = s.coresOf := by
  unfold State.abortBarge
  split
  · exact State.hold_coresOf s _
  · generalize (⟨a2, a3⟩ : Barge) = b
    dsimp only
    have hb := State.bargeIn_coresOf s 7 a1 b
    generalize s.bargeIn 7 a1 b = r at hb ⊢
    obtain ⟨s1, _ | i⟩ := r
    · exact hb
    have h2 : (if b.hops = 0 then s1 else s1.floodBarge i (b.setFld 2 24 4 (b.hops - 1)) (s1.portOf a1)).coresOf = s.coresOf := by
      split
      · exact hb
      · exact (State.floodBarge_coresOf _ _ _ _).trans hb
    dsimp only
    generalize (if b.hops = 0 then s1 else _) = s2 at h2 ⊢
    have h3 : (if b.step < s2.lkp.now then s2 else s2.modPlan i fun p => { p with abortN := p.abortN ++ [(b.src, b.step)] }).coresOf = s.coresOf := by
      split
      · exact h2
      · exact (State.modPlan_coresOf _ _ _).trans h2
    generalize (if b.step < s2.lkp.now then s2 else _) = s3 at h3 ⊢
    split
    · exact h3
    · exact (State.flightAbort_coresOf _ _ _ _ _ _ _).trans h3

theorem State.raisePage_coresOf (s : State) (a1) (a2) (a3) (a4) : (State.raisePage s a1 a2 a3 a4).coresOf = s.coresOf := by
  unfold State.raisePage; grind [State.coresOf, foldl_coresOf, State.raise_coresOf]

theorem State.accessError_coresOf (s : State) (a1) (a2) : (State.accessError s a1 a2).coresOf = s.coresOf := by
  unfold State.accessError; grind [State.coresOf, foldl_coresOf, State.raise_coresOf, State.raisePage_coresOf]

theorem State.barged_coresOf (s : State) (a1) : (State.barged s a1).coresOf = s.coresOf := by
  unfold State.barged; grind [State.coresOf, foldl_coresOf, State.count_coresOf]

theorem State.ackOne_coresOf (s : State) (a1) (a2) (a3) (a4) (a5) : (State.ackOne s a1 a2 a3 a4 a5).coresOf = s.coresOf := by
  unfold State.ackOne; grind [State.coresOf, foldl_coresOf, State.barged_coresOf]

theorem State.pump1_coresOf (s : State) : (State.pump1 s).coresOf = s.coresOf := by
  unfold State.pump1; grind [State.coresOf, foldl_coresOf, State.undeliverable_coresOf, State.putBarge_coresOf]

theorem State.pump_coresOf (s : State) : (State.pump s).coresOf = s.coresOf := by
  unfold State.pump; grind [State.coresOf, foldl_coresOf, State.pump1_coresOf]

theorem State.ackBarge_coresOf (s : State) (a1) (a2) (a3) : (State.ackBarge s a1 a2 a3).coresOf = s.coresOf := by
  unfold State.ackBarge; grind [State.coresOf, foldl_coresOf, State.hold_coresOf, State.bargeIn_coresOf, State.pump_coresOf, State.ackOne_coresOf]

theorem State.activateNow_coresOf (s : State) (a1) : (State.activateNow s a1).coresOf = s.coresOf := by
  unfold State.activateNow; grind [State.coresOf, foldl_coresOf, State.modCtx_coresOf]

theorem State.setFld_coresOf (s : State) (a1) (a2) (a3) (a4) (a5) (a6) (a7) : (State.setFld s a1 a2 a3 a4 a5 a6 a7).coresOf = s.coresOf := by
  unfold State.setFld; grind [State.coresOf, foldl_coresOf, State.wr_coresOf]

theorem State.addDeficit_coresOf (s : State) (a1) (a2) : (State.addDeficit s a1 a2).coresOf = s.coresOf := by
  unfold State.addDeficit; grind [State.coresOf, foldl_coresOf, State.setFld_coresOf]

theorem State.raiseCtx_coresOf (s : State) (a1) (a2) (a3) (a4) (a5) (a6) : (State.raiseCtx s a1 a2 a3 a4 a5 a6).coresOf = s.coresOf := by
  unfold State.raiseCtx; grind [State.coresOf, foldl_coresOf, State.raise_coresOf]

theorem State.memFault_coresOf (s : State) (a1) (a2) (a3) : (State.memFault s a1 a2 a3).coresOf = s.coresOf := by
  unfold State.memFault; grind [State.coresOf, foldl_coresOf, State.raiseCtx_coresOf]

theorem State.xlate_coresOf (s : State) (a1) (a2) (a3) (a4) : (State.xlate s a1 a2 a3 a4).1.coresOf = s.coresOf := by
  unfold State.xlate; grind [State.coresOf, foldl_coresOf, State.draw_coresOf, State.modMem_coresOf]

theorem State.writePieces_coresOf (s : State) (a1) (a2) (a3) (a4) (a5) : (State.writePieces s a1 a2 a3 a4 a5).1.coresOf = s.coresOf := by
  fun_induction State.writePieces s a1 a2 a3 a4 a5 <;> grind [State.coresOf, foldl_coresOf, State.xlate_coresOf, State.memFault_coresOf, State.modMem_coresOf]

theorem State.memWrite_coresOf (s : State) (a1) (a2) (a3) (a4) : (State.memWrite s a1 a2 a3 a4).1.coresOf = s.coresOf := by
  unfold State.memWrite; grind [State.coresOf, foldl_coresOf, State.raiseCtx_coresOf, State.writePieces_coresOf]

theorem State.modBerth_coresOf (s : State) (a1) (a2) : (State.modBerth s a1 a2).coresOf = s.coresOf := by
  unfold State.modBerth; grind [State.coresOf, foldl_coresOf]

theorem State.addToks_coresOf (s : State) (a1) (a2) (a3) : (State.addToks s a1 a2 a3).coresOf = s.coresOf := by
  unfold State.addToks; grind [State.coresOf, foldl_coresOf, State.modBerth_coresOf, State.memWrite_coresOf, State.raiseCtx_coresOf]

theorem State.addTotal_coresOf (s : State) (a1) (a2) (a3) : (State.addTotal s a1 a2 a3).coresOf = s.coresOf := by
  unfold State.addTotal; grind [State.coresOf, foldl_coresOf, State.wr_coresOf, State.count_coresOf]

theorem State.addTotals_coresOf (s : State) : (State.addTotals s).coresOf = s.coresOf := by
  unfold State.addTotals; grind [State.coresOf, foldl_coresOf, State.addTotal_coresOf]

theorem State.setCluster_coresOf (s : State) (a1) (a2) : (State.setCluster s a1 a2).coresOf = s.coresOf := by
  unfold State.setCluster; grind [State.coresOf, foldl_coresOf]

theorem State.modCluster_coresOf (s : State) (a1) (a2) : (State.modCluster s a1 a2).coresOf = s.coresOf := by
  unfold State.modCluster; grind [State.coresOf, foldl_coresOf, State.setCluster_coresOf]

theorem State.ownClusters_coresOf (s : State) (a1) : (State.ownClusters s a1).coresOf = s.coresOf := by
  unfold State.ownClusters; grind [State.coresOf, foldl_coresOf, State.modCluster_coresOf]

theorem State.slotBack_coresOf (s : State) (a1) (a2) (a3) (a4) (a5) : (State.slotBack s a1 a2 a3 a4 a5).coresOf = s.coresOf := by
  unfold State.slotBack; grind [State.coresOf, foldl_coresOf, State.memWrite_coresOf]

theorem State.admitStep_coresOf (s : State) (a1) (a2) (a3) : (State.admitStep s a1 a2 a3).coresOf = s.coresOf := by
  unfold State.admitStep; grind [State.coresOf, foldl_coresOf, State.count_coresOf, State.slotBack_coresOf, State.ownClusters_coresOf, State.wr_coresOf, State.modCtx_coresOf, State.trace_coresOf]

theorem State.apertureFault_coresOf (s : State) (a1) : (State.apertureFault s a1).coresOf = s.coresOf := by
  unfold State.apertureFault; grind [State.coresOf, foldl_coresOf, State.accessError_coresOf]

theorem State.dropFrame_coresOf (s : State) : (State.dropFrame s).coresOf = s.coresOf := by
  unfold State.dropFrame; grind [State.coresOf, foldl_coresOf, State.count_coresOf]

theorem State.frameIn_coresOf (s : State) : (State.frameIn s).coresOf = s.coresOf := by
  unfold State.frameIn; grind [State.coresOf, foldl_coresOf, State.count_coresOf]

theorem State.modPort_coresOf (s : State) (a1) (a2) : (State.modPort s a1 a2).coresOf = s.coresOf := by
  unfold State.modPort; grind [State.coresOf, foldl_coresOf]

theorem State.putFrame_coresOf (s : State) (a1) (a2) : (State.putFrame s a1 a2).coresOf = s.coresOf := by
  unfold State.putFrame; grind [State.coresOf, foldl_coresOf, State.modPort_coresOf, State.count64_coresOf, State.emit_coresOf]

theorem State.outWrite_coresOf (s : State) (a1) (a2) : (State.outWrite s a1 a2).coresOf = s.coresOf := by
  unfold State.outWrite; grind [State.coresOf, foldl_coresOf, State.memWrite_coresOf, State.count_coresOf, State.wr_coresOf]

theorem State.ringOut_coresOf (s : State) (a1) (a2) : (State.ringOut s a1 a2).coresOf = s.coresOf := by
  unfold State.ringOut; grind [State.coresOf, foldl_coresOf, State.count_coresOf, State.modCtx_coresOf, State.outWrite_coresOf]

theorem State.respond_coresOf (s : State) (a1) (a2) (a3) (a4) : (State.respond s a1 a2 a3 a4).coresOf = s.coresOf := by
  unfold State.respond; grind [State.coresOf, foldl_coresOf, State.ringOut_coresOf, State.putFrame_coresOf, State.count_coresOf]

theorem State.reject_coresOf (s : State) (a1) (a2) (a3) (a4) : (State.reject s a1 a2 a3 a4).coresOf = s.coresOf := by
  unfold State.reject; grind [State.coresOf, foldl_coresOf, State.count_coresOf, State.raiseCtx_coresOf, State.respond_coresOf]

theorem State.appendOp_coresOf (s : State) (a1) (a2) (a3) : (State.appendOp s a1 a2 a3).1.coresOf = s.coresOf := by
  unfold State.appendOp; grind [State.coresOf, foldl_coresOf, State.dropFrame_coresOf, State.frameIn_coresOf, State.reject_coresOf, State.modBerth_coresOf, State.addToks_coresOf]

theorem State.modYard_coresOf (s : State) (a1) : (State.modYard s a1).coresOf = s.coresOf := by
  unfold State.modYard; grind [State.coresOf, foldl_coresOf]

theorem State.nextSeq_coresOf (s : State) (a1) (a2) (a3) : (State.nextSeq s a1 a2 a3).2.coresOf = s.coresOf := by
  unfold State.nextSeq; grind [State.coresOf, foldl_coresOf, State.wr_coresOf]

theorem State.yardErr_coresOf (s : State) (a1) (a2) (a3) (a4) (a5) : (State.yardErr s a1 a2 a3 a4 a5).coresOf = s.coresOf := by
  unfold State.yardErr; grind [State.coresOf, foldl_coresOf, State.raiseCtx_coresOf]

theorem State.srvYard_coresOf (s : State) (a1) (a2) : (State.srvYard s a1 a2).coresOf = s.coresOf := by
  unfold State.srvYard; grind [State.coresOf, foldl_coresOf, State.nextSeq_coresOf, State.yardErr_coresOf, State.modYard_coresOf]

theorem State.yardRelease_coresOf (s : State) (a1) (a2) : (State.yardRelease s a1 a2).coresOf = s.coresOf := by
  unfold State.yardRelease; grind [State.coresOf, foldl_coresOf, State.srvYard_coresOf]

theorem State.cancelOp_coresOf (s : State) (a1) (a2) : (State.cancelOp s a1 a2).1.coresOf = s.coresOf := by
  unfold State.cancelOp; grind [State.coresOf, foldl_coresOf, State.dropFrame_coresOf, State.count_coresOf, State.frameIn_coresOf, State.modBerth_coresOf, State.yardRelease_coresOf]

theorem State.ctxDrop_coresOf (s : State) (a1) : (State.ctxDrop s a1).coresOf = s.coresOf := by
  unfold State.ctxDrop; grind [State.coresOf, foldl_coresOf, State.count_coresOf, State.raiseCtx_coresOf, State.modCtx_coresOf]

theorem State.frameTag_coresOf (s : State) (a1) (a2) (a3) : (State.frameTag s a1 a2 a3).1.coresOf = s.coresOf := by
  unfold State.frameTag; grind [State.coresOf, foldl_coresOf, State.draw_coresOf, State.modCtx_coresOf]

theorem State.openMark_coresOf (s : State) (a1) (a2) : (State.openMark s a1 a2).1.coresOf = s.coresOf := by
  unfold State.openMark; grind [State.coresOf, foldl_coresOf, State.modCtx_coresOf, State.ctxDrop_coresOf, State.raiseCtx_coresOf]

theorem State.newDrbg_coresOf (s : State) (a1) (a2) : (State.newDrbg s a1 a2).2.coresOf = s.coresOf := by
  unfold State.newDrbg; grind [State.coresOf, foldl_coresOf, State.draw_coresOf]

theorem State.yardOpen_coresOf (s : State) (a1) (a2) (a3) : (State.yardOpen s a1 a2 a3).coresOf = s.coresOf := by
  unfold State.yardOpen; grind [State.coresOf, foldl_coresOf, State.srvYard_coresOf]

theorem State.openOp_coresOf (s : State) (a1) (a2) (a3) : (State.openOp s a1 a2 a3).coresOf = s.coresOf := by
  unfold State.openOp; grind [State.coresOf, foldl_coresOf, State.reject_coresOf, State.newDrbg_coresOf, State.modBerth_coresOf, State.count_coresOf, State.yardOpen_coresOf, State.addToks_coresOf, State.respond_coresOf]

theorem State.frameOp_coresOf (s : State) (a1) (a2) : (State.frameOp s a1 a2).1.coresOf = s.coresOf := by
  have h1 := State.frameTag_coresOf s (frCtx a2) (a2.take (a2.length - 16)) (a2.drop ((a2.take (a2.length - 16)).length))
  unfold State.frameOp
  dsimp only
  repeat' split
  all_goals grind [State.dropFrame_coresOf, State.raisePage_coresOf, State.frameTag_coresOf, State.raiseCtx_coresOf, State.ctxDrop_coresOf, State.openMark_coresOf, State.frameIn_coresOf, State.openOp_coresOf, State.appendOp_coresOf, State.cancelOp_coresOf]

theorem State.rxBytes_coresOf (s : State) (a1) (a2) : (State.rxBytes s a1 a2).coresOf = s.coresOf := by
  unfold State.rxBytes; grind [State.coresOf, foldl_coresOf, State.count64_coresOf]

theorem State.frameRow_coresOf (s : State) (a1) (a2) (a3) (a4) : (State.frameRow s a1 a2 a3 a4).coresOf = s.coresOf := by
  unfold State.frameRow; grind [State.coresOf, foldl_coresOf, State.hold_coresOf, State.frameOp_coresOf, State.rxBytes_coresOf]

theorem State.appendFrame_coresOf (s : State) (a1) (a2) : (State.appendFrame s a1 a2).coresOf = s.coresOf := by
  unfold State.appendFrame; grind [State.coresOf, foldl_coresOf, State.frameRow_coresOf]

theorem State.applyField_coresOf (s : State) (a1) (a2) (a3) (a4) : (State.applyField s a1 a2 a3 a4).coresOf = s.coresOf := by
  unfold State.applyField; grind [State.coresOf, foldl_coresOf, State.setFld_coresOf, State.wr_coresOf]

theorem State.bindPolicy_coresOf (s : State) (a1) : (State.bindPolicy s a1).coresOf = s.coresOf := by
  unfold State.bindPolicy; grind [State.coresOf, foldl_coresOf, State.setFld_coresOf]

theorem State.portsCheck_coresOf (s : State) : (State.portsCheck s).coresOf = s.coresOf := by
  unfold State.portsCheck; grind [State.coresOf, foldl_coresOf, State.modPort_coresOf, State.raisePage_coresOf, State.modLink_coresOf]

theorem State.putStaged_coresOf (s : State) (a1) (a2) (a3) : (State.putStaged s a1 a2 a3).coresOf = s.coresOf := by
  unfold State.putStaged; grind [State.coresOf, foldl_coresOf]

theorem State.rtFree_coresOf (s : State) (a1) (a2) : (State.rtFree s a1 a2).coresOf = s.coresOf := by
  unfold State.rtFree; grind [State.coresOf, foldl_coresOf, State.quietWrite_coresOf]

theorem State.rtFlushCache_coresOf (s : State) (a1) : (State.rtFlushCache s a1).coresOf = s.coresOf := by
  unfold State.rtFlushCache; grind [State.coresOf, foldl_coresOf, State.rtFree_coresOf]

theorem State.applyStagedField_coresOf (s : State) (a1) (a2) (a3) : (State.applyStagedField s a1 a2 a3).coresOf = s.coresOf := by
  unfold State.applyStagedField; grind [State.coresOf, foldl_coresOf, State.putStaged_coresOf, State.bindPolicy_coresOf, State.rtFlushCache_coresOf, State.portsCheck_coresOf]

theorem State.deactivateNow_coresOf (s : State) (a1) : (State.deactivateNow s a1).coresOf = s.coresOf := by
  unfold State.deactivateNow; grind [State.coresOf, foldl_coresOf, State.wr_coresOf, State.modCtx_coresOf]

theorem State.modDom_coresOf (s : State) (a1) (a2) : (State.modDom s a1 a2).coresOf = s.coresOf := by
  unfold State.modDom; grind [State.coresOf, foldl_coresOf]

theorem State.vstepFault_coresOf (s : State) (a1) : (State.vstepFault s a1).coresOf = s.coresOf := by
  unfold State.vstepFault; grind [State.coresOf, foldl_coresOf, State.raisePage_coresOf, State.modDom_coresOf]

theorem State.applyPoint_coresOf (s : State) (a1) (a2) : (State.applyPoint s a1 a2).coresOf = s.coresOf := by
  unfold State.applyPoint; grind [State.coresOf, foldl_coresOf, State.modDom_coresOf, State.vstepFault_coresOf]

theorem State.applyRefresh_coresOf (s : State) : (State.applyRefresh s).coresOf = s.coresOf := by
  unfold State.applyRefresh; grind [State.coresOf, foldl_coresOf, State.logEvent_coresOf, State.setFld_coresOf]

theorem State.switchKeys_coresOf (s : State) (a1) : (State.switchKeys s a1).coresOf = s.coresOf := by
  unfold State.switchKeys; grind [State.coresOf, foldl_coresOf, State.modCtx_coresOf]

theorem State.capChanged_coresOf (s : State) (a1) : (State.capChanged s a1).coresOf = s.coresOf := by
  unfold State.capChanged; grind [State.coresOf, foldl_coresOf]

theorem State.planStep3_coresOf (s : State) (a1) : (State.planStep3 s a1).coresOf = s.coresOf := by
  unfold State.planStep3; grind [State.coresOf, foldl_coresOf, State.modPlan_coresOf, State.setFld_coresOf, State.modCtx_coresOf, State.fceRaise_coresOf]

theorem State.forceFloors_coresOf (s : State) (a1) (a2) : (State.forceFloors s a1 a2).coresOf = s.coresOf := by
  unfold State.forceFloors; grind [State.coresOf, foldl_coresOf, State.count_coresOf, State.raiseCtx_coresOf]

theorem State.powerRecompute_coresOf (s : State) : (State.powerRecompute s).coresOf = s.coresOf := by
  unfold State.powerRecompute; grind [State.coresOf, foldl_coresOf, State.modDom_coresOf, State.forceFloors_coresOf]

theorem State.setMacs_coresOf (s : State) (a1) : (State.setMacs s a1).coresOf = s.coresOf := by
  unfold State.setMacs; grind [State.coresOf, foldl_coresOf, State.wr_coresOf]

theorem State.applyTrims_coresOf (s : State) : (State.applyTrims s).coresOf = s.coresOf := by
  unfold State.applyTrims; grind [State.coresOf, foldl_coresOf, State.setMacs_coresOf, State.wr_coresOf]

theorem State.readPieces_coresOf (s : State) (a1) (a2) (a3) (a4) (a5) (a6) : (State.readPieces s a1 a2 a3 a4 a5 a6).1.coresOf = s.coresOf := by
  fun_induction State.readPieces s a1 a2 a3 a4 a5 a6 <;> grind [State.coresOf, foldl_coresOf, State.xlate_coresOf, State.memFault_coresOf, State.modMem_coresOf]

theorem State.memRead_coresOf (s : State) (a1) (a2) (a3) (a4) (a5) : (State.memRead s a1 a2 a3 a4 a5).1.coresOf = s.coresOf := by
  unfold State.memRead; grind [State.coresOf, foldl_coresOf, State.raiseCtx_coresOf, State.readPieces_coresOf]

theorem State.atVector_coresOf (s : State) (a1) (a2) (a3) (a4) (a5) : (State.atVector s a1 a2 a3 a4 a5).1.coresOf = s.coresOf := by
  unfold State.atVector; grind [State.coresOf, foldl_coresOf, State.memRead_coresOf]

theorem State.atSlots_coresOf (s : State) (a1) (a2) (a3) (a4) (a5) (a6) : (State.atSlots s a1 a2 a3 a4 a5 a6).1.coresOf = s.coresOf := by
  fun_induction State.atSlots s a1 a2 a3 a4 a5 a6 <;> grind [State.coresOf, foldl_coresOf, State.atVector_coresOf]

theorem State.atCoaches_coresOf (s : State) (a1) (a2) (a3) (a4) (a5) : (State.atCoaches s a1 a2 a3 a4 a5).1.coresOf = s.coresOf := by
  fun_induction State.atCoaches s a1 a2 a3 a4 a5 <;> grind [State.coresOf, foldl_coresOf, State.atSlots_coresOf, State.count_coresOf]

theorem State.countAtp_coresOf (s : State) (a1) (a2) (a3) : (State.countAtp s a1 a2 a3).coresOf = s.coresOf := by
  unfold State.countAtp; grind [State.coresOf, foldl_coresOf, State.count_coresOf]

theorem State.fillRec_coresOf (s : State) (a1) (a2) (a3) (a4) : (State.fillRec s a1 a2 a3 a4).coresOf = s.coresOf := by
  unfold State.fillRec; grind [State.coresOf, foldl_coresOf, State.wr_coresOf]

theorem State.reportCore_coresOf (s : State) (a1) (a2) (a3) : (State.reportCore s a1 a2 a3).coresOf = s.coresOf := by
  unfold State.reportCore; grind [State.coresOf, foldl_coresOf, State.fillRec_coresOf]

theorem State.atTally_coresOf (s : State) (a1) (a2) (a3) (a4) : (State.atTally s a1 a2 a3 a4).coresOf = s.coresOf := by
  unfold State.atTally; grind [State.coresOf, foldl_coresOf, State.countAtp_coresOf, State.reportCore_coresOf]

theorem State.atReject_coresOf (s : State) (a1) (a2) (a3) (a4) : (State.atReject s a1 a2 a3 a4).coresOf = s.coresOf := by
  unfold State.atReject; grind [State.coresOf, foldl_coresOf, State.wr_coresOf, State.raiseCtx_coresOf]

theorem State.atScores_coresOf (s : State) (a1) (a2) : (State.atScores s a1 a2).1.coresOf = s.coresOf := by
  fun_induction State.atScores s a1 a2 <;> grind [State.coresOf, foldl_coresOf, State.draw_coresOf]

theorem State.reportUnit_coresOf (s : State) (a1) (a2) (a3) (a4) : (State.reportUnit s a1 a2 a3 a4).coresOf = s.coresOf := by
  unfold State.reportUnit; grind [State.coresOf, foldl_coresOf]

theorem State.atomNan_coresOf (s : State) (a1) (a2) (a3) (a4) (a5) : (State.atomNan s a1 a2 a3 a4 a5).coresOf = s.coresOf := by
  unfold State.atomNan; grind [State.coresOf, foldl_coresOf, State.reportUnit_coresOf]

theorem State.highWater_coresOf (s : State) (a1) (a2) (a3) (a4) (a5) (a6) : (State.highWater s a1 a2 a3 a4 a5 a6).coresOf = s.coresOf := by
  unfold State.highWater; grind [State.coresOf, foldl_coresOf, State.setFld_coresOf]

theorem State.fallBack_coresOf (s : State) : (State.fallBack s).coresOf = s.coresOf := by
  unfold State.fallBack; grind [State.coresOf, foldl_coresOf, State.applyTrims_coresOf, State.raisePage_coresOf, State.wr_coresOf]

theorem State.histEntry_coresOf (s : State) (a1) (a2) (a3) (a4) (a5) : (State.histEntry s a1 a2 a3 a4 a5).coresOf = s.coresOf := by
  unfold State.histEntry; grind [State.coresOf, foldl_coresOf]

theorem State.optFailed_coresOf (s : State) : (State.optFailed s).coresOf = s.coresOf := by
  unfold State.optFailed; grind [State.coresOf, foldl_coresOf]

theorem State.optResult_coresOf (s : State) (a1) (a2) (a3) (a4) : (State.optResult s a1 a2 a3 a4).coresOf = s.coresOf := by
  unfold State.optResult; grind [State.coresOf, foldl_coresOf, State.wr_coresOf]

theorem State.attemptFailed_coresOf (s : State) (a1) (a2) (a3) (a4) (a5) (a6) : (State.attemptFailed s a1 a2 a3 a4 a5 a6).1.coresOf = s.coresOf := by
  unfold State.attemptFailed; grind [State.coresOf, foldl_coresOf, State.optResult_coresOf, State.histEntry_coresOf, State.optFailed_coresOf, State.fallBack_coresOf]

theorem State.badColl_coresOf (s : State) (a1) (a2) : (State.badColl s a1 a2).coresOf = s.coresOf := by
  unfold State.badColl; grind [State.coresOf, foldl_coresOf, State.raiseCtx_coresOf]

theorem State.badDesc_coresOf (s : State) (a1) : (State.badDesc s a1).coresOf = s.coresOf := by
  unfold State.badDesc; grind [State.coresOf, foldl_coresOf, State.raiseCtx_coresOf]

theorem State.badSample_coresOf (s : State) (a1) (a2) : (State.badSample s a1 a2).coresOf = s.coresOf := by
  unfold State.badSample; grind [State.coresOf, foldl_coresOf, State.raiseCtx_coresOf]

theorem State.basinAccept_coresOf (s : State) (a1) (a2) : (State.basinAccept s a1 a2).coresOf = s.coresOf := by
  unfold State.basinAccept; grind [State.coresOf, foldl_coresOf, State.modMem_coresOf]

theorem State.firstBeat_coresOf (s : State) : (State.firstBeat s).coresOf = s.coresOf := by
  unfold State.firstBeat; grind [State.coresOf, foldl_coresOf, State.updAlert_coresOf]

theorem State.beat_coresOf (s : State) (a1) : (State.beat s a1).coresOf = s.coresOf := by
  unfold State.beat; grind [State.coresOf, foldl_coresOf, State.firstBeat_coresOf]

theorem State.beatCheck_coresOf (s : State) : (State.beatCheck s).coresOf = s.coresOf := by
  unfold State.beatCheck; grind [State.coresOf, foldl_coresOf, State.raisePage_coresOf]

theorem State.clearLink_coresOf (s : State) (a1) : (State.clearLink s a1).coresOf = s.coresOf := by
  unfold State.clearLink; grind [State.coresOf, foldl_coresOf, State.dropLink_coresOf, State.modLink_coresOf]

theorem State.clearStatus_coresOf (s : State) (a1) : (State.clearStatus s a1).coresOf = s.coresOf := by
  unfold State.clearStatus; grind [State.coresOf, foldl_coresOf, State.setFld_coresOf]

theorem State.brakeHeat_coresOf (s : State) (a1) : (State.brakeHeat s a1).coresOf = s.coresOf := by
  unfold State.brakeHeat; grind [State.coresOf, foldl_coresOf]

theorem State.templateFault_coresOf (s : State) (a1) : (State.templateFault s a1).coresOf = s.coresOf := by
  unfold State.templateFault; grind [State.coresOf, foldl_coresOf, State.raiseCtx_coresOf]

theorem State.buildFor_coresOf (s : State) (a1) (a2) (a3) (a4) : (State.buildFor s a1 a2 a3 a4).coresOf = s.coresOf := by
  unfold State.buildFor; grind (splits := 40) (ematch := 20) (gen := 20) [State.coresOf, foldl_coresOf, State.memRead_coresOf, State.templateFault_coresOf, State.memWrite_coresOf, State.modCtx_coresOf]

theorem State.cancelFrame_coresOf (s : State) (a1) (a2) : (State.cancelFrame s a1 a2).coresOf = s.coresOf := by
  unfold State.cancelFrame; grind [State.coresOf, foldl_coresOf, State.frameRow_coresOf]

theorem State.mergeJudge_coresOf (s : State) (a1) (a2) : (State.mergeJudge s a1 a2).coresOf = s.coresOf := by
  unfold State.mergeJudge; grind [State.coresOf, foldl_coresOf, State.modCluster_coresOf, State.raiseCtx_coresOf]

theorem State.mergeJudgeAll_coresOf (s : State) (a1) : (State.mergeJudgeAll s a1).coresOf = s.coresOf := by
  unfold State.mergeJudgeAll; grind [State.coresOf, foldl_coresOf, State.mergeJudge_coresOf]

theorem State.checkDone_coresOf (s : State) (a1) (a2) : (State.checkDone s a1 a2).coresOf = s.coresOf := by
  unfold State.checkDone; grind [State.coresOf, foldl_coresOf, State.modCtx_coresOf, State.mergeJudgeAll_coresOf, State.wr_coresOf]

theorem State.rteError_coresOf (s : State) (a1) (a2) (a3) (a4) (a5) : (State.rteError s a1 a2 a3 a4 a5).coresOf = s.coresOf := by
  unfold State.rteError; grind [State.coresOf, foldl_coresOf, State.wr_coresOf, State.raiseCtx_coresOf]

theorem State.failAll_coresOf (s : State) (a1) (a2) (a3) (a4) : (State.failAll s a1 a2 a3 a4).coresOf = s.coresOf := by
  unfold State.failAll; grind [State.coresOf, foldl_coresOf, State.count_coresOf, State.rteError_coresOf, State.flightAbort_coresOf]

theorem State.checkFlight_coresOf (s : State) (a1) : (State.checkFlight s a1).coresOf = s.coresOf := by
  unfold State.checkFlight; grind [State.coresOf, foldl_coresOf, State.failAll_coresOf]

theorem State.checkGuard_coresOf (s : State) (a1) : (State.checkGuard s a1).coresOf = s.coresOf := by
  unfold State.checkGuard; grind [State.coresOf, foldl_coresOf, State.failAll_coresOf]

theorem State.clTally_coresOf (s : State) (a1) (a2) : (State.clTally s a1 a2).coresOf = s.coresOf := by
  unfold State.clTally; grind [State.coresOf, foldl_coresOf, State.draw_coresOf, State.reportUnit_coresOf]

theorem State.skipSlot_coresOf (s : State) (a1) (a2) (a3) (a4) : (State.skipSlot s a1 a2 a3 a4).coresOf = s.coresOf := by
  unfold State.skipSlot; grind [State.coresOf, foldl_coresOf, State.slotBack_coresOf, State.count_coresOf, State.wr_coresOf, State.raiseCtx_coresOf, State.ctxDrop_coresOf, State.trace_coresOf]

theorem State.verifyLater_coresOf (s : State) (a1) (a2) (a3) (a4) : (State.verifyLater s a1 a2 a3 a4).coresOf = s.coresOf := by
  unfold State.verifyLater; grind [State.coresOf, foldl_coresOf, State.modCtx_coresOf]

theorem State.skipCand_coresOf (s : State) (a1) (a2) (a3) (a4) : (State.skipCand s a1 a2 a3 a4).coresOf = s.coresOf := by
  unfold State.skipCand; grind [State.coresOf, foldl_coresOf, State.addDeficit_coresOf, State.skipSlot_coresOf, State.verifyLater_coresOf]

theorem State.slotBody_coresOf (s : State) (a1) (a2) (a3) : (State.slotBody s a1 a2 a3).1.coresOf = s.coresOf := by
  unfold State.slotBody; grind [State.coresOf, foldl_coresOf, State.memRead_coresOf]

theorem State.classifyDue_coresOf (s : State) (a1) (a2) (a3) (a4) : (State.classifyDue s a1 a2 a3 a4).1.coresOf = s.coresOf := by
  unfold State.classifyDue; grind [State.coresOf, foldl_coresOf, State.skipSlot_coresOf, State.slotBody_coresOf, State.skipCand_coresOf]

theorem State.classify_coresOf (s : State) (a1) (a2) : (State.classify s a1 a2).1.coresOf = s.coresOf := by
  unfold State.classify; grind [State.coresOf, foldl_coresOf, State.memRead_coresOf, State.skipSlot_coresOf, State.count_coresOf, State.classifyDue_coresOf]

theorem State.classifyAll_coresOf (s : State) (a1) (a2) : (State.classifyAll s a1 a2).1.coresOf = s.coresOf := by
  fun_induction State.classifyAll s a1 a2 <;> grind [State.coresOf, foldl_coresOf, State.classify_coresOf]

theorem State.rtJudge_coresOf (s : State) (a1) : (State.rtJudge s a1).coresOf = s.coresOf := by
  unfold State.rtJudge; grind [State.coresOf, foldl_coresOf]

theorem State.closePound_coresOf (s : State) (a1) : (State.closePound s a1).coresOf = s.coresOf := by
  unfold State.closePound; grind [State.coresOf, foldl_coresOf, State.rtJudge_coresOf, State.flightAbort_coresOf]

theorem State.modInst_coresOf (s : State) (a1) (a2) : (State.modInst s a1 a2).coresOf = s.coresOf := by
  unfold State.modInst; grind [State.coresOf, foldl_coresOf]

theorem State.sendBarge_coresOf (s : State) (a1) (a2) : (State.sendBarge s a1 a2).2.coresOf = s.coresOf := by
  unfold State.sendBarge; grind [State.coresOf, foldl_coresOf, State.takeSeq_coresOf, State.offer_coresOf]

theorem foldl_snd_coresOf {α β : Type} (g : β × State → α → β × State) (xs : List α) (p : β × State) (h : ∀ p a, (g p a).2.coresOf = p.2.coresOf) : (xs.foldl g p).2.coresOf = p.2.coresOf := by
  induction xs generalizing p with
  | nil => rfl
  | cons x xs ih => simp [ih, h]

theorem foldl_fst_coresOf {α β : Type} (g : State × β → α → State × β) (xs : List α) (p : State × β) (h : ∀ p a, (g p a).1.coresOf = p.1.coresOf) : (xs.foldl g p).1.coresOf = p.1.coresOf := by
  induction xs generalizing p with
  | nil => rfl
  | cons x xs ih => simp [ih, h]

theorem State.collSend_coresOf (s : State) (a1) (a2) (a3) (a4) (a5) (a6) : (State.collSend s a1 a2 a3 a4 a5 a6).coresOf = s.coresOf := by
  unfold State.collSend
  split
  · rfl
  · rw [State.modInst_coresOf]; exact foldl_snd_coresOf _ _ _ fun p a => State.sendBarge_coresOf _ _ _

theorem State.collAdvance_coresOf (s : State) (a1) (a2) : (State.collAdvance s a1 a2).coresOf = s.coresOf := by
  unfold State.collAdvance; grind [State.coresOf, foldl_coresOf, State.collSend_coresOf, State.clTally_coresOf]

theorem State.collDone_coresOf (s : State) (a1) : (State.collDone s a1).coresOf = s.coresOf := by
  unfold State.collDone; grind [State.coresOf, foldl_coresOf, State.count_coresOf, State.modInst_coresOf]

theorem State.syncInc_coresOf (s : State) (a1) (a2) (a3) (a4) : (State.syncInc s a1 a2 a3 a4).coresOf = s.coresOf := by
  unfold State.syncInc; grind [State.coresOf, foldl_coresOf, State.count_coresOf, State.modCluster_coresOf]

theorem State.needInst_coresOf (s : State) (a1) (a2) (a3) (a4) : (State.needInst s a1 a2 a3 a4).2.coresOf = s.coresOf := by
  unfold State.needInst; grind [State.coresOf, foldl_coresOf]

theorem State.readColl_coresOf (s : State) (a1) (a2) (a3) : (State.readColl s a1 a2 a3).1.coresOf = s.coresOf := by
  unfold State.readColl; grind [State.coresOf, foldl_coresOf, State.memRead_coresOf]

theorem State.collIn_coresOf (s : State) (a1) (a2) (a3) : (State.collIn s a1 a2 a3).coresOf = s.coresOf := by
  have h1 := State.needInst_coresOf s a2 a3.coll a3.inst a3.step
  unfold State.collIn
  split
  · rfl
  · generalize State.needInst s a2 a3.coll a3.inst a3.step = r at h1 ⊢
    grind [State.modInst_coresOf, State.collAdvance_coresOf, State.readColl_coresOf]

theorem State.collLeaf_coresOf (s : State) (a1) (a2) (a3) (a4) : (State.collLeaf s a1 a2 a3 a4).coresOf = s.coresOf := by
  unfold State.collLeaf
  split
  · exact State.badColl_coresOf s a1 _
  · dsimp only
    split
    · exact State.badColl_coresOf s a1 _
    · rename_i slot _ _ n _
      have h1 := State.needInst_coresOf s a1 a3 n (s.collTick a1)
      generalize State.needInst s a1 a3 n (s.collTick a1) = r at h1 ⊢
      grind [State.modInst_coresOf, State.collAdvance_coresOf, State.readColl_coresOf, State.badColl_coresOf]

theorem State.tamper_coresOf (s : State) (a1) : (State.tamper s a1).coresOf = s.coresOf := by
  unfold State.tamper; grind [State.coresOf, foldl_coresOf, State.raisePage_coresOf]

theorem State.copyBad_coresOf (s : State) (a1) : (State.copyBad s a1).coresOf = s.coresOf := by
  unfold State.copyBad; grind [State.coresOf, foldl_coresOf, State.tamper_coresOf, State.raisePage_coresOf]

theorem State.countDrn_coresOf (s : State) (a1) (a2) (a3) : (State.countDrn s a1 a2 a3).coresOf = s.coresOf := by
  unfold State.countDrn; grind [State.coresOf, foldl_coresOf, State.count_coresOf]

theorem State.countFence_coresOf (s : State) (a1) : (State.countFence s a1).coresOf = s.coresOf := by
  unfold State.countFence; grind [State.coresOf, foldl_coresOf, State.count_coresOf]

theorem State.countMacs_coresOf (s : State) (a1) (a2) : (State.countMacs s a1 a2).coresOf = s.coresOf := by
  unfold State.countMacs; grind [State.coresOf, foldl_coresOf, State.count64_coresOf]

theorem State.ctxFlightAbort_coresOf (s : State) (a1) (a2) : (State.ctxFlightAbort s a1 a2).coresOf = s.coresOf := by
  unfold State.ctxFlightAbort; grind [State.coresOf, foldl_coresOf, State.flightAbort_coresOf]

theorem State.judgeSyw_coresOf (s : State) (a1) (a2) (a3) : (State.judgeSyw s a1 a2 a3).coresOf = s.coresOf := by
  unfold State.judgeSyw; grind [State.coresOf, foldl_coresOf, State.wr_coresOf, State.raiseCtx_coresOf]

theorem State.cydTimes_coresOf (s : State) (a1) : (State.cydTimes s a1).coresOf = s.coresOf := by
  unfold State.cydTimes; grind [State.coresOf, foldl_coresOf, State.highWater_coresOf, State.setFld_coresOf]

theorem State.relay_coresOf (s : State) (a1) (a2) (a3) : (State.relay s a1 a2 a3).coresOf = s.coresOf := by
  unfold State.relay; grind [State.coresOf, foldl_coresOf, State.dropBarge_coresOf, State.offer_coresOf]

theorem State.rwApply_coresOf (s : State) (a1) (a2) (a3) : (State.rwApply s a1 a2 a3).coresOf = s.coresOf := by
  unfold State.rwApply; grind [State.coresOf, foldl_coresOf, State.memWrite_coresOf, State.fceCount_coresOf, State.raiseCtx_coresOf, State.modMem_coresOf, State.sendBarge_coresOf]

theorem State.rwDrain_coresOf (s : State) (a1) (a2) (a3) : (State.rwDrain s a1 a2 a3).coresOf = s.coresOf := by
  unfold State.rwDrain; grind [State.coresOf, foldl_coresOf, State.modPlan_coresOf, State.rwApply_coresOf]

theorem State.dataIn_coresOf (s : State) a b c f (h : ∀ s i j, (f s i j).coresOf = s.coresOf) : (s.dataIn a b c f).coresOf = s.coresOf := by
  unfold State.dataIn; grind [State.coresOf, foldl_coresOf, State.bargeIn_coresOf, State.relay_coresOf, State.dropBarge_coresOf, State.rwDrain_coresOf]

theorem State.dataBarge_coresOf (s : State) (a1) (a2) (a3) : (s.dataBarge a1 a2 a3).coresOf = s.coresOf := by
  unfold State.dataBarge
  split
  · exact State.hold_coresOf s _
  · exact State.dataIn_coresOf s _ _ _ _ (fun s i j => State.collIn_coresOf s i j _)

theorem State.dbgAccept_coresOf (s : State) (a1) : (State.dbgAccept s a1).coresOf = s.coresOf := by
  unfold State.dbgAccept; grind [State.coresOf, foldl_coresOf, State.wr_coresOf]

theorem State.dbgRefuse_coresOf (s : State) (a1) : (State.dbgRefuse s a1).coresOf = s.coresOf := by
  unfold State.dbgRefuse; grind [State.coresOf, foldl_coresOf, State.wr_coresOf, State.raisePage_coresOf]

theorem State.escalate_coresOf (s : State) (a1) : (State.escalate s a1).coresOf = s.coresOf := by
  unfold State.escalate; grind [State.coresOf, foldl_coresOf, State.raisePage_coresOf, State.condemn_coresOf, State.askRestart_coresOf]

theorem State.declareHang_coresOf (s : State) : (State.declareHang s).coresOf = s.coresOf := by
  unfold State.declareHang; grind [State.coresOf, foldl_coresOf, State.raise_coresOf, State.count_coresOf, State.updAlert_coresOf, State.trigCapture_coresOf, State.escalate_coresOf]

theorem State.dmWrite_coresOf (s : State) (a1) (a2) (a3) : (State.dmWrite s a1 a2 a3).1.coresOf = s.coresOf := by
  fun_induction State.dmWrite s a1 a2 a3 <;> grind [State.coresOf, foldl_coresOf, State.memWrite_coresOf]

theorem State.rwSend_coresOf (s : State) (a1) (a2) (a3) (a4) : (State.rwSend s a1 a2 a3 a4).2.coresOf = s.coresOf := by
  fun_induction State.rwSend s a1 a2 a3 a4 <;> grind [State.coresOf, foldl_coresOf, State.takeSeq_coresOf, State.offer_coresOf]

theorem State.dmReject_coresOf (s : State) (a1) (a2) (a3) (a4) : (State.dmReject s a1 a2 a3 a4).coresOf = s.coresOf := by
  unfold State.dmReject; grind [State.coresOf, foldl_coresOf, State.wr_coresOf, State.raiseCtx_coresOf]

theorem State.dmSyncInc_coresOf (s : State) (a1) (a2) (a3) : (State.dmSyncInc s a1 a2 a3).coresOf = s.coresOf := by
  unfold State.dmSyncInc; grind [State.coresOf, foldl_coresOf, State.syncInc_coresOf]

theorem State.dmRead_coresOf (s : State) (a1) (a2) (a3) (a4) (a5) : (State.dmRead s a1 a2 a3 a4 a5).1.coresOf = s.coresOf := by
  fun_induction State.dmRead s a1 a2 a3 a4 a5 <;> grind [State.coresOf, foldl_coresOf, State.memRead_coresOf]

theorem State.torn_coresOf (s : State) (a1) (a2) : (State.torn s a1 a2).1.coresOf = s.coresOf := by
  fun_induction State.torn s a1 a2 <;> grind [State.coresOf, foldl_coresOf, State.draw_coresOf]

theorem State.domainHeat_coresOf (s : State) (a1) : (State.domainHeat s a1).coresOf = s.coresOf := by
  unfold State.domainHeat; grind [State.coresOf, foldl_coresOf, State.modDom_coresOf, State.wr_coresOf, State.raisePage_coresOf]

theorem State.drainNan_coresOf (s : State) (a1) (a2) (a3) (a4) (a5) (a6) (a7) : (State.drainNan s a1 a2 a3 a4 a5 a6 a7).coresOf = s.coresOf := by
  unfold State.drainNan; grind [State.coresOf, foldl_coresOf, State.reportCore_coresOf, State.draw_coresOf]

theorem State.drainSat_coresOf (s : State) (a1) (a2) (a3) (a4) (a5) : (State.drainSat s a1 a2 a3 a4 a5).1.coresOf = s.coresOf := by
  unfold State.drainSat; grind [State.coresOf, foldl_coresOf, State.fillRec_coresOf, State.raiseCtx_coresOf]

theorem State.drainRow_coresOf (s : State) (a1) (a2) (a3) (a4) (a5) : (State.drainRow s a1 a2 a3 a4 a5).1.coresOf = s.coresOf := by
  unfold State.drainRow; grind [State.coresOf, foldl_coresOf, State.drainNan_coresOf, State.drainSat_coresOf, State.countDrn_coresOf, State.count64_coresOf]

theorem State.drawFrame_coresOf (s : State) (a1) : (State.drawFrame s a1).2.coresOf = s.coresOf := by
  unfold State.drawFrame; grind [State.coresOf, foldl_coresOf, State.draw_coresOf]

theorem State.drawIndex_coresOf (s : State) : (State.drawIndex s).2.coresOf = s.coresOf := by
  unfold State.drawIndex; grind [State.coresOf, foldl_coresOf, State.draw_coresOf]

theorem State.setPlan_coresOf (s : State) (a1) (a2) (a3) : (State.setPlan s a1 a2 a3).coresOf = s.coresOf := by
  unfold State.setPlan; grind [State.coresOf, foldl_coresOf, State.logEvent_coresOf, State.modDom_coresOf]

theorem State.droopStep_coresOf (s : State) (a1) : (State.droopStep s a1).coresOf = s.coresOf := by
  unfold State.droopStep; grind [State.coresOf, foldl_coresOf, State.setPlan_coresOf, State.raisePage_coresOf, State.modDom_coresOf]

theorem State.forgetPounds_coresOf (s : State) (a1) : (State.forgetPounds s a1).coresOf = s.coresOf := by
  unfold State.forgetPounds; grind [State.coresOf, foldl_coresOf]

theorem State.tearStore_coresOf (s : State) (a1) (a2) : (State.tearStore s a1 a2).coresOf = s.coresOf := by
  unfold State.tearStore; grind [State.coresOf, foldl_coresOf, State.torn_coresOf, State.modMem_coresOf]

theorem State.rtRemove_coresOf (s : State) (a1) : (State.rtRemove s a1).coresOf = s.coresOf := by
  unfold State.rtRemove; grind [State.coresOf, foldl_coresOf, State.rtFree_coresOf]

theorem State.smpDrop_coresOf (s : State) (a1) : (State.smpDrop s a1).coresOf = s.coresOf := by
  unfold State.smpDrop; grind [State.coresOf, foldl_coresOf]

theorem State.yardDrop_coresOf (s : State) (a1) : (State.yardDrop s a1).coresOf = s.coresOf := by
  unfold State.yardDrop; grind [State.coresOf, foldl_coresOf, State.modYard_coresOf]

theorem State.scrubRecord_coresOf (s : State) (a1) (a2) : (State.scrubRecord s a1 a2).coresOf = s.coresOf := by
  unfold State.scrubRecord; grind [State.coresOf, foldl_coresOf, State.modCtx_coresOf, State.wr_coresOf, State.count_coresOf, State.emit_coresOf]

theorem State.stopPlans_coresOf (s : State) (a1) (a2) : (State.stopPlans s a1 a2).coresOf = s.coresOf := by
  unfold State.stopPlans; grind [State.coresOf, foldl_coresOf, State.modPlan_coresOf]

theorem State.scrubStorm_coresOf (s : State) (a1) : (State.scrubStorm s a1).coresOf = s.coresOf := by
  unfold State.scrubStorm; grind [State.coresOf, foldl_coresOf, State.raiseCtx_coresOf]

theorem State.thermalLimit_coresOf (s : State) : (State.thermalLimit s).coresOf = s.coresOf := by
  unfold State.thermalLimit; grind [State.coresOf, foldl_coresOf, State.modDom_coresOf, State.count_coresOf]

theorem State.srvAfterYard_coresOf (s : State) (a1) : (State.srvAfterYard s a1).coresOf = s.coresOf := by
  unfold State.srvAfterYard; grind [State.coresOf, foldl_coresOf, State.respond_coresOf, State.modBerth_coresOf, State.yardRelease_coresOf, State.yardOpen_coresOf]

theorem State.yardDecide_coresOf (s : State) (a1) (a2) : (State.yardDecide s a1 a2).coresOf = s.coresOf := by
  unfold State.yardDecide; grind [State.coresOf, foldl_coresOf, State.count_coresOf]

theorem State.yardTrim_coresOf (s : State) (a1) (a2) (a3) : (State.yardTrim s a1 a2 a3).coresOf = s.coresOf := by
  unfold State.yardTrim; grind [State.coresOf, foldl_coresOf, State.modYard_coresOf, State.count_coresOf, State.yardErr_coresOf]

theorem State.yardEdge_coresOf (s : State) (a1) (a2) : (State.yardEdge s a1 a2).coresOf = s.coresOf := by
  unfold State.yardEdge; grind [State.coresOf, foldl_coresOf, State.yardDecide_coresOf, State.yardTrim_coresOf]

theorem State.edgeStep4_coresOf (s : State) (a1) (a2) (a3) : (State.edgeStep4 s a1 a2 a3).coresOf = s.coresOf := by
  unfold State.edgeStep4; grind [State.coresOf, foldl_coresOf, State.cydTimes_coresOf, State.yardEdge_coresOf, State.srvAfterYard_coresOf]

theorem State.openClusters_coresOf (s : State) : (State.openClusters s).coresOf = s.coresOf := by
  unfold State.openClusters; grind [State.coresOf, foldl_coresOf, State.setFld_coresOf]

theorem State.releaseGrants_coresOf (s : State) : (State.releaseGrants s).coresOf = s.coresOf := by
  unfold State.releaseGrants; grind [State.coresOf, foldl_coresOf]

theorem State.gaugeSnap_coresOf (s : State) : (State.gaugeSnap s).coresOf = s.coresOf := by
  unfold State.gaugeSnap; grind [State.coresOf, foldl_coresOf, State.draw_coresOf]

theorem State.edgeStep7_coresOf (s : State) (a1) (a2) : (State.edgeStep7 s a1 a2).coresOf = s.coresOf := by
  unfold State.edgeStep7; grind [State.coresOf, foldl_coresOf, State.highWater_coresOf, State.setFld_coresOf, State.raisePage_coresOf, State.gaugeSnap_coresOf, State.beatCheck_coresOf]

theorem State.enterHoldover_coresOf (s : State) : (State.enterHoldover s).coresOf = s.coresOf := by
  unfold State.enterHoldover; grind [State.coresOf, foldl_coresOf, State.raisePage_coresOf, State.setFld_coresOf]

theorem State.edgeSync_coresOf (s : State) (a1) (a2) : (State.edgeSync s a1 a2).coresOf = s.coresOf := by
  unfold State.edgeSync; grind [State.coresOf, foldl_coresOf, State.setFld_coresOf, State.enterHoldover_coresOf, State.count_coresOf]

theorem State.srvJudge_coresOf (s : State) (a1) (a2) : (State.srvJudge s a1 a2).coresOf = s.coresOf := by
  unfold State.srvJudge; grind [State.coresOf, foldl_coresOf, State.addToks_coresOf, State.modBerth_coresOf, State.modCtx_coresOf]

theorem State.endStep_coresOf (s : State) (a1) (a2) : (State.endStep s a1 a2).coresOf = s.coresOf := by
  unfold State.endStep; grind [State.coresOf, foldl_coresOf, State.trace_coresOf, State.mergeJudgeAll_coresOf, State.count_coresOf, State.srvJudge_coresOf, State.modCtx_coresOf]

theorem State.spillStep_coresOf (s : State) (a1) : (State.spillStep s a1).coresOf = s.coresOf := by
  unfold State.spillStep; grind [State.coresOf, foldl_coresOf, State.count_coresOf, State.raiseCtx_coresOf, State.wr_coresOf, State.modCtx_coresOf]

theorem State.judge_coresOf (s : State) (a1) (a2) (a3) : (State.judge s a1 a2 a3).coresOf = s.coresOf := by
  unfold State.judge; grind [State.coresOf, foldl_coresOf, State.count_coresOf, State.endStep_coresOf, State.spillStep_coresOf, State.raiseCtx_coresOf]

theorem State.meterEdge_coresOf (s : State) : (State.meterEdge s).coresOf = s.coresOf := by
  unfold State.meterEdge; grind [State.coresOf, foldl_coresOf, State.wr_coresOf, State.modCtx_coresOf, State.count64_coresOf]

theorem State.openPound_coresOf (s : State) (a1) : (State.openPound s a1).coresOf = s.coresOf := by
  unfold State.openPound; grind [State.coresOf, foldl_coresOf, State.modCtx_coresOf]

theorem State.powerLearn_coresOf (s : State) (a1) : (State.powerLearn s a1).coresOf = s.coresOf := by
  unfold State.powerLearn; grind [State.coresOf, foldl_coresOf]

theorem State.guardBand_coresOf (s : State) (a1) (a2) (a3) : (State.guardBand s a1 a2 a3).coresOf = s.coresOf := by
  unfold State.guardBand; grind [State.coresOf, foldl_coresOf, State.modDom_coresOf, State.raisePage_coresOf]

theorem State.fitPoints_coresOf (s : State) (a1) (a2) : (State.fitPoints s a1 a2).coresOf = s.coresOf := by
  unfold State.fitPoints; grind [State.coresOf, foldl_coresOf, State.modDom_coresOf, State.logEvent_coresOf, State.raisePage_coresOf]

theorem State.marginStep_coresOf (s : State) (a1) : (State.marginStep s a1).coresOf = s.coresOf := by
  unfold State.marginStep; grind [State.coresOf, foldl_coresOf, State.fitPoints_coresOf, State.modDom_coresOf]

theorem State.powerStep6_coresOf (s : State) (a1) : (State.powerStep6 s a1).coresOf = s.coresOf := by
  unfold State.powerStep6; grind [State.coresOf, foldl_coresOf, State.applyPoint_coresOf, State.guardBand_coresOf, State.droopStep_coresOf, State.applyRefresh_coresOf, State.marginStep_coresOf]

theorem State.setPhase_coresOf (s : State) (a1) : (State.setPhase s a1).coresOf = s.coresOf := by
  unfold State.setPhase; grind [State.coresOf, foldl_coresOf]

theorem State.setTick_coresOf (s : State) (a1) : (State.setTick s a1).coresOf = s.coresOf := by
  unfold State.setTick; grind [State.coresOf, foldl_coresOf]

theorem State.flightCheck_coresOf (s : State) : (State.flightCheck s).coresOf = s.coresOf := by
  unfold State.flightCheck; grind [State.coresOf, foldl_coresOf, State.checkFlight_coresOf]

theorem State.finishVerify_coresOf (s : State) (a1) (a2) : (State.finishVerify s a1 a2).coresOf = s.coresOf := by
  unfold State.finishVerify; grind [State.coresOf, foldl_coresOf, State.modCtx_coresOf, State.addDeficit_coresOf, State.skipSlot_coresOf, State.admitStep_coresOf]

theorem State.finishVerifies_coresOf (s : State) (a1) : (State.finishVerifies s a1).coresOf = s.coresOf := by
  unfold State.finishVerifies; grind [State.coresOf, foldl_coresOf, State.finishVerify_coresOf]

theorem State.judgeLate_coresOf (s : State) (a1) : (State.judgeLate s a1).coresOf = s.coresOf := by
  unfold State.judgeLate; grind [State.coresOf, foldl_coresOf, State.modCtx_coresOf, State.sendNotice_coresOf]

theorem State.guardOpen_coresOf (s : State) : (State.guardOpen s).coresOf = s.coresOf := by
  unfold State.guardOpen; grind [State.coresOf, foldl_coresOf, State.finishVerifies_coresOf, State.checkGuard_coresOf, State.judgeLate_coresOf]

theorem State.endBerth_coresOf (s : State) (a1) (a2) : (State.endBerth s a1 a2).coresOf = s.coresOf := by
  unfold State.endBerth; grind [State.coresOf, foldl_coresOf, State.count_coresOf, State.modBerth_coresOf, State.yardRelease_coresOf]

theorem State.modExch_coresOf (s : State) (a1) (a2) (a3) (a4) : (State.modExch s a1 a2 a3 a4).coresOf = s.coresOf := by
  unfold State.modExch; grind [State.coresOf, foldl_coresOf]

theorem State.rtServe_coresOf (s : State) (a1) (a2) (a3) (a4) (a5) (a6) : (State.rtServe s a1 a2 a3 a4 a5 a6).coresOf = s.coresOf := by
  unfold State.rtServe; grind [State.coresOf, foldl_coresOf, State.sendBarge_coresOf, State.raiseCtx_coresOf, State.memRead_coresOf, State.draw_coresOf, State.count64_coresOf, State.count_coresOf]

theorem State.fetchReqBarge_coresOf (s : State) (a1) (a2) (a3) : (s.fetchReqBarge a1 a2 a3).coresOf = s.coresOf := by
  unfold State.fetchReqBarge
  split
  · exact State.hold_coresOf s _
  · refine State.dataIn_coresOf s _ _ _ _ (fun s i j => ?_)
    dsimp only
    generalize (⟨a2, a3⟩ : Barge) = b
    refine (foldl_coresOf _ _ _ fun s r => State.rtServe_coresOf s _ _ _ _ _ _).trans ?_
    split
    · rfl
    · exact State.modExch_coresOf s _ _ _ _

theorem State.gaugeAccept_coresOf (s : State) (a1) (a2) : (State.gaugeAccept s a1 a2).coresOf = s.coresOf := by
  unfold State.gaugeAccept; grind [State.coresOf, foldl_coresOf, State.modCtx_coresOf, State.gaugeSnap_coresOf]

theorem State.linkEnable_coresOf (s : State) (a1) : (State.linkEnable s a1).coresOf = s.coresOf := by
  unfold State.linkEnable; grind [State.coresOf, foldl_coresOf, State.portsCheck_coresOf, State.modLink_coresOf, State.raisePage_coresOf, State.wr_coresOf, State.count_coresOf]

theorem State.writeReg_coresOf (s : State) (a1) (a2) (a3) (a4) : (State.writeReg s a1 a2 a3 a4).coresOf = s.coresOf := by
  unfold State.writeReg; grind [State.coresOf, foldl_coresOf, State.applyField_coresOf, State.linkEnable_coresOf, State.wr_coresOf, State.accessError_coresOf, State.updAlert_coresOf]

theorem State.gaugeRequest_coresOf (s : State) (a1) (a2) : (State.gaugeRequest s a1 a2).coresOf = s.coresOf := by
  unfold State.gaugeRequest; grind [State.coresOf, foldl_coresOf, State.writeReg_coresOf, State.accessError_coresOf, State.gaugeAccept_coresOf]

theorem State.gaugeWrite_coresOf (s : State) (a1) (a2) (a3) (a4) (a5) : (State.gaugeWrite s a1 a2 a3 a4 a5).coresOf = s.coresOf := by
  unfold State.gaugeWrite; grind [State.coresOf, foldl_coresOf, State.raise_coresOf, State.setFld_coresOf, State.memWrite_coresOf, State.emit_coresOf]

theorem State.idleRails_coresOf (s : State) : (State.idleRails s).coresOf = s.coresOf := by
  unfold State.idleRails; grind [State.coresOf, foldl_coresOf, State.modDom_coresOf]

theorem State.inject_coresOf (s : State) (a1) (a2) : (State.inject s a1 a2).coresOf = s.coresOf := by
  unfold State.inject; grind [State.coresOf, foldl_coresOf, State.accessError_coresOf, State.raise_coresOf]

theorem State.lateBarge_coresOf (s : State) (a1) (a2) (a3) : (s.lateBarge a1 a2 a3).coresOf = s.coresOf := by
  unfold State.lateBarge
  split
  · exact State.hold_coresOf s _
  · generalize (⟨a2, a3⟩ : Barge) = b
    dsimp only
    have hb := State.bargeIn_coresOf s 6 a1 b
    generalize s.bargeIn 6 a1 b = r at hb ⊢
    obtain ⟨s1, _ | i⟩ := r
    · exact hb
    have h2 : (if b.hops = 0 then s1 else s1.floodBarge i (b.setFld 2 24 4 (b.hops - 1)) (s1.portOf a1)).coresOf = s.coresOf := by
      split
      · exact hb
      · exact (State.floodBarge_coresOf _ _ _ _).trans hb
    dsimp only
    generalize (if b.hops = 0 then s1 else _) = s2 at h2 ⊢
    split
    · exact (State.flightAbort_coresOf _ _ _ _ _ _ _).trans ((State.raise_coresOf _ _).trans h2)
    · exact (State.modPlan_coresOf _ _ _).trans h2

theorem State.modLaunch_coresOf (s : State) (a1) (a2) (a3) : (State.modLaunch s a1 a2 a3).coresOf = s.coresOf := by
  unfold State.modLaunch; grind [State.coresOf, foldl_coresOf, State.modCtx_coresOf]

theorem State.slipAt_coresOf (s : State) (a1) (a2) (a3) : (State.slipAt s a1 a2 a3).coresOf = s.coresOf := by
  unfold State.slipAt; grind [State.coresOf, foldl_coresOf, State.highWater_coresOf, State.raiseCtx_coresOf]

theorem State.lineCorrected_coresOf (s : State) (a1) : (State.lineCorrected s a1).coresOf = s.coresOf := by
  unfold State.lineCorrected; grind [State.coresOf, foldl_coresOf, State.modMem_coresOf, State.count_coresOf, State.raisePage_coresOf]

theorem State.linePoisoned_coresOf (s : State) (a1) (a2) : (State.linePoisoned s a1 a2).coresOf = s.coresOf := by
  unfold State.linePoisoned; grind [State.coresOf, foldl_coresOf, State.count_coresOf, State.modMem_coresOf, State.raisePage_coresOf]

theorem State.toHoldover_coresOf (s : State) : (State.toHoldover s).coresOf = s.coresOf := by
  unfold State.toHoldover; grind [State.coresOf, foldl_coresOf, State.raisePage_coresOf, State.setFld_coresOf]

theorem State.linksChanged_coresOf (s : State) : (State.linksChanged s).coresOf = s.coresOf := by
  unfold State.linksChanged; grind [State.coresOf, foldl_coresOf, State.portsCheck_coresOf, State.pump_coresOf, State.toHoldover_coresOf]

theorem State.resend_coresOf (s : State) (a1) : (State.resend s a1).coresOf = s.coresOf := by
  unfold State.resend; grind [State.coresOf, foldl_coresOf, State.undeliverable_coresOf, State.count_coresOf, State.putBarge_coresOf, State.fceCount_coresOf]

theorem State.linkDown_coresOf (s : State) (a1) : (State.linkDown s a1).coresOf = s.coresOf := by
  unfold State.linkDown; grind [State.coresOf, foldl_coresOf, State.updAlert_coresOf, State.dropLink_coresOf, State.linksChanged_coresOf, State.resend_coresOf]

theorem State.linkUp_coresOf (s : State) (a1) : (State.linkUp s a1).coresOf = s.coresOf := by
  unfold State.linkUp; grind [State.coresOf, foldl_coresOf, State.modLink_coresOf, State.linksChanged_coresOf]

theorem State.loadAttempt_coresOf (s : State) : (State.loadAttempt s).1.coresOf = s.coresOf := by
  unfold State.loadAttempt; grind [State.coresOf, foldl_coresOf, State.wr_coresOf, State.copyBad_coresOf, State.attemptFailed_coresOf, State.raisePage_coresOf, State.optResult_coresOf, State.histEntry_coresOf, State.applyTrims_coresOf]

theorem State.yardCopyBytes_coresOf (s : State) (a1) (a2) (a3) (a4) (a5) : (State.yardCopyBytes s a1 a2 a3 a4 a5).1.coresOf = s.coresOf := by
  unfold State.yardCopyBytes; grind [State.coresOf, foldl_coresOf, State.memRead_coresOf, State.yardErr_coresOf, State.memWrite_coresOf]

theorem State.yardCopy_coresOf (s : State) (a1) (a2) (a3) (a4) : (State.yardCopy s a1 a2 a3 a4).1.coresOf = s.coresOf := by
  unfold State.yardCopy; grind [State.coresOf, foldl_coresOf, State.yardCopyBytes_coresOf]

theorem State.makeCoach_coresOf (s : State) (a1) (a2) : (State.makeCoach s a1 a2).1.coresOf = s.coresOf := by
  unfold State.makeCoach; grind [State.coresOf, foldl_coresOf, State.drawIndex_coresOf, State.drawFrame_coresOf, State.modYard_coresOf, State.yardCopy_coresOf]

theorem State.vecOps_coresOf (s : State) (a1) (a2) : (State.vecOps s a1 a2).coresOf = s.coresOf := by
  unfold State.vecOps; grind [State.coresOf, foldl_coresOf, State.count64_coresOf]

theorem State.mergeArrive_coresOf (s : State) (a1) : (State.mergeArrive s a1).coresOf = s.coresOf := by
  unfold State.mergeArrive; grind [State.coresOf, foldl_coresOf, State.modCluster_coresOf, State.raiseCtx_coresOf, State.count_coresOf]

theorem State.mergeBarge_coresOf (s : State) (a1) (a2) (a3) : (s.mergeBarge a1 a2 a3).coresOf = s.coresOf := by
  unfold State.mergeBarge
  split
  · exact State.hold_coresOf s _
  · exact State.dataIn_coresOf s _ _ _ _ (fun s i j => State.collIn_coresOf s i j _)

theorem State.mergeTally_coresOf (s : State) (a1) (a2) (a3) (a4) : (State.mergeTally s a1 a2 a3 a4).coresOf = s.coresOf := by
  unfold State.mergeTally; grind [State.coresOf, foldl_coresOf, State.countAtp_coresOf, State.count_coresOf, State.reportCore_coresOf]

theorem State.minute_coresOf (s : State) : (State.minute s).coresOf = s.coresOf := by
  unfold State.minute; grind [State.coresOf, foldl_coresOf]

theorem State.mxReject_coresOf (s : State) (a1) (a2) (a3) (a4) (a5) : (State.mxReject s a1 a2 a3 a4 a5).coresOf = s.coresOf := by
  unfold State.mxReject; grind [State.coresOf, foldl_coresOf, State.wr_coresOf, State.raiseCtx_coresOf]

theorem State.nanArrive_coresOf (s : State) : (State.nanArrive s).coresOf = s.coresOf := by
  unfold State.nanArrive; grind [State.coresOf, foldl_coresOf, State.fillRec_coresOf, State.raise_coresOf]

theorem State.newNonce_coresOf (s : State) : (State.newNonce s).coresOf = s.coresOf := by
  unfold State.newNonce; grind [State.coresOf, foldl_coresOf, State.draw_coresOf]

theorem State.newSid_coresOf (s : State) (a1) : (State.newSid s a1).2.coresOf = s.coresOf := by
  unfold State.newSid; grind [State.coresOf, foldl_coresOf, State.draw_coresOf]

theorem State.openFrame_coresOf (s : State) (a1) (a2) : (State.openFrame s a1 a2).coresOf = s.coresOf := by
  unfold State.openFrame; grind [State.coresOf, foldl_coresOf, State.frameRow_coresOf]

theorem State.pciFault_coresOf (s : State) (a1) (a2) : (State.pciFault s a1 a2).coresOf = s.coresOf := by
  unfold State.pciFault; grind [State.coresOf, foldl_coresOf, State.accessError_coresOf]

theorem State.planCmd_coresOf (s : State) (a1) (a2) (a3) (a4) (a5) (a6) : (State.planCmd s a1 a2 a3 a4 a5 a6).coresOf = s.coresOf := by
  unfold State.planCmd; grind [State.coresOf, foldl_coresOf, State.hold_coresOf, State.modPlan_coresOf, State.accessError_coresOf]

theorem State.planArm_coresOf (s : State) (a1) (a2) : (State.planArm s a1 a2).coresOf = s.coresOf := by
  unfold State.planArm; grind [State.coresOf, foldl_coresOf, State.planCmd_coresOf]

theorem State.planClear_coresOf (s : State) (a1) (a2) : (State.planClear s a1 a2).coresOf = s.coresOf := by
  unfold State.planClear; grind [State.coresOf, foldl_coresOf, State.planCmd_coresOf]

theorem State.planDisarm_coresOf (s : State) (a1) (a2) : (State.planDisarm s a1 a2).coresOf = s.coresOf := by
  unfold State.planDisarm; grind [State.coresOf, foldl_coresOf, State.planCmd_coresOf]

theorem State.planLoad_coresOf (s : State) (a1) (a2) : (State.planLoad s a1 a2).coresOf = s.coresOf := by
  unfold State.planLoad; grind [State.coresOf, foldl_coresOf, State.planCmd_coresOf]

theorem State.planLoaded_coresOf (s : State) (a1) : (State.planLoaded s a1).coresOf = s.coresOf := by
  unfold State.planLoaded; grind [State.coresOf, foldl_coresOf, State.modPlan_coresOf, State.fceRaise_coresOf, State.setFld_coresOf, State.memRead_coresOf, State.portsCheck_coresOf]

theorem State.pldmSay_coresOf (s : State) (a1) (a2) : (State.pldmSay s a1 a2).coresOf = s.coresOf := by
  unfold State.pldmSay; grind [State.coresOf, foldl_coresOf, State.emit_coresOf]

theorem State.storePieces_coresOf (s : State) (a1) (a2) (a3) (a4) (a5) : (State.storePieces s a1 a2 a3 a4 a5).1.coresOf = s.coresOf := by
  fun_induction State.storePieces s a1 a2 a3 a4 a5 <;> grind [State.coresOf, foldl_coresOf, State.xlate_coresOf, State.memFault_coresOf]

theorem State.storeRuns_coresOf (s : State) (a1) (a2) (a3) (a4) : (State.storeRuns s a1 a2 a3 a4).1.coresOf = s.coresOf := by
  fun_induction State.storeRuns s a1 a2 a3 a4 <;> grind [State.coresOf, foldl_coresOf, State.storePieces_coresOf]

theorem State.preread_coresOf (s : State) (a1) : (State.preread s a1).coresOf = s.coresOf := by
  unfold State.preread; grind [State.coresOf, foldl_coresOf, State.memRead_coresOf, State.modCtx_coresOf]

theorem State.quarantine_coresOf (s : State) (a1) (a2) : (State.quarantine s a1 a2).coresOf = s.coresOf := by
  unfold State.quarantine; grind [State.coresOf, foldl_coresOf, State.modLink_coresOf, State.raisePage_coresOf, State.linksChanged_coresOf, State.resend_coresOf]

theorem State.readMaybe_coresOf (s : State) (a1) (a2) (a3) : (State.readMaybe s a1 a2 a3).1.coresOf = s.coresOf := by
  unfold State.readMaybe; grind [State.coresOf, foldl_coresOf, State.memRead_coresOf]

theorem State.readReg_coresOf (s : State) (a1) (a2) (a3) : (State.readReg s a1 a2 a3).coresOf = s.coresOf := by
  unfold State.readReg; grind [State.coresOf, foldl_coresOf]

theorem State.readSensors_coresOf (s : State) (a1) : (State.readSensors s a1).coresOf = s.coresOf := by
  unfold State.readSensors; grind [State.coresOf, foldl_coresOf, State.raisePage_coresOf]

theorem State.stageImage_coresOf (s : State) (a1) : (State.stageImage s a1).coresOf = s.coresOf := by
  unfold State.stageImage; grind [State.coresOf, foldl_coresOf]

theorem State.startAttest_coresOf (s : State) : (State.startAttest s).coresOf = s.coresOf := by
  unfold State.startAttest; grind [State.coresOf, foldl_coresOf, State.tamper_coresOf, State.raisePage_coresOf]

theorem State.startLog_coresOf (s : State) : (State.startLog s).coresOf = s.coresOf := by
  unfold State.startLog; grind [State.coresOf, foldl_coresOf, State.modDom_coresOf, State.fitPoints_coresOf]

theorem State.startPower_coresOf (s : State) : (State.startPower s).coresOf = s.coresOf := by
  unfold State.startPower; grind [State.coresOf, foldl_coresOf, State.idleRails_coresOf, State.startLog_coresOf, State.modDom_coresOf, State.setFld_coresOf]

theorem State.startReady_coresOf (s : State) : (State.startReady s).coresOf = s.coresOf := by
  unfold State.startReady; grind [State.coresOf, foldl_coresOf, State.modCtx_coresOf, State.wr_coresOf, State.logEvent_coresOf]

theorem State.stuck_coresOf (s : State) : (State.stuck s).coresOf = s.coresOf := by
  unfold State.stuck; grind [State.coresOf, foldl_coresOf]

theorem State.startRest_coresOf (s : State) : (State.startRest s).coresOf = s.coresOf := by
  unfold State.startRest; grind [State.coresOf, foldl_coresOf, State.pickImage_coresOf, State.startAttest_coresOf, State.startPower_coresOf, State.stuck_coresOf, State.startReady_coresOf]

theorem State.startOptions_coresOf (s : State) : (State.startOptions s).coresOf = s.coresOf := by
  unfold State.startOptions; grind [State.coresOf, foldl_coresOf, State.startRest_coresOf, State.fallBack_coresOf, State.optResult_coresOf, State.loadAttempt_coresOf]

theorem State.recover_coresOf (s : State) (a1) : (State.recover s a1).coresOf = s.coresOf := by
  unfold State.recover; grind [State.coresOf, foldl_coresOf, State.stageImage_coresOf, State.runImage_coresOf, State.pldmSay_coresOf, State.startOptions_coresOf, State.startReady_coresOf, State.imageRefused_coresOf]

theorem State.rwriteBarge_coresOf (s : State) (a1) (a2) (a3) : (State.rwriteBarge s a1 a2 a3).coresOf = s.coresOf := by
  unfold State.rwriteBarge; grind [State.coresOf, foldl_coresOf, State.hold_coresOf, State.dataIn_coresOf, State.modPlan_coresOf]

theorem State.tickStop_coresOf (s : State) (a1) (a2) : (State.tickStop s a1 a2).coresOf = s.coresOf := by
  unfold State.tickStop; grind [State.coresOf, foldl_coresOf, State.accessError_coresOf]

theorem State.rtSync_coresOf (s : State) (a1) (a2) (a3) : (State.rtSync s a1 a2 a3).coresOf = s.coresOf := by
  unfold State.rtSync; grind [State.coresOf, foldl_coresOf, State.syncInc_coresOf]

theorem State.rtLand_coresOf (s : State) (a1) (a2) : (State.rtLand s a1 a2).coresOf = s.coresOf := by
  unfold State.rtLand; grind [State.coresOf, foldl_coresOf, State.memWrite_coresOf, State.rteError_coresOf, State.rtSync_coresOf]

theorem State.rtWriteDir_coresOf (s : State) (a1) (a2) : (State.rtWriteDir s a1 a2).1.coresOf = s.coresOf := by
  fun_induction State.rtWriteDir s a1 a2 <;> grind [State.coresOf, foldl_coresOf, State.memWrite_coresOf]

theorem State.rtFetchEnd_coresOf (s : State) (a1) (a2) : (State.rtFetchEnd s a1 a2).coresOf = s.coresOf := by
  unfold State.rtFetchEnd; grind [State.coresOf, foldl_coresOf, State.raiseCtx_coresOf, State.count_coresOf, State.rtWriteDir_coresOf, State.rteError_coresOf, State.rtLand_coresOf]

theorem State.rtWeight_coresOf (s : State) (a1) : (State.rtWeight s a1).coresOf = s.coresOf := by
  unfold State.rtWeight; grind [State.coresOf, foldl_coresOf, State.raiseCtx_coresOf, State.rtFetchEnd_coresOf, State.memWrite_coresOf, State.rteError_coresOf]

theorem State.rtDrain_coresOf (s : State) : (State.rtDrain s).coresOf = s.coresOf := by
  unfold State.rtDrain; grind [State.coresOf, foldl_coresOf, State.rtWeight_coresOf]

theorem State.weightBarge_coresOf (s : State) (a1) (a2) (a3) : (State.weightBarge s a1 a2 a3).coresOf = s.coresOf := by
  unfold State.weightBarge; grind [State.coresOf, foldl_coresOf, State.hold_coresOf, State.dataIn_coresOf, State.count64_coresOf, State.rtDrain_coresOf]

theorem State.ringDrain_coresOf (s : State) (a1) (a2) : (State.ringDrain s a1 a2).coresOf = s.coresOf := by
  fun_induction State.ringDrain s a1 a2 <;> grind [State.coresOf, foldl_coresOf, State.outWrite_coresOf, State.modCtx_coresOf]

theorem State.rtCommit_coresOf (s : State) (a1) (a2) (a3) : (State.rtCommit s a1 a2 a3).coresOf = s.coresOf := by
  unfold State.rtCommit; grind [State.coresOf, foldl_coresOf, State.modCtx_coresOf, State.count_coresOf, State.rteError_coresOf]

theorem State.rtReadRows_coresOf (s : State) (a1) (a2) (a3) (a4) : (State.rtReadRows s a1 a2 a3 a4).1.coresOf = s.coresOf := by
  fun_induction State.rtReadRows s a1 a2 a3 a4 <;> grind [State.coresOf, foldl_coresOf, State.memRead_coresOf, State.rteError_coresOf]

theorem State.rtRequests_coresOf (s : State) (a1) (a2) (a3) : (State.rtRequests s a1 a2 a3).coresOf = s.coresOf := by
  unfold State.rtRequests; grind [State.coresOf, foldl_coresOf, State.modExch_coresOf, State.sendBarge_coresOf]

theorem State.rteFault_coresOf (s : State) (a1) (a2) : (State.rteFault s a1 a2).coresOf = s.coresOf := by
  unfold State.rteFault; grind [State.coresOf, foldl_coresOf, State.rteError_coresOf]

theorem State.rtRun_coresOf (s : State) (a1) : (State.rtRun s a1).coresOf = s.coresOf := by
  unfold State.rtRun; grind (splits := 40) (ematch := 20) (gen := 20) [State.coresOf, foldl_coresOf, State.readMaybe_coresOf, State.rteFault_coresOf, State.rtReadRows_coresOf, State.memWrite_coresOf, State.rtWriteDir_coresOf, State.rtSync_coresOf, State.rtRequests_coresOf, State.rtCommit_coresOf]

theorem State.rteSelectOp_coresOf (s : State) : (State.rteSelectOp s).coresOf = s.coresOf := by
  unfold State.rteSelectOp; grind [State.coresOf, foldl_coresOf, State.rteError_coresOf, State.rtRun_coresOf]

theorem State.tokenOut_coresOf (s : State) (a1) (a2) (a3) (a4) : (State.tokenOut s a1 a2 a3 a4).coresOf = s.coresOf := by
  unfold State.tokenOut; grind [State.coresOf, foldl_coresOf, State.modBerth_coresOf, State.count_coresOf, State.respond_coresOf]

theorem State.sampleOne_coresOf (s : State) (a1) : (State.sampleOne s a1).coresOf = s.coresOf := by
  unfold State.sampleOne; grind [State.coresOf, foldl_coresOf, State.count64_coresOf, State.raiseCtx_coresOf, State.count_coresOf, State.endBerth_coresOf, State.tokenOut_coresOf, State.draw_coresOf, State.modBerth_coresOf]

theorem State.scoreArrive_coresOf (s : State) : (State.scoreArrive s).coresOf = s.coresOf := by
  unfold State.scoreArrive; grind [State.coresOf, foldl_coresOf, State.modYard_coresOf]

theorem State.setConn_coresOf (s : State) (a1) (a2) : (State.setConn s a1 a2).coresOf = s.coresOf := by
  unfold State.setConn; grind [State.coresOf, foldl_coresOf]

theorem State.spdmSay_coresOf (s : State) (a1) (a2) (a3) (a4) (a5) : (State.spdmSay s a1 a2 a3 a4 a5).coresOf = s.coresOf := by
  unfold State.spdmSay; grind [State.coresOf, foldl_coresOf, State.emit_coresOf]

theorem State.spdmError_coresOf (s : State) (a1) (a2) (a3) : (State.spdmError s a1 a2 a3).coresOf = s.coresOf := by
  unfold State.spdmError; grind [State.coresOf, foldl_coresOf, State.spdmSay_coresOf]

theorem State.spdm_coresOf (s : State) t f (h : ∀ s, (f s).coresOf = s.coresOf) : (s.spdm t f).coresOf = s.coresOf := by
  unfold State.spdm; grind [State.coresOf, foldl_coresOf, State.spdmError_coresOf]

theorem State.stackHeat_coresOf (s : State) (a1) : (State.stackHeat s a1).coresOf = s.coresOf := by
  unfold State.stackHeat; grind [State.coresOf, foldl_coresOf, State.setFld_coresOf, State.raisePage_coresOf]

theorem State.startBackup_coresOf (s : State) : (State.startBackup s).coresOf = s.coresOf := by
  unfold State.startBackup; grind [State.coresOf, foldl_coresOf, State.raisePage_coresOf, State.optFailed_coresOf, State.histEntry_coresOf]

theorem State.startEntropy_coresOf (s : State) : (State.startEntropy s).coresOf = s.coresOf := by
  unfold State.startEntropy; grind [State.coresOf, foldl_coresOf, State.draw_coresOf, State.modMem_coresOf, State.pickImage_coresOf, State.stuck_coresOf, State.startOptions_coresOf]

theorem State.takeIndex_coresOf (s : State) : (State.takeIndex s).coresOf = s.coresOf := by
  unfold State.takeIndex; grind [State.coresOf, foldl_coresOf]

theorem State.throttleHeat_coresOf (s : State) : (State.throttleHeat s).coresOf = s.coresOf := by
  unfold State.throttleHeat; grind [State.coresOf, foldl_coresOf, State.logEvent_coresOf, State.raisePage_coresOf]

theorem State.trip_coresOf (s : State) : (State.trip s).coresOf = s.coresOf := by
  unfold State.trip; grind [State.coresOf, foldl_coresOf, State.raisePage_coresOf, State.logEvent_coresOf]

theorem State.unlock_coresOf (s : State) : (State.unlock s).coresOf = s.coresOf := by
  unfold State.unlock; grind [State.coresOf, foldl_coresOf, State.raisePage_coresOf, State.setFld_coresOf, State.flightAbort_coresOf, State.modPlan_coresOf]

theorem State.vecReject_coresOf (s : State) (a1) (a2) (a3) : (State.vecReject s a1 a2 a3).coresOf = s.coresOf := by
  unfold State.vecReject; grind [State.coresOf, foldl_coresOf, State.wr_coresOf, State.raiseCtx_coresOf]

theorem State.windowRead_coresOf (s : State) (a1) (a2) (a3) : (State.windowRead s a1 a2 a3).1.coresOf = s.coresOf := by
  unfold State.windowRead; grind [State.coresOf, foldl_coresOf, State.memRead_coresOf, State.apertureFault_coresOf]

theorem State.windowWrite_coresOf (s : State) (a1) (a2) (a3) : (State.windowWrite s a1 a2 a3).coresOf = s.coresOf := by
  unfold State.windowWrite; grind [State.coresOf, foldl_coresOf, State.apertureFault_coresOf, State.memWrite_coresOf]

theorem State.xlatInv_coresOf (s : State) (a1) (a2) : (State.xlatInv s a1 a2).coresOf = s.coresOf := by
  unfold State.xlatInv; grind [State.coresOf, foldl_coresOf]

theorem YardRun.item_coresOf (s : State) (r : YardRun) a b (h : (r.s.coresOf = s.coresOf)) : (r.item a b).s.coresOf = s.coresOf := by
  unfold YardRun.item; grind [State.coresOf, foldl_coresOf, State.modYard_coresOf, State.makeCoach_coresOf]

theorem YardRun.items_coresOf (s : State) (xs : List ChainItem) a (r : YardRun) (h : (r.s.coresOf = s.coresOf)) : (xs.foldl (fun r it => r.item a it) r).s.coresOf = s.coresOf := by
  induction xs generalizing r with
  | nil => exact h
  | cons x xs ih => exact ih _ (YardRun.item_coresOf s r a x h)

theorem YardRun.chains_coresOf (s : State) (xs : List (Nat × List ChainItem)) a b (r : YardRun) (h : (r.s.coresOf = s.coresOf)) : (xs.foldl (fun r c => r.chainOf a b c) r).s.coresOf = s.coresOf := by
  induction xs generalizing r with
  | nil => exact h
  | cons x xs ih => exact ih _ (YardRun.items_coresOf s x.2 a { r with chain := [] } h)

theorem State.yardApply_coresOf (s : State) (a1) (a2) (a3) : (State.yardApply s a1 a2 a3).1.coresOf = s.coresOf := by
  have h := YardRun.chains_coresOf s a3.chains a1 a3.berth ⟨s, true, [], 0, 0⟩ rfl
  unfold State.yardApply
  generalize List.foldl _ _ a3.chains = r at h ⊢
  grind [State.coresOf, foldl_coresOf, State.modCtx_coresOf, State.count_coresOf, State.count64_coresOf]

end Sys2Proof.Machine
end

