-- ==== Sys2Proof/Laws/ClockworkFrame.lean ====
section
/-! SUPPORT. Which shared operations leave the lock-keeper and the links alone; an error does unless it is FATAL: one lemma per operation. -/

namespace Sys2Proof.Machine

theorem foldl_clockwork {α} (g : State → α → State) (xs : List α) (s : State) (h : ∀ s a, (g s a).clockwork = s.clockwork) : (xs.foldl g s).clockwork = s.clockwork := by
  induction xs generalizing s with
  | nil => rfl
  | cons x xs ih => simp [ih, h]

theorem State.wr_clockwork (s : State) (a1) (a2) (a3) (a4) (a5) : (State.wr s a1 a2 a3 a4 a5).clockwork = s.clockwork := by
  unfold State.wr; grind [State.clockwork, foldl_clockwork]

theorem State.wr64_clockwork (s : State) (a1) (a2) (a3) (a4) (a5) : (State.wr64 s a1 a2 a3 a4 a5).clockwork = s.clockwork := by
  unfold State.wr64; grind [State.clockwork, foldl_clockwork, State.wr_clockwork]

theorem State.count64_clockwork (s : State) (a1) (a2) (a3) (a4) (a5) : (State.count64 s a1 a2 a3 a4 a5).clockwork = s.clockwork := by
  unfold State.count64; grind [State.clockwork, foldl_clockwork, State.wr64_clockwork]

theorem State.count_clockwork (s : State) (a1) (a2) (a3) (a4) (a5) : (State.count s a1 a2 a3 a4 a5).clockwork = s.clockwork := by
  unfold State.count; grind [State.clockwork, foldl_clockwork, State.wr_clockwork]

theorem State.fceCount_clockwork (s : State) (a1) (a2) : (State.fceCount s a1 a2).clockwork = s.clockwork := by
  unfold State.fceCount; grind [State.clockwork, foldl_clockwork, State.count_clockwork]

theorem State.dropBarge_clockwork (s : State) (a1) (a2) : (State.dropBarge s a1 a2).clockwork = s.clockwork := by
  unfold State.dropBarge; grind [State.clockwork, foldl_clockwork, State.count_clockwork, State.fceCount_clockwork]

theorem State.setCtx_clockwork (s : State) (a1) (a2) : (State.setCtx s a1 a2).clockwork = s.clockwork := by
  unfold State.setCtx; grind [State.clockwork, foldl_clockwork]

theorem State.modCtx_clockwork (s : State) (a1) (a2) : (State.modCtx s a1 a2).clockwork = s.clockwork := by
  unfold State.modCtx; grind [State.clockwork, foldl_clockwork, State.setCtx_clockwork]

theorem State.condemn_clockwork (s : State) (a1) (a2) (a3) (a4) : (State.condemn s a1 a2 a3 a4).clockwork = s.clockwork := by
  unfold State.condemn; grind [State.clockwork, foldl_clockwork, State.modCtx_clockwork]

theorem State.emit_clockwork (s : State) (a1) : (State.emit s a1).clockwork = s.clockwork := by
  unfold State.emit; grind [State.clockwork, foldl_clockwork]

theorem State.recordIn_clockwork (s : State) (a1) (a2) : (State.recordIn s a1 a2).clockwork = s.clockwork := by
  unfold State.recordIn; grind [State.clockwork, foldl_clockwork, State.wr_clockwork, State.count_clockwork]

theorem State.record_clockwork (s : State) (a1) : (State.record s a1).clockwork = s.clockwork := by
  unfold State.record; grind [State.clockwork, foldl_clockwork, State.recordIn_clockwork, State.emit_clockwork]

theorem State.updAlert_clockwork (s : State) : (State.updAlert s).clockwork = s.clockwork := by
  unfold State.updAlert; grind [State.clockwork, foldl_clockwork, State.emit_clockwork]

theorem State.imageRefused_clockwork (s : State) (a1) : (State.imageRefused s a1).clockwork = s.clockwork := by
  unfold State.imageRefused; grind [State.clockwork, foldl_clockwork, State.updAlert_clockwork, State.record_clockwork]

theorem State.runImage_clockwork (s : State) (a1) (a2) : (State.runImage s a1 a2).clockwork = s.clockwork := by
  unfold State.runImage; grind [State.clockwork, foldl_clockwork]

theorem State.pickImage_clockwork (s : State) (a1) : (State.pickImage s a1).clockwork = s.clockwork := by
  unfold State.pickImage; grind [State.clockwork, foldl_clockwork, State.runImage_clockwork, State.imageRefused_clockwork]

theorem State.fwRestart_clockwork (s : State) : (State.fwRestart s).clockwork = s.clockwork := by
  unfold State.fwRestart; grind [State.clockwork, foldl_clockwork, State.pickImage_clockwork, State.count_clockwork, State.condemn_clockwork]

theorem State.askRestart_clockwork (s : State) : (State.askRestart s).clockwork = s.clockwork := by
  unfold State.askRestart; grind [State.clockwork, foldl_clockwork, State.fwRestart_clockwork]

theorem State.deviceStop_clockwork (s : State) (a1) : (State.deviceStop s a1).clockwork = s.clockwork := by
  unfold State.deviceStop; grind [State.clockwork, foldl_clockwork]

theorem State.modMem_clockwork (s : State) (a1) : (State.modMem s a1).clockwork = s.clockwork := by
  unfold State.modMem; grind [State.clockwork, foldl_clockwork]

theorem State.trigCapture_clockwork (s : State) (a1) (a2) : (State.trigCapture s a1 a2).clockwork = s.clockwork := by
  unfold State.trigCapture; grind [State.clockwork, foldl_clockwork, State.record_clockwork, State.count_clockwork]

theorem State.act_clockwork (s : State) (a1) (h : a1.sev < 3) : (State.act s a1).clockwork = s.clockwork := by
  unfold State.act; grind [State.clockwork, foldl_clockwork, State.deviceStop_clockwork, State.trigCapture_clockwork, State.askRestart_clockwork, State.condemn_clockwork]

theorem State.logEvent_clockwork (s : State) (a1) (a2) : (State.logEvent s a1 a2).clockwork = s.clockwork := by
  unfold State.logEvent; grind [State.clockwork, foldl_clockwork]

theorem State.logError_clockwork (s : State) (a1) : (State.logError s a1).clockwork = s.clockwork := by
  unfold State.logError; grind [State.clockwork, foldl_clockwork, State.logEvent_clockwork]

theorem State.draw_clockwork (s : State) : (State.draw s).2.clockwork = s.clockwork := by
  unfold State.draw; grind [State.clockwork, foldl_clockwork]

theorem State.quietWrite_clockwork (s : State) (a1) (a2) (a3) : (State.quietWrite s a1 a2 a3).clockwork = s.clockwork := by
  unfold State.quietWrite; grind [State.clockwork, foldl_clockwork, State.modMem_clockwork]

theorem State.trace_clockwork (s : State) (a1) (a2) (a3) (a4) (a5) : (State.trace s a1 a2 a3 a4 a5).clockwork = s.clockwork := by
  unfold State.trace; grind [State.clockwork, foldl_clockwork, State.draw_clockwork, State.modCtx_clockwork, State.wr_clockwork, State.quietWrite_clockwork]

theorem State.raise_clockwork (s : State) (a1) (h : a1.sev < 3) : (State.raise s a1).clockwork = s.clockwork := by
  unfold State.raise; grind [State.clockwork, foldl_clockwork, State.record_clockwork, State.trace_clockwork, State.updAlert_clockwork, State.act_clockwork, State.logError_clockwork]

theorem State.fceRaise_clockwork (s : State) (a1) (a2) (a3) (h : a3 < 3) : (State.fceRaise s a1 a2 a3).clockwork = s.clockwork := by
  unfold State.fceRaise; grind [State.clockwork, foldl_clockwork, State.raise_clockwork]

theorem State.modPlan_clockwork (s : State) (a1) (a2) : (State.modPlan s a1 a2).clockwork = s.clockwork := by
  unfold State.modPlan; grind [State.clockwork, foldl_clockwork]

theorem State.putBarge_clockwork (s : State) (a1) (a2) (a3) : (State.putBarge s a1 a2 a3).clockwork = s.clockwork := by
  unfold State.putBarge; grind [State.clockwork, foldl_clockwork, State.count64_clockwork, State.emit_clockwork]

theorem State.sendAcks_clockwork (s : State) (a1) : (State.sendAcks s a1).clockwork = s.clockwork := by
  unfold State.sendAcks; grind [State.clockwork, foldl_clockwork, State.putBarge_clockwork]

theorem State.oweAck_clockwork (s : State) (a1) (a2) : (State.oweAck s a1 a2).clockwork = s.clockwork := by
  unfold State.oweAck; grind [State.clockwork, foldl_clockwork, State.sendAcks_clockwork]

theorem State.bargeIn_clockwork (s : State) (a1) (a2) (a3) : (State.bargeIn s a1 a2 a3).1.clockwork = s.clockwork := by
  unfold State.bargeIn; grind (splits := 40) (ematch := 20) (gen := 20) [State.clockwork, foldl_clockwork, State.count64_clockwork, State.dropBarge_clockwork, State.fceRaise_clockwork, State.oweAck_clockwork, State.fceCount_clockwork, State.modPlan_clockwork]

theorem State.undeliverable_clockwork (s : State) (a1) : (State.undeliverable s a1).clockwork = s.clockwork := by
  unfold State.undeliverable; grind [State.clockwork, foldl_clockwork, State.modPlan_clockwork]

theorem State.offer_clockwork (s : State) (a1) (a2) : (State.offer s a1 a2).clockwork = s.clockwork := by
  unfold State.offer; grind [State.clockwork, foldl_clockwork, State.undeliverable_clockwork, State.putBarge_clockwork]

theorem State.floodBarge_clockwork (s : State) (a1) (a2) (a3) : (State.floodBarge s a1 a2 a3).clockwork = s.clockwork := by
  unfold State.floodBarge; grind [State.clockwork, foldl_clockwork, State.offer_clockwork]

theorem State.takeSeq_clockwork (s : State) (a1) (a2) : (State.takeSeq s a1 a2).2.clockwork = s.clockwork := by
  unfold State.takeSeq; grind [State.clockwork, foldl_clockwork, State.modPlan_clockwork]

theorem State.sendNotice_clockwork (s : State) (a1) (a2) (a3) (a4) : (State.sendNotice s a1 a2 a3 a4).clockwork = s.clockwork := by
  unfold State.sendNotice; grind [State.clockwork, foldl_clockwork, State.takeSeq_clockwork, State.modPlan_clockwork, State.floodBarge_clockwork]

theorem State.flightAbort_clockwork (s : State) (a1) (a2) (a3) (a4) (a5) (a6) : (State.flightAbort s a1 a2 a3 a4 a5 a6).clockwork = s.clockwork := by
  unfold State.flightAbort; grind [State.clockwork, foldl_clockwork, State.count_clockwork, State.modPlan_clockwork, State.wr_clockwork, State.fceRaise_clockwork, State.sendNotice_clockwork]

theorem State.hold_clockwork (s : State) (a1) : (State.hold s a1).clockwork = s.clockwork := by
  unfold State.hold; grind [State.clockwork, foldl_clockwork]

theorem State.abortBarge_clockwork (s : State) (a1) (a2) (a3) : (s.abortBarge a1 a2 a3).clockwork = s.clockwork := by
  unfold State.abortBarge
  split
  · exact State.hold_clockwork s _
  · generalize (⟨a2, a3⟩ : Barge) = b
    dsimp only
    have hb := State.bargeIn_clockwork s 7 a1 b
    generalize s.bargeIn 7 a1 b = r at hb ⊢
    obtain ⟨s1, _ | i⟩ := r
    · exact hb
    have h2 : (if b.hops = 0 then s1 else s1.floodBarge i (b.setFld 2 24 4 (b.hops - 1)) (s1.portOf a1)).clockwork = s.clockwork := by
      split
      · exact hb
      · exact (State.floodBarge_clockwork _ _ _ _).trans hb
    dsimp only
    generalize (if b.hops = 0 then s1 else _) = s2 at h2 ⊢
    have h3 : (if b.step < s2.lkp.now then s2 else s2.modPlan i fun p => { p with abortN := p.abortN ++ [(b.src, b.step)] }).clockwork = s.clockwork := by
      split
      · exact h2
      · exact (State.modPlan_clockwork _ _ _).trans h2
    generalize (if b.step < s2.lkp.now then s2 else _) = s3 at h3 ⊢
    split
    · exact h3
    · exact (State.flightAbort_clockwork _ _ _ _ _ _ _).trans h3

theorem State.raisePage_clockwork (s : State) (a1) (a2) (a3) (a4) (h : a4 < 3) : (State.raisePage s a1 a2 a3 a4).clockwork = s.clockwork := by
  unfold State.raisePage; grind [State.clockwork, foldl_clockwork, State.raise_clockwork]

theorem State.accessError_clockwork (s : State) (a1) (a2) : (State.accessError s a1 a2).clockwork = s.clockwork := by
  unfold State.accessError; grind [State.clockwork, foldl_clockwork, State.raise_clockwork, State.raisePage_clockwork]

theorem State.barged_clockwork (s : State) (a1) : (State.barged s a1).clockwork = s.clockwork := by
  unfold State.barged; grind [State.clockwork, foldl_clockwork, State.count_clockwork]

theorem State.ackOne_clockwork (s : State) (a1) (a2) (a3) (a4) (a5) : (State.ackOne s a1 a2 a3 a4 a5).clockwork = s.clockwork := by
  unfold State.ackOne; grind [State.clockwork, foldl_clockwork, State.barged_clockwork]

theorem State.pump1_clockwork (s : State) : (State.pump1 s).clockwork = s.clockwork := by
  unfold State.pump1; grind [State.clockwork, foldl_clockwork, State.undeliverable_clockwork, State.putBarge_clockwork]

theorem State.pump_clockwork (s : State) : (State.pump s).clockwork = s.clockwork := by
  unfold State.pump; grind [State.clockwork, foldl_clockwork, State.pump1_clockwork]

theorem State.ackBarge_clockwork (s : State) (a1) (a2) (a3) : (State.ackBarge s a1 a2 a3).clockwork = s.clockwork := by
  unfold State.ackBarge; grind [State.clockwork, foldl_clockwork, State.hold_clockwork, State.bargeIn_clockwork, State.pump_clockwork, State.ackOne_clockwork]

theorem State.setCore_clockwork (s : State) (a1) (a2) : (State.setCore s a1 a2).clockwork = s.clockwork := by
  unfold State.setCore; grind [State.clockwork, foldl_clockwork]

theorem State.modCore_clockwork (s : State) (a1) (a2) : (State.modCore s a1 a2).clockwork = s.clockwork := by
  unfold State.modCore; grind [State.clockwork, foldl_clockwork, State.setCore_clockwork]

theorem State.dcacheInval_clockwork (s : State) (a1) : (State.dcacheInval s a1).clockwork = s.clockwork := by
  unfold State.dcacheInval; grind [State.clockwork, foldl_clockwork, State.count_clockwork, State.modCore_clockwork]

theorem State.acqDone_clockwork (s : State) (a1) (a2) : (State.acqDone s a1 a2).clockwork = s.clockwork := by
  unfold State.acqDone; grind [State.clockwork, foldl_clockwork, State.dcacheInval_clockwork]

theorem State.activateNow_clockwork (s : State) (a1) : (State.activateNow s a1).clockwork = s.clockwork := by
  unfold State.activateNow; grind [State.clockwork, foldl_clockwork, State.modCtx_clockwork]

theorem State.setFld_clockwork (s : State) (a1) (a2) (a3) (a4) (a5) (a6) (a7) : (State.setFld s a1 a2 a3 a4 a5 a6 a7).clockwork = s.clockwork := by
  unfold State.setFld; grind [State.clockwork, foldl_clockwork, State.wr_clockwork]

theorem State.addDeficit_clockwork (s : State) (a1) (a2) : (State.addDeficit s a1 a2).clockwork = s.clockwork := by
  unfold State.addDeficit; grind [State.clockwork, foldl_clockwork, State.setFld_clockwork]

theorem State.raiseCtx_clockwork (s : State) (a1) (a2) (a3) (a4) (a5) (a6) (h : a4 < 3) : (State.raiseCtx s a1 a2 a3 a4 a5 a6).clockwork = s.clockwork := by
  unfold State.raiseCtx; grind [State.clockwork, foldl_clockwork, State.raise_clockwork]

theorem State.memFault_clockwork (s : State) (a1) (a2) (a3) : (State.memFault s a1 a2 a3).clockwork = s.clockwork := by
  unfold State.memFault; grind [State.clockwork, foldl_clockwork, State.raiseCtx_clockwork]

theorem State.xlate_clockwork (s : State) (a1) (a2) (a3) (a4) : (State.xlate s a1 a2 a3 a4).1.clockwork = s.clockwork := by
  unfold State.xlate; grind [State.clockwork, foldl_clockwork, State.draw_clockwork, State.modMem_clockwork]

theorem State.writePieces_clockwork (s : State) (a1) (a2) (a3) (a4) (a5) : (State.writePieces s a1 a2 a3 a4 a5).1.clockwork = s.clockwork := by
  fun_induction State.writePieces s a1 a2 a3 a4 a5 <;> grind [State.clockwork, foldl_clockwork, State.xlate_clockwork, State.memFault_clockwork, State.modMem_clockwork]

theorem State.memWrite_clockwork (s : State) (a1) (a2) (a3) (a4) : (State.memWrite s a1 a2 a3 a4).1.clockwork = s.clockwork := by
  unfold State.memWrite; grind [State.clockwork, foldl_clockwork, State.raiseCtx_clockwork, State.writePieces_clockwork]

theorem State.modBerth_clockwork (s : State) (a1) (a2) : (State.modBerth s a1 a2).clockwork = s.clockwork := by
  unfold State.modBerth; grind [State.clockwork, foldl_clockwork]

theorem State.addToks_clockwork (s : State) (a1) (a2) (a3) : (State.addToks s a1 a2 a3).clockwork = s.clockwork := by
  unfold State.addToks; grind [State.clockwork, foldl_clockwork, State.modBerth_clockwork, State.memWrite_clockwork, State.raiseCtx_clockwork]

theorem State.addTotal_clockwork (s : State) (a1) (a2) (a3) : (State.addTotal s a1 a2 a3).clockwork = s.clockwork := by
  unfold State.addTotal; grind [State.clockwork, foldl_clockwork, State.wr_clockwork, State.count_clockwork]

theorem State.addTotals_clockwork (s : State) : (State.addTotals s).clockwork = s.clockwork := by
  unfold State.addTotals; grind [State.clockwork, foldl_clockwork, State.addTotal_clockwork]

theorem State.setCluster_clockwork (s : State) (a1) (a2) : (State.setCluster s a1 a2).clockwork = s.clockwork := by
  unfold State.setCluster; grind [State.clockwork, foldl_clockwork]

theorem State.modCluster_clockwork (s : State) (a1) (a2) : (State.modCluster s a1 a2).clockwork = s.clockwork := by
  unfold State.modCluster; grind [State.clockwork, foldl_clockwork, State.setCluster_clockwork]

theorem State.ownClusters_clockwork (s : State) (a1) : (State.ownClusters s a1).clockwork = s.clockwork := by
  unfold State.ownClusters; grind [State.clockwork, foldl_clockwork, State.modCluster_clockwork]

theorem State.slotBack_clockwork (s : State) (a1) (a2) (a3) (a4) (a5) : (State.slotBack s a1 a2 a3 a4 a5).clockwork = s.clockwork := by
  unfold State.slotBack; grind [State.clockwork, foldl_clockwork, State.memWrite_clockwork]

theorem State.admitStep_clockwork (s : State) (a1) (a2) (a3) : (State.admitStep s a1 a2 a3).clockwork = s.clockwork := by
  unfold State.admitStep; grind [State.clockwork, foldl_clockwork, State.count_clockwork, State.slotBack_clockwork, State.ownClusters_clockwork, State.wr_clockwork, State.modCtx_clockwork, State.trace_clockwork]

theorem State.advance_clockwork (s : State) (a1) (a2) : (State.advance s a1 a2).clockwork = s.clockwork := by
  unfold State.advance; grind [State.clockwork, foldl_clockwork, State.modCore_clockwork]

theorem State.apertureFault_clockwork (s : State) (a1) : (State.apertureFault s a1).clockwork = s.clockwork := by
  unfold State.apertureFault; grind [State.clockwork, foldl_clockwork, State.accessError_clockwork]

theorem State.dropFrame_clockwork (s : State) : (State.dropFrame s).clockwork = s.clockwork := by
  unfold State.dropFrame; grind [State.clockwork, foldl_clockwork, State.count_clockwork]

theorem State.frameIn_clockwork (s : State) : (State.frameIn s).clockwork = s.clockwork := by
  unfold State.frameIn; grind [State.clockwork, foldl_clockwork, State.count_clockwork]

theorem State.modPort_clockwork (s : State) (a1) (a2) : (State.modPort s a1 a2).clockwork = s.clockwork := by
  unfold State.modPort; grind [State.clockwork, foldl_clockwork]

theorem State.putFrame_clockwork (s : State) (a1) (a2) : (State.putFrame s a1 a2).clockwork = s.clockwork := by
  unfold State.putFrame; grind [State.clockwork, foldl_clockwork, State.modPort_clockwork, State.count64_clockwork, State.emit_clockwork]

theorem State.outWrite_clockwork (s : State) (a1) (a2) : (State.outWrite s a1 a2).clockwork = s.clockwork := by
  unfold State.outWrite; grind [State.clockwork, foldl_clockwork, State.memWrite_clockwork, State.count_clockwork, State.wr_clockwork]

theorem State.ringOut_clockwork (s : State) (a1) (a2) : (State.ringOut s a1 a2).clockwork = s.clockwork := by
  unfold State.ringOut; grind [State.clockwork, foldl_clockwork, State.count_clockwork, State.modCtx_clockwork, State.outWrite_clockwork]

theorem State.respond_clockwork (s : State) (a1) (a2) (a3) (a4) : (State.respond s a1 a2 a3 a4).clockwork = s.clockwork := by
  unfold State.respond; grind [State.clockwork, foldl_clockwork, State.ringOut_clockwork, State.putFrame_clockwork, State.count_clockwork]

theorem State.reject_clockwork (s : State) (a1) (a2) (a3) (a4) : (State.reject s a1 a2 a3 a4).clockwork = s.clockwork := by
  unfold State.reject; grind [State.clockwork, foldl_clockwork, State.count_clockwork, State.raiseCtx_clockwork, State.respond_clockwork]

theorem State.appendOp_clockwork (s : State) (a1) (a2) (a3) : (State.appendOp s a1 a2 a3).1.clockwork = s.clockwork := by
  unfold State.appendOp; grind [State.clockwork, foldl_clockwork, State.dropFrame_clockwork, State.frameIn_clockwork, State.reject_clockwork, State.modBerth_clockwork, State.addToks_clockwork]

theorem State.modYard_clockwork (s : State) (a1) : (State.modYard s a1).clockwork = s.clockwork := by
  unfold State.modYard; grind [State.clockwork, foldl_clockwork]

theorem State.nextSeq_clockwork (s : State) (a1) (a2) (a3) : (State.nextSeq s a1 a2 a3).2.clockwork = s.clockwork := by
  unfold State.nextSeq; grind [State.clockwork, foldl_clockwork, State.wr_clockwork]

theorem State.yardErr_clockwork (s : State) (a1) (a2) (a3) (a4) (a5) (h : a4 < 3) : (State.yardErr s a1 a2 a3 a4 a5).clockwork = s.clockwork := by
  unfold State.yardErr; grind [State.clockwork, foldl_clockwork, State.raiseCtx_clockwork]

theorem State.srvYard_clockwork (s : State) (a1) (a2) : (State.srvYard s a1 a2).clockwork = s.clockwork := by
  unfold State.srvYard; grind [State.clockwork, foldl_clockwork, State.nextSeq_clockwork, State.yardErr_clockwork, State.modYard_clockwork]

theorem State.yardRelease_clockwork (s : State) (a1) (a2) : (State.yardRelease s a1 a2).clockwork = s.clockwork := by
  unfold State.yardRelease; grind [State.clockwork, foldl_clockwork, State.srvYard_clockwork]

theorem State.cancelOp_clockwork (s : State) (a1) (a2) : (State.cancelOp s a1 a2).1.clockwork = s.clockwork := by
  unfold State.cancelOp; grind [State.clockwork, foldl_clockwork, State.dropFrame_clockwork, State.count_clockwork, State.frameIn_clockwork, State.modBerth_clockwork, State.yardRelease_clockwork]

theorem State.ctxDrop_clockwork (s : State) (a1) : (State.ctxDrop s a1).clockwork = s.clockwork := by
  unfold State.ctxDrop; grind [State.clockwork, foldl_clockwork, State.count_clockwork, State.raiseCtx_clockwork, State.modCtx_clockwork]

theorem State.frameTag_clockwork (s : State) (a1) (a2) (a3) : (State.frameTag s a1 a2 a3).1.clockwork = s.clockwork := by
  unfold State.frameTag; grind [State.clockwork, foldl_clockwork, State.draw_clockwork, State.modCtx_clockwork]

theorem State.openMark_clockwork (s : State) (a1) (a2) : (State.openMark s a1 a2).1.clockwork = s.clockwork := by
  unfold State.openMark; grind [State.clockwork, foldl_clockwork, State.modCtx_clockwork, State.ctxDrop_clockwork, State.raiseCtx_clockwork]

theorem State.newDrbg_clockwork (s : State) (a1) (a2) : (State.newDrbg s a1 a2).2.clockwork = s.clockwork := by
  unfold State.newDrbg; grind [State.clockwork, foldl_clockwork, State.draw_clockwork]

theorem State.yardOpen_clockwork (s : State) (a1) (a2) (a3) : (State.yardOpen s a1 a2 a3).clockwork = s.clockwork := by
  unfold State.yardOpen; grind [State.clockwork, foldl_clockwork, State.srvYard_clockwork]

theorem State.openOp_clockwork (s : State) (a1) (a2) (a3) : (State.openOp s a1 a2 a3).clockwork = s.clockwork := by
  unfold State.openOp; grind [State.clockwork, foldl_clockwork, State.reject_clockwork, State.newDrbg_clockwork, State.modBerth_clockwork, State.count_clockwork, State.yardOpen_clockwork, State.addToks_clockwork, State.respond_clockwork]

theorem State.frameOp_clockwork (s : State) (a1) (a2) : (State.frameOp s a1 a2).1.clockwork = s.clockwork := by
  have h1 := State.frameTag_clockwork s (frCtx a2) (a2.take (a2.length - 16)) (a2.drop ((a2.take (a2.length - 16)).length))
  unfold State.frameOp
  dsimp only
  repeat' split
  all_goals grind [State.dropFrame_clockwork, State.raisePage_clockwork, State.frameTag_clockwork, State.raiseCtx_clockwork, State.ctxDrop_clockwork, State.openMark_clockwork, State.frameIn_clockwork, State.openOp_clockwork, State.appendOp_clockwork, State.cancelOp_clockwork]

theorem State.rxBytes_clockwork (s : State) (a1) (a2) : (State.rxBytes s a1 a2).clockwork = s.clockwork := by
  unfold State.rxBytes; grind [State.clockwork, foldl_clockwork, State.count64_clockwork]

theorem State.frameRow_clockwork (s : State) (a1) (a2) (a3) (a4) : (State.frameRow s a1 a2 a3 a4).clockwork = s.clockwork := by
  unfold State.frameRow; grind [State.clockwork, foldl_clockwork, State.hold_clockwork, State.frameOp_clockwork, State.rxBytes_clockwork]

theorem State.appendFrame_clockwork (s : State) (a1) (a2) : (State.appendFrame s a1 a2).clockwork = s.clockwork := by
  unfold State.appendFrame; grind [State.clockwork, foldl_clockwork, State.frameRow_clockwork]

theorem State.applyField_clockwork (s : State) (a1) (a2) (a3) (a4) : (State.applyField s a1 a2 a3 a4).clockwork = s.clockwork := by
  unfold State.applyField; grind [State.clockwork, foldl_clockwork, State.setFld_clockwork, State.wr_clockwork]

theorem State.bindPolicy_clockwork (s : State) (a1) : (State.bindPolicy s a1).clockwork = s.clockwork := by
  unfold State.bindPolicy; grind [State.clockwork, foldl_clockwork, State.setFld_clockwork]

theorem State.putStaged_clockwork (s : State) (a1) (a2) (a3) : (State.putStaged s a1 a2 a3).clockwork = s.clockwork := by
  unfold State.putStaged; grind [State.clockwork, foldl_clockwork]

theorem State.rtFree_clockwork (s : State) (a1) (a2) : (State.rtFree s a1 a2).clockwork = s.clockwork := by
  unfold State.rtFree; grind [State.clockwork, foldl_clockwork, State.quietWrite_clockwork]

theorem State.rtFlushCache_clockwork (s : State) (a1) : (State.rtFlushCache s a1).clockwork = s.clockwork := by
  unfold State.rtFlushCache; grind [State.clockwork, foldl_clockwork, State.rtFree_clockwork]

theorem State.deactivateNow_clockwork (s : State) (a1) : (State.deactivateNow s a1).clockwork = s.clockwork := by
  unfold State.deactivateNow; grind [State.clockwork, foldl_clockwork, State.wr_clockwork, State.modCtx_clockwork]

theorem State.zeroCluster_clockwork (s : State) (a1) : (State.zeroCluster s a1).clockwork = s.clockwork := by
  unfold State.zeroCluster; grind [State.clockwork, foldl_clockwork, State.count_clockwork, State.modCore_clockwork, State.modMem_clockwork, State.modCluster_clockwork]

theorem State.enterField_clockwork (s : State) : (State.enterField s).clockwork = s.clockwork := by
  unfold State.enterField; grind [State.clockwork, foldl_clockwork, State.deactivateNow_clockwork, State.zeroCluster_clockwork, State.logEvent_clockwork]

theorem State.debugNow_clockwork (s : State) (a1) : (State.debugNow s a1).clockwork = s.clockwork := by
  unfold State.debugNow; grind [State.clockwork, foldl_clockwork, State.enterField_clockwork]

theorem State.modDom_clockwork (s : State) (a1) (a2) : (State.modDom s a1 a2).clockwork = s.clockwork := by
  unfold State.modDom; grind [State.clockwork, foldl_clockwork]

theorem State.vstepFault_clockwork (s : State) (a1) : (State.vstepFault s a1).clockwork = s.clockwork := by
  unfold State.vstepFault; grind [State.clockwork, foldl_clockwork, State.raisePage_clockwork, State.modDom_clockwork]

theorem State.applyPoint_clockwork (s : State) (a1) (a2) : (State.applyPoint s a1 a2).clockwork = s.clockwork := by
  unfold State.applyPoint; grind [State.clockwork, foldl_clockwork, State.modDom_clockwork, State.vstepFault_clockwork]

theorem State.applyRefresh_clockwork (s : State) : (State.applyRefresh s).clockwork = s.clockwork := by
  unfold State.applyRefresh; grind [State.clockwork, foldl_clockwork, State.logEvent_clockwork, State.setFld_clockwork]

theorem State.switchKeys_clockwork (s : State) (a1) : (State.switchKeys s a1).clockwork = s.clockwork := by
  unfold State.switchKeys; grind [State.clockwork, foldl_clockwork, State.modCtx_clockwork]

theorem State.capChanged_clockwork (s : State) (a1) : (State.capChanged s a1).clockwork = s.clockwork := by
  unfold State.capChanged; grind [State.clockwork, foldl_clockwork]

theorem State.planStep3_clockwork (s : State) (a1) : (State.planStep3 s a1).clockwork = s.clockwork := by
  unfold State.planStep3; grind [State.clockwork, foldl_clockwork, State.modPlan_clockwork, State.setFld_clockwork, State.modCtx_clockwork, State.fceRaise_clockwork]

theorem State.forceFloors_clockwork (s : State) (a1) (a2) : (State.forceFloors s a1 a2).clockwork = s.clockwork := by
  unfold State.forceFloors; grind [State.clockwork, foldl_clockwork, State.count_clockwork, State.raiseCtx_clockwork]

theorem State.powerRecompute_clockwork (s : State) : (State.powerRecompute s).clockwork = s.clockwork := by
  unfold State.powerRecompute; grind [State.clockwork, foldl_clockwork, State.modDom_clockwork, State.forceFloors_clockwork]

theorem State.setMacs_clockwork (s : State) (a1) : (State.setMacs s a1).clockwork = s.clockwork := by
  unfold State.setMacs; grind [State.clockwork, foldl_clockwork, State.wr_clockwork]

theorem State.applyTrims_clockwork (s : State) : (State.applyTrims s).clockwork = s.clockwork := by
  unfold State.applyTrims; grind [State.clockwork, foldl_clockwork, State.setMacs_clockwork, State.wr_clockwork]

theorem State.readPieces_clockwork (s : State) (a1) (a2) (a3) (a4) (a5) (a6) : (State.readPieces s a1 a2 a3 a4 a5 a6).1.clockwork = s.clockwork := by
  fun_induction State.readPieces s a1 a2 a3 a4 a5 a6 <;> grind [State.clockwork, foldl_clockwork, State.xlate_clockwork, State.memFault_clockwork, State.modMem_clockwork]

theorem State.memRead_clockwork (s : State) (a1) (a2) (a3) (a4) (a5) : (State.memRead s a1 a2 a3 a4 a5).1.clockwork = s.clockwork := by
  unfold State.memRead; grind [State.clockwork, foldl_clockwork, State.raiseCtx_clockwork, State.readPieces_clockwork]

theorem State.atVector_clockwork (s : State) (a1) (a2) (a3) (a4) (a5) : (State.atVector s a1 a2 a3 a4 a5).1.clockwork = s.clockwork := by
  unfold State.atVector; grind [State.clockwork, foldl_clockwork, State.memRead_clockwork]

theorem State.atSlots_clockwork (s : State) (a1) (a2) (a3) (a4) (a5) (a6) : (State.atSlots s a1 a2 a3 a4 a5 a6).1.clockwork = s.clockwork := by
  fun_induction State.atSlots s a1 a2 a3 a4 a5 a6 <;> grind [State.clockwork, foldl_clockwork, State.atVector_clockwork]

theorem State.atCoaches_clockwork (s : State) (a1) (a2) (a3) (a4) (a5) : (State.atCoaches s a1 a2 a3 a4 a5).1.clockwork = s.clockwork := by
  fun_induction State.atCoaches s a1 a2 a3 a4 a5 <;> grind [State.clockwork, foldl_clockwork, State.atSlots_clockwork, State.count_clockwork]

theorem State.countAtp_clockwork (s : State) (a1) (a2) (a3) : (State.countAtp s a1 a2 a3).clockwork = s.clockwork := by
  unfold State.countAtp; grind [State.clockwork, foldl_clockwork, State.count_clockwork]

theorem State.fillRec_clockwork (s : State) (a1) (a2) (a3) (a4) : (State.fillRec s a1 a2 a3 a4).clockwork = s.clockwork := by
  unfold State.fillRec; grind [State.clockwork, foldl_clockwork, State.wr_clockwork]

theorem State.reportCore_clockwork (s : State) (a1) (a2) (a3) : (State.reportCore s a1 a2 a3).clockwork = s.clockwork := by
  unfold State.reportCore; grind [State.clockwork, foldl_clockwork, State.fillRec_clockwork]

theorem State.atTally_clockwork (s : State) (a1) (a2) (a3) (a4) : (State.atTally s a1 a2 a3 a4).clockwork = s.clockwork := by
  unfold State.atTally; grind [State.clockwork, foldl_clockwork, State.countAtp_clockwork, State.reportCore_clockwork]

theorem State.wharfWrite_clockwork (s : State) (a1) (a2) (a3) : (State.wharfWrite s a1 a2 a3).clockwork = s.clockwork := by
  unfold State.wharfWrite; grind [State.clockwork, foldl_clockwork, State.modCore_clockwork]

theorem State.atDeliver_clockwork (s : State) (a1) (a2) (a3) : (State.atDeliver s a1 a2 a3).clockwork = s.clockwork := by
  unfold State.atDeliver; grind [State.clockwork, foldl_clockwork, State.countAtp_clockwork, State.wharfWrite_clockwork, State.atTally_clockwork, State.modCluster_clockwork]

theorem State.scbRelease_clockwork (s : State) (a1) (a2) (a3) : (State.scbRelease s a1 a2 a3).clockwork = s.clockwork := by
  unfold State.scbRelease; grind [State.clockwork, foldl_clockwork, State.modCore_clockwork]

theorem State.atFinish_clockwork (s : State) (a1) (a2) : (State.atFinish s a1 a2).clockwork = s.clockwork := by
  unfold State.atFinish; grind [State.clockwork, foldl_clockwork, State.modCore_clockwork, State.scbRelease_clockwork]

theorem State.atReject_clockwork (s : State) (a1) (a2) (a3) (a4) : (State.atReject s a1 a2 a3 a4).clockwork = s.clockwork := by
  unfold State.atReject; grind [State.clockwork, foldl_clockwork, State.wr_clockwork, State.raiseCtx_clockwork]

theorem State.atScores_clockwork (s : State) (a1) (a2) : (State.atScores s a1 a2).1.clockwork = s.clockwork := by
  fun_induction State.atScores s a1 a2 <;> grind [State.clockwork, foldl_clockwork, State.draw_clockwork]

theorem State.atStop_clockwork (s : State) (a1) (a2) (a3) : (State.atStop s a1 a2 a3).clockwork = s.clockwork := by
  unfold State.atStop; grind [State.clockwork, foldl_clockwork, State.atFinish_clockwork, State.atReject_clockwork]

theorem State.atRun_clockwork (s : State) (a1) (a2) (a3) : (State.atRun s a1 a2 a3).clockwork = s.clockwork := by
  unfold State.atRun; grind [State.clockwork, foldl_clockwork, State.atStop_clockwork, State.atCoaches_clockwork, State.atScores_clockwork, State.count64_clockwork, State.modCore_clockwork, State.atTally_clockwork]

theorem State.reportUnit_clockwork (s : State) (a1) (a2) (a3) (a4) : (State.reportUnit s a1 a2 a3 a4).clockwork = s.clockwork := by
  unfold State.reportUnit; grind [State.clockwork, foldl_clockwork]

theorem State.atomNan_clockwork (s : State) (a1) (a2) (a3) (a4) (a5) : (State.atomNan s a1 a2 a3 a4 a5).clockwork = s.clockwork := by
  unfold State.atomNan; grind [State.clockwork, foldl_clockwork, State.reportUnit_clockwork]

theorem State.atomApply_clockwork (s : State) (a1) (a2) (a3) (a4) : (State.atomApply s a1 a2 a3 a4).1.clockwork = s.clockwork := by
  fun_induction State.atomApply s a1 a2 a3 a4 <;> grind [State.clockwork, foldl_clockwork, State.memRead_clockwork, State.memWrite_clockwork, State.wharfWrite_clockwork, State.xlate_clockwork, State.count64_clockwork, State.atomNan_clockwork]

theorem State.atpEnd_clockwork (s : State) (a1) : (State.atpEnd s a1).clockwork = s.clockwork := by
  unfold State.atpEnd; grind [State.clockwork, foldl_clockwork, State.atDeliver_clockwork, State.modYard_clockwork, State.atFinish_clockwork]

theorem State.atpStart_clockwork (s : State) (a1) : (State.atpStart s a1).clockwork = s.clockwork := by
  unfold State.atpStart; grind [State.clockwork, foldl_clockwork, State.atRun_clockwork, State.modCore_clockwork]

theorem State.highWater_clockwork (s : State) (a1) (a2) (a3) (a4) (a5) (a6) : (State.highWater s a1 a2 a3 a4 a5 a6).clockwork = s.clockwork := by
  unfold State.highWater; grind [State.clockwork, foldl_clockwork, State.setFld_clockwork]

theorem State.retire_clockwork (s : State) (a1) (a2) : (State.retire s a1 a2).clockwork = s.clockwork := by
  unfold State.retire; grind [State.clockwork, foldl_clockwork, State.modCore_clockwork]

theorem State.scbAdd_clockwork (s : State) (a1) (a2) (a3) (a4) : (State.scbAdd s a1 a2 a3 a4).clockwork = s.clockwork := by
  unfold State.scbAdd; grind [State.clockwork, foldl_clockwork, State.modCore_clockwork, State.highWater_clockwork]

theorem State.stall_clockwork (s : State) (a1) (a2) : (State.stall s a1 a2).clockwork = s.clockwork := by
  unfold State.stall; grind [State.clockwork, foldl_clockwork, State.modCore_clockwork]

theorem State.atqOp_clockwork (s : State) (a1) (a2) (a3) : (State.atqOp s a1 a2 a3).clockwork = s.clockwork := by
  unfold State.atqOp; grind [State.clockwork, foldl_clockwork, State.stall_clockwork, State.retire_clockwork, State.atReject_clockwork, State.nextSeq_clockwork, State.scbAdd_clockwork, State.modCore_clockwork, State.highWater_clockwork]

theorem State.fallBack_clockwork (s : State) : (State.fallBack s).clockwork = s.clockwork := by
  unfold State.fallBack; grind [State.clockwork, foldl_clockwork, State.applyTrims_clockwork, State.raisePage_clockwork, State.wr_clockwork]

theorem State.histEntry_clockwork (s : State) (a1) (a2) (a3) (a4) (a5) : (State.histEntry s a1 a2 a3 a4 a5).clockwork = s.clockwork := by
  unfold State.histEntry; grind [State.clockwork, foldl_clockwork]

theorem State.optFailed_clockwork (s : State) : (State.optFailed s).clockwork = s.clockwork := by
  unfold State.optFailed; grind [State.clockwork, foldl_clockwork]

theorem State.optResult_clockwork (s : State) (a1) (a2) (a3) (a4) : (State.optResult s a1 a2 a3 a4).clockwork = s.clockwork := by
  unfold State.optResult; grind [State.clockwork, foldl_clockwork, State.wr_clockwork]

theorem State.attemptFailed_clockwork (s : State) (a1) (a2) (a3) (a4) (a5) (a6) : (State.attemptFailed s a1 a2 a3 a4 a5 a6).1.clockwork = s.clockwork := by
  unfold State.attemptFailed; grind [State.clockwork, foldl_clockwork, State.optResult_clockwork, State.histEntry_clockwork, State.optFailed_clockwork, State.fallBack_clockwork]

theorem State.badColl_clockwork (s : State) (a1) (a2) : (State.badColl s a1 a2).clockwork = s.clockwork := by
  unfold State.badColl; grind [State.clockwork, foldl_clockwork, State.raiseCtx_clockwork]

theorem State.badDesc_clockwork (s : State) (a1) : (State.badDesc s a1).clockwork = s.clockwork := by
  unfold State.badDesc; grind [State.clockwork, foldl_clockwork, State.raiseCtx_clockwork]

theorem State.scalarError_clockwork (s : State) (a1) (a2) (a3) (a4) : (State.scalarError s a1 a2 a3 a4).clockwork = s.clockwork := by
  unfold State.scalarError; grind [State.clockwork, foldl_clockwork, State.retire_clockwork, State.raiseCtx_clockwork]

theorem State.badFence_clockwork (s : State) (a1) : (State.badFence s a1).clockwork = s.clockwork := by
  unfold State.badFence; grind [State.clockwork, foldl_clockwork, State.scalarError_clockwork]

theorem State.badSample_clockwork (s : State) (a1) (a2) : (State.badSample s a1 a2).clockwork = s.clockwork := by
  unfold State.badSample; grind [State.clockwork, foldl_clockwork, State.raiseCtx_clockwork]

theorem State.basinAccept_clockwork (s : State) (a1) (a2) : (State.basinAccept s a1 a2).clockwork = s.clockwork := by
  unfold State.basinAccept; grind [State.clockwork, foldl_clockwork, State.modMem_clockwork]

theorem State.firstBeat_clockwork (s : State) : (State.firstBeat s).clockwork = s.clockwork := by
  unfold State.firstBeat; grind [State.clockwork, foldl_clockwork, State.updAlert_clockwork]

theorem State.beat_clockwork (s : State) (a1) : (State.beat s a1).clockwork = s.clockwork := by
  unfold State.beat; grind [State.clockwork, foldl_clockwork, State.firstBeat_clockwork]

theorem State.beatCheck_clockwork (s : State) : (State.beatCheck s).clockwork = s.clockwork := by
  unfold State.beatCheck; grind [State.clockwork, foldl_clockwork, State.raisePage_clockwork]

theorem State.clearStatus_clockwork (s : State) (a1) : (State.clearStatus s a1).clockwork = s.clockwork := by
  unfold State.clearStatus; grind [State.clockwork, foldl_clockwork, State.setFld_clockwork]

theorem State.brakeHeat_clockwork (s : State) (a1) : (State.brakeHeat s a1).clockwork = s.clockwork := by
  unfold State.brakeHeat; grind [State.clockwork, foldl_clockwork]

theorem State.templateFault_clockwork (s : State) (a1) : (State.templateFault s a1).clockwork = s.clockwork := by
  unfold State.templateFault; grind [State.clockwork, foldl_clockwork, State.raiseCtx_clockwork]

theorem State.buildFor_clockwork (s : State) (a1) (a2) (a3) (a4) : (State.buildFor s a1 a2 a3 a4).clockwork = s.clockwork := by
  unfold State.buildFor; grind (splits := 40) (ematch := 20) (gen := 20) [State.clockwork, foldl_clockwork, State.memRead_clockwork, State.templateFault_clockwork, State.memWrite_clockwork, State.modCtx_clockwork]

theorem State.cancelFrame_clockwork (s : State) (a1) (a2) : (State.cancelFrame s a1 a2).clockwork = s.clockwork := by
  unfold State.cancelFrame; grind [State.clockwork, foldl_clockwork, State.frameRow_clockwork]

theorem State.cartEnter_clockwork (s : State) (a1) : (State.cartEnter s a1).clockwork = s.clockwork := by
  unfold State.cartEnter; grind [State.clockwork, foldl_clockwork, State.highWater_clockwork, State.modCore_clockwork]

theorem State.mergeJudge_clockwork (s : State) (a1) (a2) : (State.mergeJudge s a1 a2).clockwork = s.clockwork := by
  unfold State.mergeJudge; grind [State.clockwork, foldl_clockwork, State.modCluster_clockwork, State.raiseCtx_clockwork]

theorem State.mergeJudgeAll_clockwork (s : State) (a1) : (State.mergeJudgeAll s a1).clockwork = s.clockwork := by
  unfold State.mergeJudgeAll; grind [State.clockwork, foldl_clockwork, State.mergeJudge_clockwork]

theorem State.checkDone_clockwork (s : State) (a1) (a2) : (State.checkDone s a1 a2).clockwork = s.clockwork := by
  unfold State.checkDone; grind [State.clockwork, foldl_clockwork, State.modCtx_clockwork, State.mergeJudgeAll_clockwork, State.wr_clockwork]

theorem State.rteError_clockwork (s : State) (a1) (a2) (a3) (a4) (a5) (h : a2 < 3) : (State.rteError s a1 a2 a3 a4 a5).clockwork = s.clockwork := by
  unfold State.rteError; grind [State.clockwork, foldl_clockwork, State.wr_clockwork, State.raiseCtx_clockwork]

theorem State.failAll_clockwork (s : State) (a1) (a2) (a3) (a4) : (State.failAll s a1 a2 a3 a4).clockwork = s.clockwork := by
  unfold State.failAll; grind [State.clockwork, foldl_clockwork, State.count_clockwork, State.rteError_clockwork, State.flightAbort_clockwork]

theorem State.checkFlight_clockwork (s : State) (a1) : (State.checkFlight s a1).clockwork = s.clockwork := by
  unfold State.checkFlight; grind [State.clockwork, foldl_clockwork, State.failAll_clockwork]

theorem State.checkGuard_clockwork (s : State) (a1) : (State.checkGuard s a1).clockwork = s.clockwork := by
  unfold State.checkGuard; grind [State.clockwork, foldl_clockwork, State.failAll_clockwork]

theorem State.clTally_clockwork (s : State) (a1) (a2) : (State.clTally s a1 a2).clockwork = s.clockwork := by
  unfold State.clTally; grind [State.clockwork, foldl_clockwork, State.draw_clockwork, State.reportUnit_clockwork]

theorem State.skipSlot_clockwork (s : State) (a1) (a2) (a3) (a4) : (State.skipSlot s a1 a2 a3 a4).clockwork = s.clockwork := by
  unfold State.skipSlot; grind [State.clockwork, foldl_clockwork, State.slotBack_clockwork, State.count_clockwork, State.wr_clockwork, State.raiseCtx_clockwork, State.ctxDrop_clockwork, State.trace_clockwork]

theorem State.verifyLater_clockwork (s : State) (a1) (a2) (a3) (a4) : (State.verifyLater s a1 a2 a3 a4).clockwork = s.clockwork := by
  unfold State.verifyLater; grind [State.clockwork, foldl_clockwork, State.modCtx_clockwork]

theorem State.skipCand_clockwork (s : State) (a1) (a2) (a3) (a4) : (State.skipCand s a1 a2 a3 a4).clockwork = s.clockwork := by
  unfold State.skipCand; grind [State.clockwork, foldl_clockwork, State.addDeficit_clockwork, State.skipSlot_clockwork, State.verifyLater_clockwork]

theorem State.slotBody_clockwork (s : State) (a1) (a2) (a3) : (State.slotBody s a1 a2 a3).1.clockwork = s.clockwork := by
  unfold State.slotBody; grind [State.clockwork, foldl_clockwork, State.memRead_clockwork]

theorem State.classifyDue_clockwork (s : State) (a1) (a2) (a3) (a4) : (State.classifyDue s a1 a2 a3 a4).1.clockwork = s.clockwork := by
  unfold State.classifyDue; grind [State.clockwork, foldl_clockwork, State.skipSlot_clockwork, State.slotBody_clockwork, State.skipCand_clockwork]

theorem State.classify_clockwork (s : State) (a1) (a2) : (State.classify s a1 a2).1.clockwork = s.clockwork := by
  unfold State.classify; grind [State.clockwork, foldl_clockwork, State.memRead_clockwork, State.skipSlot_clockwork, State.count_clockwork, State.classifyDue_clockwork]

theorem State.classifyAll_clockwork (s : State) (a1) (a2) : (State.classifyAll s a1 a2).1.clockwork = s.clockwork := by
  fun_induction State.classifyAll s a1 a2 <;> grind [State.clockwork, foldl_clockwork, State.classify_clockwork]

theorem State.rtJudge_clockwork (s : State) (a1) : (State.rtJudge s a1).clockwork = s.clockwork := by
  unfold State.rtJudge; grind [State.clockwork, foldl_clockwork]

theorem State.closePound_clockwork (s : State) (a1) : (State.closePound s a1).clockwork = s.clockwork := by
  unfold State.closePound; grind [State.clockwork, foldl_clockwork, State.rtJudge_clockwork, State.flightAbort_clockwork]

theorem State.modInst_clockwork (s : State) (a1) (a2) : (State.modInst s a1 a2).clockwork = s.clockwork := by
  unfold State.modInst; grind [State.clockwork, foldl_clockwork]

theorem State.sendBarge_clockwork (s : State) (a1) (a2) : (State.sendBarge s a1 a2).2.clockwork = s.clockwork := by
  unfold State.sendBarge; grind [State.clockwork, foldl_clockwork, State.takeSeq_clockwork, State.offer_clockwork]

theorem foldl_snd_clockwork {α β : Type} (g : β × State → α → β × State) (xs : List α) (p : β × State) (h : ∀ p a, (g p a).2.clockwork = p.2.clockwork) : (xs.foldl g p).2.clockwork = p.2.clockwork := by
  induction xs generalizing p with
  | nil => rfl
  | cons x xs ih => simp [ih, h]

theorem foldl_fst_clockwork {α β : Type} (g : State × β → α → State × β) (xs : List α) (p : State × β) (h : ∀ p a, (g p a).1.clockwork = p.1.clockwork) : (xs.foldl g p).1.clockwork = p.1.clockwork := by
  induction xs generalizing p with
  | nil => rfl
  | cons x xs ih => simp [ih, h]

theorem State.collSend_clockwork (s : State) (a1) (a2) (a3) (a4) (a5) (a6) : (State.collSend s a1 a2 a3 a4 a5 a6).clockwork = s.clockwork := by
  unfold State.collSend
  split
  · rfl
  · rw [State.modInst_clockwork]; exact foldl_snd_clockwork _ _ _ fun p a => State.sendBarge_clockwork _ _ _

theorem State.collAdvance_clockwork (s : State) (a1) (a2) : (State.collAdvance s a1 a2).clockwork = s.clockwork := by
  unfold State.collAdvance; grind [State.clockwork, foldl_clockwork, State.collSend_clockwork, State.clTally_clockwork]

theorem State.collDone_clockwork (s : State) (a1) : (State.collDone s a1).clockwork = s.clockwork := by
  unfold State.collDone; grind [State.clockwork, foldl_clockwork, State.count_clockwork, State.modInst_clockwork]

theorem State.syncInc_clockwork (s : State) (a1) (a2) (a3) (a4) : (State.syncInc s a1 a2 a3 a4).clockwork = s.clockwork := by
  unfold State.syncInc; grind [State.clockwork, foldl_clockwork, State.count_clockwork, State.modCluster_clockwork]

theorem State.collWrite_clockwork (s : State) (a1) (a2) (a3) : (State.collWrite s a1 a2 a3).clockwork = s.clockwork := by
  unfold State.collWrite; grind [State.clockwork, foldl_clockwork, State.memWrite_clockwork, State.badColl_clockwork, State.wharfWrite_clockwork, State.syncInc_clockwork]

theorem State.collComplete_clockwork (s : State) (a1) : (State.collComplete s a1).clockwork = s.clockwork := by
  unfold State.collComplete; grind [State.clockwork, foldl_clockwork, State.collDone_clockwork, State.collWrite_clockwork, State.clTally_clockwork]

theorem State.needInst_clockwork (s : State) (a1) (a2) (a3) (a4) : (State.needInst s a1 a2 a3 a4).2.clockwork = s.clockwork := by
  unfold State.needInst; grind [State.clockwork, foldl_clockwork]

theorem State.readColl_clockwork (s : State) (a1) (a2) (a3) : (State.readColl s a1 a2 a3).1.clockwork = s.clockwork := by
  unfold State.readColl; grind [State.clockwork, foldl_clockwork, State.memRead_clockwork]

theorem State.collIn_clockwork (s : State) (a1) (a2) (a3) : (State.collIn s a1 a2 a3).clockwork = s.clockwork := by
  have h1 := State.needInst_clockwork s a2 a3.coll a3.inst a3.step
  unfold State.collIn
  split
  · rfl
  · generalize State.needInst s a2 a3.coll a3.inst a3.step = r at h1 ⊢
    grind [State.modInst_clockwork, State.collAdvance_clockwork, State.readColl_clockwork]

theorem State.collLeaf_clockwork (s : State) (a1) (a2) (a3) (a4) : (State.collLeaf s a1 a2 a3 a4).clockwork = s.clockwork := by
  unfold State.collLeaf
  split
  · exact State.badColl_clockwork s a1 _
  · dsimp only
    split
    · exact State.badColl_clockwork s a1 _
    · rename_i slot _ _ n _
      have h1 := State.needInst_clockwork s a1 a3 n (s.collTick a1)
      generalize State.needInst s a1 a3 n (s.collTick a1) = r at h1 ⊢
      grind [State.modInst_clockwork, State.collAdvance_clockwork, State.readColl_clockwork, State.badColl_clockwork]

theorem State.tamper_clockwork (s : State) (a1) : (State.tamper s a1).clockwork = s.clockwork := by
  unfold State.tamper; grind [State.clockwork, foldl_clockwork, State.raisePage_clockwork]

theorem State.copyBad_clockwork (s : State) (a1) : (State.copyBad s a1).clockwork = s.clockwork := by
  unfold State.copyBad; grind [State.clockwork, foldl_clockwork, State.tamper_clockwork, State.raisePage_clockwork]

theorem State.countDrn_clockwork (s : State) (a1) (a2) (a3) : (State.countDrn s a1 a2 a3).clockwork = s.clockwork := by
  unfold State.countDrn; grind [State.clockwork, foldl_clockwork, State.count_clockwork]

theorem State.countFence_clockwork (s : State) (a1) : (State.countFence s a1).clockwork = s.clockwork := by
  unfold State.countFence; grind [State.clockwork, foldl_clockwork, State.count_clockwork]

theorem State.countMacs_clockwork (s : State) (a1) (a2) : (State.countMacs s a1 a2).clockwork = s.clockwork := by
  unfold State.countMacs; grind [State.clockwork, foldl_clockwork, State.count64_clockwork]

theorem State.ctxFlightAbort_clockwork (s : State) (a1) (a2) : (State.ctxFlightAbort s a1 a2).clockwork = s.clockwork := by
  unfold State.ctxFlightAbort; grind [State.clockwork, foldl_clockwork, State.flightAbort_clockwork]

theorem State.portFlush_clockwork (s : State) (a1) (a2) : (State.portFlush s a1 a2).clockwork = s.clockwork := by
  unfold State.portFlush; grind [State.clockwork, foldl_clockwork, State.modCore_clockwork, State.basinAccept_clockwork]

theorem State.portFlushAll_clockwork (s : State) (a1) : (State.portFlushAll s a1).clockwork = s.clockwork := by
  unfold State.portFlushAll; grind [State.clockwork, foldl_clockwork, State.portFlush_clockwork]

theorem State.relDone_clockwork (s : State) (a1) (a2) : (State.relDone s a1 a2).clockwork = s.clockwork := by
  unfold State.relDone; grind [State.clockwork, foldl_clockwork, State.portFlushAll_clockwork]

theorem State.fenceOp_clockwork (s : State) (a1) (a2) (a3) : (State.fenceOp s a1 a2 a3).clockwork = s.clockwork := by
  unfold State.fenceOp; grind [State.clockwork, foldl_clockwork, State.badFence_clockwork, State.stall_clockwork, State.relDone_clockwork, State.acqDone_clockwork, State.retire_clockwork, State.countFence_clockwork]

theorem State.portDrain_clockwork (s : State) (a1) : (State.portDrain s a1).clockwork = s.clockwork := by
  unfold State.portDrain; grind [State.clockwork, foldl_clockwork, State.modCore_clockwork, State.draw_clockwork, State.basinAccept_clockwork]

theorem State.portBefore_clockwork (s : State) (a1) (a2) (a3) : (State.portBefore s a1 a2 a3).clockwork = s.clockwork := by
  unfold State.portBefore; grind [State.clockwork, foldl_clockwork, State.portDrain_clockwork, State.portFlush_clockwork, State.portFlushAll_clockwork]

theorem State.lduOp_clockwork (s : State) (a1) (a2) (a3) (a4) : (State.lduOp s a1 a2 a3 a4).clockwork = s.clockwork := by
  unfold State.lduOp; grind [State.clockwork, foldl_clockwork, State.stall_clockwork, State.scalarError_clockwork, State.memRead_clockwork, State.portBefore_clockwork, State.retire_clockwork, State.modCore_clockwork]

theorem State.syiOp_clockwork (s : State) (a1) (a2) (a3) (a4) : (State.syiOp s a1 a2 a3 a4).clockwork = s.clockwork := by
  unfold State.syiOp; grind [State.clockwork, foldl_clockwork, State.stall_clockwork, State.badFence_clockwork, State.scalarError_clockwork, State.relDone_clockwork, State.syncInc_clockwork, State.retire_clockwork, State.countFence_clockwork]

theorem State.syrOp_clockwork (s : State) (a1) (a2) (a3) : (State.syrOp s a1 a2 a3).clockwork = s.clockwork := by
  unfold State.syrOp; grind [State.clockwork, foldl_clockwork, State.stall_clockwork, State.scalarError_clockwork, State.retire_clockwork, State.modCore_clockwork]

theorem State.judgeSyw_clockwork (s : State) (a1) (a2) (a3) : (State.judgeSyw s a1 a2 a3).clockwork = s.clockwork := by
  unfold State.judgeSyw; grind [State.clockwork, foldl_clockwork, State.wr_clockwork, State.raiseCtx_clockwork]

theorem State.sywEnd_clockwork (s : State) (a1) (a2) (a3) : (State.sywEnd s a1 a2 a3).clockwork = s.clockwork := by
  unfold State.sywEnd; grind [State.clockwork, foldl_clockwork, State.retire_clockwork, State.countFence_clockwork, State.acqDone_clockwork, State.judgeSyw_clockwork]

theorem State.sywOp_clockwork (s : State) (a1) (a2) (a3) (a4) : (State.sywOp s a1 a2 a3 a4).clockwork = s.clockwork := by
  unfold State.sywOp; grind [State.clockwork, foldl_clockwork, State.stall_clockwork, State.badFence_clockwork, State.scalarError_clockwork, State.sywEnd_clockwork]

theorem State.customOp_clockwork (s : State) (a1) (a2) : (State.customOp s a1 a2).clockwork = s.clockwork := by
  unfold State.customOp; grind [State.clockwork, foldl_clockwork, State.fenceOp_clockwork, State.badFence_clockwork, State.syiOp_clockwork, State.sywOp_clockwork, State.syrOp_clockwork, State.lduOp_clockwork]

theorem State.cydTimes_clockwork (s : State) (a1) : (State.cydTimes s a1).clockwork = s.clockwork := by
  unfold State.cydTimes; grind [State.clockwork, foldl_clockwork, State.highWater_clockwork, State.setFld_clockwork]

theorem State.cyqOp_clockwork (s : State) (a1) (a2) (a3) : (State.cyqOp s a1 a2 a3).clockwork = s.clockwork := by
  unfold State.cyqOp; grind [State.clockwork, foldl_clockwork, State.nextSeq_clockwork, State.retire_clockwork, State.yardErr_clockwork, State.stall_clockwork, State.scbAdd_clockwork, State.modYard_clockwork]

theorem State.relay_clockwork (s : State) (a1) (a2) (a3) : (State.relay s a1 a2 a3).clockwork = s.clockwork := by
  unfold State.relay; grind [State.clockwork, foldl_clockwork, State.dropBarge_clockwork, State.offer_clockwork]

theorem State.rwApply_clockwork (s : State) (a1) (a2) (a3) : (State.rwApply s a1 a2 a3).clockwork = s.clockwork := by
  unfold State.rwApply; grind [State.clockwork, foldl_clockwork, State.memWrite_clockwork, State.fceCount_clockwork, State.raiseCtx_clockwork, State.modMem_clockwork, State.sendBarge_clockwork]

theorem State.rwDrain_clockwork (s : State) (a1) (a2) (a3) : (State.rwDrain s a1 a2 a3).clockwork = s.clockwork := by
  unfold State.rwDrain; grind [State.clockwork, foldl_clockwork, State.modPlan_clockwork, State.rwApply_clockwork]

theorem State.dataIn_clockwork (s : State) a b c f (h : ∀ s i j, (f s i j).clockwork = s.clockwork) : (s.dataIn a b c f).clockwork = s.clockwork := by
  unfold State.dataIn; grind [State.clockwork, foldl_clockwork, State.bargeIn_clockwork, State.relay_clockwork, State.dropBarge_clockwork, State.rwDrain_clockwork]

theorem State.dataBarge_clockwork (s : State) (a1) (a2) (a3) : (s.dataBarge a1 a2 a3).clockwork = s.clockwork := by
  unfold State.dataBarge
  split
  · exact State.hold_clockwork s _
  · exact State.dataIn_clockwork s _ _ _ _ (fun s i j => State.collIn_clockwork s i j _)

theorem State.dbgAccept_clockwork (s : State) (a1) : (State.dbgAccept s a1).clockwork = s.clockwork := by
  unfold State.dbgAccept; grind [State.clockwork, foldl_clockwork, State.wr_clockwork]

theorem State.dbgRefuse_clockwork (s : State) (a1) : (State.dbgRefuse s a1).clockwork = s.clockwork := by
  unfold State.dbgRefuse; grind [State.clockwork, foldl_clockwork, State.wr_clockwork, State.raisePage_clockwork]

theorem State.dcachePiece_clockwork (s : State) (a1) (a2) (a3) (a4) (a5) : (State.dcachePiece s a1 a2 a3 a4 a5).1.clockwork = s.clockwork := by
  unfold State.dcachePiece; grind [State.clockwork, foldl_clockwork, State.draw_clockwork, State.count_clockwork, State.readPieces_clockwork, State.modCore_clockwork]

theorem State.dcachePieces_clockwork (s : State) (a1) (a2) (a3) (a4) (a5) : (State.dcachePieces s a1 a2 a3 a4 a5).1.clockwork = s.clockwork := by
  fun_induction State.dcachePieces s a1 a2 a3 a4 a5 <;> grind [State.clockwork, foldl_clockwork, State.dcachePiece_clockwork]

theorem State.dcacheRead_clockwork (s : State) (a1) (a2) (a3) (a4) : (State.dcacheRead s a1 a2 a3 a4).1.clockwork = s.clockwork := by
  unfold State.dcacheRead; grind [State.clockwork, foldl_clockwork, State.raiseCtx_clockwork, State.dcachePieces_clockwork]

theorem State.dcinvOp_clockwork (s : State) (a1) : (State.dcinvOp s a1).clockwork = s.clockwork := by
  unfold State.dcinvOp; grind [State.clockwork, foldl_clockwork, State.retire_clockwork, State.dcacheInval_clockwork]

theorem State.escalate_clockwork (s : State) (a1) : (State.escalate s a1).clockwork = s.clockwork := by
  unfold State.escalate; grind [State.clockwork, foldl_clockwork, State.raisePage_clockwork, State.condemn_clockwork, State.askRestart_clockwork]

theorem State.declareHang_clockwork (s : State) : (State.declareHang s).clockwork = s.clockwork := by
  unfold State.declareHang; grind [State.clockwork, foldl_clockwork, State.raise_clockwork, State.count_clockwork, State.updAlert_clockwork, State.trigCapture_clockwork, State.escalate_clockwork]

theorem State.dmWrite_clockwork (s : State) (a1) (a2) (a3) : (State.dmWrite s a1 a2 a3).1.clockwork = s.clockwork := by
  fun_induction State.dmWrite s a1 a2 a3 <;> grind [State.clockwork, foldl_clockwork, State.memWrite_clockwork]

theorem State.dmApply_clockwork (s : State) (a1) (a2) (a3) : (State.dmApply s a1 a2 a3).1.clockwork = s.clockwork := by
  unfold State.dmApply; grind [State.clockwork, foldl_clockwork, State.yardErr_clockwork, State.dmWrite_clockwork, State.modYard_clockwork, State.atomApply_clockwork, State.wharfWrite_clockwork]

theorem State.rwSend_clockwork (s : State) (a1) (a2) (a3) (a4) : (State.rwSend s a1 a2 a3 a4).2.clockwork = s.clockwork := by
  fun_induction State.rwSend s a1 a2 a3 a4 <;> grind [State.clockwork, foldl_clockwork, State.takeSeq_clockwork, State.offer_clockwork]

theorem State.rwStart_clockwork (s : State) (a1) (a2) (a3) (a4) : (State.rwStart s a1 a2 a3 a4).clockwork = s.clockwork := by
  unfold State.rwStart; grind [State.clockwork, foldl_clockwork, State.modCore_clockwork, State.rwSend_clockwork]

theorem State.dmBegin_clockwork (s : State) (a1) (a2) (a3) (a4) (a5) : (State.dmBegin s a1 a2 a3 a4 a5).clockwork = s.clockwork := by
  unfold State.dmBegin; grind [State.clockwork, foldl_clockwork, State.modCore_clockwork, State.rwStart_clockwork]

theorem State.dmFinish_clockwork (s : State) (a1) (a2) : (State.dmFinish s a1 a2).clockwork = s.clockwork := by
  unfold State.dmFinish; grind [State.clockwork, foldl_clockwork, State.scbRelease_clockwork, State.modCore_clockwork]

theorem State.dmReject_clockwork (s : State) (a1) (a2) (a3) (a4) : (State.dmReject s a1 a2 a3 a4).clockwork = s.clockwork := by
  unfold State.dmReject; grind [State.clockwork, foldl_clockwork, State.wr_clockwork, State.raiseCtx_clockwork]

theorem State.dmStop_clockwork (s : State) (a1) (a2) (a3) : (State.dmStop s a1 a2 a3).clockwork = s.clockwork := by
  unfold State.dmStop; grind [State.clockwork, foldl_clockwork, State.dmFinish_clockwork, State.dmReject_clockwork]

theorem State.dmSyncInc_clockwork (s : State) (a1) (a2) (a3) : (State.dmSyncInc s a1 a2 a3).clockwork = s.clockwork := by
  unfold State.dmSyncInc; grind [State.clockwork, foldl_clockwork, State.syncInc_clockwork]

theorem State.dmComplete_clockwork (s : State) (a1) (a2) : (State.dmComplete s a1 a2).clockwork = s.clockwork := by
  unfold State.dmComplete; grind [State.clockwork, foldl_clockwork, State.dmApply_clockwork, State.dmStop_clockwork, State.dmSyncInc_clockwork, State.dmFinish_clockwork, State.count64_clockwork]

theorem State.dmRead_clockwork (s : State) (a1) (a2) (a3) (a4) (a5) : (State.dmRead s a1 a2 a3 a4 a5).1.clockwork = s.clockwork := by
  fun_induction State.dmRead s a1 a2 a3 a4 a5 <;> grind [State.clockwork, foldl_clockwork, State.memRead_clockwork]

theorem State.dmStart_clockwork (s : State) (a1) (a2) (a3) : (State.dmStart s a1 a2 a3).clockwork = s.clockwork := by
  unfold State.dmStart; grind [State.clockwork, foldl_clockwork, State.dmStop_clockwork, State.yardErr_clockwork, State.dmFinish_clockwork, State.dmRead_clockwork, State.portBefore_clockwork, State.dmBegin_clockwork]

theorem State.torn_clockwork (s : State) (a1) (a2) : (State.torn s a1 a2).1.clockwork = s.clockwork := by
  fun_induction State.torn s a1 a2 <;> grind [State.clockwork, foldl_clockwork, State.draw_clockwork]

theorem State.dmTear_clockwork (s : State) (a1) (a2) (a3) : (State.dmTear s a1 a2 a3).clockwork = s.clockwork := by
  unfold State.dmTear; grind [State.clockwork, foldl_clockwork, State.torn_clockwork, State.wharfWrite_clockwork, State.modMem_clockwork, State.draw_clockwork, State.atomApply_clockwork]

theorem State.dmaStart_clockwork (s : State) (a1) : (State.dmaStart s a1).clockwork = s.clockwork := by
  unfold State.dmaStart; grind [State.clockwork, foldl_clockwork, State.dmStart_clockwork, State.modCore_clockwork]

theorem State.dmqOp_clockwork (s : State) (a1) (a2) (a3) : (State.dmqOp s a1 a2 a3).clockwork = s.clockwork := by
  unfold State.dmqOp; grind [State.clockwork, foldl_clockwork, State.stall_clockwork, State.nextSeq_clockwork, State.retire_clockwork, State.dmReject_clockwork, State.scbAdd_clockwork, State.modCore_clockwork]

theorem State.domainHeat_clockwork (s : State) (a1) : (State.domainHeat s a1).clockwork = s.clockwork := by
  unfold State.domainHeat; grind [State.clockwork, foldl_clockwork, State.modDom_clockwork, State.wr_clockwork, State.raisePage_clockwork]

theorem State.drainDone_clockwork (s : State) (a1) (a2) : (State.drainDone s a1 a2).clockwork = s.clockwork := by
  unfold State.drainDone; grind [State.clockwork, foldl_clockwork, State.modCore_clockwork, State.scbRelease_clockwork]

theorem State.drainNan_clockwork (s : State) (a1) (a2) (a3) (a4) (a5) (a6) (a7) : (State.drainNan s a1 a2 a3 a4 a5 a6 a7).clockwork = s.clockwork := by
  unfold State.drainNan; grind [State.clockwork, foldl_clockwork, State.reportCore_clockwork, State.draw_clockwork]

theorem State.drainSat_clockwork (s : State) (a1) (a2) (a3) (a4) (a5) : (State.drainSat s a1 a2 a3 a4 a5).1.clockwork = s.clockwork := by
  unfold State.drainSat; grind [State.clockwork, foldl_clockwork, State.fillRec_clockwork, State.raiseCtx_clockwork]

theorem State.drainRow_clockwork (s : State) (a1) (a2) (a3) (a4) (a5) : (State.drainRow s a1 a2 a3 a4 a5).1.clockwork = s.clockwork := by
  unfold State.drainRow; grind [State.clockwork, foldl_clockwork, State.drainNan_clockwork, State.drainSat_clockwork, State.countDrn_clockwork, State.count64_clockwork]

theorem State.drainCarts_clockwork (s : State) (a1) (a2) (a3) (a4) (a5) : (State.drainCarts s a1 a2 a3 a4 a5).clockwork = s.clockwork := by
  fun_induction State.drainCarts s a1 a2 a3 a4 a5
  case case1 => rfl
  case case2 => exact State.drainDone_clockwork _ _ _
  case case3 => rfl
  case case4 s fuel it _ _ _ n s1 it1 bytes hs _ _ s2 s3 ih =>
    have h := foldl_fst_clockwork (fun (p : State × DrainItem × List Byte) i => ((p.1.drainRow a1 a2 p.2.1 a3 (it.next + i)).1, (p.1.drainRow a1 a2 p.2.1 a3 (it.next + i)).2.1, p.2.2 ++ (p.1.drainRow a1 a2 p.2.1 a3 (it.next + i)).2.2)) (List.range n) (s, it, []) (fun p a => State.drainRow_clockwork _ _ _ _ _ _)
    rw [hs] at h
    rw [ih]; exact (State.highWater_clockwork _ _ _ _ _ _ _).trans ((State.modCore_clockwork _ _ _).trans h)

theorem State.drainRows_clockwork (s : State) (a1) (a2) (a3) (a4) (a5) : (State.drainRows s a1 a2 a3 a4 a5).clockwork = s.clockwork := by
  fun_induction State.drainRows s a1 a2 a3 a4 a5 <;> grind [State.clockwork, foldl_clockwork, State.drainDone_clockwork, State.drainDone_clockwork, State.raiseCtx_clockwork, State.drainRow_clockwork, State.wharfWrite_clockwork]

theorem State.drainBank_clockwork (s : State) (a1) : (State.drainBank s a1).clockwork = s.clockwork := by
  unfold State.drainBank; grind [State.clockwork, foldl_clockwork, State.modCore_clockwork, State.drainRows_clockwork, State.drainCarts_clockwork]

theorem State.drawFrame_clockwork (s : State) (a1) : (State.drawFrame s a1).2.clockwork = s.clockwork := by
  unfold State.drawFrame; grind [State.clockwork, foldl_clockwork, State.draw_clockwork]

theorem State.drawIndex_clockwork (s : State) : (State.drawIndex s).2.clockwork = s.clockwork := by
  unfold State.drawIndex; grind [State.clockwork, foldl_clockwork, State.draw_clockwork]

theorem State.setPlan_clockwork (s : State) (a1) (a2) (a3) : (State.setPlan s a1 a2 a3).clockwork = s.clockwork := by
  unfold State.setPlan; grind [State.clockwork, foldl_clockwork, State.logEvent_clockwork, State.modDom_clockwork]

theorem State.droopStep_clockwork (s : State) (a1) : (State.droopStep s a1).clockwork = s.clockwork := by
  unfold State.droopStep; grind [State.clockwork, foldl_clockwork, State.setPlan_clockwork, State.raisePage_clockwork, State.modDom_clockwork]

theorem State.dropCarts_clockwork (s : State) (a1) (a2) : (State.dropCarts s a1 a2).clockwork = s.clockwork := by
  unfold State.dropCarts; grind [State.clockwork, foldl_clockwork, State.count_clockwork, State.modCore_clockwork, State.raiseCtx_clockwork]

theorem State.dsetOp_clockwork (s : State) (a1) (a2) (a3) : (State.dsetOp s a1 a2 a3).clockwork = s.clockwork := by
  unfold State.dsetOp; grind [State.clockwork, foldl_clockwork, State.stall_clockwork, State.retire_clockwork, State.badDesc_clockwork, State.modCore_clockwork]

theorem State.edgeFence_clockwork (s : State) : (State.edgeFence s).clockwork = s.clockwork := by
  unfold State.edgeFence; grind [State.clockwork, foldl_clockwork, State.portFlushAll_clockwork]

theorem State.forgetPounds_clockwork (s : State) (a1) : (State.forgetPounds s a1).clockwork = s.clockwork := by
  unfold State.forgetPounds; grind [State.clockwork, foldl_clockwork]

theorem State.tearStore_clockwork (s : State) (a1) (a2) : (State.tearStore s a1 a2).clockwork = s.clockwork := by
  unfold State.tearStore; grind [State.clockwork, foldl_clockwork, State.torn_clockwork, State.modMem_clockwork]

theorem State.removeCore_clockwork (s : State) (a1) (a2) : (State.removeCore s a1 a2).clockwork = s.clockwork := by
  unfold State.removeCore; grind [State.clockwork, foldl_clockwork, State.dmTear_clockwork, State.tearStore_clockwork, State.modCore_clockwork]

theorem State.rtRemove_clockwork (s : State) (a1) : (State.rtRemove s a1).clockwork = s.clockwork := by
  unfold State.rtRemove; grind [State.clockwork, foldl_clockwork, State.rtFree_clockwork]

theorem State.smpDrop_clockwork (s : State) (a1) : (State.smpDrop s a1).clockwork = s.clockwork := by
  unfold State.smpDrop; grind [State.clockwork, foldl_clockwork]

theorem State.yardDrop_clockwork (s : State) (a1) : (State.yardDrop s a1).clockwork = s.clockwork := by
  unfold State.yardDrop; grind [State.clockwork, foldl_clockwork, State.modYard_clockwork]

theorem State.removeWork_clockwork (s : State) (a1) (a2) : (State.removeWork s a1 a2).clockwork = s.clockwork := by
  unfold State.removeWork; grind [State.clockwork, foldl_clockwork, State.modCluster_clockwork, State.removeCore_clockwork, State.smpDrop_clockwork, State.rtRemove_clockwork, State.yardDrop_clockwork]

theorem State.scrubRecord_clockwork (s : State) (a1) (a2) : (State.scrubRecord s a1 a2).clockwork = s.clockwork := by
  unfold State.scrubRecord; grind [State.clockwork, foldl_clockwork, State.modCtx_clockwork, State.wr_clockwork, State.count_clockwork, State.emit_clockwork]

theorem State.stopPlans_clockwork (s : State) (a1) (a2) : (State.stopPlans s a1 a2).clockwork = s.clockwork := by
  unfold State.stopPlans; grind [State.clockwork, foldl_clockwork, State.modPlan_clockwork]

theorem State.edgeStep2_clockwork (s : State) (a1) (a2) (a3) : (State.edgeStep2 s a1 a2 a3).clockwork = s.clockwork := by
  unfold State.edgeStep2; grind [State.clockwork, foldl_clockwork, State.addTotals_clockwork, State.removeWork_clockwork, State.forgetPounds_clockwork, State.stopPlans_clockwork, State.edgeFence_clockwork, State.scrubRecord_clockwork]

theorem State.scrubStorm_clockwork (s : State) (a1) : (State.scrubStorm s a1).clockwork = s.clockwork := by
  unfold State.scrubStorm; grind [State.clockwork, foldl_clockwork, State.raiseCtx_clockwork]

theorem State.thermalLimit_clockwork (s : State) : (State.thermalLimit s).clockwork = s.clockwork := by
  unfold State.thermalLimit; grind [State.clockwork, foldl_clockwork, State.modDom_clockwork, State.count_clockwork]

theorem State.srvAfterYard_clockwork (s : State) (a1) : (State.srvAfterYard s a1).clockwork = s.clockwork := by
  unfold State.srvAfterYard; grind [State.clockwork, foldl_clockwork, State.respond_clockwork, State.modBerth_clockwork, State.yardRelease_clockwork, State.yardOpen_clockwork]

theorem State.yardDecide_clockwork (s : State) (a1) (a2) : (State.yardDecide s a1 a2).clockwork = s.clockwork := by
  unfold State.yardDecide; grind [State.clockwork, foldl_clockwork, State.count_clockwork]

theorem State.yardTrim_clockwork (s : State) (a1) (a2) (a3) : (State.yardTrim s a1 a2 a3).clockwork = s.clockwork := by
  unfold State.yardTrim; grind [State.clockwork, foldl_clockwork, State.modYard_clockwork, State.count_clockwork, State.yardErr_clockwork]

theorem State.yardEdge_clockwork (s : State) (a1) (a2) : (State.yardEdge s a1 a2).clockwork = s.clockwork := by
  unfold State.yardEdge; grind [State.clockwork, foldl_clockwork, State.yardDecide_clockwork, State.yardTrim_clockwork]

theorem State.edgeStep4_clockwork (s : State) (a1) (a2) (a3) : (State.edgeStep4 s a1 a2 a3).clockwork = s.clockwork := by
  unfold State.edgeStep4; grind [State.clockwork, foldl_clockwork, State.cydTimes_clockwork, State.yardEdge_clockwork, State.srvAfterYard_clockwork]

theorem State.grantCluster_clockwork (s : State) (a1) (a2) : (State.grantCluster s a1 a2).clockwork = s.clockwork := by
  unfold State.grantCluster; grind [State.clockwork, foldl_clockwork, State.count_clockwork, State.zeroCluster_clockwork, State.modCluster_clockwork]

theorem State.grantCand_clockwork (s : State) (a1) (a2) (a3) : (State.grantCand s a1 a2 a3).clockwork = s.clockwork := by
  unfold State.grantCand; grind [State.clockwork, foldl_clockwork, State.grantCluster_clockwork, State.setFld_clockwork, State.modCtx_clockwork, State.trace_clockwork, State.admitStep_clockwork, State.verifyLater_clockwork]

theorem State.grantAll_clockwork (s : State) (a1) (a2) (a3) (a4) : (State.grantAll s a1 a2 a3 a4).1.clockwork = s.clockwork := by
  fun_induction State.grantAll s a1 a2 a3 a4 <;> grind [State.clockwork, foldl_clockwork, State.grantCand_clockwork, State.skipCand_clockwork]

theorem State.openClusters_clockwork (s : State) : (State.openClusters s).clockwork = s.clockwork := by
  unfold State.openClusters; grind [State.clockwork, foldl_clockwork, State.setFld_clockwork]

theorem State.releaseGrants_clockwork (s : State) : (State.releaseGrants s).clockwork = s.clockwork := by
  unfold State.releaseGrants; grind [State.clockwork, foldl_clockwork]

theorem State.gaugeSnap_clockwork (s : State) : (State.gaugeSnap s).clockwork = s.clockwork := by
  unfold State.gaugeSnap; grind [State.clockwork, foldl_clockwork, State.draw_clockwork]

theorem State.edgeStep7_clockwork (s : State) (a1) (a2) : (State.edgeStep7 s a1 a2).clockwork = s.clockwork := by
  unfold State.edgeStep7; grind [State.clockwork, foldl_clockwork, State.highWater_clockwork, State.setFld_clockwork, State.raisePage_clockwork, State.gaugeSnap_clockwork, State.beatCheck_clockwork]

theorem State.enterHoldover_clockwork (s : State) : (State.enterHoldover s).clockwork = s.clockwork := by
  unfold State.enterHoldover; grind [State.clockwork, foldl_clockwork, State.raisePage_clockwork, State.setFld_clockwork]

theorem State.edgeSync_clockwork (s : State) (a1) (a2) : (State.edgeSync s a1 a2).clockwork = s.clockwork := by
  unfold State.edgeSync; grind [State.clockwork, foldl_clockwork, State.setFld_clockwork, State.enterHoldover_clockwork, State.count_clockwork]

theorem State.srvJudge_clockwork (s : State) (a1) (a2) : (State.srvJudge s a1 a2).clockwork = s.clockwork := by
  unfold State.srvJudge; grind [State.clockwork, foldl_clockwork, State.addToks_clockwork, State.modBerth_clockwork, State.modCtx_clockwork]

theorem State.endStep_clockwork (s : State) (a1) (a2) : (State.endStep s a1 a2).clockwork = s.clockwork := by
  unfold State.endStep; grind [State.clockwork, foldl_clockwork, State.trace_clockwork, State.mergeJudgeAll_clockwork, State.count_clockwork, State.srvJudge_clockwork, State.modCtx_clockwork]

theorem State.spillStep_clockwork (s : State) (a1) : (State.spillStep s a1).clockwork = s.clockwork := by
  unfold State.spillStep; grind [State.clockwork, foldl_clockwork, State.count_clockwork, State.raiseCtx_clockwork, State.wr_clockwork, State.modCtx_clockwork]

theorem State.judge_clockwork (s : State) (a1) (a2) (a3) : (State.judge s a1 a2 a3).clockwork = s.clockwork := by
  unfold State.judge; grind [State.clockwork, foldl_clockwork, State.count_clockwork, State.endStep_clockwork, State.spillStep_clockwork, State.raiseCtx_clockwork]

theorem State.meterEdge_clockwork (s : State) : (State.meterEdge s).clockwork = s.clockwork := by
  unfold State.meterEdge; grind [State.clockwork, foldl_clockwork, State.wr_clockwork, State.modCtx_clockwork, State.count64_clockwork]

theorem State.openPound_clockwork (s : State) (a1) : (State.openPound s a1).clockwork = s.clockwork := by
  unfold State.openPound; grind [State.clockwork, foldl_clockwork, State.modCtx_clockwork]

theorem State.powerLearn_clockwork (s : State) (a1) : (State.powerLearn s a1).clockwork = s.clockwork := by
  unfold State.powerLearn; grind [State.clockwork, foldl_clockwork]

theorem State.guardBand_clockwork (s : State) (a1) (a2) (a3) : (State.guardBand s a1 a2 a3).clockwork = s.clockwork := by
  unfold State.guardBand; grind [State.clockwork, foldl_clockwork, State.modDom_clockwork, State.raisePage_clockwork]

theorem State.fitPoints_clockwork (s : State) (a1) (a2) : (State.fitPoints s a1 a2).clockwork = s.clockwork := by
  unfold State.fitPoints; grind [State.clockwork, foldl_clockwork, State.modDom_clockwork, State.logEvent_clockwork, State.raisePage_clockwork]

theorem State.marginStep_clockwork (s : State) (a1) : (State.marginStep s a1).clockwork = s.clockwork := by
  unfold State.marginStep; grind [State.clockwork, foldl_clockwork, State.fitPoints_clockwork, State.modDom_clockwork]

theorem State.powerStep6_clockwork (s : State) (a1) : (State.powerStep6 s a1).clockwork = s.clockwork := by
  unfold State.powerStep6; grind [State.clockwork, foldl_clockwork, State.applyPoint_clockwork, State.guardBand_clockwork, State.droopStep_clockwork, State.applyRefresh_clockwork, State.marginStep_clockwork]

theorem State.finishVerify_clockwork (s : State) (a1) (a2) : (State.finishVerify s a1 a2).clockwork = s.clockwork := by
  unfold State.finishVerify; grind [State.clockwork, foldl_clockwork, State.modCtx_clockwork, State.addDeficit_clockwork, State.skipSlot_clockwork, State.admitStep_clockwork]

theorem State.finishVerifies_clockwork (s : State) (a1) : (State.finishVerifies s a1).clockwork = s.clockwork := by
  unfold State.finishVerifies; grind [State.clockwork, foldl_clockwork, State.finishVerify_clockwork]

theorem State.judgeLate_clockwork (s : State) (a1) : (State.judgeLate s a1).clockwork = s.clockwork := by
  unfold State.judgeLate; grind [State.clockwork, foldl_clockwork, State.modCtx_clockwork, State.sendNotice_clockwork]

theorem State.endBerth_clockwork (s : State) (a1) (a2) : (State.endBerth s a1 a2).clockwork = s.clockwork := by
  unfold State.endBerth; grind [State.clockwork, foldl_clockwork, State.count_clockwork, State.modBerth_clockwork, State.yardRelease_clockwork]

theorem State.fcqOp_clockwork (s : State) (a1) (a2) : (State.fcqOp s a1 a2).clockwork = s.clockwork := by
  unfold State.fcqOp; grind (splits := 40) (ematch := 20) (gen := 20) [State.clockwork, foldl_clockwork, State.stall_clockwork, State.retire_clockwork, State.badColl_clockwork, State.relDone_clockwork, State.readColl_clockwork, State.memRead_clockwork, State.modCtx_clockwork, State.needInst_clockwork, State.modInst_clockwork, State.collAdvance_clockwork]

theorem State.fetchBytes_clockwork (s : State) (a1) (a2) (a3) : (State.fetchBytes s a1 a2 a3).1.clockwork = s.clockwork := by
  unfold State.fetchBytes; grind [State.clockwork, foldl_clockwork, State.memRead_clockwork, State.portBefore_clockwork]

theorem State.modExch_clockwork (s : State) (a1) (a2) (a3) (a4) : (State.modExch s a1 a2 a3 a4).clockwork = s.clockwork := by
  unfold State.modExch; grind [State.clockwork, foldl_clockwork]

theorem State.rtServe_clockwork (s : State) (a1) (a2) (a3) (a4) (a5) (a6) : (State.rtServe s a1 a2 a3 a4 a5 a6).clockwork = s.clockwork := by
  unfold State.rtServe; grind [State.clockwork, foldl_clockwork, State.sendBarge_clockwork, State.raiseCtx_clockwork, State.memRead_clockwork, State.draw_clockwork, State.count64_clockwork, State.count_clockwork]

theorem State.fetchReqBarge_clockwork (s : State) (a1) (a2) (a3) : (s.fetchReqBarge a1 a2 a3).clockwork = s.clockwork := by
  unfold State.fetchReqBarge
  split
  · exact State.hold_clockwork s _
  · refine State.dataIn_clockwork s _ _ _ _ (fun s i j => ?_)
    dsimp only
    generalize (⟨a2, a3⟩ : Barge) = b
    refine (foldl_clockwork _ _ _ fun s r => State.rtServe_clockwork s _ _ _ _ _ _).trans ?_
    split
    · rfl
    · exact State.modExch_clockwork s _ _ _ _

theorem State.gaugeAccept_clockwork (s : State) (a1) (a2) : (State.gaugeAccept s a1 a2).clockwork = s.clockwork := by
  unfold State.gaugeAccept; grind [State.clockwork, foldl_clockwork, State.modCtx_clockwork, State.gaugeSnap_clockwork]

theorem State.gaugeWrite_clockwork (s : State) (a1) (a2) (a3) (a4) (a5) : (State.gaugeWrite s a1 a2 a3 a4 a5).clockwork = s.clockwork := by
  unfold State.gaugeWrite; grind [State.clockwork, foldl_clockwork, State.raise_clockwork, State.setFld_clockwork, State.memWrite_clockwork, State.emit_clockwork]

theorem State.idleRails_clockwork (s : State) : (State.idleRails s).clockwork = s.clockwork := by
  unfold State.idleRails; grind [State.clockwork, foldl_clockwork, State.modDom_clockwork]

theorem State.jump_clockwork (s : State) (a1) (a2) (a3) (a4) : (State.jump s a1 a2 a3 a4).clockwork = s.clockwork := by
  unfold State.jump; grind [State.clockwork, foldl_clockwork, State.modCore_clockwork]

theorem State.kernelEnd_clockwork (s : State) (a1) (a2) (a3) : (State.kernelEnd s a1 a2 a3).clockwork = s.clockwork := by
  unfold State.kernelEnd; grind [State.clockwork, foldl_clockwork, State.stall_clockwork, State.dropCarts_clockwork, State.modCore_clockwork, State.checkDone_clockwork, State.trace_clockwork]

theorem State.modLaunch_clockwork (s : State) (a1) (a2) (a3) : (State.modLaunch s a1 a2 a3).clockwork = s.clockwork := by
  unfold State.modLaunch; grind [State.clockwork, foldl_clockwork, State.modCtx_clockwork]

theorem State.slipAt_clockwork (s : State) (a1) (a2) (a3) : (State.slipAt s a1 a2 a3).clockwork = s.clockwork := by
  unfold State.slipAt; grind [State.clockwork, foldl_clockwork, State.highWater_clockwork, State.raiseCtx_clockwork]

theorem State.launchCore_clockwork (s : State) (a1) (a2) (a3) (a4) (a5) : (State.launchCore s a1 a2 a3 a4 a5).clockwork = s.clockwork := by
  unfold State.launchCore; grind [State.clockwork, foldl_clockwork, State.raiseCtx_clockwork, State.dcacheInval_clockwork, State.modCore_clockwork, State.modLaunch_clockwork, State.trace_clockwork, State.slipAt_clockwork]

theorem State.launch_clockwork (s : State) (a1) (a2) (a3) (a4) (a5) : (State.launch s a1 a2 a3 a4 a5).clockwork = s.clockwork := by
  unfold State.launch; grind [State.clockwork, foldl_clockwork, State.launchCore_clockwork]

theorem State.lineCorrected_clockwork (s : State) (a1) : (State.lineCorrected s a1).clockwork = s.clockwork := by
  unfold State.lineCorrected; grind [State.clockwork, foldl_clockwork, State.modMem_clockwork, State.count_clockwork, State.raisePage_clockwork]

theorem State.linePoisoned_clockwork (s : State) (a1) (a2) : (State.linePoisoned s a1 a2).clockwork = s.clockwork := by
  unfold State.linePoisoned; grind [State.clockwork, foldl_clockwork, State.count_clockwork, State.modMem_clockwork, State.raisePage_clockwork]

theorem State.toHoldover_clockwork (s : State) : (State.toHoldover s).clockwork = s.clockwork := by
  unfold State.toHoldover; grind [State.clockwork, foldl_clockwork, State.raisePage_clockwork, State.setFld_clockwork]

theorem State.resend_clockwork (s : State) (a1) : (State.resend s a1).clockwork = s.clockwork := by
  unfold State.resend; grind [State.clockwork, foldl_clockwork, State.undeliverable_clockwork, State.count_clockwork, State.putBarge_clockwork, State.fceCount_clockwork]

theorem State.loadAttempt_clockwork (s : State) : (State.loadAttempt s).1.clockwork = s.clockwork := by
  unfold State.loadAttempt; grind [State.clockwork, foldl_clockwork, State.wr_clockwork, State.copyBad_clockwork, State.attemptFailed_clockwork, State.raisePage_clockwork, State.optResult_clockwork, State.histEntry_clockwork, State.applyTrims_clockwork]

theorem State.scalarFault_clockwork (s : State) (a1) (a2) : (State.scalarFault s a1 a2).clockwork = s.clockwork := by
  unfold State.scalarFault; grind [State.clockwork, foldl_clockwork, State.retire_clockwork, State.raiseCtx_clockwork]

theorem State.loadOp_clockwork (s : State) (a1) (a2) (a3) (a4) (a5) : (State.loadOp s a1 a2 a3 a4 a5).clockwork = s.clockwork := by
  unfold State.loadOp; grind [State.clockwork, foldl_clockwork, State.stall_clockwork, State.scalarFault_clockwork, State.retire_clockwork, State.modCore_clockwork, State.dcacheRead_clockwork, State.portBefore_clockwork]

theorem State.yardCopyBytes_clockwork (s : State) (a1) (a2) (a3) (a4) (a5) : (State.yardCopyBytes s a1 a2 a3 a4 a5).1.clockwork = s.clockwork := by
  unfold State.yardCopyBytes; grind [State.clockwork, foldl_clockwork, State.memRead_clockwork, State.yardErr_clockwork, State.memWrite_clockwork]

theorem State.yardCopy_clockwork (s : State) (a1) (a2) (a3) (a4) : (State.yardCopy s a1 a2 a3 a4).1.clockwork = s.clockwork := by
  unfold State.yardCopy; grind [State.clockwork, foldl_clockwork, State.yardCopyBytes_clockwork]

theorem State.makeCoach_clockwork (s : State) (a1) (a2) : (State.makeCoach s a1 a2).1.clockwork = s.clockwork := by
  unfold State.makeCoach; grind [State.clockwork, foldl_clockwork, State.drawIndex_clockwork, State.drawFrame_clockwork, State.modYard_clockwork, State.yardCopy_clockwork]

theorem State.vecOps_clockwork (s : State) (a1) (a2) : (State.vecOps s a1 a2).clockwork = s.clockwork := by
  unfold State.vecOps; grind [State.clockwork, foldl_clockwork, State.count64_clockwork]

theorem State.maskWrite_clockwork (s : State) (a1) (a2) (a3) (a4) : (State.maskWrite s a1 a2 a3 a4).clockwork = s.clockwork := by
  unfold State.maskWrite; grind [State.clockwork, foldl_clockwork, State.vecOps_clockwork, State.modCore_clockwork]

theorem State.mergeArrive_clockwork (s : State) (a1) : (State.mergeArrive s a1).clockwork = s.clockwork := by
  unfold State.mergeArrive; grind [State.clockwork, foldl_clockwork, State.modCluster_clockwork, State.raiseCtx_clockwork, State.count_clockwork]

theorem State.mergeBarge_clockwork (s : State) (a1) (a2) (a3) : (s.mergeBarge a1 a2 a3).clockwork = s.clockwork := by
  unfold State.mergeBarge
  split
  · exact State.hold_clockwork s _
  · exact State.dataIn_clockwork s _ _ _ _ (fun s i j => State.collIn_clockwork s i j _)

theorem State.mergeTally_clockwork (s : State) (a1) (a2) (a3) (a4) : (State.mergeTally s a1 a2 a3 a4).clockwork = s.clockwork := by
  unfold State.mergeTally; grind [State.clockwork, foldl_clockwork, State.countAtp_clockwork, State.count_clockwork, State.reportCore_clockwork]

theorem State.mergeToWharf_clockwork (s : State) (a1) (a2) (a3) (a4) (a5) : (State.mergeToWharf s a1 a2 a3 a4 a5).clockwork = s.clockwork := by
  unfold State.mergeToWharf; grind [State.clockwork, foldl_clockwork, State.countAtp_clockwork, State.mergeTally_clockwork, State.wharfWrite_clockwork, State.syncInc_clockwork]

theorem State.mergeDeliver_clockwork (s : State) (a1) (a2) : (State.mergeDeliver s a1 a2).clockwork = s.clockwork := by
  unfold State.mergeDeliver; grind [State.clockwork, foldl_clockwork, State.modCluster_clockwork, State.count64_clockwork, State.mergeToWharf_clockwork, State.collLeaf_clockwork, State.mergeTally_clockwork]

theorem State.minute_clockwork (s : State) : (State.minute s).clockwork = s.clockwork := by
  unfold State.minute; grind [State.clockwork, foldl_clockwork]

theorem State.mxReject_clockwork (s : State) (a1) (a2) (a3) (a4) (a5) : (State.mxReject s a1 a2 a3 a4 a5).clockwork = s.clockwork := by
  unfold State.mxReject; grind [State.clockwork, foldl_clockwork, State.wr_clockwork, State.raiseCtx_clockwork]

theorem State.mxaHandover_clockwork (s : State) (a1) : (State.mxaHandover s a1).clockwork = s.clockwork := by
  unfold State.mxaHandover; grind [State.clockwork, foldl_clockwork, State.modCore_clockwork, State.scbRelease_clockwork]

theorem State.mxaOsSwapOut_clockwork (s : State) (a1) : (State.mxaOsSwapOut s a1).clockwork = s.clockwork := by
  unfold State.mxaOsSwapOut; grind [State.clockwork, foldl_clockwork, State.modCore_clockwork, State.scbRelease_clockwork]

theorem State.mxaShadowFull_clockwork (s : State) (a1) (a2) : (State.mxaShadowFull s a1 a2).clockwork = s.clockwork := by
  unfold State.mxaShadowFull; grind [State.clockwork, foldl_clockwork, State.scbRelease_clockwork, State.modCore_clockwork]

theorem State.startClaim_clockwork (s : State) (a1) (a2) : (State.startClaim s a1 a2).clockwork = s.clockwork := by
  unfold State.startClaim; grind [State.clockwork, foldl_clockwork, State.modCore_clockwork, State.scbRelease_clockwork, State.atReject_clockwork, State.mxReject_clockwork]

theorem State.osArray_clockwork (s : State) (a1) (a2) (a3) (a4) (a5) (a6) : (State.osArray s a1 a2 a3 a4 a5 a6).clockwork = s.clockwork := by
  unfold State.osArray; grind [State.clockwork, foldl_clockwork, State.modCore_clockwork, State.countMacs_clockwork, State.countDrn_clockwork]

theorem State.startOsmul_clockwork (s : State) (a1) (a2) (a3) : (State.startOsmul s a1 a2 a3).clockwork = s.clockwork := by
  unfold State.startOsmul; grind [State.clockwork, foldl_clockwork, State.osArray_clockwork, State.modCore_clockwork, State.scbRelease_clockwork]

theorem State.startSload_clockwork (s : State) (a1) (a2) : (State.startSload s a1 a2).clockwork = s.clockwork := by
  unfold State.startSload; grind [State.clockwork, foldl_clockwork, State.modCore_clockwork]

theorem State.wsArray_clockwork (s : State) (a1) (a2) (a3) (a4) (a5) (a6) : (State.wsArray s a1 a2 a3 a4 a5 a6).clockwork = s.clockwork := by
  unfold State.wsArray; grind [State.clockwork, foldl_clockwork, State.modCore_clockwork, State.countMacs_clockwork, State.countDrn_clockwork]

theorem State.startWsmul_clockwork (s : State) (a1) (a2) (a3) : (State.startWsmul s a1 a2 a3).clockwork = s.clockwork := by
  unfold State.startWsmul; grind [State.clockwork, foldl_clockwork, State.modCore_clockwork, State.scbRelease_clockwork, State.mxReject_clockwork, State.wsArray_clockwork]

theorem State.mxaStart_clockwork (s : State) (a1) (a2) : (State.mxaStart s a1 a2).clockwork = s.clockwork := by
  unfold State.mxaStart; grind [State.clockwork, foldl_clockwork, State.modCore_clockwork, State.startClaim_clockwork, State.startSload_clockwork, State.startWsmul_clockwork, State.startOsmul_clockwork, State.scbRelease_clockwork]

theorem State.mxaSwapEffect_clockwork (s : State) (a1) (a2) : (State.mxaSwapEffect s a1 a2).clockwork = s.clockwork := by
  unfold State.mxaSwapEffect; grind [State.clockwork, foldl_clockwork, State.modCore_clockwork, State.scbRelease_clockwork]

theorem State.mxqOp_clockwork (s : State) (a1) (a2) (a3) : (State.mxqOp s a1 a2 a3).clockwork = s.clockwork := by
  unfold State.mxqOp; grind [State.clockwork, foldl_clockwork, State.stall_clockwork, State.retire_clockwork, State.mxReject_clockwork, State.nextSeq_clockwork, State.scbAdd_clockwork, State.modCore_clockwork, State.highWater_clockwork]

theorem State.nanArrive_clockwork (s : State) : (State.nanArrive s).clockwork = s.clockwork := by
  unfold State.nanArrive; grind [State.clockwork, foldl_clockwork, State.fillRec_clockwork, State.raise_clockwork]

theorem State.newNonce_clockwork (s : State) : (State.newNonce s).clockwork = s.clockwork := by
  unfold State.newNonce; grind [State.clockwork, foldl_clockwork, State.draw_clockwork]

theorem State.newSid_clockwork (s : State) (a1) : (State.newSid s a1).2.clockwork = s.clockwork := by
  unfold State.newSid; grind [State.clockwork, foldl_clockwork, State.draw_clockwork]

theorem State.openFrame_clockwork (s : State) (a1) (a2) : (State.openFrame s a1 a2).clockwork = s.clockwork := by
  unfold State.openFrame; grind [State.clockwork, foldl_clockwork, State.frameRow_clockwork]

theorem State.pciFault_clockwork (s : State) (a1) (a2) : (State.pciFault s a1 a2).clockwork = s.clockwork := by
  unfold State.pciFault; grind [State.clockwork, foldl_clockwork, State.accessError_clockwork]

theorem State.planCmd_clockwork (s : State) (a1) (a2) (a3) (a4) (a5) (a6) : (State.planCmd s a1 a2 a3 a4 a5 a6).clockwork = s.clockwork := by
  unfold State.planCmd; grind [State.clockwork, foldl_clockwork, State.hold_clockwork, State.modPlan_clockwork, State.accessError_clockwork]

theorem State.planArm_clockwork (s : State) (a1) (a2) : (State.planArm s a1 a2).clockwork = s.clockwork := by
  unfold State.planArm; grind [State.clockwork, foldl_clockwork, State.planCmd_clockwork]

theorem State.planClear_clockwork (s : State) (a1) (a2) : (State.planClear s a1 a2).clockwork = s.clockwork := by
  unfold State.planClear; grind [State.clockwork, foldl_clockwork, State.planCmd_clockwork]

theorem State.planDisarm_clockwork (s : State) (a1) (a2) : (State.planDisarm s a1 a2).clockwork = s.clockwork := by
  unfold State.planDisarm; grind [State.clockwork, foldl_clockwork, State.planCmd_clockwork]

theorem State.planLoad_clockwork (s : State) (a1) (a2) : (State.planLoad s a1 a2).clockwork = s.clockwork := by
  unfold State.planLoad; grind [State.clockwork, foldl_clockwork, State.planCmd_clockwork]

theorem State.pldmSay_clockwork (s : State) (a1) (a2) : (State.pldmSay s a1 a2).clockwork = s.clockwork := by
  unfold State.pldmSay; grind [State.clockwork, foldl_clockwork, State.emit_clockwork]

theorem State.storePieces_clockwork (s : State) (a1) (a2) (a3) (a4) (a5) : (State.storePieces s a1 a2 a3 a4 a5).1.clockwork = s.clockwork := by
  fun_induction State.storePieces s a1 a2 a3 a4 a5 <;> grind [State.clockwork, foldl_clockwork, State.xlate_clockwork, State.memFault_clockwork]

theorem State.storeRuns_clockwork (s : State) (a1) (a2) (a3) (a4) : (State.storeRuns s a1 a2 a3 a4).1.clockwork = s.clockwork := by
  fun_induction State.storeRuns s a1 a2 a3 a4 <;> grind [State.clockwork, foldl_clockwork, State.storePieces_clockwork]

theorem State.portStore_clockwork (s : State) (a1) (a2) (a3) : (State.portStore s a1 a2 a3).1.clockwork = s.clockwork := by
  unfold State.portStore; grind [State.clockwork, foldl_clockwork, State.raiseCtx_clockwork, State.storeRuns_clockwork, State.modMem_clockwork, State.modCore_clockwork]

theorem State.preread_clockwork (s : State) (a1) : (State.preread s a1).clockwork = s.clockwork := by
  unfold State.preread; grind [State.clockwork, foldl_clockwork, State.memRead_clockwork, State.modCtx_clockwork]

theorem State.readMaybe_clockwork (s : State) (a1) (a2) (a3) : (State.readMaybe s a1 a2 a3).1.clockwork = s.clockwork := by
  unfold State.readMaybe; grind [State.clockwork, foldl_clockwork, State.memRead_clockwork]

theorem State.readReg_clockwork (s : State) (a1) (a2) (a3) : (State.readReg s a1 a2 a3).clockwork = s.clockwork := by
  unfold State.readReg; grind [State.clockwork, foldl_clockwork]

theorem State.readSensors_clockwork (s : State) (a1) : (State.readSensors s a1).clockwork = s.clockwork := by
  unfold State.readSensors; grind [State.clockwork, foldl_clockwork, State.raisePage_clockwork]

theorem State.stageImage_clockwork (s : State) (a1) : (State.stageImage s a1).clockwork = s.clockwork := by
  unfold State.stageImage; grind [State.clockwork, foldl_clockwork]

theorem State.startAttest_clockwork (s : State) : (State.startAttest s).clockwork = s.clockwork := by
  unfold State.startAttest; grind [State.clockwork, foldl_clockwork, State.tamper_clockwork, State.raisePage_clockwork]

theorem State.startLog_clockwork (s : State) : (State.startLog s).clockwork = s.clockwork := by
  unfold State.startLog; grind [State.clockwork, foldl_clockwork, State.modDom_clockwork, State.fitPoints_clockwork]

theorem State.startPower_clockwork (s : State) : (State.startPower s).clockwork = s.clockwork := by
  unfold State.startPower; grind [State.clockwork, foldl_clockwork, State.idleRails_clockwork, State.startLog_clockwork, State.modDom_clockwork, State.setFld_clockwork]

theorem State.startReady_clockwork (s : State) : (State.startReady s).clockwork = s.clockwork := by
  unfold State.startReady; grind [State.clockwork, foldl_clockwork, State.modCtx_clockwork, State.wr_clockwork, State.logEvent_clockwork]

theorem State.stuck_clockwork (s : State) : (State.stuck s).clockwork = s.clockwork := by
  unfold State.stuck; grind [State.clockwork, foldl_clockwork]

theorem State.startRest_clockwork (s : State) : (State.startRest s).clockwork = s.clockwork := by
  unfold State.startRest; grind [State.clockwork, foldl_clockwork, State.pickImage_clockwork, State.startAttest_clockwork, State.startPower_clockwork, State.stuck_clockwork, State.startReady_clockwork]

theorem State.startOptions_clockwork (s : State) : (State.startOptions s).clockwork = s.clockwork := by
  unfold State.startOptions; grind [State.clockwork, foldl_clockwork, State.startRest_clockwork, State.fallBack_clockwork, State.optResult_clockwork, State.loadAttempt_clockwork]

theorem State.recover_clockwork (s : State) (a1) : (State.recover s a1).clockwork = s.clockwork := by
  unfold State.recover; grind [State.clockwork, foldl_clockwork, State.stageImage_clockwork, State.runImage_clockwork, State.pldmSay_clockwork, State.startOptions_clockwork, State.startReady_clockwork, State.imageRefused_clockwork]

theorem State.vecSx_clockwork (s : State) (a1) (a2) (a3) : (State.vecSx s a1 a2 a3).clockwork = s.clockwork := by
  unfold State.vecSx; grind [State.clockwork, foldl_clockwork, State.modCore_clockwork]

theorem State.redWrite_clockwork (s : State) (a1) (a2) (a3) : (State.redWrite s a1 a2 a3).clockwork = s.clockwork := by
  unfold State.redWrite; grind [State.clockwork, foldl_clockwork, State.vecSx_clockwork, State.modCore_clockwork]

theorem State.rwAcked_clockwork (s : State) (a1) (a2) (a3) : (State.rwAcked s a1 a2 a3).clockwork = s.clockwork := by
  unfold State.rwAcked; grind [State.clockwork, foldl_clockwork, State.flightAbort_clockwork, State.dmStop_clockwork, State.modCore_clockwork]

theorem State.rwackBarge_clockwork (s : State) (a1) (a2) (a3) : (State.rwackBarge s a1 a2 a3).clockwork = s.clockwork := by
  unfold State.rwackBarge; grind [State.clockwork, foldl_clockwork, State.hold_clockwork, State.dataIn_clockwork, State.rwAcked_clockwork]

theorem State.rwriteBarge_clockwork (s : State) (a1) (a2) (a3) : (State.rwriteBarge s a1 a2 a3).clockwork = s.clockwork := by
  unfold State.rwriteBarge; grind [State.clockwork, foldl_clockwork, State.hold_clockwork, State.dataIn_clockwork, State.modPlan_clockwork]

theorem State.rtSync_clockwork (s : State) (a1) (a2) (a3) : (State.rtSync s a1 a2 a3).clockwork = s.clockwork := by
  unfold State.rtSync; grind [State.clockwork, foldl_clockwork, State.syncInc_clockwork]

theorem State.rtLand_clockwork (s : State) (a1) (a2) : (State.rtLand s a1 a2).clockwork = s.clockwork := by
  unfold State.rtLand; grind [State.clockwork, foldl_clockwork, State.memWrite_clockwork, State.rteError_clockwork, State.rtSync_clockwork]

theorem State.rtWriteDir_clockwork (s : State) (a1) (a2) : (State.rtWriteDir s a1 a2).1.clockwork = s.clockwork := by
  fun_induction State.rtWriteDir s a1 a2 <;> grind [State.clockwork, foldl_clockwork, State.memWrite_clockwork]

theorem State.rtFetchEnd_clockwork (s : State) (a1) (a2) : (State.rtFetchEnd s a1 a2).clockwork = s.clockwork := by
  unfold State.rtFetchEnd; grind [State.clockwork, foldl_clockwork, State.raiseCtx_clockwork, State.count_clockwork, State.rtWriteDir_clockwork, State.rteError_clockwork, State.rtLand_clockwork]

theorem State.rtWeight_clockwork (s : State) (a1) : (State.rtWeight s a1).clockwork = s.clockwork := by
  unfold State.rtWeight; grind [State.clockwork, foldl_clockwork, State.raiseCtx_clockwork, State.rtFetchEnd_clockwork, State.memWrite_clockwork, State.rteError_clockwork]

theorem State.rtDrain_clockwork (s : State) : (State.rtDrain s).clockwork = s.clockwork := by
  unfold State.rtDrain; grind [State.clockwork, foldl_clockwork, State.rtWeight_clockwork]

theorem State.weightBarge_clockwork (s : State) (a1) (a2) (a3) : (State.weightBarge s a1 a2 a3).clockwork = s.clockwork := by
  unfold State.weightBarge; grind [State.clockwork, foldl_clockwork, State.hold_clockwork, State.dataIn_clockwork, State.count64_clockwork, State.rtDrain_clockwork]

theorem State.ringDrain_clockwork (s : State) (a1) (a2) : (State.ringDrain s a1 a2).clockwork = s.clockwork := by
  fun_induction State.ringDrain s a1 a2 <;> grind [State.clockwork, foldl_clockwork, State.outWrite_clockwork, State.modCtx_clockwork]

theorem State.rtCommit_clockwork (s : State) (a1) (a2) (a3) : (State.rtCommit s a1 a2 a3).clockwork = s.clockwork := by
  unfold State.rtCommit; grind [State.clockwork, foldl_clockwork, State.modCtx_clockwork, State.count_clockwork, State.rteError_clockwork]

theorem State.rtReadRows_clockwork (s : State) (a1) (a2) (a3) (a4) : (State.rtReadRows s a1 a2 a3 a4).1.clockwork = s.clockwork := by
  fun_induction State.rtReadRows s a1 a2 a3 a4 <;> grind [State.clockwork, foldl_clockwork, State.memRead_clockwork, State.rteError_clockwork]

theorem State.rtRequests_clockwork (s : State) (a1) (a2) (a3) : (State.rtRequests s a1 a2 a3).clockwork = s.clockwork := by
  unfold State.rtRequests; grind [State.clockwork, foldl_clockwork, State.modExch_clockwork, State.sendBarge_clockwork]

theorem State.rteFault_clockwork (s : State) (a1) (a2) : (State.rteFault s a1 a2).clockwork = s.clockwork := by
  unfold State.rteFault; grind [State.clockwork, foldl_clockwork, State.rteError_clockwork]

theorem State.rtRun_clockwork (s : State) (a1) : (State.rtRun s a1).clockwork = s.clockwork := by
  unfold State.rtRun; grind (splits := 40) (ematch := 20) (gen := 20) [State.clockwork, foldl_clockwork, State.readMaybe_clockwork, State.rteFault_clockwork, State.rtReadRows_clockwork, State.memWrite_clockwork, State.rtWriteDir_clockwork, State.rtSync_clockwork, State.rtRequests_clockwork, State.rtCommit_clockwork]

theorem State.rteSelectOp_clockwork (s : State) : (State.rteSelectOp s).clockwork = s.clockwork := by
  unfold State.rteSelectOp; grind [State.clockwork, foldl_clockwork, State.rteError_clockwork, State.rtRun_clockwork]

theorem State.rtqOp_clockwork (s : State) (a1) (a2) : (State.rtqOp s a1 a2).clockwork = s.clockwork := by
  unfold State.rtqOp; grind [State.clockwork, foldl_clockwork, State.stall_clockwork, State.relDone_clockwork, State.retire_clockwork, State.nextSeq_clockwork, State.rteError_clockwork, State.count_clockwork]

theorem State.setRd_clockwork (s : State) (a1) (a2) (a3) (a4) : (State.setRd s a1 a2 a3 a4).clockwork = s.clockwork := by
  unfold State.setRd; grind [State.clockwork, foldl_clockwork, State.retire_clockwork, State.modCore_clockwork]

theorem State.storeOp_clockwork (s : State) (a1) (a2) (a3) (a4) (a5) : (State.storeOp s a1 a2 a3 a4 a5).clockwork = s.clockwork := by
  unfold State.storeOp; grind [State.clockwork, foldl_clockwork, State.scalarFault_clockwork, State.stall_clockwork, State.retire_clockwork, State.wharfWrite_clockwork, State.portStore_clockwork]

theorem State.tokenOut_clockwork (s : State) (a1) (a2) (a3) (a4) : (State.tokenOut s a1 a2 a3 a4).clockwork = s.clockwork := by
  unfold State.tokenOut; grind [State.clockwork, foldl_clockwork, State.modBerth_clockwork, State.count_clockwork, State.respond_clockwork]

theorem State.sampleOne_clockwork (s : State) (a1) : (State.sampleOne s a1).clockwork = s.clockwork := by
  unfold State.sampleOne; grind [State.clockwork, foldl_clockwork, State.count64_clockwork, State.raiseCtx_clockwork, State.count_clockwork, State.endBerth_clockwork, State.tokenOut_clockwork, State.draw_clockwork, State.modBerth_clockwork]

theorem State.scoreArrive_clockwork (s : State) : (State.scoreArrive s).clockwork = s.clockwork := by
  unfold State.scoreArrive; grind [State.clockwork, foldl_clockwork, State.modYard_clockwork]

theorem State.setConn_clockwork (s : State) (a1) (a2) : (State.setConn s a1 a2).clockwork = s.clockwork := by
  unfold State.setConn; grind [State.clockwork, foldl_clockwork]

theorem State.spdmSay_clockwork (s : State) (a1) (a2) (a3) (a4) (a5) : (State.spdmSay s a1 a2 a3 a4 a5).clockwork = s.clockwork := by
  unfold State.spdmSay; grind [State.clockwork, foldl_clockwork, State.emit_clockwork]

theorem State.spdmError_clockwork (s : State) (a1) (a2) (a3) : (State.spdmError s a1 a2 a3).clockwork = s.clockwork := by
  unfold State.spdmError; grind [State.clockwork, foldl_clockwork, State.spdmSay_clockwork]

theorem State.spdm_clockwork (s : State) t f (h : ∀ s, (f s).clockwork = s.clockwork) : (s.spdm t f).clockwork = s.clockwork := by
  unfold State.spdm; grind [State.clockwork, foldl_clockwork, State.spdmError_clockwork]

theorem State.spqOp_clockwork (s : State) (a1) (a2) : (State.spqOp s a1 a2).clockwork = s.clockwork := by
  unfold State.spqOp; grind [State.clockwork, foldl_clockwork, State.stall_clockwork, State.relDone_clockwork, State.retire_clockwork, State.badSample_clockwork, State.memRead_clockwork, State.modCtx_clockwork]

theorem State.stackHeat_clockwork (s : State) (a1) : (State.stackHeat s a1).clockwork = s.clockwork := by
  unfold State.stackHeat; grind [State.clockwork, foldl_clockwork, State.setFld_clockwork, State.raisePage_clockwork]

theorem State.startBackup_clockwork (s : State) : (State.startBackup s).clockwork = s.clockwork := by
  unfold State.startBackup; grind [State.clockwork, foldl_clockwork, State.raisePage_clockwork, State.optFailed_clockwork, State.histEntry_clockwork]

theorem State.startEntropy_clockwork (s : State) : (State.startEntropy s).clockwork = s.clockwork := by
  unfold State.startEntropy; grind [State.clockwork, foldl_clockwork, State.draw_clockwork, State.modMem_clockwork, State.pickImage_clockwork, State.stuck_clockwork, State.startOptions_clockwork]

theorem State.sywWaitEnd_clockwork (s : State) (a1) : (State.sywWaitEnd s a1).clockwork = s.clockwork := by
  unfold State.sywWaitEnd; grind [State.clockwork, foldl_clockwork, State.sywEnd_clockwork]

theorem State.takeIndex_clockwork (s : State) : (State.takeIndex s).clockwork = s.clockwork := by
  unfold State.takeIndex; grind [State.clockwork, foldl_clockwork]

theorem State.throttleHeat_clockwork (s : State) : (State.throttleHeat s).clockwork = s.clockwork := by
  unfold State.throttleHeat; grind [State.clockwork, foldl_clockwork, State.logEvent_clockwork, State.raisePage_clockwork]

theorem State.unlock_clockwork (s : State) : (State.unlock s).clockwork = s.clockwork := by
  unfold State.unlock; grind [State.clockwork, foldl_clockwork, State.raisePage_clockwork, State.setFld_clockwork, State.flightAbort_clockwork, State.modPlan_clockwork]

theorem State.vecRange_clockwork (s : State) (a1) (a2) : (State.vecRange s a1 a2).clockwork = s.clockwork := by
  unfold State.vecRange; grind [State.clockwork, foldl_clockwork, State.count_clockwork, State.modCore_clockwork]

theorem State.vecCart_clockwork (s : State) (a1) (a2) (a3) : (State.vecCart s a1 a2 a3).clockwork = s.clockwork := by
  unfold State.vecCart; grind [State.clockwork, foldl_clockwork, State.vecSx_clockwork, State.modCore_clockwork, State.vecRange_clockwork, State.count_clockwork]

theorem State.vecCmp_clockwork (s : State) (a1) (a2) (a3) : (State.vecCmp s a1 a2 a3).clockwork = s.clockwork := by
  unfold State.vecCmp; grind [State.clockwork, foldl_clockwork, State.maskWrite_clockwork]

theorem State.vecReport_clockwork (s : State) (a1) (a2) (a3) (a4) : (State.vecReport s a1 a2 a3 a4).clockwork = s.clockwork := by
  unfold State.vecReport; grind [State.clockwork, foldl_clockwork, State.modCore_clockwork, State.count_clockwork, State.reportCore_clockwork]

theorem State.vecWrite_clockwork (s : State) (a1) (a2) (a3) (a4) (a5) : (State.vecWrite s a1 a2 a3 a4 a5).clockwork = s.clockwork := by
  unfold State.vecWrite; grind [State.clockwork, foldl_clockwork, State.modCore_clockwork, State.vecOps_clockwork, State.vecReport_clockwork]

theorem State.vecCtrl_clockwork (s : State) (a1) (a2) (a3) : (State.vecCtrl s a1 a2 a3).clockwork = s.clockwork := by
  unfold State.vecCtrl; grind [State.clockwork, foldl_clockwork, State.modCore_clockwork, State.vecSx_clockwork, State.vecWrite_clockwork]

theorem State.vecCvt_clockwork (s : State) (a1) (a2) (a3) : (State.vecCvt s a1 a2 a3).clockwork = s.clockwork := by
  unfold State.vecCvt; grind [State.clockwork, foldl_clockwork, State.modCore_clockwork, State.vecOps_clockwork, State.vecReport_clockwork]

theorem State.vecElem_clockwork (s : State) (a1) (a2) (a3) : (State.vecElem s a1 a2 a3).clockwork = s.clockwork := by
  unfold State.vecElem; grind [State.clockwork, foldl_clockwork, State.vecWrite_clockwork]

theorem State.vecEmpty_clockwork (s : State) (a1) (a2) (a3) : (State.vecEmpty s a1 a2 a3).clockwork = s.clockwork := by
  unfold State.vecEmpty; grind [State.clockwork, foldl_clockwork, State.modCore_clockwork, State.count_clockwork]

theorem State.vecMask_clockwork (s : State) (a1) (a2) : (State.vecMask s a1 a2).clockwork = s.clockwork := by
  unfold State.vecMask; grind [State.clockwork, foldl_clockwork, State.maskWrite_clockwork, State.modCore_clockwork, State.vecSx_clockwork]

theorem State.vecReject_clockwork (s : State) (a1) (a2) (a3) : (State.vecReject s a1 a2 a3).clockwork = s.clockwork := by
  unfold State.vecReject; grind [State.clockwork, foldl_clockwork, State.wr_clockwork, State.raiseCtx_clockwork]

theorem State.vecMem_clockwork (s : State) (a1) (a2) (a3) : (State.vecMem s a1 a2 a3).clockwork = s.clockwork := by
  unfold State.vecMem; grind [State.clockwork, foldl_clockwork, State.vecReject_clockwork, State.vecWrite_clockwork, State.vecOps_clockwork, State.modCore_clockwork, State.portBefore_clockwork, State.dcacheRead_clockwork, State.portStore_clockwork]

theorem State.vecPerm_clockwork (s : State) (a1) (a2) (a3) : (State.vecPerm s a1 a2 a3).clockwork = s.clockwork := by
  unfold State.vecPerm; grind [State.clockwork, foldl_clockwork, State.vecWrite_clockwork, State.vecRange_clockwork, State.modCore_clockwork, State.vecOps_clockwork, State.vecSx_clockwork]

theorem State.vecQmx_clockwork (s : State) (a1) (a2) (a3) : (State.vecQmx s a1 a2 a3).clockwork = s.clockwork := by
  unfold State.vecQmx; grind [State.clockwork, foldl_clockwork, State.modCore_clockwork, State.vecOps_clockwork, State.count_clockwork]

theorem State.vecRed_clockwork (s : State) (a1) (a2) (a3) : (State.vecRed s a1 a2 a3).clockwork = s.clockwork := by
  unfold State.vecRed; grind [State.clockwork, foldl_clockwork, State.vecOps_clockwork, State.vecEmpty_clockwork, State.redWrite_clockwork, State.vecReport_clockwork]

theorem State.vecExec_clockwork (s : State) (a1) (a2) (a3) : (State.vecExec s a1 a2 a3).clockwork = s.clockwork := by
  unfold State.vecExec; grind [State.clockwork, foldl_clockwork, State.vecCtrl_clockwork, State.vecElem_clockwork, State.vecCmp_clockwork, State.vecQmx_clockwork, State.vecCvt_clockwork, State.vecPerm_clockwork, State.vecRed_clockwork, State.vecMask_clockwork, State.vecMem_clockwork, State.vecCart_clockwork]

theorem State.vecIssue_clockwork (s : State) (a1) : (State.vecIssue s a1).clockwork = s.clockwork := by
  unfold State.vecIssue; grind [State.clockwork, foldl_clockwork, State.modCore_clockwork, State.scbRelease_clockwork, State.vecExec_clockwork]

theorem State.vecOp_clockwork (s : State) (a1) (a2) (a3) (a4) : (State.vecOp s a1 a2 a3 a4).clockwork = s.clockwork := by
  unfold State.vecOp; grind (splits := 40) (ematch := 20) (gen := 20) [State.clockwork, foldl_clockwork, State.stall_clockwork, State.retire_clockwork, State.vecReject_clockwork, State.nextSeq_clockwork, State.vecExec_clockwork, State.scbAdd_clockwork, State.modCore_clockwork, State.highWater_clockwork]

theorem State.windowRead_clockwork (s : State) (a1) (a2) (a3) : (State.windowRead s a1 a2 a3).1.clockwork = s.clockwork := by
  unfold State.windowRead; grind [State.clockwork, foldl_clockwork, State.memRead_clockwork, State.apertureFault_clockwork]

theorem State.windowWrite_clockwork (s : State) (a1) (a2) (a3) : (State.windowWrite s a1 a2 a3).clockwork = s.clockwork := by
  unfold State.windowWrite; grind [State.clockwork, foldl_clockwork, State.apertureFault_clockwork, State.memWrite_clockwork]

theorem State.xlatInv_clockwork (s : State) (a1) (a2) : (State.xlatInv s a1 a2).clockwork = s.clockwork := by
  unfold State.xlatInv; grind [State.clockwork, foldl_clockwork]

theorem YardRun.item_clockwork (s : State) (r : YardRun) a b (h : (r.s.clockwork = s.clockwork)) : (r.item a b).s.clockwork = s.clockwork := by
  unfold YardRun.item; grind [State.clockwork, foldl_clockwork, State.modYard_clockwork, State.makeCoach_clockwork]

theorem YardRun.items_clockwork (s : State) (xs : List ChainItem) a (r : YardRun) (h : (r.s.clockwork = s.clockwork)) : (xs.foldl (fun r it => r.item a it) r).s.clockwork = s.clockwork := by
  induction xs generalizing r with
  | nil => exact h
  | cons x xs ih => exact ih _ (YardRun.item_clockwork s r a x h)

theorem YardRun.chains_clockwork (s : State) (xs : List (Nat × List ChainItem)) a b (r : YardRun) (h : (r.s.clockwork = s.clockwork)) : (xs.foldl (fun r c => r.chainOf a b c) r).s.clockwork = s.clockwork := by
  induction xs generalizing r with
  | nil => exact h
  | cons x xs ih => exact ih _ (YardRun.items_clockwork s x.2 a { r with chain := [] } h)

theorem State.yardApply_clockwork (s : State) (a1) (a2) (a3) : (State.yardApply s a1 a2 a3).1.clockwork = s.clockwork := by
  have h := YardRun.chains_clockwork s a3.chains a1 a3.berth ⟨s, true, [], 0, 0⟩ rfl
  unfold State.yardApply
  generalize List.foldl _ _ a3.chains = r at h ⊢
  grind [State.clockwork, foldl_clockwork, State.modCtx_clockwork, State.count_clockwork, State.count64_clockwork]

theorem State.yardResult_clockwork (s : State) (a1) (a2) (a3) : (State.yardResult s a1 a2 a3).clockwork = s.clockwork := by
  unfold State.yardResult; grind [State.clockwork, foldl_clockwork, State.wharfWrite_clockwork]

theorem State.yardRefuse_clockwork (s : State) (a1) (a2) : (State.yardRefuse s a1 a2).clockwork = s.clockwork := by
  unfold State.yardRefuse; grind [State.clockwork, foldl_clockwork, State.yardErr_clockwork, State.count_clockwork, State.yardResult_clockwork]

theorem State.yardDo_clockwork (s : State) (a1) (a2) : (State.yardDo s a1 a2).clockwork = s.clockwork := by
  unfold State.yardDo; grind [State.clockwork, foldl_clockwork, State.yardResult_clockwork, State.modYard_clockwork, State.modCtx_clockwork, State.yardApply_clockwork, State.yardRefuse_clockwork]

theorem State.yardRetire_clockwork (s : State) (a1) : (State.yardRetire s a1).clockwork = s.clockwork := by
  unfold State.yardRetire; grind [State.clockwork, foldl_clockwork, State.scbRelease_clockwork]

theorem State.yardExec_clockwork (s : State) (a1) : (State.yardExec s a1).clockwork = s.clockwork := by
  unfold State.yardExec; grind [State.clockwork, foldl_clockwork, State.modYard_clockwork, State.count_clockwork, State.yardErr_clockwork, State.yardDo_clockwork, State.yardRetire_clockwork]

end Sys2Proof.Machine
end

