-- ==== Sys2Proof/Laws/DramFrame.lean ====
section
/-! SUPPORT. Which shared operations leave device memory alone while no tenant trace can spill into it (R354): one lemma per operation. -/

namespace Sys2Proof.Machine

theorem foldl_dram {α} (g : State → α → State) (xs : List α) (s : State) (w : s.dbg.st ≠ 1) (h : ∀ s a, s.dbg.st ≠ 1 → (g s a).dram = s.dram) : (xs.foldl g s).dram = s.dram := by
  induction xs generalizing s with
  | nil => rfl
  | cons x xs ih => have := h s x w; have := ih (g s x) (by simp_all [State.dram]); simp_all

theorem State.wr_dram (s : State) (a1) (a2) (a3) (a4) (a5) (w : s.dbg.st ≠ 1) : (State.wr s a1 a2 a3 a4 a5).dram = s.dram := by
  unfold State.wr; grind [State.dram, foldl_dram, Mem.fill]

theorem State.wr64_dram (s : State) (a1) (a2) (a3) (a4) (a5) (w : s.dbg.st ≠ 1) : (State.wr64 s a1 a2 a3 a4 a5).dram = s.dram := by
  unfold State.wr64; grind [State.dram, foldl_dram, Mem.fill, State.wr_dram]

theorem State.count64_dram (s : State) (a1) (a2) (a3) (a4) (a5) (w : s.dbg.st ≠ 1) : (State.count64 s a1 a2 a3 a4 a5).dram = s.dram := by
  unfold State.count64; grind [State.dram, foldl_dram, Mem.fill, State.wr64_dram]

theorem State.count_dram (s : State) (a1) (a2) (a3) (a4) (a5) (w : s.dbg.st ≠ 1) : (State.count s a1 a2 a3 a4 a5).dram = s.dram := by
  unfold State.count; grind [State.dram, foldl_dram, Mem.fill, State.wr_dram]

theorem State.fceCount_dram (s : State) (a1) (a2) (w : s.dbg.st ≠ 1) : (State.fceCount s a1 a2).dram = s.dram := by
  unfold State.fceCount; grind [State.dram, foldl_dram, Mem.fill, State.count_dram]

theorem State.dropBarge_dram (s : State) (a1) (a2) (w : s.dbg.st ≠ 1) : (State.dropBarge s a1 a2).dram = s.dram := by
  unfold State.dropBarge; grind [State.dram, foldl_dram, Mem.fill, State.count_dram, State.fceCount_dram]

theorem State.setCtx_dram (s : State) (a1) (a2) (w : s.dbg.st ≠ 1) : (State.setCtx s a1 a2).dram = s.dram := by
  unfold State.setCtx; grind [State.dram, foldl_dram, Mem.fill]

theorem State.modCtx_dram (s : State) (a1) (a2) (w : s.dbg.st ≠ 1) : (State.modCtx s a1 a2).dram = s.dram := by
  unfold State.modCtx; grind [State.dram, foldl_dram, Mem.fill, State.setCtx_dram]

theorem State.condemn_dram (s : State) (a1) (a2) (a3) (a4) (w : s.dbg.st ≠ 1) : (State.condemn s a1 a2 a3 a4).dram = s.dram := by
  unfold State.condemn; grind [State.dram, foldl_dram, Mem.fill, State.modCtx_dram]

theorem State.emit_dram (s : State) (a1) (w : s.dbg.st ≠ 1) : (State.emit s a1).dram = s.dram := by
  unfold State.emit; grind [State.dram, foldl_dram, Mem.fill]

theorem State.recordIn_dram (s : State) (a1) (a2) (w : s.dbg.st ≠ 1) : (State.recordIn s a1 a2).dram = s.dram := by
  unfold State.recordIn; grind [State.dram, foldl_dram, Mem.fill, State.wr_dram, State.count_dram]

theorem State.record_dram (s : State) (a1) (w : s.dbg.st ≠ 1) : (State.record s a1).dram = s.dram := by
  unfold State.record; grind [State.dram, foldl_dram, Mem.fill, State.recordIn_dram, State.emit_dram]

theorem State.updAlert_dram (s : State) (w : s.dbg.st ≠ 1) : (State.updAlert s).dram = s.dram := by
  unfold State.updAlert; grind [State.dram, foldl_dram, Mem.fill, State.emit_dram]

theorem State.imageRefused_dram (s : State) (a1) (w : s.dbg.st ≠ 1) : (State.imageRefused s a1).dram = s.dram := by
  unfold State.imageRefused; grind [State.dram, foldl_dram, Mem.fill, State.updAlert_dram, State.record_dram]

theorem State.runImage_dram (s : State) (a1) (a2) (w : s.dbg.st ≠ 1) : (State.runImage s a1 a2).dram = s.dram := by
  unfold State.runImage; grind [State.dram, foldl_dram, Mem.fill]

theorem State.pickImage_dram (s : State) (a1) (w : s.dbg.st ≠ 1) : (State.pickImage s a1).dram = s.dram := by
  unfold State.pickImage; grind [State.dram, foldl_dram, Mem.fill, State.runImage_dram, State.imageRefused_dram]

theorem State.fwRestart_dram (s : State) (w : s.dbg.st ≠ 1) : (State.fwRestart s).dram = s.dram := by
  unfold State.fwRestart; grind [State.dram, foldl_dram, Mem.fill, State.pickImage_dram, State.count_dram, State.condemn_dram]

theorem State.askRestart_dram (s : State) (w : s.dbg.st ≠ 1) : (State.askRestart s).dram = s.dram := by
  unfold State.askRestart; grind [State.dram, foldl_dram, Mem.fill, State.fwRestart_dram]

theorem State.deviceStop_dram (s : State) (a1) (w : s.dbg.st ≠ 1) : (State.deviceStop s a1).dram = s.dram := by
  unfold State.deviceStop; grind [State.dram, foldl_dram, Mem.fill]

theorem State.modLink_dram (s : State) (a1) (a2) (w : s.dbg.st ≠ 1) : (State.modLink s a1 a2).dram = s.dram := by
  unfold State.modLink; grind [State.dram, foldl_dram, Mem.fill]

theorem State.dropLink_dram (s : State) (a1) (w : s.dbg.st ≠ 1) : (State.dropLink s a1).dram = s.dram := by
  unfold State.dropLink; grind [State.dram, foldl_dram, Mem.fill, State.modLink_dram, State.count_dram, State.wr_dram, State.record_dram]

theorem State.trigCapture_dram (s : State) (a1) (a2) (w : s.dbg.st ≠ 1) : (State.trigCapture s a1 a2).dram = s.dram := by
  unfold State.trigCapture; grind [State.dram, foldl_dram, Mem.fill, State.record_dram, State.count_dram]

theorem State.act_dram (s : State) (a1) (h : a1.sev < 3) (w : s.dbg.st ≠ 1) : (State.act s a1).dram = s.dram := by
  unfold State.act; grind [State.dram, foldl_dram, Mem.fill, State.deviceStop_dram, State.trigCapture_dram, State.askRestart_dram, State.condemn_dram]

theorem State.logEvent_dram (s : State) (a1) (a2) (w : s.dbg.st ≠ 1) : (State.logEvent s a1 a2).dram = s.dram := by
  unfold State.logEvent; grind [State.dram, foldl_dram, Mem.fill]

theorem State.logError_dram (s : State) (a1) (w : s.dbg.st ≠ 1) : (State.logError s a1).dram = s.dram := by
  unfold State.logError; grind [State.dram, foldl_dram, Mem.fill, State.logEvent_dram]

theorem State.draw_dram (s : State) (w : s.dbg.st ≠ 1) : (State.draw s).2.dram = s.dram := by
  unfold State.draw; grind [State.dram, foldl_dram, Mem.fill]

theorem State.trace_dram (s : State) (a1) (a2) (a3) (a4) (a5) (w : s.dbg.st ≠ 1) : (State.trace s a1 a2 a3 a4 a5).dram = s.dram := by
  unfold State.trace; grind [State.dram, foldl_dram, Mem.fill, State.draw_dram, State.modCtx_dram, State.wr_dram]

theorem State.raise_dram (s : State) (a1) (h : a1.sev < 3) (w : s.dbg.st ≠ 1) : (State.raise s a1).dram = s.dram := by
  unfold State.raise; grind [State.dram, foldl_dram, Mem.fill, State.record_dram, State.trace_dram, State.updAlert_dram, State.act_dram, State.logError_dram]

theorem State.fceRaise_dram (s : State) (a1) (a2) (a3) (h : a3 < 3) (w : s.dbg.st ≠ 1) : (State.fceRaise s a1 a2 a3).dram = s.dram := by
  unfold State.fceRaise; grind [State.dram, foldl_dram, Mem.fill, State.raise_dram]

theorem State.modPlan_dram (s : State) (a1) (a2) (w : s.dbg.st ≠ 1) : (State.modPlan s a1 a2).dram = s.dram := by
  unfold State.modPlan; grind [State.dram, foldl_dram, Mem.fill]

theorem State.putBarge_dram (s : State) (a1) (a2) (a3) (w : s.dbg.st ≠ 1) : (State.putBarge s a1 a2 a3).dram = s.dram := by
  unfold State.putBarge; grind [State.dram, foldl_dram, Mem.fill, State.count64_dram, State.emit_dram]

theorem State.sendAcks_dram (s : State) (a1) (w : s.dbg.st ≠ 1) : (State.sendAcks s a1).dram = s.dram := by
  unfold State.sendAcks; grind [State.dram, foldl_dram, Mem.fill, State.putBarge_dram]

theorem State.oweAck_dram (s : State) (a1) (a2) (w : s.dbg.st ≠ 1) : (State.oweAck s a1 a2).dram = s.dram := by
  unfold State.oweAck; grind [State.dram, foldl_dram, Mem.fill, State.sendAcks_dram]

theorem State.bargeIn_dram (s : State) (a1) (a2) (a3) (w : s.dbg.st ≠ 1) : (State.bargeIn s a1 a2 a3).1.dram = s.dram := by
  unfold State.bargeIn; grind (splits := 40) (ematch := 20) (gen := 20) [State.dram, foldl_dram, Mem.fill, State.count64_dram, State.dropBarge_dram, State.fceRaise_dram, State.oweAck_dram, State.fceCount_dram, State.modPlan_dram]

theorem State.undeliverable_dram (s : State) (a1) (w : s.dbg.st ≠ 1) : (State.undeliverable s a1).dram = s.dram := by
  unfold State.undeliverable; grind [State.dram, foldl_dram, Mem.fill, State.modPlan_dram]

theorem State.offer_dram (s : State) (a1) (a2) (w : s.dbg.st ≠ 1) : (State.offer s a1 a2).dram = s.dram := by
  unfold State.offer; grind [State.dram, foldl_dram, Mem.fill, State.undeliverable_dram, State.putBarge_dram]

theorem State.floodBarge_dram (s : State) (a1) (a2) (a3) (w : s.dbg.st ≠ 1) : (State.floodBarge s a1 a2 a3).dram = s.dram := by
  unfold State.floodBarge; grind [State.dram, foldl_dram, Mem.fill, State.offer_dram]

theorem State.takeSeq_dram (s : State) (a1) (a2) (w : s.dbg.st ≠ 1) : (State.takeSeq s a1 a2).2.dram = s.dram := by
  unfold State.takeSeq; grind [State.dram, foldl_dram, Mem.fill, State.modPlan_dram]

theorem State.sendNotice_dram (s : State) (a1) (a2) (a3) (a4) (w : s.dbg.st ≠ 1) : (State.sendNotice s a1 a2 a3 a4).dram = s.dram := by
  unfold State.sendNotice; grind [State.dram, foldl_dram, Mem.fill, State.takeSeq_dram, State.modPlan_dram, State.floodBarge_dram]

theorem State.flightAbort_dram (s : State) (a1) (a2) (a3) (a4) (a5) (a6) (w : s.dbg.st ≠ 1) : (State.flightAbort s a1 a2 a3 a4 a5 a6).dram = s.dram := by
  unfold State.flightAbort; grind [State.dram, foldl_dram, Mem.fill, State.count_dram, State.modPlan_dram, State.wr_dram, State.fceRaise_dram, State.sendNotice_dram]

theorem State.hold_dram (s : State) (a1) (w : s.dbg.st ≠ 1) : (State.hold s a1).dram = s.dram := by
  unfold State.hold; grind [State.dram, foldl_dram, Mem.fill]

theorem State.raisePage_dram (s : State) (a1) (a2) (a3) (a4) (h : a4 < 3) (w : s.dbg.st ≠ 1) : (State.raisePage s a1 a2 a3 a4).dram = s.dram := by
  unfold State.raisePage; grind [State.dram, foldl_dram, Mem.fill, State.raise_dram]

theorem State.accessError_dram (s : State) (a1) (a2) (w : s.dbg.st ≠ 1) : (State.accessError s a1 a2).dram = s.dram := by
  unfold State.accessError; grind [State.dram, foldl_dram, Mem.fill, State.raise_dram, State.raisePage_dram]

theorem State.barged_dram (s : State) (a1) (w : s.dbg.st ≠ 1) : (State.barged s a1).dram = s.dram := by
  unfold State.barged; grind [State.dram, foldl_dram, Mem.fill, State.count_dram]

theorem State.ackOne_dram (s : State) (a1) (a2) (a3) (a4) (a5) (w : s.dbg.st ≠ 1) : (State.ackOne s a1 a2 a3 a4 a5).dram = s.dram := by
  unfold State.ackOne; grind [State.dram, foldl_dram, Mem.fill, State.barged_dram]

theorem State.pump1_dram (s : State) (w : s.dbg.st ≠ 1) : (State.pump1 s).dram = s.dram := by
  unfold State.pump1; grind [State.dram, foldl_dram, Mem.fill, State.undeliverable_dram, State.putBarge_dram]

theorem State.pump_dram (s : State) (w : s.dbg.st ≠ 1) : (State.pump s).dram = s.dram := by
  unfold State.pump; grind [State.dram, foldl_dram, Mem.fill, State.pump1_dram]

theorem State.ackBarge_dram (s : State) (a1) (a2) (a3) (w : s.dbg.st ≠ 1) : (State.ackBarge s a1 a2 a3).dram = s.dram := by
  unfold State.ackBarge; grind [State.dram, foldl_dram, Mem.fill, State.hold_dram, State.bargeIn_dram, State.pump_dram, State.ackOne_dram]

theorem State.setCore_dram (s : State) (a1) (a2) (w : s.dbg.st ≠ 1) : (State.setCore s a1 a2).dram = s.dram := by
  unfold State.setCore; grind [State.dram, foldl_dram, Mem.fill]

theorem State.modCore_dram (s : State) (a1) (a2) (w : s.dbg.st ≠ 1) : (State.modCore s a1 a2).dram = s.dram := by
  unfold State.modCore; grind [State.dram, foldl_dram, Mem.fill, State.setCore_dram]

theorem State.dcacheInval_dram (s : State) (a1) (w : s.dbg.st ≠ 1) : (State.dcacheInval s a1).dram = s.dram := by
  unfold State.dcacheInval; grind [State.dram, foldl_dram, Mem.fill, State.count_dram, State.modCore_dram]

theorem State.acqDone_dram (s : State) (a1) (a2) (w : s.dbg.st ≠ 1) : (State.acqDone s a1 a2).dram = s.dram := by
  unfold State.acqDone; grind [State.dram, foldl_dram, Mem.fill, State.dcacheInval_dram]

theorem State.activateNow_dram (s : State) (a1) (w : s.dbg.st ≠ 1) : (State.activateNow s a1).dram = s.dram := by
  unfold State.activateNow; grind [State.dram, foldl_dram, Mem.fill, State.modCtx_dram]

theorem State.setFld_dram (s : State) (a1) (a2) (a3) (a4) (a5) (a6) (a7) (w : s.dbg.st ≠ 1) : (State.setFld s a1 a2 a3 a4 a5 a6 a7).dram = s.dram := by
  unfold State.setFld; grind [State.dram, foldl_dram, Mem.fill, State.wr_dram]

theorem State.addDeficit_dram (s : State) (a1) (a2) (w : s.dbg.st ≠ 1) : (State.addDeficit s a1 a2).dram = s.dram := by
  unfold State.addDeficit; grind [State.dram, foldl_dram, Mem.fill, State.setFld_dram]

theorem State.raiseCtx_dram (s : State) (a1) (a2) (a3) (a4) (a5) (a6) (h : a4 < 3) (w : s.dbg.st ≠ 1) : (State.raiseCtx s a1 a2 a3 a4 a5 a6).dram = s.dram := by
  unfold State.raiseCtx; grind [State.dram, foldl_dram, Mem.fill, State.raise_dram]

theorem State.memFault_dram (s : State) (a1) (a2) (a3) (w : s.dbg.st ≠ 1) : (State.memFault s a1 a2 a3).dram = s.dram := by
  unfold State.memFault; grind [State.dram, foldl_dram, Mem.fill, State.raiseCtx_dram]

theorem State.xlate_dram (s : State) (a1) (a2) (a3) (a4) (w : s.dbg.st ≠ 1) : (State.xlate s a1 a2 a3 a4).1.dram = s.dram := by
  unfold State.xlate; grind [State.dram, foldl_dram, Mem.fill, State.draw_dram, State.modMem]

theorem State.modBerth_dram (s : State) (a1) (a2) (w : s.dbg.st ≠ 1) : (State.modBerth s a1 a2).dram = s.dram := by
  unfold State.modBerth; grind [State.dram, foldl_dram, Mem.fill]

theorem State.addTotal_dram (s : State) (a1) (a2) (a3) (w : s.dbg.st ≠ 1) : (State.addTotal s a1 a2 a3).dram = s.dram := by
  unfold State.addTotal; grind [State.dram, foldl_dram, Mem.fill, State.wr_dram, State.count_dram]

theorem State.addTotals_dram (s : State) (w : s.dbg.st ≠ 1) : (State.addTotals s).dram = s.dram := by
  unfold State.addTotals; grind [State.dram, foldl_dram, Mem.fill, State.addTotal_dram]

theorem State.setCluster_dram (s : State) (a1) (a2) (w : s.dbg.st ≠ 1) : (State.setCluster s a1 a2).dram = s.dram := by
  unfold State.setCluster; grind [State.dram, foldl_dram, Mem.fill]

theorem State.modCluster_dram (s : State) (a1) (a2) (w : s.dbg.st ≠ 1) : (State.modCluster s a1 a2).dram = s.dram := by
  unfold State.modCluster; grind [State.dram, foldl_dram, Mem.fill, State.setCluster_dram]

theorem State.ownClusters_dram (s : State) (a1) (w : s.dbg.st ≠ 1) : (State.ownClusters s a1).dram = s.dram := by
  unfold State.ownClusters; grind [State.dram, foldl_dram, Mem.fill, State.modCluster_dram]

theorem State.advance_dram (s : State) (a1) (a2) (w : s.dbg.st ≠ 1) : (State.advance s a1 a2).dram = s.dram := by
  unfold State.advance; grind [State.dram, foldl_dram, Mem.fill, State.modCore_dram]

theorem State.apertureFault_dram (s : State) (a1) (w : s.dbg.st ≠ 1) : (State.apertureFault s a1).dram = s.dram := by
  unfold State.apertureFault; grind [State.dram, foldl_dram, Mem.fill, State.accessError_dram]

theorem State.dropFrame_dram (s : State) (w : s.dbg.st ≠ 1) : (State.dropFrame s).dram = s.dram := by
  unfold State.dropFrame; grind [State.dram, foldl_dram, Mem.fill, State.count_dram]

theorem State.frameIn_dram (s : State) (w : s.dbg.st ≠ 1) : (State.frameIn s).dram = s.dram := by
  unfold State.frameIn; grind [State.dram, foldl_dram, Mem.fill, State.count_dram]

theorem State.modPort_dram (s : State) (a1) (a2) (w : s.dbg.st ≠ 1) : (State.modPort s a1 a2).dram = s.dram := by
  unfold State.modPort; grind [State.dram, foldl_dram, Mem.fill]

theorem State.putFrame_dram (s : State) (a1) (a2) (w : s.dbg.st ≠ 1) : (State.putFrame s a1 a2).dram = s.dram := by
  unfold State.putFrame; grind [State.dram, foldl_dram, Mem.fill, State.modPort_dram, State.count64_dram, State.emit_dram]

theorem State.modYard_dram (s : State) (a1) (w : s.dbg.st ≠ 1) : (State.modYard s a1).dram = s.dram := by
  unfold State.modYard; grind [State.dram, foldl_dram, Mem.fill]

theorem State.nextSeq_dram (s : State) (a1) (a2) (a3) (w : s.dbg.st ≠ 1) : (State.nextSeq s a1 a2 a3).2.dram = s.dram := by
  unfold State.nextSeq; grind [State.dram, foldl_dram, Mem.fill, State.wr_dram]

theorem State.yardErr_dram (s : State) (a1) (a2) (a3) (a4) (a5) (h : a4 < 3) (w : s.dbg.st ≠ 1) : (State.yardErr s a1 a2 a3 a4 a5).dram = s.dram := by
  unfold State.yardErr; grind [State.dram, foldl_dram, Mem.fill, State.raiseCtx_dram]

theorem State.srvYard_dram (s : State) (a1) (a2) (w : s.dbg.st ≠ 1) : (State.srvYard s a1 a2).dram = s.dram := by
  unfold State.srvYard; grind [State.dram, foldl_dram, Mem.fill, State.nextSeq_dram, State.yardErr_dram, State.modYard_dram]

theorem State.yardRelease_dram (s : State) (a1) (a2) (w : s.dbg.st ≠ 1) : (State.yardRelease s a1 a2).dram = s.dram := by
  unfold State.yardRelease; grind [State.dram, foldl_dram, Mem.fill, State.srvYard_dram]

theorem State.cancelOp_dram (s : State) (a1) (a2) (w : s.dbg.st ≠ 1) : (State.cancelOp s a1 a2).1.dram = s.dram := by
  unfold State.cancelOp; grind [State.dram, foldl_dram, Mem.fill, State.dropFrame_dram, State.count_dram, State.frameIn_dram, State.modBerth_dram, State.yardRelease_dram]

theorem State.ctxDrop_dram (s : State) (a1) (w : s.dbg.st ≠ 1) : (State.ctxDrop s a1).dram = s.dram := by
  unfold State.ctxDrop; grind [State.dram, foldl_dram, Mem.fill, State.count_dram, State.raiseCtx_dram, State.modCtx_dram]

theorem State.frameTag_dram (s : State) (a1) (a2) (a3) (w : s.dbg.st ≠ 1) : (State.frameTag s a1 a2 a3).1.dram = s.dram := by
  unfold State.frameTag; grind [State.dram, foldl_dram, Mem.fill, State.draw_dram, State.modCtx_dram]

theorem State.openMark_dram (s : State) (a1) (a2) (w : s.dbg.st ≠ 1) : (State.openMark s a1 a2).1.dram = s.dram := by
  unfold State.openMark; grind [State.dram, foldl_dram, Mem.fill, State.modCtx_dram, State.ctxDrop_dram, State.raiseCtx_dram]

theorem State.newDrbg_dram (s : State) (a1) (a2) (w : s.dbg.st ≠ 1) : (State.newDrbg s a1 a2).2.dram = s.dram := by
  unfold State.newDrbg; grind [State.dram, foldl_dram, Mem.fill, State.draw_dram]

theorem State.yardOpen_dram (s : State) (a1) (a2) (a3) (w : s.dbg.st ≠ 1) : (State.yardOpen s a1 a2 a3).dram = s.dram := by
  unfold State.yardOpen; grind [State.dram, foldl_dram, Mem.fill, State.srvYard_dram]

theorem State.rxBytes_dram (s : State) (a1) (a2) (w : s.dbg.st ≠ 1) : (State.rxBytes s a1 a2).dram = s.dram := by
  unfold State.rxBytes; grind [State.dram, foldl_dram, Mem.fill, State.count64_dram]

theorem State.applyField_dram (s : State) (a1) (a2) (a3) (a4) (w : s.dbg.st ≠ 1) : (State.applyField s a1 a2 a3 a4).dram = s.dram := by
  unfold State.applyField; grind [State.dram, foldl_dram, Mem.fill, State.setFld_dram, State.wr_dram]

theorem State.bindPolicy_dram (s : State) (a1) (w : s.dbg.st ≠ 1) : (State.bindPolicy s a1).dram = s.dram := by
  unfold State.bindPolicy; grind [State.dram, foldl_dram, Mem.fill, State.setFld_dram]

theorem State.portsCheck_dram (s : State) (w : s.dbg.st ≠ 1) : (State.portsCheck s).dram = s.dram := by
  unfold State.portsCheck; grind [State.dram, foldl_dram, Mem.fill, State.modPort_dram, State.raisePage_dram, State.modLink_dram]

theorem State.putStaged_dram (s : State) (a1) (a2) (a3) (w : s.dbg.st ≠ 1) : (State.putStaged s a1 a2 a3).dram = s.dram := by
  unfold State.putStaged; grind [State.dram, foldl_dram, Mem.fill]

theorem State.deactivateNow_dram (s : State) (a1) (w : s.dbg.st ≠ 1) : (State.deactivateNow s a1).dram = s.dram := by
  unfold State.deactivateNow; grind [State.dram, foldl_dram, Mem.fill, State.wr_dram, State.modCtx_dram]

theorem State.zeroCluster_dram (s : State) (a1) (w : s.dbg.st ≠ 1) : (State.zeroCluster s a1).dram = s.dram := by
  unfold State.zeroCluster; grind [State.dram, foldl_dram, Mem.fill, State.count_dram, State.modCore_dram, State.modMem, State.modCluster_dram]

theorem State.enterField_dram (s : State) (w : s.dbg.st ≠ 1) : (State.enterField s).dram = s.dram := by
  unfold State.enterField; grind [State.dram, foldl_dram, Mem.fill, State.deactivateNow_dram, State.zeroCluster_dram, State.logEvent_dram]

theorem State.modDom_dram (s : State) (a1) (a2) (w : s.dbg.st ≠ 1) : (State.modDom s a1 a2).dram = s.dram := by
  unfold State.modDom; grind [State.dram, foldl_dram, Mem.fill]

theorem State.vstepFault_dram (s : State) (a1) (w : s.dbg.st ≠ 1) : (State.vstepFault s a1).dram = s.dram := by
  unfold State.vstepFault; grind [State.dram, foldl_dram, Mem.fill, State.raisePage_dram, State.modDom_dram]

theorem State.applyPoint_dram (s : State) (a1) (a2) (w : s.dbg.st ≠ 1) : (State.applyPoint s a1 a2).dram = s.dram := by
  unfold State.applyPoint; grind [State.dram, foldl_dram, Mem.fill, State.modDom_dram, State.vstepFault_dram]

theorem State.applyRefresh_dram (s : State) (w : s.dbg.st ≠ 1) : (State.applyRefresh s).dram = s.dram := by
  unfold State.applyRefresh; grind [State.dram, foldl_dram, Mem.fill, State.logEvent_dram, State.setFld_dram]

theorem State.switchKeys_dram (s : State) (a1) (w : s.dbg.st ≠ 1) : (State.switchKeys s a1).dram = s.dram := by
  unfold State.switchKeys; grind [State.dram, foldl_dram, Mem.fill, State.modCtx_dram]

theorem State.capChanged_dram (s : State) (a1) (w : s.dbg.st ≠ 1) : (State.capChanged s a1).dram = s.dram := by
  unfold State.capChanged; grind [State.dram, foldl_dram, Mem.fill]

theorem State.planStep3_dram (s : State) (a1) (w : s.dbg.st ≠ 1) : (State.planStep3 s a1).dram = s.dram := by
  unfold State.planStep3; grind [State.dram, foldl_dram, Mem.fill, State.modPlan_dram, State.setFld_dram, State.modCtx_dram, State.fceRaise_dram]

theorem State.forceFloors_dram (s : State) (a1) (a2) (w : s.dbg.st ≠ 1) : (State.forceFloors s a1 a2).dram = s.dram := by
  unfold State.forceFloors; grind [State.dram, foldl_dram, Mem.fill, State.count_dram, State.raiseCtx_dram]

theorem State.powerRecompute_dram (s : State) (w : s.dbg.st ≠ 1) : (State.powerRecompute s).dram = s.dram := by
  unfold State.powerRecompute; grind [State.dram, foldl_dram, Mem.fill, State.modDom_dram, State.forceFloors_dram]

theorem State.setMacs_dram (s : State) (a1) (w : s.dbg.st ≠ 1) : (State.setMacs s a1).dram = s.dram := by
  unfold State.setMacs; grind [State.dram, foldl_dram, Mem.fill, State.wr_dram]

theorem State.applyTrims_dram (s : State) (w : s.dbg.st ≠ 1) : (State.applyTrims s).dram = s.dram := by
  unfold State.applyTrims; grind [State.dram, foldl_dram, Mem.fill, State.setMacs_dram, State.wr_dram]

theorem State.readPieces_dram (s : State) (a1) (a2) (a3) (a4) (a5) (a6) (w : s.dbg.st ≠ 1) : (State.readPieces s a1 a2 a3 a4 a5 a6).1.dram = s.dram := by
  fun_induction State.readPieces s a1 a2 a3 a4 a5 a6 <;> grind [State.dram, foldl_dram, Mem.fill, State.xlate_dram, State.memFault_dram, State.modMem]

theorem State.memRead_dram (s : State) (a1) (a2) (a3) (a4) (a5) (w : s.dbg.st ≠ 1) : (State.memRead s a1 a2 a3 a4 a5).1.dram = s.dram := by
  unfold State.memRead; grind [State.dram, foldl_dram, Mem.fill, State.raiseCtx_dram, State.readPieces_dram]

theorem State.atVector_dram (s : State) (a1) (a2) (a3) (a4) (a5) (w : s.dbg.st ≠ 1) : (State.atVector s a1 a2 a3 a4 a5).1.dram = s.dram := by
  unfold State.atVector; grind [State.dram, foldl_dram, Mem.fill, State.memRead_dram]

theorem State.atSlots_dram (s : State) (a1) (a2) (a3) (a4) (a5) (a6) (w : s.dbg.st ≠ 1) : (State.atSlots s a1 a2 a3 a4 a5 a6).1.dram = s.dram := by
  fun_induction State.atSlots s a1 a2 a3 a4 a5 a6 <;> grind [State.dram, foldl_dram, Mem.fill, State.atVector_dram]

theorem State.atCoaches_dram (s : State) (a1) (a2) (a3) (a4) (a5) (w : s.dbg.st ≠ 1) : (State.atCoaches s a1 a2 a3 a4 a5).1.dram = s.dram := by
  fun_induction State.atCoaches s a1 a2 a3 a4 a5 <;> grind [State.dram, foldl_dram, Mem.fill, State.atSlots_dram, State.count_dram]

theorem State.countAtp_dram (s : State) (a1) (a2) (a3) (w : s.dbg.st ≠ 1) : (State.countAtp s a1 a2 a3).dram = s.dram := by
  unfold State.countAtp; grind [State.dram, foldl_dram, Mem.fill, State.count_dram]

theorem State.fillRec_dram (s : State) (a1) (a2) (a3) (a4) (w : s.dbg.st ≠ 1) : (State.fillRec s a1 a2 a3 a4).dram = s.dram := by
  unfold State.fillRec; grind [State.dram, foldl_dram, Mem.fill, State.wr_dram]

theorem State.reportCore_dram (s : State) (a1) (a2) (a3) (w : s.dbg.st ≠ 1) : (State.reportCore s a1 a2 a3).dram = s.dram := by
  unfold State.reportCore; grind [State.dram, foldl_dram, Mem.fill, State.fillRec_dram]

theorem State.atTally_dram (s : State) (a1) (a2) (a3) (a4) (w : s.dbg.st ≠ 1) : (State.atTally s a1 a2 a3 a4).dram = s.dram := by
  unfold State.atTally; grind [State.dram, foldl_dram, Mem.fill, State.countAtp_dram, State.reportCore_dram]

theorem State.wharfWrite_dram (s : State) (a1) (a2) (a3) (w : s.dbg.st ≠ 1) : (State.wharfWrite s a1 a2 a3).dram = s.dram := by
  unfold State.wharfWrite; grind [State.dram, foldl_dram, Mem.fill, State.modCore_dram]

theorem State.atDeliver_dram (s : State) (a1) (a2) (a3) (w : s.dbg.st ≠ 1) : (State.atDeliver s a1 a2 a3).dram = s.dram := by
  unfold State.atDeliver; grind [State.dram, foldl_dram, Mem.fill, State.countAtp_dram, State.wharfWrite_dram, State.atTally_dram, State.modCluster_dram]

theorem State.scbRelease_dram (s : State) (a1) (a2) (a3) (w : s.dbg.st ≠ 1) : (State.scbRelease s a1 a2 a3).dram = s.dram := by
  unfold State.scbRelease; grind [State.dram, foldl_dram, Mem.fill, State.modCore_dram]

theorem State.atFinish_dram (s : State) (a1) (a2) (w : s.dbg.st ≠ 1) : (State.atFinish s a1 a2).dram = s.dram := by
  unfold State.atFinish; grind [State.dram, foldl_dram, Mem.fill, State.modCore_dram, State.scbRelease_dram]

theorem State.atReject_dram (s : State) (a1) (a2) (a3) (a4) (w : s.dbg.st ≠ 1) : (State.atReject s a1 a2 a3 a4).dram = s.dram := by
  unfold State.atReject; grind [State.dram, foldl_dram, Mem.fill, State.wr_dram, State.raiseCtx_dram]

theorem State.atScores_dram (s : State) (a1) (a2) (w : s.dbg.st ≠ 1) : (State.atScores s a1 a2).1.dram = s.dram := by
  fun_induction State.atScores s a1 a2 <;> grind [State.dram, foldl_dram, Mem.fill, State.draw_dram]

theorem State.atStop_dram (s : State) (a1) (a2) (a3) (w : s.dbg.st ≠ 1) : (State.atStop s a1 a2 a3).dram = s.dram := by
  unfold State.atStop; grind [State.dram, foldl_dram, Mem.fill, State.atFinish_dram, State.atReject_dram]

theorem State.reportUnit_dram (s : State) (a1) (a2) (a3) (a4) (w : s.dbg.st ≠ 1) : (State.reportUnit s a1 a2 a3 a4).dram = s.dram := by
  unfold State.reportUnit; grind [State.dram, foldl_dram, Mem.fill]

theorem State.atomNan_dram (s : State) (a1) (a2) (a3) (a4) (a5) (w : s.dbg.st ≠ 1) : (State.atomNan s a1 a2 a3 a4 a5).dram = s.dram := by
  unfold State.atomNan; grind [State.dram, foldl_dram, Mem.fill, State.reportUnit_dram]

theorem State.atpEnd_dram (s : State) (a1) (w : s.dbg.st ≠ 1) : (State.atpEnd s a1).dram = s.dram := by
  unfold State.atpEnd; grind [State.dram, foldl_dram, Mem.fill, State.atDeliver_dram, State.modYard_dram, State.atFinish_dram]

theorem State.highWater_dram (s : State) (a1) (a2) (a3) (a4) (a5) (a6) (w : s.dbg.st ≠ 1) : (State.highWater s a1 a2 a3 a4 a5 a6).dram = s.dram := by
  unfold State.highWater; grind [State.dram, foldl_dram, Mem.fill, State.setFld_dram]

theorem State.retire_dram (s : State) (a1) (a2) (w : s.dbg.st ≠ 1) : (State.retire s a1 a2).dram = s.dram := by
  unfold State.retire; grind [State.dram, foldl_dram, Mem.fill, State.modCore_dram]

theorem State.scbAdd_dram (s : State) (a1) (a2) (a3) (a4) (w : s.dbg.st ≠ 1) : (State.scbAdd s a1 a2 a3 a4).dram = s.dram := by
  unfold State.scbAdd; grind [State.dram, foldl_dram, Mem.fill, State.modCore_dram, State.highWater_dram]

theorem State.stall_dram (s : State) (a1) (a2) (w : s.dbg.st ≠ 1) : (State.stall s a1 a2).dram = s.dram := by
  unfold State.stall; grind [State.dram, foldl_dram, Mem.fill, State.modCore_dram]

theorem State.atqOp_dram (s : State) (a1) (a2) (a3) (w : s.dbg.st ≠ 1) : (State.atqOp s a1 a2 a3).dram = s.dram := by
  unfold State.atqOp; grind (splits := 40) (ematch := 20) (gen := 20) [State.dram, foldl_dram, Mem.fill, State.stall_dram, State.retire_dram, State.atReject_dram, State.nextSeq_dram, State.scbAdd_dram, State.modCore_dram, State.highWater_dram]

theorem State.fallBack_dram (s : State) (w : s.dbg.st ≠ 1) : (State.fallBack s).dram = s.dram := by
  unfold State.fallBack; grind [State.dram, foldl_dram, Mem.fill, State.applyTrims_dram, State.raisePage_dram, State.wr_dram]

theorem State.histEntry_dram (s : State) (a1) (a2) (a3) (a4) (a5) (w : s.dbg.st ≠ 1) : (State.histEntry s a1 a2 a3 a4 a5).dram = s.dram := by
  unfold State.histEntry; grind [State.dram, foldl_dram, Mem.fill]

theorem State.optFailed_dram (s : State) (w : s.dbg.st ≠ 1) : (State.optFailed s).dram = s.dram := by
  unfold State.optFailed; grind [State.dram, foldl_dram, Mem.fill]

theorem State.optResult_dram (s : State) (a1) (a2) (a3) (a4) (w : s.dbg.st ≠ 1) : (State.optResult s a1 a2 a3 a4).dram = s.dram := by
  unfold State.optResult; grind [State.dram, foldl_dram, Mem.fill, State.wr_dram]

theorem State.attemptFailed_dram (s : State) (a1) (a2) (a3) (a4) (a5) (a6) (w : s.dbg.st ≠ 1) : (State.attemptFailed s a1 a2 a3 a4 a5 a6).1.dram = s.dram := by
  unfold State.attemptFailed; grind [State.dram, foldl_dram, Mem.fill, State.optResult_dram, State.histEntry_dram, State.optFailed_dram, State.fallBack_dram]

theorem State.badColl_dram (s : State) (a1) (a2) (w : s.dbg.st ≠ 1) : (State.badColl s a1 a2).dram = s.dram := by
  unfold State.badColl; grind [State.dram, foldl_dram, Mem.fill, State.raiseCtx_dram]

theorem State.badDesc_dram (s : State) (a1) (w : s.dbg.st ≠ 1) : (State.badDesc s a1).dram = s.dram := by
  unfold State.badDesc; grind [State.dram, foldl_dram, Mem.fill, State.raiseCtx_dram]

theorem State.scalarError_dram (s : State) (a1) (a2) (a3) (a4) (w : s.dbg.st ≠ 1) : (State.scalarError s a1 a2 a3 a4).dram = s.dram := by
  unfold State.scalarError; grind [State.dram, foldl_dram, Mem.fill, State.retire_dram, State.raiseCtx_dram]

theorem State.badFence_dram (s : State) (a1) (w : s.dbg.st ≠ 1) : (State.badFence s a1).dram = s.dram := by
  unfold State.badFence; grind [State.dram, foldl_dram, Mem.fill, State.scalarError_dram]

theorem State.badSample_dram (s : State) (a1) (a2) (w : s.dbg.st ≠ 1) : (State.badSample s a1 a2).dram = s.dram := by
  unfold State.badSample; grind [State.dram, foldl_dram, Mem.fill, State.raiseCtx_dram]

theorem State.firstBeat_dram (s : State) (w : s.dbg.st ≠ 1) : (State.firstBeat s).dram = s.dram := by
  unfold State.firstBeat; grind [State.dram, foldl_dram, Mem.fill, State.updAlert_dram]

theorem State.beat_dram (s : State) (a1) (w : s.dbg.st ≠ 1) : (State.beat s a1).dram = s.dram := by
  unfold State.beat; grind [State.dram, foldl_dram, Mem.fill, State.firstBeat_dram]

theorem State.beatCheck_dram (s : State) (w : s.dbg.st ≠ 1) : (State.beatCheck s).dram = s.dram := by
  unfold State.beatCheck; grind [State.dram, foldl_dram, Mem.fill, State.raisePage_dram]

theorem State.clearLink_dram (s : State) (a1) (w : s.dbg.st ≠ 1) : (State.clearLink s a1).dram = s.dram := by
  unfold State.clearLink; grind [State.dram, foldl_dram, Mem.fill, State.dropLink_dram, State.modLink_dram]

theorem State.clearBlock_dram (s : State) (a1) (w : s.dbg.st ≠ 1) : (State.clearBlock s a1).dram = s.dram := by
  unfold State.clearBlock; grind [State.dram, foldl_dram, Mem.fill, State.modCluster_dram, State.modCore_dram, State.count_dram, State.dcacheInval_dram, State.modMem, State.clearLink_dram, State.modPort_dram, State.modDom_dram]

theorem State.clearStatus_dram (s : State) (a1) (w : s.dbg.st ≠ 1) : (State.clearStatus s a1).dram = s.dram := by
  unfold State.clearStatus; grind [State.dram, foldl_dram, Mem.fill, State.setFld_dram]

theorem State.blockReset_dram (s : State) (a1) (w : s.dbg.st ≠ 1) : (State.blockReset s a1).dram = s.dram := by
  unfold State.blockReset; grind [State.dram, foldl_dram, Mem.fill, State.accessError_dram, State.clearStatus_dram, State.clearBlock_dram]

theorem State.brakeHeat_dram (s : State) (a1) (w : s.dbg.st ≠ 1) : (State.brakeHeat s a1).dram = s.dram := by
  unfold State.brakeHeat; grind [State.dram, foldl_dram, Mem.fill]

theorem State.templateFault_dram (s : State) (a1) (w : s.dbg.st ≠ 1) : (State.templateFault s a1).dram = s.dram := by
  unfold State.templateFault; grind [State.dram, foldl_dram, Mem.fill, State.raiseCtx_dram]

theorem State.cartEnter_dram (s : State) (a1) (w : s.dbg.st ≠ 1) : (State.cartEnter s a1).dram = s.dram := by
  unfold State.cartEnter; grind [State.dram, foldl_dram, Mem.fill, State.highWater_dram, State.modCore_dram]

theorem State.mergeJudge_dram (s : State) (a1) (a2) (w : s.dbg.st ≠ 1) : (State.mergeJudge s a1 a2).dram = s.dram := by
  unfold State.mergeJudge; grind [State.dram, foldl_dram, Mem.fill, State.modCluster_dram, State.raiseCtx_dram]

theorem State.mergeJudgeAll_dram (s : State) (a1) (w : s.dbg.st ≠ 1) : (State.mergeJudgeAll s a1).dram = s.dram := by
  unfold State.mergeJudgeAll; grind [State.dram, foldl_dram, Mem.fill, State.mergeJudge_dram]

theorem State.checkDone_dram (s : State) (a1) (a2) (w : s.dbg.st ≠ 1) : (State.checkDone s a1 a2).dram = s.dram := by
  unfold State.checkDone; grind [State.dram, foldl_dram, Mem.fill, State.modCtx_dram, State.mergeJudgeAll_dram, State.wr_dram]

theorem State.rteError_dram (s : State) (a1) (a2) (a3) (a4) (a5) (h : a2 < 3) (w : s.dbg.st ≠ 1) : (State.rteError s a1 a2 a3 a4 a5).dram = s.dram := by
  unfold State.rteError; grind [State.dram, foldl_dram, Mem.fill, State.wr_dram, State.raiseCtx_dram]

theorem State.failAll_dram (s : State) (a1) (a2) (a3) (a4) (w : s.dbg.st ≠ 1) : (State.failAll s a1 a2 a3 a4).dram = s.dram := by
  unfold State.failAll; grind [State.dram, foldl_dram, Mem.fill, State.count_dram, State.rteError_dram, State.flightAbort_dram]

theorem State.checkFlight_dram (s : State) (a1) (w : s.dbg.st ≠ 1) : (State.checkFlight s a1).dram = s.dram := by
  unfold State.checkFlight; grind [State.dram, foldl_dram, Mem.fill, State.failAll_dram]

theorem State.checkGuard_dram (s : State) (a1) (w : s.dbg.st ≠ 1) : (State.checkGuard s a1).dram = s.dram := by
  unfold State.checkGuard; grind [State.dram, foldl_dram, Mem.fill, State.failAll_dram]

theorem State.clTally_dram (s : State) (a1) (a2) (w : s.dbg.st ≠ 1) : (State.clTally s a1 a2).dram = s.dram := by
  unfold State.clTally; grind [State.dram, foldl_dram, Mem.fill, State.draw_dram, State.reportUnit_dram]

theorem State.verifyLater_dram (s : State) (a1) (a2) (a3) (a4) (w : s.dbg.st ≠ 1) : (State.verifyLater s a1 a2 a3 a4).dram = s.dram := by
  unfold State.verifyLater; grind [State.dram, foldl_dram, Mem.fill, State.modCtx_dram]

theorem State.slotBody_dram (s : State) (a1) (a2) (a3) (w : s.dbg.st ≠ 1) : (State.slotBody s a1 a2 a3).1.dram = s.dram := by
  unfold State.slotBody; grind [State.dram, foldl_dram, Mem.fill, State.memRead_dram]

theorem State.rtJudge_dram (s : State) (a1) (w : s.dbg.st ≠ 1) : (State.rtJudge s a1).dram = s.dram := by
  unfold State.rtJudge; grind [State.dram, foldl_dram, Mem.fill]

theorem State.closePound_dram (s : State) (a1) (w : s.dbg.st ≠ 1) : (State.closePound s a1).dram = s.dram := by
  unfold State.closePound; grind [State.dram, foldl_dram, Mem.fill, State.rtJudge_dram, State.flightAbort_dram]

theorem State.modInst_dram (s : State) (a1) (a2) (w : s.dbg.st ≠ 1) : (State.modInst s a1 a2).dram = s.dram := by
  unfold State.modInst; grind [State.dram, foldl_dram, Mem.fill]

theorem State.sendBarge_dram (s : State) (a1) (a2) (w : s.dbg.st ≠ 1) : (State.sendBarge s a1 a2).2.dram = s.dram := by
  unfold State.sendBarge; grind [State.dram, foldl_dram, Mem.fill, State.takeSeq_dram, State.offer_dram]

theorem foldl_snd_dram {α β : Type} (g : β × State → α → β × State) (xs : List α) (p : β × State) (h : ∀ p a, (g p a).2.dram = p.2.dram) : (xs.foldl g p).2.dram = p.2.dram := by
  induction xs generalizing p with
  | nil => rfl
  | cons x xs ih => simp [ih, h]

theorem foldl_fst_dram {α β : Type} (g : State × β → α → State × β) (xs : List α) (p : State × β) (h : ∀ p a, (g p a).1.dram = p.1.dram) : (xs.foldl g p).1.dram = p.1.dram := by
  induction xs generalizing p with
  | nil => rfl
  | cons x xs ih => simp [ih, h]

theorem State.collDone_dram (s : State) (a1) (w : s.dbg.st ≠ 1) : (State.collDone s a1).dram = s.dram := by
  unfold State.collDone; grind [State.dram, foldl_dram, Mem.fill, State.count_dram, State.modInst_dram]

theorem State.syncInc_dram (s : State) (a1) (a2) (a3) (a4) (w : s.dbg.st ≠ 1) : (State.syncInc s a1 a2 a3 a4).dram = s.dram := by
  unfold State.syncInc; grind [State.dram, foldl_dram, Mem.fill, State.count_dram, State.modCluster_dram]

theorem State.needInst_dram (s : State) (a1) (a2) (a3) (a4) (w : s.dbg.st ≠ 1) : (State.needInst s a1 a2 a3 a4).2.dram = s.dram := by
  unfold State.needInst; grind [State.dram, foldl_dram, Mem.fill]

theorem State.readColl_dram (s : State) (a1) (a2) (a3) (w : s.dbg.st ≠ 1) : (State.readColl s a1 a2 a3).1.dram = s.dram := by
  unfold State.readColl; grind [State.dram, foldl_dram, Mem.fill, State.memRead_dram]

theorem State.tamper_dram (s : State) (a1) (w : s.dbg.st ≠ 1) : (State.tamper s a1).dram = s.dram := by
  unfold State.tamper; grind [State.dram, foldl_dram, Mem.fill, State.raisePage_dram]

theorem State.copyBad_dram (s : State) (a1) (w : s.dbg.st ≠ 1) : (State.copyBad s a1).dram = s.dram := by
  unfold State.copyBad; grind [State.dram, foldl_dram, Mem.fill, State.tamper_dram, State.raisePage_dram]

theorem State.countDrn_dram (s : State) (a1) (a2) (a3) (w : s.dbg.st ≠ 1) : (State.countDrn s a1 a2 a3).dram = s.dram := by
  unfold State.countDrn; grind [State.dram, foldl_dram, Mem.fill, State.count_dram]

theorem State.countFence_dram (s : State) (a1) (w : s.dbg.st ≠ 1) : (State.countFence s a1).dram = s.dram := by
  unfold State.countFence; grind [State.dram, foldl_dram, Mem.fill, State.count_dram]

theorem State.countMacs_dram (s : State) (a1) (a2) (w : s.dbg.st ≠ 1) : (State.countMacs s a1 a2).dram = s.dram := by
  unfold State.countMacs; grind [State.dram, foldl_dram, Mem.fill, State.count64_dram]

theorem State.ctxFlightAbort_dram (s : State) (a1) (a2) (w : s.dbg.st ≠ 1) : (State.ctxFlightAbort s a1 a2).dram = s.dram := by
  unfold State.ctxFlightAbort; grind [State.dram, foldl_dram, Mem.fill, State.flightAbort_dram]

theorem State.syrOp_dram (s : State) (a1) (a2) (a3) (w : s.dbg.st ≠ 1) : (State.syrOp s a1 a2 a3).dram = s.dram := by
  unfold State.syrOp; grind [State.dram, foldl_dram, Mem.fill, State.stall_dram, State.scalarError_dram, State.retire_dram, State.modCore_dram]

theorem State.judgeSyw_dram (s : State) (a1) (a2) (a3) (w : s.dbg.st ≠ 1) : (State.judgeSyw s a1 a2 a3).dram = s.dram := by
  unfold State.judgeSyw; grind [State.dram, foldl_dram, Mem.fill, State.wr_dram, State.raiseCtx_dram]

theorem State.sywEnd_dram (s : State) (a1) (a2) (a3) (w : s.dbg.st ≠ 1) : (State.sywEnd s a1 a2 a3).dram = s.dram := by
  unfold State.sywEnd; grind [State.dram, foldl_dram, Mem.fill, State.retire_dram, State.countFence_dram, State.acqDone_dram, State.judgeSyw_dram]

theorem State.sywOp_dram (s : State) (a1) (a2) (a3) (a4) (w : s.dbg.st ≠ 1) : (State.sywOp s a1 a2 a3 a4).dram = s.dram := by
  unfold State.sywOp; grind [State.dram, foldl_dram, Mem.fill, State.stall_dram, State.badFence_dram, State.scalarError_dram, State.sywEnd_dram]

theorem State.cydTimes_dram (s : State) (a1) (w : s.dbg.st ≠ 1) : (State.cydTimes s a1).dram = s.dram := by
  unfold State.cydTimes; grind [State.dram, foldl_dram, Mem.fill, State.highWater_dram, State.setFld_dram]

theorem State.cyqOp_dram (s : State) (a1) (a2) (a3) (w : s.dbg.st ≠ 1) : (State.cyqOp s a1 a2 a3).dram = s.dram := by
  unfold State.cyqOp; grind [State.dram, foldl_dram, Mem.fill, State.nextSeq_dram, State.retire_dram, State.yardErr_dram, State.stall_dram, State.scbAdd_dram, State.modYard_dram]

theorem State.relay_dram (s : State) (a1) (a2) (a3) (w : s.dbg.st ≠ 1) : (State.relay s a1 a2 a3).dram = s.dram := by
  unfold State.relay; grind [State.dram, foldl_dram, Mem.fill, State.dropBarge_dram, State.offer_dram]

theorem State.dbgAccept_dram (s : State) (a1) (w : s.dbg.st ≠ 1) : (State.dbgAccept s a1).dram = s.dram := by
  unfold State.dbgAccept; grind [State.dram, foldl_dram, Mem.fill, State.wr_dram]

theorem State.dbgRefuse_dram (s : State) (a1) (w : s.dbg.st ≠ 1) : (State.dbgRefuse s a1).dram = s.dram := by
  unfold State.dbgRefuse; grind [State.dram, foldl_dram, Mem.fill, State.wr_dram, State.raisePage_dram]

theorem State.dcachePiece_dram (s : State) (a1) (a2) (a3) (a4) (a5) (w : s.dbg.st ≠ 1) : (State.dcachePiece s a1 a2 a3 a4 a5).1.dram = s.dram := by
  unfold State.dcachePiece; grind [State.dram, foldl_dram, Mem.fill, State.draw_dram, State.count_dram, State.readPieces_dram, State.modCore_dram]

theorem State.dcachePieces_dram (s : State) (a1) (a2) (a3) (a4) (a5) (w : s.dbg.st ≠ 1) : (State.dcachePieces s a1 a2 a3 a4 a5).1.dram = s.dram := by
  fun_induction State.dcachePieces s a1 a2 a3 a4 a5 <;> grind [State.dram, foldl_dram, Mem.fill, State.dcachePiece_dram]

theorem State.dcacheRead_dram (s : State) (a1) (a2) (a3) (a4) (w : s.dbg.st ≠ 1) : (State.dcacheRead s a1 a2 a3 a4).1.dram = s.dram := by
  unfold State.dcacheRead; grind [State.dram, foldl_dram, Mem.fill, State.raiseCtx_dram, State.dcachePieces_dram]

theorem State.dcinvOp_dram (s : State) (a1) (w : s.dbg.st ≠ 1) : (State.dcinvOp s a1).dram = s.dram := by
  unfold State.dcinvOp; grind [State.dram, foldl_dram, Mem.fill, State.retire_dram, State.dcacheInval_dram]

theorem State.escalate_dram (s : State) (a1) (w : s.dbg.st ≠ 1) : (State.escalate s a1).dram = s.dram := by
  unfold State.escalate; grind [State.dram, foldl_dram, Mem.fill, State.raisePage_dram, State.condemn_dram, State.askRestart_dram]

theorem State.declareHang_dram (s : State) (w : s.dbg.st ≠ 1) : (State.declareHang s).dram = s.dram := by
  unfold State.declareHang; grind [State.dram, foldl_dram, Mem.fill, State.raise_dram, State.count_dram, State.updAlert_dram, State.trigCapture_dram, State.escalate_dram]

theorem State.rwSend_dram (s : State) (a1) (a2) (a3) (a4) (w : s.dbg.st ≠ 1) : (State.rwSend s a1 a2 a3 a4).2.dram = s.dram := by
  fun_induction State.rwSend s a1 a2 a3 a4 <;> grind [State.dram, foldl_dram, Mem.fill, State.takeSeq_dram, State.offer_dram]

theorem State.rwStart_dram (s : State) (a1) (a2) (a3) (a4) (w : s.dbg.st ≠ 1) : (State.rwStart s a1 a2 a3 a4).dram = s.dram := by
  unfold State.rwStart; grind [State.dram, foldl_dram, Mem.fill, State.modCore_dram, State.rwSend_dram]

theorem State.dmBegin_dram (s : State) (a1) (a2) (a3) (a4) (a5) (w : s.dbg.st ≠ 1) : (State.dmBegin s a1 a2 a3 a4 a5).dram = s.dram := by
  unfold State.dmBegin; grind [State.dram, foldl_dram, Mem.fill, State.modCore_dram, State.rwStart_dram]

theorem State.dmFinish_dram (s : State) (a1) (a2) (w : s.dbg.st ≠ 1) : (State.dmFinish s a1 a2).dram = s.dram := by
  unfold State.dmFinish; grind [State.dram, foldl_dram, Mem.fill, State.scbRelease_dram, State.modCore_dram]

theorem State.dmReject_dram (s : State) (a1) (a2) (a3) (a4) (w : s.dbg.st ≠ 1) : (State.dmReject s a1 a2 a3 a4).dram = s.dram := by
  unfold State.dmReject; grind [State.dram, foldl_dram, Mem.fill, State.wr_dram, State.raiseCtx_dram]

theorem State.dmStop_dram (s : State) (a1) (a2) (a3) (w : s.dbg.st ≠ 1) : (State.dmStop s a1 a2 a3).dram = s.dram := by
  unfold State.dmStop; grind [State.dram, foldl_dram, Mem.fill, State.dmFinish_dram, State.dmReject_dram]

theorem State.dmSyncInc_dram (s : State) (a1) (a2) (a3) (w : s.dbg.st ≠ 1) : (State.dmSyncInc s a1 a2 a3).dram = s.dram := by
  unfold State.dmSyncInc; grind [State.dram, foldl_dram, Mem.fill, State.syncInc_dram]

theorem State.dmRead_dram (s : State) (a1) (a2) (a3) (a4) (a5) (w : s.dbg.st ≠ 1) : (State.dmRead s a1 a2 a3 a4 a5).1.dram = s.dram := by
  fun_induction State.dmRead s a1 a2 a3 a4 a5 <;> grind [State.dram, foldl_dram, Mem.fill, State.memRead_dram]

theorem State.torn_dram (s : State) (a1) (a2) (w : s.dbg.st ≠ 1) : (State.torn s a1 a2).1.dram = s.dram := by
  fun_induction State.torn s a1 a2 <;> grind [State.dram, foldl_dram, Mem.fill, State.draw_dram]

theorem State.dmqOp_dram (s : State) (a1) (a2) (a3) (w : s.dbg.st ≠ 1) : (State.dmqOp s a1 a2 a3).dram = s.dram := by
  unfold State.dmqOp; grind [State.dram, foldl_dram, Mem.fill, State.stall_dram, State.nextSeq_dram, State.retire_dram, State.dmReject_dram, State.scbAdd_dram, State.modCore_dram]

theorem State.domainHeat_dram (s : State) (a1) (w : s.dbg.st ≠ 1) : (State.domainHeat s a1).dram = s.dram := by
  unfold State.domainHeat; grind [State.dram, foldl_dram, Mem.fill, State.modDom_dram, State.wr_dram, State.raisePage_dram]

theorem State.drainDone_dram (s : State) (a1) (a2) (w : s.dbg.st ≠ 1) : (State.drainDone s a1 a2).dram = s.dram := by
  unfold State.drainDone; grind [State.dram, foldl_dram, Mem.fill, State.modCore_dram, State.scbRelease_dram]

theorem State.drainNan_dram (s : State) (a1) (a2) (a3) (a4) (a5) (a6) (a7) (w : s.dbg.st ≠ 1) : (State.drainNan s a1 a2 a3 a4 a5 a6 a7).dram = s.dram := by
  unfold State.drainNan; grind [State.dram, foldl_dram, Mem.fill, State.reportCore_dram, State.draw_dram]

theorem State.drainSat_dram (s : State) (a1) (a2) (a3) (a4) (a5) (w : s.dbg.st ≠ 1) : (State.drainSat s a1 a2 a3 a4 a5).1.dram = s.dram := by
  unfold State.drainSat; grind [State.dram, foldl_dram, Mem.fill, State.fillRec_dram, State.raiseCtx_dram]

theorem State.drainRow_dram (s : State) (a1) (a2) (a3) (a4) (a5) (w : s.dbg.st ≠ 1) : (State.drainRow s a1 a2 a3 a4 a5).1.dram = s.dram := by
  unfold State.drainRow; grind [State.dram, foldl_dram, Mem.fill, State.drainNan_dram, State.drainSat_dram, State.countDrn_dram, State.count64_dram]

theorem State.drainRows_dram (s : State) (a1) (a2) (a3) (a4) (a5) (w : s.dbg.st ≠ 1) : (State.drainRows s a1 a2 a3 a4 a5).dram = s.dram := by
  fun_induction State.drainRows s a1 a2 a3 a4 a5 <;> grind [State.dram, foldl_dram, Mem.fill, State.drainDone_dram, State.drainDone_dram, State.raiseCtx_dram, State.drainRow_dram, State.wharfWrite_dram]

theorem State.drawFrame_dram (s : State) (a1) (w : s.dbg.st ≠ 1) : (State.drawFrame s a1).2.dram = s.dram := by
  unfold State.drawFrame; grind [State.dram, foldl_dram, Mem.fill, State.draw_dram]

theorem State.drawIndex_dram (s : State) (w : s.dbg.st ≠ 1) : (State.drawIndex s).2.dram = s.dram := by
  unfold State.drawIndex; grind [State.dram, foldl_dram, Mem.fill, State.draw_dram]

theorem State.setPlan_dram (s : State) (a1) (a2) (a3) (w : s.dbg.st ≠ 1) : (State.setPlan s a1 a2 a3).dram = s.dram := by
  unfold State.setPlan; grind [State.dram, foldl_dram, Mem.fill, State.logEvent_dram, State.modDom_dram]

theorem State.droopStep_dram (s : State) (a1) (w : s.dbg.st ≠ 1) : (State.droopStep s a1).dram = s.dram := by
  unfold State.droopStep; grind [State.dram, foldl_dram, Mem.fill, State.setPlan_dram, State.raisePage_dram, State.modDom_dram]

theorem State.dropCarts_dram (s : State) (a1) (a2) (w : s.dbg.st ≠ 1) : (State.dropCarts s a1 a2).dram = s.dram := by
  unfold State.dropCarts; grind [State.dram, foldl_dram, Mem.fill, State.count_dram, State.modCore_dram, State.raiseCtx_dram]

theorem State.dsetOp_dram (s : State) (a1) (a2) (a3) (w : s.dbg.st ≠ 1) : (State.dsetOp s a1 a2 a3).dram = s.dram := by
  unfold State.dsetOp; grind [State.dram, foldl_dram, Mem.fill, State.stall_dram, State.retire_dram, State.badDesc_dram, State.modCore_dram]

theorem State.forgetPounds_dram (s : State) (a1) (w : s.dbg.st ≠ 1) : (State.forgetPounds s a1).dram = s.dram := by
  unfold State.forgetPounds; grind [State.dram, foldl_dram, Mem.fill]

theorem State.smpDrop_dram (s : State) (a1) (w : s.dbg.st ≠ 1) : (State.smpDrop s a1).dram = s.dram := by
  unfold State.smpDrop; grind [State.dram, foldl_dram, Mem.fill]

theorem State.yardDrop_dram (s : State) (a1) (w : s.dbg.st ≠ 1) : (State.yardDrop s a1).dram = s.dram := by
  unfold State.yardDrop; grind [State.dram, foldl_dram, Mem.fill, State.modYard_dram]

theorem State.scrubRecord_dram (s : State) (a1) (a2) (w : s.dbg.st ≠ 1) : (State.scrubRecord s a1 a2).dram = s.dram := by
  unfold State.scrubRecord; grind [State.dram, foldl_dram, Mem.fill, State.modCtx_dram, State.wr_dram, State.count_dram, State.emit_dram]

theorem State.stopPlans_dram (s : State) (a1) (a2) (w : s.dbg.st ≠ 1) : (State.stopPlans s a1 a2).dram = s.dram := by
  unfold State.stopPlans; grind [State.dram, foldl_dram, Mem.fill, State.modPlan_dram]

theorem State.scrubStorm_dram (s : State) (a1) (w : s.dbg.st ≠ 1) : (State.scrubStorm s a1).dram = s.dram := by
  unfold State.scrubStorm; grind [State.dram, foldl_dram, Mem.fill, State.raiseCtx_dram]

theorem State.thermalLimit_dram (s : State) (w : s.dbg.st ≠ 1) : (State.thermalLimit s).dram = s.dram := by
  unfold State.thermalLimit; grind [State.dram, foldl_dram, Mem.fill, State.modDom_dram, State.count_dram]

theorem State.yardDecide_dram (s : State) (a1) (a2) (w : s.dbg.st ≠ 1) : (State.yardDecide s a1 a2).dram = s.dram := by
  unfold State.yardDecide; grind [State.dram, foldl_dram, Mem.fill, State.count_dram]

theorem State.yardTrim_dram (s : State) (a1) (a2) (a3) (w : s.dbg.st ≠ 1) : (State.yardTrim s a1 a2 a3).dram = s.dram := by
  unfold State.yardTrim; grind [State.dram, foldl_dram, Mem.fill, State.modYard_dram, State.count_dram, State.yardErr_dram]

theorem State.yardEdge_dram (s : State) (a1) (a2) (w : s.dbg.st ≠ 1) : (State.yardEdge s a1 a2).dram = s.dram := by
  unfold State.yardEdge; grind [State.dram, foldl_dram, Mem.fill, State.yardDecide_dram, State.yardTrim_dram]

theorem State.grantCluster_dram (s : State) (a1) (a2) (w : s.dbg.st ≠ 1) : (State.grantCluster s a1 a2).dram = s.dram := by
  unfold State.grantCluster; grind [State.dram, foldl_dram, Mem.fill, State.count_dram, State.zeroCluster_dram, State.modCluster_dram]

theorem State.openClusters_dram (s : State) (w : s.dbg.st ≠ 1) : (State.openClusters s).dram = s.dram := by
  unfold State.openClusters; grind [State.dram, foldl_dram, Mem.fill, State.setFld_dram]

theorem State.releaseGrants_dram (s : State) (w : s.dbg.st ≠ 1) : (State.releaseGrants s).dram = s.dram := by
  unfold State.releaseGrants; grind [State.dram, foldl_dram, Mem.fill]

theorem State.gaugeSnap_dram (s : State) (w : s.dbg.st ≠ 1) : (State.gaugeSnap s).dram = s.dram := by
  unfold State.gaugeSnap; grind [State.dram, foldl_dram, Mem.fill, State.draw_dram]

theorem State.edgeStep7_dram (s : State) (a1) (a2) (w : s.dbg.st ≠ 1) : (State.edgeStep7 s a1 a2).dram = s.dram := by
  unfold State.edgeStep7; grind [State.dram, foldl_dram, Mem.fill, State.highWater_dram, State.setFld_dram, State.raisePage_dram, State.gaugeSnap_dram, State.beatCheck_dram]

theorem State.enterHoldover_dram (s : State) (w : s.dbg.st ≠ 1) : (State.enterHoldover s).dram = s.dram := by
  unfold State.enterHoldover; grind [State.dram, foldl_dram, Mem.fill, State.raisePage_dram, State.setFld_dram]

theorem State.edgeSync_dram (s : State) (a1) (a2) (w : s.dbg.st ≠ 1) : (State.edgeSync s a1 a2).dram = s.dram := by
  unfold State.edgeSync; grind [State.dram, foldl_dram, Mem.fill, State.setFld_dram, State.enterHoldover_dram, State.count_dram]

theorem State.spillStep_dram (s : State) (a1) (w : s.dbg.st ≠ 1) : (State.spillStep s a1).dram = s.dram := by
  unfold State.spillStep; grind [State.dram, foldl_dram, Mem.fill, State.count_dram, State.raiseCtx_dram, State.wr_dram, State.modCtx_dram]

theorem State.meterEdge_dram (s : State) (w : s.dbg.st ≠ 1) : (State.meterEdge s).dram = s.dram := by
  unfold State.meterEdge; grind [State.dram, foldl_dram, Mem.fill, State.wr_dram, State.modCtx_dram, State.count64_dram]

theorem State.openPound_dram (s : State) (a1) (w : s.dbg.st ≠ 1) : (State.openPound s a1).dram = s.dram := by
  unfold State.openPound; grind [State.dram, foldl_dram, Mem.fill, State.modCtx_dram]

theorem State.powerLearn_dram (s : State) (a1) (w : s.dbg.st ≠ 1) : (State.powerLearn s a1).dram = s.dram := by
  unfold State.powerLearn; grind [State.dram, foldl_dram, Mem.fill]

theorem State.guardBand_dram (s : State) (a1) (a2) (a3) (w : s.dbg.st ≠ 1) : (State.guardBand s a1 a2 a3).dram = s.dram := by
  unfold State.guardBand; grind [State.dram, foldl_dram, Mem.fill, State.modDom_dram, State.raisePage_dram]

theorem State.fitPoints_dram (s : State) (a1) (a2) (w : s.dbg.st ≠ 1) : (State.fitPoints s a1 a2).dram = s.dram := by
  unfold State.fitPoints; grind [State.dram, foldl_dram, Mem.fill, State.modDom_dram, State.logEvent_dram, State.raisePage_dram]

theorem State.marginStep_dram (s : State) (a1) (w : s.dbg.st ≠ 1) : (State.marginStep s a1).dram = s.dram := by
  unfold State.marginStep; grind [State.dram, foldl_dram, Mem.fill, State.fitPoints_dram, State.modDom_dram]

theorem State.powerStep6_dram (s : State) (a1) (w : s.dbg.st ≠ 1) : (State.powerStep6 s a1).dram = s.dram := by
  unfold State.powerStep6; grind [State.dram, foldl_dram, Mem.fill, State.applyPoint_dram, State.guardBand_dram, State.droopStep_dram, State.applyRefresh_dram, State.marginStep_dram]

theorem State.setPhase_dram (s : State) (a1) (w : s.dbg.st ≠ 1) : (State.setPhase s a1).dram = s.dram := by
  unfold State.setPhase; grind [State.dram, foldl_dram, Mem.fill]

theorem State.setTick_dram (s : State) (a1) (w : s.dbg.st ≠ 1) : (State.setTick s a1).dram = s.dram := by
  unfold State.setTick; grind [State.dram, foldl_dram, Mem.fill]

theorem State.flightCheck_dram (s : State) (w : s.dbg.st ≠ 1) : (State.flightCheck s).dram = s.dram := by
  unfold State.flightCheck; grind [State.dram, foldl_dram, Mem.fill, State.checkFlight_dram]

theorem State.judgeLate_dram (s : State) (a1) (w : s.dbg.st ≠ 1) : (State.judgeLate s a1).dram = s.dram := by
  unfold State.judgeLate; grind [State.dram, foldl_dram, Mem.fill, State.modCtx_dram, State.sendNotice_dram]

theorem State.endBerth_dram (s : State) (a1) (a2) (w : s.dbg.st ≠ 1) : (State.endBerth s a1 a2).dram = s.dram := by
  unfold State.endBerth; grind [State.dram, foldl_dram, Mem.fill, State.count_dram, State.modBerth_dram, State.yardRelease_dram]

theorem State.enterRetain_dram (s : State) (w : s.dbg.st ≠ 1) : (State.enterRetain s).dram = s.dram := by
  unfold State.enterRetain; grind [State.dram, foldl_dram, Mem.fill, State.modMem, State.modDom_dram, State.dropLink_dram]

theorem State.modExch_dram (s : State) (a1) (a2) (a3) (a4) (w : s.dbg.st ≠ 1) : (State.modExch s a1 a2 a3 a4).dram = s.dram := by
  unfold State.modExch; grind [State.dram, foldl_dram, Mem.fill]

theorem State.rtServe_dram (s : State) (a1) (a2) (a3) (a4) (a5) (a6) (w : s.dbg.st ≠ 1) : (State.rtServe s a1 a2 a3 a4 a5 a6).dram = s.dram := by
  unfold State.rtServe; grind [State.dram, foldl_dram, Mem.fill, State.sendBarge_dram, State.raiseCtx_dram, State.memRead_dram, State.draw_dram, State.count64_dram, State.count_dram]

theorem State.gaugeAccept_dram (s : State) (a1) (a2) (w : s.dbg.st ≠ 1) : (State.gaugeAccept s a1 a2).dram = s.dram := by
  unfold State.gaugeAccept; grind [State.dram, foldl_dram, Mem.fill, State.modCtx_dram, State.gaugeSnap_dram]

theorem State.linkEnable_dram (s : State) (a1) (w : s.dbg.st ≠ 1) : (State.linkEnable s a1).dram = s.dram := by
  unfold State.linkEnable; grind [State.dram, foldl_dram, Mem.fill, State.portsCheck_dram, State.modLink_dram, State.raisePage_dram, State.wr_dram, State.count_dram]

theorem State.writeReg_dram (s : State) (a1) (a2) (a3) (a4) (w : s.dbg.st ≠ 1) : (State.writeReg s a1 a2 a3 a4).dram = s.dram := by
  unfold State.writeReg; grind [State.dram, foldl_dram, Mem.fill, State.applyField_dram, State.linkEnable_dram, State.wr_dram, State.accessError_dram, State.updAlert_dram]

theorem State.gaugeRequest_dram (s : State) (a1) (a2) (w : s.dbg.st ≠ 1) : (State.gaugeRequest s a1 a2).dram = s.dram := by
  unfold State.gaugeRequest; grind [State.dram, foldl_dram, Mem.fill, State.writeReg_dram, State.accessError_dram, State.gaugeAccept_dram]

theorem State.idleRails_dram (s : State) (w : s.dbg.st ≠ 1) : (State.idleRails s).dram = s.dram := by
  unfold State.idleRails; grind [State.dram, foldl_dram, Mem.fill, State.modDom_dram]

theorem State.jump_dram (s : State) (a1) (a2) (a3) (a4) (w : s.dbg.st ≠ 1) : (State.jump s a1 a2 a3 a4).dram = s.dram := by
  unfold State.jump; grind [State.dram, foldl_dram, Mem.fill, State.modCore_dram]

theorem State.kernelEnd_dram (s : State) (a1) (a2) (a3) (w : s.dbg.st ≠ 1) : (State.kernelEnd s a1 a2 a3).dram = s.dram := by
  unfold State.kernelEnd; grind [State.dram, foldl_dram, Mem.fill, State.stall_dram, State.dropCarts_dram, State.modCore_dram, State.checkDone_dram, State.trace_dram]

theorem State.modLaunch_dram (s : State) (a1) (a2) (a3) (w : s.dbg.st ≠ 1) : (State.modLaunch s a1 a2 a3).dram = s.dram := by
  unfold State.modLaunch; grind [State.dram, foldl_dram, Mem.fill, State.modCtx_dram]

theorem State.slipAt_dram (s : State) (a1) (a2) (a3) (w : s.dbg.st ≠ 1) : (State.slipAt s a1 a2 a3).dram = s.dram := by
  unfold State.slipAt; grind [State.dram, foldl_dram, Mem.fill, State.highWater_dram, State.raiseCtx_dram]

theorem State.launchCore_dram (s : State) (a1) (a2) (a3) (a4) (a5) (w : s.dbg.st ≠ 1) : (State.launchCore s a1 a2 a3 a4 a5).dram = s.dram := by
  unfold State.launchCore; grind [State.dram, foldl_dram, Mem.fill, State.raiseCtx_dram, State.dcacheInval_dram, State.modCore_dram, State.modLaunch_dram, State.trace_dram, State.slipAt_dram]

theorem State.launch_dram (s : State) (a1) (a2) (a3) (a4) (a5) (w : s.dbg.st ≠ 1) : (State.launch s a1 a2 a3 a4 a5).dram = s.dram := by
  unfold State.launch; grind [State.dram, foldl_dram, Mem.fill, State.launchCore_dram]

theorem State.lineCorrected_dram (s : State) (a1) (w : s.dbg.st ≠ 1) : (State.lineCorrected s a1).dram = s.dram := by
  unfold State.lineCorrected; grind [State.dram, foldl_dram, Mem.fill, State.modMem, State.count_dram, State.raisePage_dram]

theorem State.linePoisoned_dram (s : State) (a1) (a2) (w : s.dbg.st ≠ 1) : (State.linePoisoned s a1 a2).dram = s.dram := by
  unfold State.linePoisoned; grind [State.dram, foldl_dram, Mem.fill, State.count_dram, State.modMem, State.raisePage_dram]

theorem State.toHoldover_dram (s : State) (w : s.dbg.st ≠ 1) : (State.toHoldover s).dram = s.dram := by
  unfold State.toHoldover; grind [State.dram, foldl_dram, Mem.fill, State.raisePage_dram, State.setFld_dram]

theorem State.linksChanged_dram (s : State) (w : s.dbg.st ≠ 1) : (State.linksChanged s).dram = s.dram := by
  unfold State.linksChanged; grind [State.dram, foldl_dram, Mem.fill, State.portsCheck_dram, State.pump_dram, State.toHoldover_dram]

theorem State.resend_dram (s : State) (a1) (w : s.dbg.st ≠ 1) : (State.resend s a1).dram = s.dram := by
  unfold State.resend; grind [State.dram, foldl_dram, Mem.fill, State.undeliverable_dram, State.count_dram, State.putBarge_dram, State.fceCount_dram]

theorem State.linkDown_dram (s : State) (a1) (w : s.dbg.st ≠ 1) : (State.linkDown s a1).dram = s.dram := by
  unfold State.linkDown; grind [State.dram, foldl_dram, Mem.fill, State.updAlert_dram, State.dropLink_dram, State.linksChanged_dram, State.resend_dram]

theorem State.linkUp_dram (s : State) (a1) (w : s.dbg.st ≠ 1) : (State.linkUp s a1).dram = s.dram := by
  unfold State.linkUp; grind [State.dram, foldl_dram, Mem.fill, State.modLink_dram, State.linksChanged_dram]

theorem State.loadAttempt_dram (s : State) (w : s.dbg.st ≠ 1) : (State.loadAttempt s).1.dram = s.dram := by
  unfold State.loadAttempt; grind [State.dram, foldl_dram, Mem.fill, State.wr_dram, State.copyBad_dram, State.attemptFailed_dram, State.raisePage_dram, State.optResult_dram, State.histEntry_dram, State.applyTrims_dram]

theorem State.scalarFault_dram (s : State) (a1) (a2) (w : s.dbg.st ≠ 1) : (State.scalarFault s a1 a2).dram = s.dram := by
  unfold State.scalarFault; grind [State.dram, foldl_dram, Mem.fill, State.retire_dram, State.raiseCtx_dram]

theorem State.vecOps_dram (s : State) (a1) (a2) (w : s.dbg.st ≠ 1) : (State.vecOps s a1 a2).dram = s.dram := by
  unfold State.vecOps; grind [State.dram, foldl_dram, Mem.fill, State.count64_dram]

theorem State.maskWrite_dram (s : State) (a1) (a2) (a3) (a4) (w : s.dbg.st ≠ 1) : (State.maskWrite s a1 a2 a3 a4).dram = s.dram := by
  unfold State.maskWrite; grind [State.dram, foldl_dram, Mem.fill, State.vecOps_dram, State.modCore_dram]

theorem State.mergeArrive_dram (s : State) (a1) (w : s.dbg.st ≠ 1) : (State.mergeArrive s a1).dram = s.dram := by
  unfold State.mergeArrive; grind [State.dram, foldl_dram, Mem.fill, State.modCluster_dram, State.raiseCtx_dram, State.count_dram]

theorem State.mergeTally_dram (s : State) (a1) (a2) (a3) (a4) (w : s.dbg.st ≠ 1) : (State.mergeTally s a1 a2 a3 a4).dram = s.dram := by
  unfold State.mergeTally; grind [State.dram, foldl_dram, Mem.fill, State.countAtp_dram, State.count_dram, State.reportCore_dram]

theorem State.mergeToWharf_dram (s : State) (a1) (a2) (a3) (a4) (a5) (w : s.dbg.st ≠ 1) : (State.mergeToWharf s a1 a2 a3 a4 a5).dram = s.dram := by
  unfold State.mergeToWharf; grind [State.dram, foldl_dram, Mem.fill, State.countAtp_dram, State.mergeTally_dram, State.wharfWrite_dram, State.syncInc_dram]

theorem State.minute_dram (s : State) (w : s.dbg.st ≠ 1) : (State.minute s).dram = s.dram := by
  unfold State.minute; grind [State.dram, foldl_dram, Mem.fill]

theorem State.mxReject_dram (s : State) (a1) (a2) (a3) (a4) (a5) (w : s.dbg.st ≠ 1) : (State.mxReject s a1 a2 a3 a4 a5).dram = s.dram := by
  unfold State.mxReject; grind [State.dram, foldl_dram, Mem.fill, State.wr_dram, State.raiseCtx_dram]

theorem State.mxaHandover_dram (s : State) (a1) (w : s.dbg.st ≠ 1) : (State.mxaHandover s a1).dram = s.dram := by
  unfold State.mxaHandover; grind [State.dram, foldl_dram, Mem.fill, State.modCore_dram, State.scbRelease_dram]

theorem State.mxaOsSwapOut_dram (s : State) (a1) (w : s.dbg.st ≠ 1) : (State.mxaOsSwapOut s a1).dram = s.dram := by
  unfold State.mxaOsSwapOut; dsimp only; repeat' split
  all_goals grind (splits := 40) (ematch := 20) (gen := 20) [State.dram, foldl_dram, State.modCore_dram, State.scbRelease_dram]

theorem State.mxaShadowFull_dram (s : State) (a1) (a2) (w : s.dbg.st ≠ 1) : (State.mxaShadowFull s a1 a2).dram = s.dram := by
  unfold State.mxaShadowFull; grind [State.dram, foldl_dram, Mem.fill, State.scbRelease_dram, State.modCore_dram]

theorem State.startClaim_dram (s : State) (a1) (a2) (w : s.dbg.st ≠ 1) : (State.startClaim s a1 a2).dram = s.dram := by
  unfold State.startClaim; grind [State.dram, foldl_dram, Mem.fill, State.modCore_dram, State.scbRelease_dram, State.atReject_dram, State.mxReject_dram]

theorem State.osArray_dram (s : State) (a1) (a2) (a3) (a4) (a5) (a6) (w : s.dbg.st ≠ 1) : (State.osArray s a1 a2 a3 a4 a5 a6).dram = s.dram := by
  unfold State.osArray; grind [State.dram, foldl_dram, Mem.fill, State.modCore_dram, State.countMacs_dram, State.countDrn_dram]

theorem State.startOsmul_dram (s : State) (a1) (a2) (a3) (w : s.dbg.st ≠ 1) : (State.startOsmul s a1 a2 a3).dram = s.dram := by
  unfold State.startOsmul; grind [State.dram, foldl_dram, Mem.fill, State.osArray_dram, State.modCore_dram, State.scbRelease_dram]

theorem State.startSload_dram (s : State) (a1) (a2) (w : s.dbg.st ≠ 1) : (State.startSload s a1 a2).dram = s.dram := by
  unfold State.startSload; grind [State.dram, foldl_dram, Mem.fill, State.modCore_dram]

theorem State.wsArray_dram (s : State) (a1) (a2) (a3) (a4) (a5) (a6) (w : s.dbg.st ≠ 1) : (State.wsArray s a1 a2 a3 a4 a5 a6).dram = s.dram := by
  unfold State.wsArray; grind [State.dram, foldl_dram, Mem.fill, State.modCore_dram, State.countMacs_dram, State.countDrn_dram]

theorem State.startWsmul_dram (s : State) (a1) (a2) (a3) (w : s.dbg.st ≠ 1) : (State.startWsmul s a1 a2 a3).dram = s.dram := by
  unfold State.startWsmul; grind [State.dram, foldl_dram, Mem.fill, State.modCore_dram, State.scbRelease_dram, State.mxReject_dram, State.wsArray_dram]

theorem State.mxaStart_dram (s : State) (a1) (a2) (w : s.dbg.st ≠ 1) : (State.mxaStart s a1 a2).dram = s.dram := by
  unfold State.mxaStart; grind [State.dram, foldl_dram, Mem.fill, State.modCore_dram, State.startClaim_dram, State.startSload_dram, State.startWsmul_dram, State.startOsmul_dram, State.scbRelease_dram]

theorem State.mxaSwapEffect_dram (s : State) (a1) (a2) (w : s.dbg.st ≠ 1) : (State.mxaSwapEffect s a1 a2).dram = s.dram := by
  unfold State.mxaSwapEffect; grind [State.dram, foldl_dram, Mem.fill, State.modCore_dram, State.scbRelease_dram]

theorem State.mxqOp_dram (s : State) (a1) (a2) (a3) (w : s.dbg.st ≠ 1) : (State.mxqOp s a1 a2 a3).dram = s.dram := by
  unfold State.mxqOp; grind [State.dram, foldl_dram, Mem.fill, State.stall_dram, State.retire_dram, State.mxReject_dram, State.nextSeq_dram, State.scbAdd_dram, State.modCore_dram, State.highWater_dram]

theorem State.nanArrive_dram (s : State) (w : s.dbg.st ≠ 1) : (State.nanArrive s).dram = s.dram := by
  unfold State.nanArrive; grind [State.dram, foldl_dram, Mem.fill, State.fillRec_dram, State.raise_dram]

theorem State.newNonce_dram (s : State) (w : s.dbg.st ≠ 1) : (State.newNonce s).dram = s.dram := by
  unfold State.newNonce; grind [State.dram, foldl_dram, Mem.fill, State.draw_dram]

theorem State.newSid_dram (s : State) (a1) (w : s.dbg.st ≠ 1) : (State.newSid s a1).2.dram = s.dram := by
  unfold State.newSid; grind [State.dram, foldl_dram, Mem.fill, State.draw_dram]

theorem State.pciFault_dram (s : State) (a1) (a2) (w : s.dbg.st ≠ 1) : (State.pciFault s a1 a2).dram = s.dram := by
  unfold State.pciFault; grind [State.dram, foldl_dram, Mem.fill, State.accessError_dram]

theorem State.planCmd_dram (s : State) (a1) (a2) (a3) (a4) (a5) (a6) (w : s.dbg.st ≠ 1) : (State.planCmd s a1 a2 a3 a4 a5 a6).dram = s.dram := by
  unfold State.planCmd; grind [State.dram, foldl_dram, Mem.fill, State.hold_dram, State.modPlan_dram, State.accessError_dram]

theorem State.planArm_dram (s : State) (a1) (a2) (w : s.dbg.st ≠ 1) : (State.planArm s a1 a2).dram = s.dram := by
  unfold State.planArm; grind [State.dram, foldl_dram, Mem.fill, State.planCmd_dram]

theorem State.planClear_dram (s : State) (a1) (a2) (w : s.dbg.st ≠ 1) : (State.planClear s a1 a2).dram = s.dram := by
  unfold State.planClear; grind [State.dram, foldl_dram, Mem.fill, State.planCmd_dram]

theorem State.planDisarm_dram (s : State) (a1) (a2) (w : s.dbg.st ≠ 1) : (State.planDisarm s a1 a2).dram = s.dram := by
  unfold State.planDisarm; grind [State.dram, foldl_dram, Mem.fill, State.planCmd_dram]

theorem State.planLoad_dram (s : State) (a1) (a2) (w : s.dbg.st ≠ 1) : (State.planLoad s a1 a2).dram = s.dram := by
  unfold State.planLoad; grind [State.dram, foldl_dram, Mem.fill, State.planCmd_dram]

theorem State.planLoaded_dram (s : State) (a1) (w : s.dbg.st ≠ 1) : (State.planLoaded s a1).dram = s.dram := by
  unfold State.planLoaded; grind [State.dram, foldl_dram, Mem.fill, State.modPlan_dram, State.fceRaise_dram, State.setFld_dram, State.memRead_dram, State.portsCheck_dram]

theorem State.pldmSay_dram (s : State) (a1) (a2) (w : s.dbg.st ≠ 1) : (State.pldmSay s a1 a2).dram = s.dram := by
  unfold State.pldmSay; grind [State.dram, foldl_dram, Mem.fill, State.emit_dram]

theorem State.storePieces_dram (s : State) (a1) (a2) (a3) (a4) (a5) (w : s.dbg.st ≠ 1) : (State.storePieces s a1 a2 a3 a4 a5).1.dram = s.dram := by
  fun_induction State.storePieces s a1 a2 a3 a4 a5 <;> grind [State.dram, foldl_dram, Mem.fill, State.xlate_dram, State.memFault_dram]

theorem State.storeRuns_dram (s : State) (a1) (a2) (a3) (a4) (w : s.dbg.st ≠ 1) : (State.storeRuns s a1 a2 a3 a4).1.dram = s.dram := by
  fun_induction State.storeRuns s a1 a2 a3 a4 <;> grind [State.dram, foldl_dram, Mem.fill, State.storePieces_dram]

theorem State.portStore_dram (s : State) (a1) (a2) (a3) (w : s.dbg.st ≠ 1) : (State.portStore s a1 a2 a3).1.dram = s.dram := by
  unfold State.portStore; grind [State.dram, foldl_dram, Mem.fill, State.raiseCtx_dram, State.storeRuns_dram, State.modMem, State.modCore_dram]

theorem State.preread_dram (s : State) (a1) (w : s.dbg.st ≠ 1) : (State.preread s a1).dram = s.dram := by
  unfold State.preread; grind [State.dram, foldl_dram, Mem.fill, State.memRead_dram, State.modCtx_dram]

theorem State.quarantine_dram (s : State) (a1) (a2) (w : s.dbg.st ≠ 1) : (State.quarantine s a1 a2).dram = s.dram := by
  unfold State.quarantine; grind [State.dram, foldl_dram, Mem.fill, State.modLink_dram, State.raisePage_dram, State.linksChanged_dram, State.resend_dram]

theorem State.readMaybe_dram (s : State) (a1) (a2) (a3) (w : s.dbg.st ≠ 1) : (State.readMaybe s a1 a2 a3).1.dram = s.dram := by
  unfold State.readMaybe; grind [State.dram, foldl_dram, Mem.fill, State.memRead_dram]

theorem State.readReg_dram (s : State) (a1) (a2) (a3) (w : s.dbg.st ≠ 1) : (State.readReg s a1 a2 a3).dram = s.dram := by
  unfold State.readReg; grind [State.dram, foldl_dram, Mem.fill]

theorem State.readSensors_dram (s : State) (a1) (w : s.dbg.st ≠ 1) : (State.readSensors s a1).dram = s.dram := by
  unfold State.readSensors; grind [State.dram, foldl_dram, Mem.fill, State.raisePage_dram]

theorem State.stageImage_dram (s : State) (a1) (w : s.dbg.st ≠ 1) : (State.stageImage s a1).dram = s.dram := by
  unfold State.stageImage; grind [State.dram, foldl_dram, Mem.fill]

theorem State.startAttest_dram (s : State) (w : s.dbg.st ≠ 1) : (State.startAttest s).dram = s.dram := by
  unfold State.startAttest; grind [State.dram, foldl_dram, Mem.fill, State.tamper_dram, State.raisePage_dram]

theorem State.startLog_dram (s : State) (w : s.dbg.st ≠ 1) : (State.startLog s).dram = s.dram := by
  unfold State.startLog; grind [State.dram, foldl_dram, Mem.fill, State.modDom_dram, State.fitPoints_dram]

theorem State.startPower_dram (s : State) (w : s.dbg.st ≠ 1) : (State.startPower s).dram = s.dram := by
  unfold State.startPower; grind [State.dram, foldl_dram, Mem.fill, State.idleRails_dram, State.startLog_dram, State.modDom_dram, State.setFld_dram]

theorem State.startReady_dram (s : State) (w : s.dbg.st ≠ 1) : (State.startReady s).dram = s.dram := by
  unfold State.startReady; grind [State.dram, foldl_dram, Mem.fill, State.modCtx_dram, State.wr_dram, State.logEvent_dram]

theorem State.stuck_dram (s : State) (w : s.dbg.st ≠ 1) : (State.stuck s).dram = s.dram := by
  unfold State.stuck; grind [State.dram, foldl_dram, Mem.fill]

theorem State.startRest_dram (s : State) (w : s.dbg.st ≠ 1) : (State.startRest s).dram = s.dram := by
  unfold State.startRest; grind [State.dram, foldl_dram, Mem.fill, State.pickImage_dram, State.startAttest_dram, State.startPower_dram, State.stuck_dram, State.startReady_dram]

theorem State.startOptions_dram (s : State) (w : s.dbg.st ≠ 1) : (State.startOptions s).dram = s.dram := by
  unfold State.startOptions; grind [State.dram, foldl_dram, Mem.fill, State.startRest_dram, State.fallBack_dram, State.optResult_dram, State.loadAttempt_dram]

theorem State.recover_dram (s : State) (a1) (w : s.dbg.st ≠ 1) : (State.recover s a1).dram = s.dram := by
  unfold State.recover; grind [State.dram, foldl_dram, Mem.fill, State.stageImage_dram, State.runImage_dram, State.pldmSay_dram, State.startOptions_dram, State.startReady_dram, State.imageRefused_dram]

theorem State.vecSx_dram (s : State) (a1) (a2) (a3) (w : s.dbg.st ≠ 1) : (State.vecSx s a1 a2 a3).dram = s.dram := by
  unfold State.vecSx; grind [State.dram, foldl_dram, Mem.fill, State.modCore_dram]

theorem State.redWrite_dram (s : State) (a1) (a2) (a3) (w : s.dbg.st ≠ 1) : (State.redWrite s a1 a2 a3).dram = s.dram := by
  unfold State.redWrite; grind [State.dram, foldl_dram, Mem.fill, State.vecSx_dram, State.modCore_dram]

theorem State.rwAcked_dram (s : State) (a1) (a2) (a3) (w : s.dbg.st ≠ 1) : (State.rwAcked s a1 a2 a3).dram = s.dram := by
  unfold State.rwAcked; grind [State.dram, foldl_dram, Mem.fill, State.flightAbort_dram, State.dmStop_dram, State.modCore_dram]

theorem State.tickStop_dram (s : State) (a1) (a2) (w : s.dbg.st ≠ 1) : (State.tickStop s a1 a2).dram = s.dram := by
  unfold State.tickStop; grind [State.dram, foldl_dram, Mem.fill, State.accessError_dram]

theorem State.rtSync_dram (s : State) (a1) (a2) (a3) (w : s.dbg.st ≠ 1) : (State.rtSync s a1 a2 a3).dram = s.dram := by
  unfold State.rtSync; grind [State.dram, foldl_dram, Mem.fill, State.syncInc_dram]

theorem State.rtCommit_dram (s : State) (a1) (a2) (a3) (w : s.dbg.st ≠ 1) : (State.rtCommit s a1 a2 a3).dram = s.dram := by
  unfold State.rtCommit; grind [State.dram, foldl_dram, Mem.fill, State.modCtx_dram, State.count_dram, State.rteError_dram]

theorem State.rtReadRows_dram (s : State) (a1) (a2) (a3) (a4) (w : s.dbg.st ≠ 1) : (State.rtReadRows s a1 a2 a3 a4).1.dram = s.dram := by
  fun_induction State.rtReadRows s a1 a2 a3 a4 <;> grind [State.dram, foldl_dram, Mem.fill, State.memRead_dram, State.rteError_dram]

theorem State.rtRequests_dram (s : State) (a1) (a2) (a3) (w : s.dbg.st ≠ 1) : (State.rtRequests s a1 a2 a3).dram = s.dram := by
  unfold State.rtRequests; grind [State.dram, foldl_dram, Mem.fill, State.modExch_dram, State.sendBarge_dram]

theorem State.rteFault_dram (s : State) (a1) (a2) (w : s.dbg.st ≠ 1) : (State.rteFault s a1 a2).dram = s.dram := by
  unfold State.rteFault; grind [State.dram, foldl_dram, Mem.fill, State.rteError_dram]

theorem State.setRd_dram (s : State) (a1) (a2) (a3) (a4) (w : s.dbg.st ≠ 1) : (State.setRd s a1 a2 a3 a4).dram = s.dram := by
  unfold State.setRd; grind [State.dram, foldl_dram, Mem.fill, State.retire_dram, State.modCore_dram]

theorem State.storeOp_dram (s : State) (a1) (a2) (a3) (a4) (a5) (w : s.dbg.st ≠ 1) : (State.storeOp s a1 a2 a3 a4 a5).dram = s.dram := by
  unfold State.storeOp; grind [State.dram, foldl_dram, Mem.fill, State.scalarFault_dram, State.stall_dram, State.retire_dram, State.wharfWrite_dram, State.portStore_dram]

theorem State.scoreArrive_dram (s : State) (w : s.dbg.st ≠ 1) : (State.scoreArrive s).dram = s.dram := by
  unfold State.scoreArrive; grind [State.dram, foldl_dram, Mem.fill, State.modYard_dram]

theorem State.setConn_dram (s : State) (a1) (a2) (w : s.dbg.st ≠ 1) : (State.setConn s a1 a2).dram = s.dram := by
  unfold State.setConn; grind [State.dram, foldl_dram, Mem.fill]

theorem State.spdmSay_dram (s : State) (a1) (a2) (a3) (a4) (a5) (w : s.dbg.st ≠ 1) : (State.spdmSay s a1 a2 a3 a4 a5).dram = s.dram := by
  unfold State.spdmSay; grind [State.dram, foldl_dram, Mem.fill, State.emit_dram]

theorem State.spdmError_dram (s : State) (a1) (a2) (a3) (w : s.dbg.st ≠ 1) : (State.spdmError s a1 a2 a3).dram = s.dram := by
  unfold State.spdmError; grind [State.dram, foldl_dram, Mem.fill, State.spdmSay_dram]

theorem State.spdm_dram (s : State) t f (w : s.dbg.st ≠ 1) (h : ∀ s, s.dbg.st ≠ 1 → (f s).dram = s.dram) : (s.spdm t f).dram = s.dram := by
  unfold State.spdm; grind [State.dram, State.spdmError_dram]

theorem State.stackHeat_dram (s : State) (a1) (w : s.dbg.st ≠ 1) : (State.stackHeat s a1).dram = s.dram := by
  unfold State.stackHeat; grind [State.dram, foldl_dram, Mem.fill, State.setFld_dram, State.raisePage_dram]

theorem State.startBackup_dram (s : State) (w : s.dbg.st ≠ 1) : (State.startBackup s).dram = s.dram := by
  unfold State.startBackup; grind [State.dram, foldl_dram, Mem.fill, State.raisePage_dram, State.optFailed_dram, State.histEntry_dram]

theorem State.startEntropy_dram (s : State) (w : s.dbg.st ≠ 1) : (State.startEntropy s).dram = s.dram := by
  unfold State.startEntropy; grind [State.dram, foldl_dram, Mem.fill, State.draw_dram, State.modMem, State.pickImage_dram, State.stuck_dram, State.startOptions_dram]

theorem State.sywWaitEnd_dram (s : State) (a1) (w : s.dbg.st ≠ 1) : (State.sywWaitEnd s a1).dram = s.dram := by
  unfold State.sywWaitEnd; grind [State.dram, foldl_dram, Mem.fill, State.sywEnd_dram]

theorem State.takeIndex_dram (s : State) (w : s.dbg.st ≠ 1) : (State.takeIndex s).dram = s.dram := by
  unfold State.takeIndex; grind [State.dram, foldl_dram, Mem.fill]

theorem State.throttleHeat_dram (s : State) (w : s.dbg.st ≠ 1) : (State.throttleHeat s).dram = s.dram := by
  unfold State.throttleHeat; grind [State.dram, foldl_dram, Mem.fill, State.logEvent_dram, State.raisePage_dram]

theorem State.unlock_dram (s : State) (w : s.dbg.st ≠ 1) : (State.unlock s).dram = s.dram := by
  unfold State.unlock; grind [State.dram, foldl_dram, Mem.fill, State.raisePage_dram, State.setFld_dram, State.flightAbort_dram, State.modPlan_dram]

theorem State.vecRange_dram (s : State) (a1) (a2) (w : s.dbg.st ≠ 1) : (State.vecRange s a1 a2).dram = s.dram := by
  unfold State.vecRange; grind [State.dram, foldl_dram, Mem.fill, State.count_dram, State.modCore_dram]

theorem State.vecCart_dram (s : State) (a1) (a2) (a3) (w : s.dbg.st ≠ 1) : (State.vecCart s a1 a2 a3).dram = s.dram := by
  unfold State.vecCart; grind [State.dram, foldl_dram, Mem.fill, State.vecSx_dram, State.modCore_dram, State.vecRange_dram, State.count_dram]

theorem State.vecCmp_dram (s : State) (a1) (a2) (a3) (w : s.dbg.st ≠ 1) : (State.vecCmp s a1 a2 a3).dram = s.dram := by
  unfold State.vecCmp; grind [State.dram, foldl_dram, Mem.fill, State.maskWrite_dram]

theorem State.vecReport_dram (s : State) (a1) (a2) (a3) (a4) (w : s.dbg.st ≠ 1) : (State.vecReport s a1 a2 a3 a4).dram = s.dram := by
  unfold State.vecReport; grind [State.dram, foldl_dram, Mem.fill, State.modCore_dram, State.count_dram, State.reportCore_dram]

theorem State.vecWrite_dram (s : State) (a1) (a2) (a3) (a4) (a5) (w : s.dbg.st ≠ 1) : (State.vecWrite s a1 a2 a3 a4 a5).dram = s.dram := by
  unfold State.vecWrite; grind [State.dram, foldl_dram, Mem.fill, State.modCore_dram, State.vecOps_dram, State.vecReport_dram]

theorem State.vecCtrl_dram (s : State) (a1) (a2) (a3) (w : s.dbg.st ≠ 1) : (State.vecCtrl s a1 a2 a3).dram = s.dram := by
  unfold State.vecCtrl; grind [State.dram, foldl_dram, Mem.fill, State.modCore_dram, State.vecSx_dram, State.vecWrite_dram]

theorem State.vecCvt_dram (s : State) (a1) (a2) (a3) (w : s.dbg.st ≠ 1) : (State.vecCvt s a1 a2 a3).dram = s.dram := by
  unfold State.vecCvt; grind [State.dram, foldl_dram, Mem.fill, State.modCore_dram, State.vecOps_dram, State.vecReport_dram]

theorem State.vecElem_dram (s : State) (a1) (a2) (a3) (w : s.dbg.st ≠ 1) : (State.vecElem s a1 a2 a3).dram = s.dram := by
  unfold State.vecElem; grind [State.dram, foldl_dram, Mem.fill, State.vecWrite_dram]

theorem State.vecEmpty_dram (s : State) (a1) (a2) (a3) (w : s.dbg.st ≠ 1) : (State.vecEmpty s a1 a2 a3).dram = s.dram := by
  unfold State.vecEmpty; grind [State.dram, foldl_dram, Mem.fill, State.modCore_dram, State.count_dram]

theorem State.vecMask_dram (s : State) (a1) (a2) (w : s.dbg.st ≠ 1) : (State.vecMask s a1 a2).dram = s.dram := by
  unfold State.vecMask; grind [State.dram, foldl_dram, Mem.fill, State.maskWrite_dram, State.modCore_dram, State.vecSx_dram]

theorem State.vecReject_dram (s : State) (a1) (a2) (a3) (w : s.dbg.st ≠ 1) : (State.vecReject s a1 a2 a3).dram = s.dram := by
  unfold State.vecReject; grind [State.dram, foldl_dram, Mem.fill, State.wr_dram, State.raiseCtx_dram]

theorem State.vecPerm_dram (s : State) (a1) (a2) (a3) (w : s.dbg.st ≠ 1) : (State.vecPerm s a1 a2 a3).dram = s.dram := by
  have h1 := fun (c : VecCmd) w' f => State.vecWrite_dram s a1 a2 c w' f w
  unfold State.vecPerm; dsimp only; split
  · split
    · rw [State.vecRange_dram]; exact h1 _ _ _; have := h1; grind (splits := 40) (ematch := 20) (gen := 20) [State.dram]
    · exact h1 _ _ _
  all_goals grind (splits := 40) (ematch := 20) (gen := 20) [State.dram, foldl_dram, State.vecWrite_dram, State.vecRange_dram, State.modCore_dram, State.vecOps_dram, State.vecSx_dram]

theorem State.vecQmx_dram (s : State) (a1) (a2) (a3) (w : s.dbg.st ≠ 1) : (State.vecQmx s a1 a2 a3).dram = s.dram := by
  unfold State.vecQmx; grind [State.dram, foldl_dram, Mem.fill, State.modCore_dram, State.vecOps_dram, State.count_dram]

theorem State.vecRed_dram (s : State) (a1) (a2) (a3) (w : s.dbg.st ≠ 1) : (State.vecRed s a1 a2 a3).dram = s.dram := by
  unfold State.vecRed; grind [State.dram, foldl_dram, Mem.fill, State.vecOps_dram, State.vecEmpty_dram, State.redWrite_dram, State.vecReport_dram]

theorem State.windowRead_dram (s : State) (a1) (a2) (a3) (w : s.dbg.st ≠ 1) : (State.windowRead s a1 a2 a3).1.dram = s.dram := by
  unfold State.windowRead; grind [State.dram, foldl_dram, Mem.fill, State.memRead_dram, State.apertureFault_dram]

theorem State.xlatInv_dram (s : State) (a1) (a2) (w : s.dbg.st ≠ 1) : (State.xlatInv s a1 a2).dram = s.dram := by
  unfold State.xlatInv; grind [State.dram, foldl_dram, Mem.fill]

theorem State.yardResult_dram (s : State) (a1) (a2) (a3) (w : s.dbg.st ≠ 1) : (State.yardResult s a1 a2 a3).dram = s.dram := by
  unfold State.yardResult; grind [State.dram, foldl_dram, Mem.fill, State.wharfWrite_dram]

theorem State.yardRefuse_dram (s : State) (a1) (a2) (w : s.dbg.st ≠ 1) : (State.yardRefuse s a1 a2).dram = s.dram := by
  unfold State.yardRefuse; grind [State.dram, foldl_dram, Mem.fill, State.yardErr_dram, State.count_dram, State.yardResult_dram]

theorem State.yardRetire_dram (s : State) (a1) (w : s.dbg.st ≠ 1) : (State.yardRetire s a1).dram = s.dram := by
  unfold State.yardRetire; grind [State.dram, foldl_dram, Mem.fill, State.scbRelease_dram]

end Sys2Proof.Machine
end

