-- ==== Sys2Proof/Laws/OtherCores.lean ====
section
/-! SUPPORT. Operations on one core leave every other core alone: one lemma per shared operation. -/

namespace Sys2Proof.Machine

theorem Tbl.erase_twice {α} (n : Nat) (t : Tbl α) : Tbl.erase n (Tbl.erase n t) = Tbl.erase n t := by
  induction t with
  | nil => rfl
  | cons x t ih => simp only [Tbl.erase]; split <;> simp_all [Tbl.erase]

theorem Tbl.erase_insert {α} (n : Nat) (v : α) (t : Tbl α) : Tbl.erase n (Tbl.insert n v t) = Tbl.erase n t := by
  induction t with
  | nil => simp [Tbl.insert, Tbl.erase]
  | cons x t ih => simp only [Tbl.insert]; split <;> simp_all [Tbl.erase]

theorem State.setCore_others (s : State) n c : (s.setCore n c).others n = s.others n := by
  simp [State.setCore, State.others, Tbl.put, Tbl.erase_insert, Tbl.erase_twice]

theorem State.modCore_others (s : State) n c : (s.modCore n c).others n = s.others n := State.setCore_others _ _ _

theorem foldl_others {α} (n : Nat) (g : State → α → State) (xs : List α) (s : State) (h : ∀ s a, (g s a).others n = s.others n) : (xs.foldl g s).others n = s.others n := by
  induction xs generalizing s with
  | nil => rfl
  | cons x xs ih => simp [ih, h]

theorem State.wharfWrite_others (s : State) c o b : (s.wharfWrite c o b).others c = s.others c := State.modCore_others _ _ _

theorem State.dcacheInval_others (s : State) (a1) : (State.dcacheInval s a1).others a1 = s.others a1 := by
  unfold State.dcacheInval; grind [State.others, State.coresOf, foldl_others, foldl_coresOf, State.count_coresOf, State.modCore_others]

theorem State.acqDone_others (s : State) (a1) (a2) : (State.acqDone s a1 a2).others a1 = s.others a1 := by
  unfold State.acqDone; grind [State.others, State.coresOf, foldl_others, foldl_coresOf, State.dcacheInval_others]

theorem State.advance_others (s : State) (a1) (a2) : (State.advance s a1 a2).others a1 = s.others a1 := by
  unfold State.advance; grind [State.others, State.coresOf, foldl_others, foldl_coresOf, State.modCore_others]

theorem State.atDeliver_others (s : State) (a1) (a2) (a3) : (State.atDeliver s a1 a2 a3).others a1 = s.others a1 := by
  unfold State.atDeliver; grind [State.others, State.coresOf, foldl_others, foldl_coresOf, State.countAtp_coresOf, State.wharfWrite_others, State.atTally_coresOf, State.modCluster_coresOf]

theorem State.scbRelease_others (s : State) (a1) (a2) (a3) : (State.scbRelease s a1 a2 a3).others a1 = s.others a1 := by
  unfold State.scbRelease; grind [State.others, State.coresOf, foldl_others, foldl_coresOf, State.modCore_others]

theorem State.atFinish_others (s : State) (a1) (a2) : (State.atFinish s a1 a2).others a1 = s.others a1 := by
  unfold State.atFinish; grind [State.others, State.coresOf, foldl_others, foldl_coresOf, State.modCore_others, State.scbRelease_others]

theorem State.atStop_others (s : State) (a1) (a2) (a3) : (State.atStop s a1 a2 a3).others a1 = s.others a1 := by
  unfold State.atStop; grind [State.others, State.coresOf, foldl_others, foldl_coresOf, State.atFinish_others, State.atReject_coresOf]

theorem State.atRun_others (s : State) (a1) (a2) (a3) : (State.atRun s a1 a2 a3).others a1 = s.others a1 := by
  unfold State.atRun; grind [State.others, State.coresOf, foldl_others, foldl_coresOf, State.atStop_others, State.atCoaches_coresOf, State.atScores_coresOf, State.count64_coresOf, State.modCore_others, State.atTally_coresOf]

theorem State.atomApply_others (s : State) (a1) (a2) (a3) (a4) : (State.atomApply s a1 a2 a3 a4).1.others a1 = s.others a1 := by
  fun_induction State.atomApply s a1 a2 a3 a4 <;> grind [State.others, State.coresOf, foldl_others, foldl_coresOf, State.memRead_coresOf, State.memWrite_coresOf, State.wharfWrite_others, State.xlate_coresOf, State.count64_coresOf, State.atomNan_coresOf]

theorem State.atpEnd_others (s : State) (a1) : (State.atpEnd s a1).others a1 = s.others a1 := by
  unfold State.atpEnd; grind [State.others, State.coresOf, foldl_others, foldl_coresOf, State.atDeliver_others, State.modYard_coresOf, State.atFinish_others]

theorem State.atpStart_others (s : State) (a1) : (State.atpStart s a1).others a1 = s.others a1 := by
  unfold State.atpStart; grind [State.others, State.coresOf, foldl_others, foldl_coresOf, State.atRun_others, State.modCore_others]

theorem State.retire_others (s : State) (a1) (a2) : (State.retire s a1 a2).others a1 = s.others a1 := by
  unfold State.retire; grind [State.others, State.coresOf, foldl_others, foldl_coresOf, State.modCore_others]

theorem State.scbAdd_others (s : State) (a1) (a2) (a3) (a4) : (State.scbAdd s a1 a2 a3 a4).others a1 = s.others a1 := by
  unfold State.scbAdd; grind [State.others, State.coresOf, foldl_others, foldl_coresOf, State.modCore_others, State.highWater_coresOf]

theorem State.stall_others (s : State) (a1) (a2) : (State.stall s a1 a2).others a1 = s.others a1 := by
  unfold State.stall; grind [State.others, State.coresOf, foldl_others, foldl_coresOf, State.modCore_others]

theorem State.atqOp_others (s : State) (a1) (a2) (a3) : (State.atqOp s a1 a2 a3).others a1 = s.others a1 := by
  unfold State.atqOp; grind [State.others, State.coresOf, foldl_others, foldl_coresOf, State.stall_others, State.retire_others, State.atReject_coresOf, State.nextSeq_coresOf, State.scbAdd_others, State.modCore_others, State.highWater_coresOf]

theorem State.scalarError_others (s : State) (a1) (a2) (a3) (a4) : (State.scalarError s a1 a2 a3 a4).others a1 = s.others a1 := by
  unfold State.scalarError; grind [State.others, State.coresOf, foldl_others, foldl_coresOf, State.retire_others, State.raiseCtx_coresOf]

theorem State.badFence_others (s : State) (a1) : (State.badFence s a1).others a1 = s.others a1 := by
  unfold State.badFence; grind [State.others, State.coresOf, foldl_others, foldl_coresOf, State.scalarError_others]

theorem State.cartEnter_others (s : State) (a1) : (State.cartEnter s a1).others a1 = s.others a1 := by
  unfold State.cartEnter; grind [State.others, State.coresOf, foldl_others, foldl_coresOf, State.highWater_coresOf, State.modCore_others]

theorem State.portFlush_others (s : State) (a1) (a2) : (State.portFlush s a1 a2).others a1 = s.others a1 := by
  unfold State.portFlush; grind [State.others, State.coresOf, foldl_others, foldl_coresOf, State.modCore_others, State.basinAccept_coresOf]

theorem State.portFlushAll_others (s : State) (a1) : (State.portFlushAll s a1).others a1 = s.others a1 := by
  unfold State.portFlushAll; grind [State.others, State.coresOf, foldl_others, foldl_coresOf, State.portFlush_others]

theorem State.relDone_others (s : State) (a1) (a2) : (State.relDone s a1 a2).others a1 = s.others a1 := by
  unfold State.relDone; grind [State.others, State.coresOf, foldl_others, foldl_coresOf, State.portFlushAll_others]

theorem State.fenceOp_others (s : State) (a1) (a2) (a3) : (State.fenceOp s a1 a2 a3).others a1 = s.others a1 := by
  unfold State.fenceOp; grind [State.others, State.coresOf, foldl_others, foldl_coresOf, State.badFence_others, State.stall_others, State.relDone_others, State.acqDone_others, State.retire_others, State.countFence_coresOf]

theorem State.portDrain_others (s : State) (a1) : (State.portDrain s a1).others a1 = s.others a1 := by
  unfold State.portDrain; grind [State.others, State.coresOf, foldl_others, foldl_coresOf, State.modCore_others, State.draw_coresOf, State.basinAccept_coresOf]

theorem State.portBefore_others (s : State) (a1) (a2) (a3) : (State.portBefore s a1 a2 a3).others a1 = s.others a1 := by
  unfold State.portBefore; grind [State.others, State.coresOf, foldl_others, foldl_coresOf, State.portDrain_others, State.portFlush_others, State.portFlushAll_others]

theorem State.lduOp_others (s : State) (a1) (a2) (a3) (a4) : (State.lduOp s a1 a2 a3 a4).others a1 = s.others a1 := by
  unfold State.lduOp; grind [State.others, State.coresOf, foldl_others, foldl_coresOf, State.stall_others, State.scalarError_others, State.memRead_coresOf, State.portBefore_others, State.retire_others, State.modCore_others]

theorem State.syiOp_others (s : State) (a1) (a2) (a3) (a4) : (State.syiOp s a1 a2 a3 a4).others a1 = s.others a1 := by
  unfold State.syiOp; grind [State.others, State.coresOf, foldl_others, foldl_coresOf, State.stall_others, State.badFence_others, State.scalarError_others, State.relDone_others, State.syncInc_coresOf, State.retire_others, State.countFence_coresOf]

theorem State.syrOp_others (s : State) (a1) (a2) (a3) : (State.syrOp s a1 a2 a3).others a1 = s.others a1 := by
  unfold State.syrOp; grind [State.others, State.coresOf, foldl_others, foldl_coresOf, State.stall_others, State.scalarError_others, State.retire_others, State.modCore_others]

theorem State.sywEnd_others (s : State) (a1) (a2) (a3) : (State.sywEnd s a1 a2 a3).others a1 = s.others a1 := by
  unfold State.sywEnd; grind [State.others, State.coresOf, foldl_others, foldl_coresOf, State.retire_others, State.countFence_coresOf, State.acqDone_others, State.judgeSyw_coresOf]

theorem State.sywOp_others (s : State) (a1) (a2) (a3) (a4) : (State.sywOp s a1 a2 a3 a4).others a1 = s.others a1 := by
  unfold State.sywOp; grind [State.others, State.coresOf, foldl_others, foldl_coresOf, State.stall_others, State.badFence_others, State.scalarError_others, State.sywEnd_others]

theorem State.customOp_others (s : State) (a1) (a2) : (State.customOp s a1 a2).others a1 = s.others a1 := by
  unfold State.customOp; grind [State.others, State.coresOf, foldl_others, foldl_coresOf, State.fenceOp_others, State.badFence_others, State.syiOp_others, State.sywOp_others, State.syrOp_others, State.lduOp_others]

theorem State.cyqOp_others (s : State) (a1) (a2) (a3) : (State.cyqOp s a1 a2 a3).others a1 = s.others a1 := by
  unfold State.cyqOp; grind [State.others, State.coresOf, foldl_others, foldl_coresOf, State.nextSeq_coresOf, State.retire_others, State.yardErr_coresOf, State.stall_others, State.scbAdd_others, State.modYard_coresOf]

theorem State.dcachePiece_others (s : State) (a1) (a2) (a3) (a4) (a5) : (State.dcachePiece s a1 a2 a3 a4 a5).1.others a1 = s.others a1 := by
  unfold State.dcachePiece; grind [State.others, State.coresOf, foldl_others, foldl_coresOf, State.draw_coresOf, State.count_coresOf, State.readPieces_coresOf, State.modCore_others]

theorem State.dcachePieces_others (s : State) (a1) (a2) (a3) (a4) (a5) : (State.dcachePieces s a1 a2 a3 a4 a5).1.others a1 = s.others a1 := by
  fun_induction State.dcachePieces s a1 a2 a3 a4 a5 <;> grind [State.others, State.coresOf, foldl_others, foldl_coresOf, State.dcachePiece_others]

theorem State.dcacheRead_others (s : State) (a1) (a2) (a3) (a4) : (State.dcacheRead s a1 a2 a3 a4).1.others a1 = s.others a1 := by
  unfold State.dcacheRead; grind [State.others, State.coresOf, foldl_others, foldl_coresOf, State.raiseCtx_coresOf, State.dcachePieces_others]

theorem State.dcinvOp_others (s : State) (a1) : (State.dcinvOp s a1).others a1 = s.others a1 := by
  unfold State.dcinvOp; grind [State.others, State.coresOf, foldl_others, foldl_coresOf, State.retire_others, State.dcacheInval_others]

theorem State.rwStart_others (s : State) (a1) (a2) (a3) (a4) : (State.rwStart s a1 a2 a3 a4).others a1 = s.others a1 := by
  unfold State.rwStart; grind [State.others, State.coresOf, foldl_others, foldl_coresOf, State.modCore_others, State.rwSend_coresOf]

theorem State.dmBegin_others (s : State) (a1) (a2) (a3) (a4) (a5) : (State.dmBegin s a1 a2 a3 a4 a5).others a1 = s.others a1 := by
  unfold State.dmBegin; grind [State.others, State.coresOf, foldl_others, foldl_coresOf, State.modCore_others, State.rwStart_others]

theorem State.dmFinish_others (s : State) (a1) (a2) : (State.dmFinish s a1 a2).others a1 = s.others a1 := by
  unfold State.dmFinish; grind [State.others, State.coresOf, foldl_others, foldl_coresOf, State.scbRelease_others, State.modCore_others]

theorem State.dmStop_others (s : State) (a1) (a2) (a3) : (State.dmStop s a1 a2 a3).others a1 = s.others a1 := by
  unfold State.dmStop; grind [State.others, State.coresOf, foldl_others, foldl_coresOf, State.dmFinish_others, State.dmReject_coresOf]

theorem State.dmStart_others (s : State) (a1) (a2) (a3) : (State.dmStart s a1 a2 a3).others a1 = s.others a1 := by
  unfold State.dmStart; grind [State.others, State.coresOf, foldl_others, foldl_coresOf, State.dmStop_others, State.yardErr_coresOf, State.dmFinish_others, State.dmRead_coresOf, State.portBefore_others, State.dmBegin_others]

theorem State.dmaStart_others (s : State) (a1) : (State.dmaStart s a1).others a1 = s.others a1 := by
  unfold State.dmaStart; grind [State.others, State.coresOf, foldl_others, foldl_coresOf, State.dmStart_others, State.modCore_others]

theorem State.dmqOp_others (s : State) (a1) (a2) (a3) : (State.dmqOp s a1 a2 a3).others a1 = s.others a1 := by
  unfold State.dmqOp; grind [State.others, State.coresOf, foldl_others, foldl_coresOf, State.stall_others, State.nextSeq_coresOf, State.retire_others, State.dmReject_coresOf, State.scbAdd_others, State.modCore_others]

theorem State.drainDone_others (s : State) (a1) (a2) : (State.drainDone s a1 a2).others a1 = s.others a1 := by
  unfold State.drainDone; grind [State.others, State.coresOf, foldl_others, foldl_coresOf, State.modCore_others, State.scbRelease_others]

theorem State.drainCarts_others (s : State) (a1) (a2) (a3) (a4) (a5) : (State.drainCarts s a1 a2 a3 a4 a5).others a1 = s.others a1 := by
  fun_induction State.drainCarts s a1 a2 a3 a4 a5
  case case1 => rfl
  case case2 => exact State.drainDone_others _ _ _
  case case3 => rfl
  case case4 s fuel it _ _ _ n s1 it1 bytes hs _ _ s2 s3 ih =>
    have h := foldl_fst_coresOf (fun (p : State × DrainItem × List Byte) i => ((p.1.drainRow a1 a2 p.2.1 a3 (it.next + i)).1, (p.1.drainRow a1 a2 p.2.1 a3 (it.next + i)).2.1, p.2.2 ++ (p.1.drainRow a1 a2 p.2.1 a3 (it.next + i)).2.2)) (List.range n) (s, it, []) (fun p a => State.drainRow_coresOf _ _ _ _ _ _)
    rw [hs] at h
    rw [ih]; have e := State.highWater_coresOf; have e2 := State.modCore_others; have h2 : State.others _ a1 = s.others a1 := congrArg (Tbl.erase a1) h; grind [State.others, State.coresOf]

theorem State.drainRows_others (s : State) (a1) (a2) (a3) (a4) (a5) : (State.drainRows s a1 a2 a3 a4 a5).others a1 = s.others a1 := by
  fun_induction State.drainRows s a1 a2 a3 a4 a5 <;> grind [State.others, State.coresOf, foldl_others, foldl_coresOf, State.drainDone_others, State.drainDone_others, State.raiseCtx_coresOf, State.drainRow_coresOf, State.wharfWrite_others]

theorem State.drainBank_others (s : State) (a1) : (State.drainBank s a1).others a1 = s.others a1 := by
  unfold State.drainBank; grind [State.others, State.coresOf, foldl_others, foldl_coresOf, State.modCore_others, State.drainRows_others, State.drainCarts_others]

theorem State.dropCarts_others (s : State) (a1) (a2) : (State.dropCarts s a1 a2).others a1 = s.others a1 := by
  unfold State.dropCarts; grind [State.others, State.coresOf, foldl_others, foldl_coresOf, State.count_coresOf, State.modCore_others, State.raiseCtx_coresOf]

theorem State.dsetOp_others (s : State) (a1) (a2) (a3) : (State.dsetOp s a1 a2 a3).others a1 = s.others a1 := by
  unfold State.dsetOp; grind [State.others, State.coresOf, foldl_others, foldl_coresOf, State.stall_others, State.retire_others, State.badDesc_coresOf, State.modCore_others]

theorem State.fcqOp_others (s : State) (a1) (a2) : (State.fcqOp s a1 a2).others a1 = s.others a1 := by
  unfold State.fcqOp; grind (splits := 40) (ematch := 20) (gen := 20) [State.others, State.coresOf, foldl_others, foldl_coresOf, State.stall_others, State.retire_others, State.badColl_coresOf, State.relDone_others, State.readColl_coresOf, State.memRead_coresOf, State.modCtx_coresOf, State.needInst_coresOf, State.modInst_coresOf, State.collAdvance_coresOf]

theorem State.fetchBytes_others (s : State) (a1) (a2) (a3) : (State.fetchBytes s a1 a2 a3).1.others a1 = s.others a1 := by
  unfold State.fetchBytes; grind [State.others, State.coresOf, foldl_others, foldl_coresOf, State.memRead_coresOf, State.portBefore_others]

theorem State.jump_others (s : State) (a1) (a2) (a3) (a4) : (State.jump s a1 a2 a3 a4).others a1 = s.others a1 := by
  unfold State.jump; grind [State.others, State.coresOf, foldl_others, foldl_coresOf, State.modCore_others]

theorem State.kernelEnd_others (s : State) (a1) (a2) (a3) : (State.kernelEnd s a1 a2 a3).others a1 = s.others a1 := by
  unfold State.kernelEnd; grind [State.others, State.coresOf, foldl_others, foldl_coresOf, State.stall_others, State.dropCarts_others, State.modCore_others, State.checkDone_coresOf, State.trace_coresOf]

theorem State.scalarFault_others (s : State) (a1) (a2) : (State.scalarFault s a1 a2).others a1 = s.others a1 := by
  unfold State.scalarFault; grind [State.others, State.coresOf, foldl_others, foldl_coresOf, State.retire_others, State.raiseCtx_coresOf]

theorem State.loadOp_others (s : State) (a1) (a2) (a3) (a4) (a5) : (State.loadOp s a1 a2 a3 a4 a5).others a1 = s.others a1 := by
  unfold State.loadOp; grind [State.others, State.coresOf, foldl_others, foldl_coresOf, State.stall_others, State.scalarFault_others, State.retire_others, State.modCore_others, State.dcacheRead_others, State.portBefore_others]

theorem State.maskWrite_others (s : State) (a1) (a2) (a3) (a4) : (State.maskWrite s a1 a2 a3 a4).others a1 = s.others a1 := by
  unfold State.maskWrite; grind [State.others, State.coresOf, foldl_others, foldl_coresOf, State.vecOps_coresOf, State.modCore_others]

theorem State.mxaHandover_others (s : State) (a1) : (State.mxaHandover s a1).others a1 = s.others a1 := by
  unfold State.mxaHandover; grind [State.others, State.coresOf, foldl_others, foldl_coresOf, State.modCore_others, State.scbRelease_others]

theorem State.mxaOsSwapOut_others (s : State) (a1) : (State.mxaOsSwapOut s a1).others a1 = s.others a1 := by
  unfold State.mxaOsSwapOut; grind [State.others, State.coresOf, foldl_others, foldl_coresOf, State.modCore_others, State.scbRelease_others]

theorem State.mxaShadowFull_others (s : State) (a1) (a2) : (State.mxaShadowFull s a1 a2).others a1 = s.others a1 := by
  unfold State.mxaShadowFull; grind [State.others, State.coresOf, foldl_others, foldl_coresOf, State.scbRelease_others, State.modCore_others]

theorem State.startClaim_others (s : State) (a1) (a2) : (State.startClaim s a1 a2).others a1 = s.others a1 := by
  unfold State.startClaim; grind [State.others, State.coresOf, foldl_others, foldl_coresOf, State.modCore_others, State.scbRelease_others, State.atReject_coresOf, State.mxReject_coresOf]

theorem State.osArray_others (s : State) (a1) (a2) (a3) (a4) (a5) (a6) : (State.osArray s a1 a2 a3 a4 a5 a6).others a1 = s.others a1 := by
  unfold State.osArray; grind [State.others, State.coresOf, foldl_others, foldl_coresOf, State.modCore_others, State.countMacs_coresOf, State.countDrn_coresOf]

theorem State.startOsmul_others (s : State) (a1) (a2) (a3) : (State.startOsmul s a1 a2 a3).others a1 = s.others a1 := by
  unfold State.startOsmul; grind [State.others, State.coresOf, foldl_others, foldl_coresOf, State.osArray_others, State.modCore_others, State.scbRelease_others]

theorem State.startSload_others (s : State) (a1) (a2) : (State.startSload s a1 a2).others a1 = s.others a1 := by
  unfold State.startSload; grind [State.others, State.coresOf, foldl_others, foldl_coresOf, State.modCore_others]

theorem State.wsArray_others (s : State) (a1) (a2) (a3) (a4) (a5) (a6) : (State.wsArray s a1 a2 a3 a4 a5 a6).others a1 = s.others a1 := by
  unfold State.wsArray; grind [State.others, State.coresOf, foldl_others, foldl_coresOf, State.modCore_others, State.countMacs_coresOf, State.countDrn_coresOf]

theorem State.startWsmul_others (s : State) (a1) (a2) (a3) : (State.startWsmul s a1 a2 a3).others a1 = s.others a1 := by
  unfold State.startWsmul; grind [State.others, State.coresOf, foldl_others, foldl_coresOf, State.modCore_others, State.scbRelease_others, State.mxReject_coresOf, State.wsArray_others]

theorem State.mxaStart_others (s : State) (a1) (a2) : (State.mxaStart s a1 a2).others a1 = s.others a1 := by
  unfold State.mxaStart; grind [State.others, State.coresOf, foldl_others, foldl_coresOf, State.modCore_others, State.startClaim_others, State.startSload_others, State.startWsmul_others, State.startOsmul_others, State.scbRelease_others]

theorem State.mxaSwapEffect_others (s : State) (a1) (a2) : (State.mxaSwapEffect s a1 a2).others a1 = s.others a1 := by
  unfold State.mxaSwapEffect; grind [State.others, State.coresOf, foldl_others, foldl_coresOf, State.modCore_others, State.scbRelease_others]

theorem State.mxqOp_others (s : State) (a1) (a2) (a3) : (State.mxqOp s a1 a2 a3).others a1 = s.others a1 := by
  unfold State.mxqOp; grind [State.others, State.coresOf, foldl_others, foldl_coresOf, State.stall_others, State.retire_others, State.mxReject_coresOf, State.nextSeq_coresOf, State.scbAdd_others, State.modCore_others, State.highWater_coresOf]

theorem State.portStore_others (s : State) (a1) (a2) (a3) : (State.portStore s a1 a2 a3).1.others a1 = s.others a1 := by
  unfold State.portStore; grind [State.others, State.coresOf, foldl_others, foldl_coresOf, State.raiseCtx_coresOf, State.storeRuns_coresOf, State.modMem_coresOf, State.modCore_others]

theorem State.vecSx_others (s : State) (a1) (a2) (a3) : (State.vecSx s a1 a2 a3).others a1 = s.others a1 := by
  unfold State.vecSx; grind [State.others, State.coresOf, foldl_others, foldl_coresOf, State.modCore_others]

theorem State.redWrite_others (s : State) (a1) (a2) (a3) : (State.redWrite s a1 a2 a3).others a1 = s.others a1 := by
  unfold State.redWrite; grind [State.others, State.coresOf, foldl_others, foldl_coresOf, State.vecSx_others, State.modCore_others]

theorem State.rtqOp_others (s : State) (a1) (a2) : (State.rtqOp s a1 a2).others a1 = s.others a1 := by
  unfold State.rtqOp; grind [State.others, State.coresOf, foldl_others, foldl_coresOf, State.stall_others, State.relDone_others, State.retire_others, State.nextSeq_coresOf, State.rteError_coresOf, State.count_coresOf]

theorem State.setRd_others (s : State) (a1) (a2) (a3) (a4) : (State.setRd s a1 a2 a3 a4).others a1 = s.others a1 := by
  unfold State.setRd; grind [State.others, State.coresOf, foldl_others, foldl_coresOf, State.retire_others, State.modCore_others]

theorem State.storeOp_others (s : State) (a1) (a2) (a3) (a4) (a5) : (State.storeOp s a1 a2 a3 a4 a5).others a1 = s.others a1 := by
  unfold State.storeOp; grind [State.others, State.coresOf, foldl_others, foldl_coresOf, State.scalarFault_others, State.stall_others, State.retire_others, State.wharfWrite_others, State.portStore_others]

theorem State.spqOp_others (s : State) (a1) (a2) : (State.spqOp s a1 a2).others a1 = s.others a1 := by
  unfold State.spqOp; grind [State.others, State.coresOf, foldl_others, foldl_coresOf, State.stall_others, State.relDone_others, State.retire_others, State.badSample_coresOf, State.memRead_coresOf, State.modCtx_coresOf]

theorem State.sywWaitEnd_others (s : State) (a1) : (State.sywWaitEnd s a1).others a1 = s.others a1 := by
  unfold State.sywWaitEnd; grind [State.others, State.coresOf, foldl_others, foldl_coresOf, State.sywEnd_others]

theorem State.vecRange_others (s : State) (a1) (a2) : (State.vecRange s a1 a2).others a1 = s.others a1 := by
  unfold State.vecRange; grind [State.others, State.coresOf, foldl_others, foldl_coresOf, State.count_coresOf, State.modCore_others]

theorem State.vecCart_others (s : State) (a1) (a2) (a3) : (State.vecCart s a1 a2 a3).others a1 = s.others a1 := by
  unfold State.vecCart; grind [State.others, State.coresOf, foldl_others, foldl_coresOf, State.vecSx_others, State.modCore_others, State.vecRange_others, State.count_coresOf]

theorem State.vecCmp_others (s : State) (a1) (a2) (a3) : (State.vecCmp s a1 a2 a3).others a1 = s.others a1 := by
  unfold State.vecCmp; grind [State.others, State.coresOf, foldl_others, foldl_coresOf, State.maskWrite_others]

theorem State.vecReport_others (s : State) (a1) (a2) (a3) (a4) : (State.vecReport s a1 a2 a3 a4).others a1 = s.others a1 := by
  unfold State.vecReport; grind [State.others, State.coresOf, foldl_others, foldl_coresOf, State.modCore_others, State.count_coresOf, State.reportCore_coresOf]

theorem State.vecWrite_others (s : State) (a1) (a2) (a3) (a4) (a5) : (State.vecWrite s a1 a2 a3 a4 a5).others a1 = s.others a1 := by
  unfold State.vecWrite; grind [State.others, State.coresOf, foldl_others, foldl_coresOf, State.modCore_others, State.vecOps_coresOf, State.vecReport_others]

theorem State.vecCtrl_others (s : State) (a1) (a2) (a3) : (State.vecCtrl s a1 a2 a3).others a1 = s.others a1 := by
  unfold State.vecCtrl; grind [State.others, State.coresOf, foldl_others, foldl_coresOf, State.modCore_others, State.vecSx_others, State.vecWrite_others]

theorem State.vecCvt_others (s : State) (a1) (a2) (a3) : (State.vecCvt s a1 a2 a3).others a1 = s.others a1 := by
  unfold State.vecCvt; grind [State.others, State.coresOf, foldl_others, foldl_coresOf, State.modCore_others, State.vecOps_coresOf, State.vecReport_others]

theorem State.vecElem_others (s : State) (a1) (a2) (a3) : (State.vecElem s a1 a2 a3).others a1 = s.others a1 := by
  unfold State.vecElem; grind [State.others, State.coresOf, foldl_others, foldl_coresOf, State.vecWrite_others]

theorem State.vecEmpty_others (s : State) (a1) (a2) (a3) : (State.vecEmpty s a1 a2 a3).others a1 = s.others a1 := by
  unfold State.vecEmpty; grind [State.others, State.coresOf, foldl_others, foldl_coresOf, State.modCore_others, State.count_coresOf]

theorem State.vecMask_others (s : State) (a1) (a2) : (State.vecMask s a1 a2).others a1 = s.others a1 := by
  unfold State.vecMask; grind [State.others, State.coresOf, foldl_others, foldl_coresOf, State.maskWrite_others, State.modCore_others, State.vecSx_others]

theorem State.vecMem_others (s : State) (a1) (a2) (a3) : (State.vecMem s a1 a2 a3).others a1 = s.others a1 := by
  unfold State.vecMem; grind [State.others, State.coresOf, foldl_others, foldl_coresOf, State.vecReject_coresOf, State.vecWrite_others, State.vecOps_coresOf, State.modCore_others, State.portBefore_others, State.dcacheRead_others, State.portStore_others]

theorem State.vecPerm_others (s : State) (a1) (a2) (a3) : (State.vecPerm s a1 a2 a3).others a1 = s.others a1 := by
  unfold State.vecPerm; grind [State.others, State.coresOf, foldl_others, foldl_coresOf, State.vecWrite_others, State.vecRange_others, State.modCore_others, State.vecOps_coresOf, State.vecSx_others]

theorem State.vecQmx_others (s : State) (a1) (a2) (a3) : (State.vecQmx s a1 a2 a3).others a1 = s.others a1 := by
  unfold State.vecQmx; grind [State.others, State.coresOf, foldl_others, foldl_coresOf, State.modCore_others, State.vecOps_coresOf, State.count_coresOf]

theorem State.vecRed_others (s : State) (a1) (a2) (a3) : (State.vecRed s a1 a2 a3).others a1 = s.others a1 := by
  unfold State.vecRed; grind [State.others, State.coresOf, foldl_others, foldl_coresOf, State.vecOps_coresOf, State.vecEmpty_others, State.redWrite_others, State.vecReport_others]

theorem State.vecExec_others (s : State) (a1) (a2) (a3) : (State.vecExec s a1 a2 a3).others a1 = s.others a1 := by
  unfold State.vecExec; grind [State.others, State.coresOf, foldl_others, foldl_coresOf, State.vecCtrl_others, State.vecElem_others, State.vecCmp_others, State.vecQmx_others, State.vecCvt_others, State.vecPerm_others, State.vecRed_others, State.vecMask_others, State.vecMem_others, State.vecCart_others]

theorem State.vecIssue_others (s : State) (a1) : (State.vecIssue s a1).others a1 = s.others a1 := by
  unfold State.vecIssue; grind [State.others, State.coresOf, foldl_others, foldl_coresOf, State.modCore_others, State.scbRelease_others, State.vecExec_others]

theorem State.vecOp_others (s : State) (a1) (a2) (a3) (a4) : (State.vecOp s a1 a2 a3 a4).others a1 = s.others a1 := by
  unfold State.vecOp; grind (splits := 40) (ematch := 20) (gen := 20) [State.others, State.coresOf, foldl_others, foldl_coresOf, State.stall_others, State.retire_others, State.vecReject_coresOf, State.nextSeq_coresOf, State.vecExec_others, State.scbAdd_others, State.modCore_others, State.highWater_coresOf]

end Sys2Proof.Machine
end

