-- ==== Sys2Proof/WellFormed.lean ====
section
/-! DEFINITION. Which commands are well formed: the relations between operands that their types do not say. -/

namespace Sys2Proof

/-- Largest barge payload in bytes (R289). -/
def maxPayload : Nat := 1048576

/-- Measured values of a tick edge come one per slice, one per domain and one per C-die. -/
def EdgeIn.wf (e : EdgeIn) : Bool :=
  e.cydNs.length == 4 && e.gb.length == 7 && e.ro.length == 7 && e.domPower.length == 2

/-- A host access through BAR2 moves between 1 and 4,096 bytes. -/
def HostAccess.wf : HostAccess → Bool
  | .read n => decide (1 ≤ n ∧ n ≤ 4096)
  | .write d => decide (1 ≤ d.length ∧ d.length ≤ 4096)

/-- The command is well formed. -/
def Instr.wf : Instr → Bool
  | .badAccess _ off bytes => decide (bytes ≠ 4) || decide (off.toNat % 4 ≠ 0)
  | .apertureAccess _ _ acc => acc.wf
  | .tickEdge e | .tickInTransition _ _ e => e.wf
  | .dataBarge _ _ p | .mergeBarge _ _ p | .fetchReqBarge _ _ p | .weightBarge _ _ p | .rwriteBarge _ _ p
  | .rwackBarge _ _ p | .lateBarge _ _ p | .abortBarge _ _ p | .ackBarge _ _ p => decide (p.length ≤ maxPayload)
  | .powerSample p => p.dom.length == 7
  | .energyMeterTick uJ => uJ.all fun c => decide (c.1 < 256)
  | .avsReadback mv => mv.length == 7
  | .thermalSample rs => rs.length == 208
  | .replanDone plan => plan.length == 7 && plan.all fun m => decide (m ≤ 100 ∧ m % 5 = 0)
  | .retentionSample ms => ms.length == 4
  | .eyeSample eyes => eyes.length == 72
  | .patrolScrub line _ => decide (64 * line.toNat < 96 * 2 ^ 30)
  | .thermtripNAssert sensor => decide (sensor.toNat < 208)
  | _ => true

end Sys2Proof
end

