-- ==== Sys2Proof/Laws/PerInstr.lean ====
section
/-! SUPPORT. Statements about every command as syntax, one lemma per constructor. -/

namespace Sys2Proof.Laws.Payload

/-- The bytes a command carries to the part: the payload of a barge, the data of a host write. -/
def bytesOf : Instr → List Byte
  | .dataBarge _ _ p => p
  | .mergeBarge _ _ p => p
  | .fetchReqBarge _ _ p => p
  | .weightBarge _ _ p => p
  | .rwriteBarge _ _ p => p
  | .rwackBarge _ _ p => p
  | .lateBarge _ _ p => p
  | .abortBarge _ _ p => p
  | .ackBarge _ _ p => p
  | .apertureAccess _ _ (.write d) => d
  | _ => []

/-- A well-formed command carries no more bytes than a barge may hold (R289). -/
def Statement (i : Instr) : Prop := i.wf = true → (bytesOf i).length ≤ maxPayload

theorem registerWrite (src : Source) (off : BitVec 32) (acc : Access) : Statement (.registerWrite src off acc) := fun _ => Nat.zero_le _
theorem badAccess (src : Source) (off : BitVec 32) (bytes : Nat) : Statement (.badAccess src off bytes) := fun _ => Nat.zero_le _
theorem unmapped (src : Source) (off : BitVec 32) (acc : Access) : Statement (.unmapped src off acc) := fun _ => Nat.zero_le _
theorem poweredDown (src : Source) (off : BitVec 32) (acc : Access) : Statement (.poweredDown src off acc) := fun _ => Nat.zero_le _
theorem blkReset (src : Source) (page : BitVec 32) (v : Word) : Statement (.blkReset src page v) := fun _ => Nat.zero_le _
theorem blkResetEnd (page : BitVec 32) : Statement (.blkResetEnd page) := fun _ => Nat.zero_le _
theorem inject (src : Source) (page : BitVec 32) (v : Word) : Statement (.inject src page v) := fun _ => Nat.zero_le _
theorem blkFirstClear (src : Source) (page : BitVec 32) (v : Word) : Statement (.blkFirstClear src page v) := fun _ => Nat.zero_le _
theorem apertureAccess (ctx : Fin 256) (off : BitVec 32) (acc : HostAccess) : Statement (.apertureAccess ctx off acc) := by cases acc <;> simp [Statement, Instr.wf, HostAccess.wf, bytesOf, maxPayload]; omega
theorem ringWindowAccess (ctx : Fin 256) (off : BitVec 18) (acc : Access) : Statement (.ringWindowAccess ctx off acc) := fun _ => Nat.zero_le _
theorem configRequest (fn : Fin 256) (req : ConfigReq) : Statement (.configRequest fn req) := fun _ => Nat.zero_le _
theorem drnCtxModeWrite (src : Source) (core : Fin 512) (idx : Fin 16) (v : Word) : Statement (.drnCtxModeWrite src core idx v) := fun _ => Nat.zero_le _
theorem tickStart (src : Source) (v : Word) : Statement (.tickStart src v) := fun _ => Nat.zero_le _
theorem tickStop (src : Source) (v : Word) : Statement (.tickStop src v) := fun _ => Nat.zero_le _
theorem tickEdge (e : EdgeIn) : Statement (.tickEdge e) := fun _ => Nat.zero_le _
theorem launchEntry (ctx : Fin 256) (entry : BitVec 16) (time : BitVec 24) : Statement (.launchEntry ctx entry time) := fun _ => Nat.zero_le _
theorem guardOpen : Statement (.guardOpen) := fun _ => Nat.zero_le _
theorem flightCheckTf : Statement (.flightCheckTf) := fun _ => Nat.zero_le _
theorem manifestPreread (ctx : Fin 256) (time : BitVec 24) : Statement (.manifestPreread ctx time) := fun _ => Nat.zero_le _
theorem tagVerifyDone (ctx : Fin 256) (time : BitVec 24) : Statement (.tagVerifyDone ctx time) := fun _ => Nat.zero_le _
theorem tickInTransition (rising : Bool) (inWindow : Bool) (e : EdgeIn) : Statement (.tickInTransition rising inWindow e) := fun _ => Nat.zero_le _
theorem syncReferenceLost : Statement (.syncReferenceLost) := fun _ => Nat.zero_le _
theorem syncReferenceRestored : Statement (.syncReferenceRestored) := fun _ => Nat.zero_le _
theorem holdoverLimitExpired : Statement (.holdoverLimitExpired) := fun _ => Nat.zero_le _
theorem mxqSload (core : Fin 512) (rs : BitVec 5) : Statement (.mxqSload core rs) := fun _ => Nat.zero_le _
theorem mxqSwap (core : Fin 512) (rs : BitVec 5) : Statement (.mxqSwap core rs) := fun _ => Nat.zero_le _
theorem mxqWsmul (core : Fin 512) (rs : BitVec 5) : Statement (.mxqWsmul core rs) := fun _ => Nat.zero_le _
theorem mxqOsmul (core : Fin 512) (rs : BitVec 5) : Statement (.mxqOsmul core rs) := fun _ => Nat.zero_le _
theorem mxqForm (core : Fin 512) (rs : BitVec 5) : Statement (.mxqForm core rs) := fun _ => Nat.zero_le _
theorem mxaCmdStart (core : Fin 512) (idx : Fin 16) : Statement (.mxaCmdStart core idx) := fun _ => Nat.zero_le _
theorem shadowFull (core : Fin 512) (arr : Fin 4) : Statement (.shadowFull core arr) := fun _ => Nat.zero_le _
theorem swapEffect (core : Fin 512) (arr : Fin 4) : Statement (.swapEffect core arr) := fun _ => Nat.zero_le _
theorem bankHandover (core : Fin 512) : Statement (.bankHandover core) := fun _ => Nat.zero_le _
theorem osSwapOut (core : Fin 512) : Statement (.osSwapOut core) := fun _ => Nat.zero_le _
theorem dset (core : Fin 512) (rs : BitVec 5) (idx : BitVec 4) : Statement (.dset core rs idx) := fun _ => Nat.zero_le _
theorem drainBank (core : Fin 512) : Statement (.drainBank core) := fun _ => Nat.zero_le _
theorem cartEnter (core : Fin 512) : Statement (.cartEnter core) := fun _ => Nat.zero_le _
theorem nanReport : Statement (.nanReport) := fun _ => Nat.zero_le _
theorem vecIssue (core : Fin 512) : Statement (.vecIssue core) := fun _ => Nat.zero_le _
theorem vecSetvlI (core : Fin 512) (word : BitVec 64) : Statement (.vecSetvlI core word) := fun _ => Nat.zero_le _
theorem vecSetvlS (core : Fin 512) (word : BitVec 64) : Statement (.vecSetvlS core word) := fun _ => Nat.zero_le _
theorem vecGetvl (core : Fin 512) (word : BitVec 64) : Statement (.vecGetvl core word) := fun _ => Nat.zero_le _
theorem vecStatR (core : Fin 512) (word : BitVec 64) : Statement (.vecStatR core word) := fun _ => Nat.zero_le _
theorem vecStatC (core : Fin 512) (word : BitVec 64) : Statement (.vecStatC core word) := fun _ => Nat.zero_le _
theorem vecMvxs (core : Fin 512) (word : BitVec 64) : Statement (.vecMvxs core word) := fun _ => Nat.zero_le _
theorem vecMvsx (core : Fin 512) (word : BitVec 64) : Statement (.vecMvsx core word) := fun _ => Nat.zero_le _
theorem vecFadd (core : Fin 512) (word : BitVec 64) : Statement (.vecFadd core word) := fun _ => Nat.zero_le _
theorem vecFsub (core : Fin 512) (word : BitVec 64) : Statement (.vecFsub core word) := fun _ => Nat.zero_le _
theorem vecFmul (core : Fin 512) (word : BitVec 64) : Statement (.vecFmul core word) := fun _ => Nat.zero_le _
theorem vecFma (core : Fin 512) (word : BitVec 64) : Statement (.vecFma core word) := fun _ => Nat.zero_le _
theorem vecFmin (core : Fin 512) (word : BitVec 64) : Statement (.vecFmin core word) := fun _ => Nat.zero_le _
theorem vecFmax (core : Fin 512) (word : BitVec 64) : Statement (.vecFmax core word) := fun _ => Nat.zero_le _
theorem vecAbs (core : Fin 512) (word : BitVec 64) : Statement (.vecAbs core word) := fun _ => Nat.zero_le _
theorem vecNeg (core : Fin 512) (word : BitVec 64) : Statement (.vecNeg core word) := fun _ => Nat.zero_le _
theorem vecMuls (core : Fin 512) (word : BitVec 64) : Statement (.vecMuls core word) := fun _ => Nat.zero_le _
theorem vecAdds (core : Fin 512) (word : BitVec 64) : Statement (.vecAdds core word) := fun _ => Nat.zero_le _
theorem vecIadd (core : Fin 512) (word : BitVec 64) : Statement (.vecIadd core word) := fun _ => Nat.zero_le _
theorem vecIsub (core : Fin 512) (word : BitVec 64) : Statement (.vecIsub core word) := fun _ => Nat.zero_le _
theorem vecImul (core : Fin 512) (word : BitVec 64) : Statement (.vecImul core word) := fun _ => Nat.zero_le _
theorem vecAddsat (core : Fin 512) (word : BitVec 64) : Statement (.vecAddsat core word) := fun _ => Nat.zero_le _
theorem vecSubsat (core : Fin 512) (word : BitVec 64) : Statement (.vecSubsat core word) := fun _ => Nat.zero_le _
theorem vecImin (core : Fin 512) (word : BitVec 64) : Statement (.vecImin core word) := fun _ => Nat.zero_le _
theorem vecImax (core : Fin 512) (word : BitVec 64) : Statement (.vecImax core word) := fun _ => Nat.zero_le _
theorem vecAnd (core : Fin 512) (word : BitVec 64) : Statement (.vecAnd core word) := fun _ => Nat.zero_le _
theorem vecOr (core : Fin 512) (word : BitVec 64) : Statement (.vecOr core word) := fun _ => Nat.zero_le _
theorem vecXor (core : Fin 512) (word : BitVec 64) : Statement (.vecXor core word) := fun _ => Nat.zero_le _
theorem vecShl (core : Fin 512) (word : BitVec 64) : Statement (.vecShl core word) := fun _ => Nat.zero_le _
theorem vecShrl (core : Fin 512) (word : BitVec 64) : Statement (.vecShrl core word) := fun _ => Nat.zero_le _
theorem vecShra (core : Fin 512) (word : BitVec 64) : Statement (.vecShra core word) := fun _ => Nat.zero_le _
theorem vecEq (core : Fin 512) (word : BitVec 64) : Statement (.vecEq core word) := fun _ => Nat.zero_le _
theorem vecNe (core : Fin 512) (word : BitVec 64) : Statement (.vecNe core word) := fun _ => Nat.zero_le _
theorem vecLt (core : Fin 512) (word : BitVec 64) : Statement (.vecLt core word) := fun _ => Nat.zero_le _
theorem vecLe (core : Fin 512) (word : BitVec 64) : Statement (.vecLe core word) := fun _ => Nat.zero_le _
theorem vecGt (core : Fin 512) (word : BitVec 64) : Statement (.vecGt core word) := fun _ => Nat.zero_le _
theorem vecGe (core : Fin 512) (word : BitVec 64) : Statement (.vecGe core word) := fun _ => Nat.zero_le _
theorem vecUnord (core : Fin 512) (word : BitVec 64) : Statement (.vecUnord core word) := fun _ => Nat.zero_le _
theorem vecExp (core : Fin 512) (word : BitVec 64) : Statement (.vecExp core word) := fun _ => Nat.zero_le _
theorem vecExp2 (core : Fin 512) (word : BitVec 64) : Statement (.vecExp2 core word) := fun _ => Nat.zero_le _
theorem vecLn (core : Fin 512) (word : BitVec 64) : Statement (.vecLn core word) := fun _ => Nat.zero_le _
theorem vecLog2 (core : Fin 512) (word : BitVec 64) : Statement (.vecLog2 core word) := fun _ => Nat.zero_le _
theorem vecRcp (core : Fin 512) (word : BitVec 64) : Statement (.vecRcp core word) := fun _ => Nat.zero_le _
theorem vecRsqrt (core : Fin 512) (word : BitVec 64) : Statement (.vecRsqrt core word) := fun _ => Nat.zero_le _
theorem vecSqrt (core : Fin 512) (word : BitVec 64) : Statement (.vecSqrt core word) := fun _ => Nat.zero_le _
theorem vecTanh (core : Fin 512) (word : BitVec 64) : Statement (.vecTanh core word) := fun _ => Nat.zero_le _
theorem vecSigmoid (core : Fin 512) (word : BitVec 64) : Statement (.vecSigmoid core word) := fun _ => Nat.zero_le _
theorem vecErf (core : Fin 512) (word : BitVec 64) : Statement (.vecErf core word) := fun _ => Nat.zero_le _
theorem vecSin (core : Fin 512) (word : BitVec 64) : Statement (.vecSin core word) := fun _ => Nat.zero_le _
theorem vecCos (core : Fin 512) (word : BitVec 64) : Statement (.vecCos core word) := fun _ => Nat.zero_le _
theorem vecCvt (core : Fin 512) (word : BitVec 64) : Statement (.vecCvt core word) := fun _ => Nat.zero_le _
theorem vecCvts (core : Fin 512) (word : BitVec 64) : Statement (.vecCvts core word) := fun _ => Nat.zero_le _
theorem vecQmx (core : Fin 512) (word : BitVec 64) : Statement (.vecQmx core word) := fun _ => Nat.zero_le _
theorem vecPerm (core : Fin 512) (word : BitVec 64) : Statement (.vecPerm core word) := fun _ => Nat.zero_le _
theorem vecSlideup (core : Fin 512) (word : BitVec 64) : Statement (.vecSlideup core word) := fun _ => Nat.zero_le _
theorem vecSlidedn (core : Fin 512) (word : BitVec 64) : Statement (.vecSlidedn core word) := fun _ => Nat.zero_le _
theorem vecBcast (core : Fin 512) (word : BitVec 64) : Statement (.vecBcast core word) := fun _ => Nat.zero_le _
theorem vecCompress (core : Fin 512) (word : BitVec 64) : Statement (.vecCompress core word) := fun _ => Nat.zero_le _
theorem vecSum (core : Fin 512) (word : BitVec 64) : Statement (.vecSum core word) := fun _ => Nat.zero_le _
theorem vecProd (core : Fin 512) (word : BitVec 64) : Statement (.vecProd core word) := fun _ => Nat.zero_le _
theorem vecRmax (core : Fin 512) (word : BitVec 64) : Statement (.vecRmax core word) := fun _ => Nat.zero_le _
theorem vecRmin (core : Fin 512) (word : BitVec 64) : Statement (.vecRmin core word) := fun _ => Nat.zero_le _
theorem vecLse (core : Fin 512) (word : BitVec 64) : Statement (.vecLse core word) := fun _ => Nat.zero_le _
theorem vecArgmax (core : Fin 512) (word : BitVec 64) : Statement (.vecArgmax core word) := fun _ => Nat.zero_le _
theorem vecArgmin (core : Fin 512) (word : BitVec 64) : Statement (.vecArgmin core word) := fun _ => Nat.zero_le _
theorem maskAnd (core : Fin 512) (word : BitVec 64) : Statement (.maskAnd core word) := fun _ => Nat.zero_le _
theorem maskOr (core : Fin 512) (word : BitVec 64) : Statement (.maskOr core word) := fun _ => Nat.zero_le _
theorem maskXor (core : Fin 512) (word : BitVec 64) : Statement (.maskXor core word) := fun _ => Nat.zero_le _
theorem maskAndn (core : Fin 512) (word : BitVec 64) : Statement (.maskAndn core word) := fun _ => Nat.zero_le _
theorem maskNot (core : Fin 512) (word : BitVec 64) : Statement (.maskNot core word) := fun _ => Nat.zero_le _
theorem maskSetn (core : Fin 512) (word : BitVec 64) : Statement (.maskSetn core word) := fun _ => Nat.zero_le _
theorem maskPopc (core : Fin 512) (word : BitVec 64) : Statement (.maskPopc core word) := fun _ => Nat.zero_le _
theorem maskFirst (core : Fin 512) (word : BitVec 64) : Statement (.maskFirst core word) := fun _ => Nat.zero_le _
theorem vecLdw (core : Fin 512) (word : BitVec 64) : Statement (.vecLdw core word) := fun _ => Nat.zero_le _
theorem vecStw (core : Fin 512) (word : BitVec 64) : Statement (.vecStw core word) := fun _ => Nat.zero_le _
theorem vecLdws (core : Fin 512) (word : BitVec 64) : Statement (.vecLdws core word) := fun _ => Nat.zero_le _
theorem vecStws (core : Fin 512) (word : BitVec 64) : Statement (.vecStws core word) := fun _ => Nat.zero_le _
theorem vecLdd (core : Fin 512) (word : BitVec 64) : Statement (.vecLdd core word) := fun _ => Nat.zero_le _
theorem vecStd (core : Fin 512) (word : BitVec 64) : Statement (.vecStd core word) := fun _ => Nat.zero_le _
theorem ctag (core : Fin 512) (word : BitVec 64) : Statement (.ctag core word) := fun _ => Nat.zero_le _
theorem crd (core : Fin 512) (word : BitVec 64) : Statement (.crd core word) := fun _ => Nat.zero_le _
theorem cpop (core : Fin 512) (word : BitVec 64) : Statement (.cpop core word) := fun _ => Nat.zero_le _
theorem kernelEnd (core : Fin 512) (time : BitVec 24) : Statement (.kernelEnd core time) := fun _ => Nat.zero_le _
theorem atqDecode (core : Fin 512) (rs : BitVec 5) : Statement (.atqDecode core rs) := fun _ => Nat.zero_le _
theorem atqPrefill (core : Fin 512) (rs : BitVec 5) : Statement (.atqPrefill core rs) := fun _ => Nat.zero_le _
theorem atpJobStart (core : Fin 512) : Statement (.atpJobStart core) := fun _ => Nat.zero_le _
theorem atpJobEnd (core : Fin 512) : Statement (.atpJobEnd core) := fun _ => Nat.zero_le _
theorem mrgContribution (cluster : Fin 32) : Statement (.mrgContribution cluster) := fun _ => Nat.zero_le _
theorem mrgDeliver (cluster : Fin 32) (slot : Fin 16) : Statement (.mrgDeliver cluster slot) := fun _ => Nat.zero_le _
theorem scoreIncrement : Statement (.scoreIncrement) := fun _ => Nat.zero_le _
theorem cyqOpen (core : Fin 512) (rs : BitVec 5) : Statement (.cyqOpen core rs) := fun _ => Nat.zero_le _
theorem cyqAppend (core : Fin 512) (rs : BitVec 5) : Statement (.cyqAppend core rs) := fun _ => Nat.zero_le _
theorem cyqClaim (core : Fin 512) (rs : BitVec 5) : Statement (.cyqClaim core rs) := fun _ => Nat.zero_le _
theorem cyqFork (core : Fin 512) (rs : BitVec 5) : Statement (.cyqFork core rs) := fun _ => Nat.zero_le _
theorem cyqRelease (core : Fin 512) (rs : BitVec 5) : Statement (.cyqRelease core rs) := fun _ => Nat.zero_le _
theorem cyqEvict (core : Fin 512) (rs : BitVec 5) : Statement (.cyqEvict core rs) := fun _ => Nat.zero_le _
theorem cyqList (core : Fin 512) (rs : BitVec 5) : Statement (.cyqList core rs) := fun _ => Nat.zero_le _
theorem cyqInfo (core : Fin 512) (rs : BitVec 5) : Statement (.cyqInfo core rs) := fun _ => Nat.zero_le _
theorem cyqBinfo (core : Fin 512) (rs : BitVec 5) : Statement (.cyqBinfo core rs) := fun _ => Nat.zero_le _
theorem dmqCopy (core : Fin 512) (rs : BitVec 5) : Statement (.dmqCopy core rs) := fun _ => Nat.zero_le _
theorem dmqFill (core : Fin 512) (rs : BitVec 5) : Statement (.dmqFill core rs) := fun _ => Nat.zero_le _
theorem dmqCoach (core : Fin 512) (rs : BitVec 5) : Statement (.dmqCoach core rs) := fun _ => Nat.zero_le _
theorem dmqAtomic (core : Fin 512) (rs : BitVec 5) : Statement (.dmqAtomic core rs) := fun _ => Nat.zero_le _
theorem dmqRwrite (core : Fin 512) (rs : BitVec 5) : Statement (.dmqRwrite core rs) := fun _ => Nat.zero_le _
theorem dmaCmdStart (core : Fin 512) : Statement (.dmaCmdStart core) := fun _ => Nat.zero_le _
theorem dmaCmdComplete (core : Fin 512) (idx : Fin 4) : Statement (.dmaCmdComplete core idx) := fun _ => Nat.zero_le _
theorem scalarLoad (core : Fin 512) (width : LoadWidth) (rd rs1 : BitVec 5) (imm : BitVec 12) : Statement (.scalarLoad core width rd rs1 imm) := fun _ => Nat.zero_le _
theorem scalarStore (core : Fin 512) (width : StoreWidth) (rs1 rs2 : BitVec 5) (imm : BitVec 12) : Statement (.scalarStore core width rs1 rs2 imm) := fun _ => Nat.zero_le _
theorem ldu (core : Fin 512) (rd rs1 rs2 : BitVec 5) : Statement (.ldu core rd rs1 rs2) := fun _ => Nat.zero_le _
theorem rel (core : Fin 512) (scope : BitVec 2) : Statement (.rel core scope) := fun _ => Nat.zero_le _
theorem acq (core : Fin 512) (scope : BitVec 2) : Statement (.acq core scope) := fun _ => Nat.zero_le _
theorem fence (core : Fin 512) (scope : BitVec 2) : Statement (.fence core scope) := fun _ => Nat.zero_le _
theorem syi (core : Fin 512) (rs1 rs2 : BitVec 5) (scope : BitVec 2) : Statement (.syi core rs1 rs2 scope) := fun _ => Nat.zero_le _
theorem syw (core : Fin 512) (rs1 rs2 : BitVec 5) (scope : BitVec 2) : Statement (.syw core rs1 rs2 scope) := fun _ => Nat.zero_le _
theorem sywWaitEnd (core : Fin 512) : Statement (.sywWaitEnd core) := fun _ => Nat.zero_le _
theorem syr (core : Fin 512) (rd rs1 : BitVec 5) : Statement (.syr core rd rs1) := fun _ => Nat.zero_le _
theorem dcinv (core : Fin 512) : Statement (.dcinv core) := fun _ => Nat.zero_le _
theorem rtq (core : Fin 512) (rs : BitVec 5) : Statement (.rtq core rs) := fun _ => Nat.zero_le _
theorem rteSelect : Statement (.rteSelect) := fun _ => Nat.zero_le _
theorem fetchLanded (idx : Nat) : Statement (.fetchLanded idx) := fun _ => Nat.zero_le _
theorem fcq (core : Fin 512) (rs : BitVec 5) : Statement (.fcq core rs) := fun _ => Nat.zero_le _
theorem collectiveComplete (idx : Nat) : Statement (.collectiveComplete idx) := fun _ => Nat.zero_le _
theorem spq (core : Fin 512) (rs : BitVec 5) : Statement (.spq core rs) := fun _ => Nat.zero_le _
theorem sampleComplete (unit : Fin 16) : Statement (.sampleComplete unit) := fun _ => Nat.zero_le _
theorem buildManifest (ctx : Fin 256) : Statement (.buildManifest ctx) := fun _ => Nat.zero_le _
theorem openFrame (arr : Arrival) (frame : List Byte) : Statement (.openFrame arr frame) := fun _ => Nat.zero_le _
theorem appendFrame (arr : Arrival) (frame : List Byte) : Statement (.appendFrame arr frame) := fun _ => Nat.zero_le _
theorem cancelFrame (arr : Arrival) (frame : List Byte) : Statement (.cancelFrame arr frame) := fun _ => Nat.zero_le _
theorem intakePoll (ctx : Fin 256) : Statement (.intakePoll ctx) := fun _ => Nat.zero_le _
theorem linkAlignLost (link : Fin 18) : Statement (.linkAlignLost link) := fun _ => Nat.zero_le _
theorem linkFecFail (link : Fin 18) : Statement (.linkFecFail link) := fun _ => Nat.zero_le _
theorem linkAligned (link : Fin 18) (lanes : BitVec 4) : Statement (.linkAligned link lanes) := fun _ => Nat.zero_le _
theorem lldpTx (link : Fin 18) : Statement (.lldpTx link) := fun _ => Nat.zero_le _
theorem lldpRx (link : Fin 18) (tlvs : LldpTlvs) : Statement (.lldpRx link tlvs) := fun _ => Nat.zero_le _
theorem dataBarge (link : Fin 18) (hdr : BitVec 256) (payload : List Byte) : Statement (.dataBarge link hdr payload) := by simp [Statement, Instr.wf, bytesOf]
theorem mergeBarge (link : Fin 18) (hdr : BitVec 256) (payload : List Byte) : Statement (.mergeBarge link hdr payload) := by simp [Statement, Instr.wf, bytesOf]
theorem fetchReqBarge (link : Fin 18) (hdr : BitVec 256) (payload : List Byte) : Statement (.fetchReqBarge link hdr payload) := by simp [Statement, Instr.wf, bytesOf]
theorem weightBarge (link : Fin 18) (hdr : BitVec 256) (payload : List Byte) : Statement (.weightBarge link hdr payload) := by simp [Statement, Instr.wf, bytesOf]
theorem rwriteBarge (link : Fin 18) (hdr : BitVec 256) (payload : List Byte) : Statement (.rwriteBarge link hdr payload) := by simp [Statement, Instr.wf, bytesOf]
theorem rwackBarge (link : Fin 18) (hdr : BitVec 256) (payload : List Byte) : Statement (.rwackBarge link hdr payload) := by simp [Statement, Instr.wf, bytesOf]
theorem lateBarge (link : Fin 18) (hdr : BitVec 256) (payload : List Byte) : Statement (.lateBarge link hdr payload) := by simp [Statement, Instr.wf, bytesOf]
theorem abortBarge (link : Fin 18) (hdr : BitVec 256) (payload : List Byte) : Statement (.abortBarge link hdr payload) := by simp [Statement, Instr.wf, bytesOf]
theorem ackBarge (link : Fin 18) (hdr : BitVec 256) (payload : List Byte) : Statement (.ackBarge link hdr payload) := by simp [Statement, Instr.wf, bytesOf]
theorem ackTx (link : Fin 18) : Statement (.ackTx link) := fun _ => Nat.zero_le _
theorem ackTimeout (idx : Nat) : Statement (.ackTimeout idx) := fun _ => Nat.zero_le _
theorem arpRequest (port : Fin 18) (addr : BitVec 128) (v6 : Bool) : Statement (.arpRequest port addr v6) := fun _ => Nat.zero_le _
theorem pfcRx (link : Fin 18) (cls : BitVec 3) (pause : Bool) : Statement (.pfcRx link cls pause) := fun _ => Nat.zero_le _
theorem ptpMessageRx (port : Fin 18) (msg : PtpMsg) : Statement (.ptpMessageRx port msg) := fun _ => Nat.zero_le _
theorem ptpSyncTx (port : Fin 18) (kind : PtpTx) : Statement (.ptpSyncTx port kind) := fun _ => Nat.zero_le _
theorem planLoad (src : Source) (v : Word) : Statement (.planLoad src v) := fun _ => Nat.zero_le _
theorem planArm (src : Source) (v : Word) : Statement (.planArm src v) := fun _ => Nat.zero_le _
theorem planDisarm (src : Source) (v : Word) : Statement (.planDisarm src v) := fun _ => Nat.zero_le _
theorem planClear (src : Source) (v : Word) : Statement (.planClear src v) := fun _ => Nat.zero_le _
theorem activate (src : Source) (v : Word) : Statement (.activate src v) := fun _ => Nat.zero_le _
theorem deactivate (src : Source) (v : Word) : Statement (.deactivate src v) := fun _ => Nat.zero_le _
theorem memXlatInv (src : Source) (v : Word) : Statement (.memXlatInv src v) := fun _ => Nat.zero_le _
theorem memXlatInvAll (src : Source) (v : Word) : Statement (.memXlatInvAll src v) := fun _ => Nat.zero_le _
theorem pskWrite (src : Source) (ctx : Fin 256) (idx : Fin 8) (v : Word) : Statement (.pskWrite src ctx idx v) := fun _ => Nat.zero_le _
theorem sakInstall (src : Source) (v : Word) : Statement (.sakInstall src v) := fun _ => Nat.zero_le _
theorem fwCommit (src : Source) (v : Word) : Statement (.fwCommit src v) := fun _ => Nat.zero_le _
theorem pskExchange (t : Transport) (req : PskExchange) : Statement (.pskExchange t req) := fun _ => Nat.zero_le _
theorem pskFinish (t : Transport) (sid : Word) (macOk : Bool) : Statement (.pskFinish t sid macOk) := fun _ => Nat.zero_le _
theorem endSession (t : Transport) (sid : Word) : Statement (.endSession t sid) := fun _ => Nat.zero_le _
theorem keyUpdate (t : Transport) (sid : Word) : Statement (.keyUpdate t sid) := fun _ => Nat.zero_le _
theorem heartbeat (t : Transport) (sid : Word) : Statement (.heartbeat t sid) := fun _ => Nat.zero_le _
theorem spdmUnsupported (t : Transport) (code : Byte) : Statement (.spdmUnsupported t code) := fun _ => Nat.zero_le _
theorem evidenceRequest (t : Transport) (sid : Option Word) (nonce : BitVec 256) : Statement (.evidenceRequest t sid nonce) := fun _ => Nat.zero_le _
theorem publicKeyRequest (t : Transport) (sid : Option Word) : Statement (.publicKeyRequest t sid) := fun _ => Nat.zero_le _
theorem pldmFwUpdate (image : List Byte) : Statement (.pldmFwUpdate image) := fun _ => Nat.zero_le _
theorem activateFirmware : Statement (.activateFirmware) := fun _ => Nat.zero_le _
theorem setNumericEffecterValue (id : BitVec 16) (value : Word) : Statement (.setNumericEffecterValue id value) := fun _ => Nat.zero_le _
theorem getSensorReading (id : BitVec 16) : Statement (.getSensorReading id) := fun _ => Nat.zero_le _
theorem gauge (req : GaugeReq) : Statement (.gauge req) := fun _ => Nat.zero_le _
theorem gaugeBrief (req : GaugeReq) : Statement (.gaugeBrief req) := fun _ => Nat.zero_le _
theorem gaugeWriteDone (req : GaugeFor) : Statement (.gaugeWriteDone req) := fun _ => Nat.zero_le _
theorem dbgReq (src : Source) (v : Word) : Statement (.dbgReq src v) := fun _ => Nat.zero_le _
theorem tokenVerifyDone : Statement (.tokenVerifyDone) := fun _ => Nat.zero_le _
theorem jtagInstruction (name : TapInstr) : Statement (.jtagInstruction name) := fun _ => Nat.zero_le _
theorem rngFail : Statement (.rngFail) := fun _ => Nat.zero_le _
theorem hwdBeat (src : Source) (v : Word) : Statement (.hwdBeat src v) := fun _ => Nat.zero_le _
theorem hwdFwCtx (src : Source) (v : Word) : Statement (.hwdFwCtx src v) := fun _ => Nat.zero_le _
theorem hang : Statement (.hang) := fun _ => Nat.zero_le _
theorem capture (src : Source) (v : Word) : Statement (.capture src v) := fun _ => Nat.zero_le _
theorem captureEnd (start dur : BitVec 32) : Statement (.captureEnd start dur) := fun _ => Nat.zero_le _
theorem fwRestart (src : Source) (v : Word) : Statement (.fwRestart src v) := fun _ => Nat.zero_le _
theorem fwRestartTimeout : Statement (.fwRestartTimeout) := fun _ => Nat.zero_le _
theorem fwFirstBeat : Statement (.fwFirstBeat) := fun _ => Nat.zero_le _
theorem scrubCmd (src : Source) (v : Word) : Statement (.scrubCmd src v) := fun _ => Nat.zero_le _
theorem powerOn (vbakHeld : Bool) : Statement (.powerOn vbakHeld) := fun _ => Nat.zero_le _
theorem resetNAssert : Statement (.resetNAssert) := fun _ => Nat.zero_le _
theorem release (r : ReleaseIn) : Statement (.release r) := fun _ => Nat.zero_le _
theorem optionLoadRetry : Statement (.optionLoadRetry) := fun _ => Nat.zero_le _
theorem perstN (low : Bool) : Statement (.perstN low) := fun _ => Nat.zero_le _
theorem supplyFault : Statement (.supplyFault) := fun _ => Nat.zero_le _
theorem clearFails (src : Source) (v : Word) : Statement (.clearFails src v) := fun _ => Nat.zero_le _
theorem tamperClear (src : Source) (v : Word) : Statement (.tamperClear src v) := fun _ => Nat.zero_le _
theorem tamper (flag : TamperFlag) : Statement (.tamper flag) := fun _ => Nat.zero_le _
theorem pwrStateReq (src : Source) (v : Word) : Statement (.pwrStateReq src v) := fun _ => Nat.zero_le _
theorem powerStateDone : Statement (.powerStateDone) := fun _ => Nat.zero_le _
theorem idleEntry : Statement (.idleEntry) := fun _ => Nat.zero_le _
theorem powerPlanCompute : Statement (.powerPlanCompute) := fun _ => Nat.zero_le _
theorem powerSample (p : PowerIn) : Statement (.powerSample p) := fun _ => Nat.zero_le _
theorem brakeAdjust : Statement (.brakeAdjust) := fun _ => Nat.zero_le _
theorem sluice (cluster : Fin 32) : Statement (.sluice cluster) := fun _ => Nat.zero_le _
theorem sluiceEnd (cluster : Fin 32) : Statement (.sluiceEnd cluster) := fun _ => Nat.zero_le _
theorem sigReset (src : Source) (v : Word) : Statement (.sigReset src v) := fun _ => Nat.zero_le _
theorem energyMeterTick (uJ : List (Nat × Nat)) : Statement (.energyMeterTick uJ) := fun _ => Nat.zero_le _
theorem avsReadback (mv : List (Nat × Bool)) : Statement (.avsReadback mv) := fun _ => Nat.zero_le _
theorem thermalSample (readings : List (Option (BitVec 12))) : Statement (.thermalSample readings) := fun _ => Nat.zero_le _
theorem replan (src : Source) (v : Word) : Statement (.replan src v) := fun _ => Nat.zero_le _
theorem retentionSample (ms : List Nat) : Statement (.retentionSample ms) := fun _ => Nat.zero_le _
theorem eyeSample (eyes : List (Nat × Nat)) : Statement (.eyeSample eyes) := fun _ => Nat.zero_le _
theorem logSummaryWrite : Statement (.logSummaryWrite) := fun _ => Nat.zero_le _
theorem patrolScrub (line : BitVec 31) (found : EccFound) : Statement (.patrolScrub line found) := fun _ => Nat.zero_le _
theorem targetedRefresh (ch : Fin 256) (ctx : Fin 256) (expired : Nat) : Statement (.targetedRefresh ch ctx expired) := fun _ => Nat.zero_le _
theorem imbalanceWindow (ch : Fin 256) (occ mean : BitVec 16) (ctx : Fin 256) : Statement (.imbalanceWindow ch occ mean ctx) := fun _ => Nat.zero_le _
theorem stagedApplyWhileStopped : Statement (.stagedApplyWhileStopped) := fun _ => Nat.zero_le _
theorem marginStepWhileStopped : Statement (.marginStepWhileStopped) := fun _ => Nat.zero_le _
theorem cydResultWritten (slice : Fin 4) : Statement (.cydResultWritten slice) := fun _ => Nat.zero_le _
theorem planLoadDone (slot : Fin 32) : Statement (.planLoadDone slot) := fun _ => Nat.zero_le _
theorem replanDone (plan : List Nat) : Statement (.replanDone plan) := fun _ => Nat.zero_le _
theorem signatureReleased : Statement (.signatureReleased) := fun _ => Nat.zero_le _
theorem thermtripNAssert (sensor : BitVec 8) : Statement (.thermtripNAssert sensor) := fun _ => Nat.zero_le _
theorem logRingRecordWrite (readBackOk : Bool) : Statement (.logRingRecordWrite readBackOk) := fun _ => Nat.zero_le _
theorem drvCondition (cond : DrvCond) : Statement (.drvCondition cond) := fun _ => Nat.zero_le _
theorem scalarInstruction (core : Fin 512) : Statement (.scalarInstruction core) := fun _ => Nat.zero_le _
theorem ideKm (t : Transport) (sid : Word) (stream : IdeStream) : Statement (.ideKm t sid stream) := fun _ => Nat.zero_le _
theorem getVersion (t : Transport) : Statement (.getVersion t) := fun _ => Nat.zero_le _
theorem getCapabilities (t : Transport) : Statement (.getCapabilities t) := fun _ => Nat.zero_le _
theorem negotiateAlgorithms (t : Transport) : Statement (.negotiateAlgorithms t) := fun _ => Nat.zero_le _
theorem heartbeatTimeout (ctx : Fin 256) (sid : Word) : Statement (.heartbeatTimeout ctx sid) := fun _ => Nat.zero_le _
theorem dynamicAddressAssignment (addr : BitVec 7) : Statement (.dynamicAddressAssignment addr) := fun _ => Nat.zero_le _

end Sys2Proof.Laws.Payload
end

