-- ==== Sys2Proof/Laws/State.lean ====
section
/-! SUPPORT. What each update of the state does to each field: one lemma per field per update, true by unfolding. -/

namespace Sys2Proof.Machine

/-! ### `wr` changes `regs` only -/

@[simp] theorem State.wr_regs (s : State) (k : PageKind) (i off : Nat) (v : Word) (b : Nat) : (s.wr k i off v b).regs = Tbl.put s.regs (regKey k i off b) v := rfl
@[simp] theorem State.wr_latch (s : State) (k : PageKind) (i off : Nat) (v : Word) (b : Nat) : (s.wr k i off v b).latch = s.latch := rfl
@[simp] theorem State.wr_staged (s : State) (k : PageKind) (i off : Nat) (v : Word) (b : Nat) : (s.wr k i off v b).staged = s.staged := rfl
@[simp] theorem State.wr_resetting (s : State) (k : PageKind) (i off : Nat) (v : Word) (b : Nat) : (s.wr k i off v b).resetting = s.resetting := rfl
@[simp] theorem State.wr_held (s : State) (k : PageKind) (i off : Nat) (v : Word) (b : Nat) : (s.wr k i off v b).held = s.held := rfl
@[simp] theorem State.wr_reply (s : State) (k : PageKind) (i off : Nat) (v : Word) (b : Nat) : (s.wr k i off v b).reply = s.reply := rfl
@[simp] theorem State.wr_out (s : State) (k : PageKind) (i off : Nat) (v : Word) (b : Nat) : (s.wr k i off v b).out = s.out := rfl
@[simp] theorem State.wr_reports (s : State) (k : PageKind) (i off : Nat) (v : Word) (b : Nat) : (s.wr k i off v b).reports = s.reports := rfl
@[simp] theorem State.wr_freeCtr (s : State) (k : PageKind) (i off : Nat) (v : Word) (b : Nat) : (s.wr k i off v b).freeCtr = s.freeCtr := rfl
@[simp] theorem State.wr_cores (s : State) (k : PageKind) (i off : Nat) (v : Word) (b : Nat) : (s.wr k i off v b).cores = s.cores := rfl
@[simp] theorem State.wr_clusters (s : State) (k : PageKind) (i off : Nat) (v : Word) (b : Nat) : (s.wr k i off v b).clusters = s.clusters := rfl
@[simp] theorem State.wr_ctxs (s : State) (k : PageKind) (i off : Nat) (v : Word) (b : Nat) : (s.wr k i off v b).ctxs = s.ctxs := rfl
@[simp] theorem State.wr_links (s : State) (k : PageKind) (i off : Nat) (v : Word) (b : Nat) : (s.wr k i off v b).links = s.links := rfl
@[simp] theorem State.wr_ports (s : State) (k : PageKind) (i off : Nat) (v : Word) (b : Nat) : (s.wr k i off v b).ports = s.ports := rfl
@[simp] theorem State.wr_yard (s : State) (k : PageKind) (i off : Nat) (v : Word) (b : Nat) : (s.wr k i off v b).yard = s.yard := rfl
@[simp] theorem State.wr_mem (s : State) (k : PageKind) (i off : Nat) (v : Word) (b : Nat) : (s.wr k i off v b).mem = s.mem := rfl
@[simp] theorem State.wr_rte (s : State) (k : PageKind) (i off : Nat) (v : Word) (b : Nat) : (s.wr k i off v b).rte = s.rte := rfl
@[simp] theorem State.wr_fce (s : State) (k : PageKind) (i off : Nat) (v : Word) (b : Nat) : (s.wr k i off v b).fce = s.fce := rfl
@[simp] theorem State.wr_srv (s : State) (k : PageKind) (i off : Nat) (v : Word) (b : Nat) : (s.wr k i off v b).srv = s.srv := rfl
@[simp] theorem State.wr_lkp (s : State) (k : PageKind) (i off : Nat) (v : Word) (b : Nat) : (s.wr k i off v b).lkp = s.lkp := rfl
@[simp] theorem State.wr_sec (s : State) (k : PageKind) (i off : Nat) (v : Word) (b : Nat) : (s.wr k i off v b).sec = s.sec := rfl
@[simp] theorem State.wr_dbg (s : State) (k : PageKind) (i off : Nat) (v : Word) (b : Nat) : (s.wr k i off v b).dbg = s.dbg := rfl
@[simp] theorem State.wr_hwd (s : State) (k : PageKind) (i off : Nat) (v : Word) (b : Nat) : (s.wr k i off v b).hwd = s.hwd := rfl
@[simp] theorem State.wr_flash (s : State) (k : PageKind) (i off : Nat) (v : Word) (b : Nat) : (s.wr k i off v b).flash = s.flash := rfl
@[simp] theorem State.wr_fuses (s : State) (k : PageKind) (i off : Nat) (v : Word) (b : Nat) : (s.wr k i off v b).fuses = s.fuses := rfl
@[simp] theorem State.wr_bkp (s : State) (k : PageKind) (i off : Nat) (v : Word) (b : Nat) : (s.wr k i off v b).bkp = s.bkp := rfl
@[simp] theorem State.wr_rst (s : State) (k : PageKind) (i off : Nat) (v : Word) (b : Nat) : (s.wr k i off v b).rst = s.rst := rfl
@[simp] theorem State.wr_pwr (s : State) (k : PageKind) (i off : Nat) (v : Word) (b : Nat) : (s.wr k i off v b).pwr = s.pwr := rfl
@[simp] theorem State.wr_thm (s : State) (k : PageKind) (i off : Nat) (v : Word) (b : Nat) : (s.wr k i off v b).thm = s.thm := rfl
@[simp] theorem State.wr_age (s : State) (k : PageKind) (i off : Nat) (v : Word) (b : Nat) : (s.wr k i off v b).age = s.age := rfl
@[simp] theorem State.wr_mgt (s : State) (k : PageKind) (i off : Nat) (v : Word) (b : Nat) : (s.wr k i off v b).mgt = s.mgt := rfl
@[simp] theorem State.wr_pci (s : State) (k : PageKind) (i off : Nat) (v : Word) (b : Nat) : (s.wr k i off v b).pci = s.pci := rfl
@[simp] theorem State.wr_pending (s : State) (k : PageKind) (i off : Nat) (v : Word) (b : Nat) : (s.wr k i off v b).pending = s.pending := rfl

/-! ### `modCore` changes `cores` only -/

@[simp] theorem State.modCore_regs (s : State) (n : Nat) (f : Core → Core) : (s.modCore n f).regs = s.regs := rfl
@[simp] theorem State.modCore_latch (s : State) (n : Nat) (f : Core → Core) : (s.modCore n f).latch = s.latch := rfl
@[simp] theorem State.modCore_staged (s : State) (n : Nat) (f : Core → Core) : (s.modCore n f).staged = s.staged := rfl
@[simp] theorem State.modCore_resetting (s : State) (n : Nat) (f : Core → Core) : (s.modCore n f).resetting = s.resetting := rfl
@[simp] theorem State.modCore_held (s : State) (n : Nat) (f : Core → Core) : (s.modCore n f).held = s.held := rfl
@[simp] theorem State.modCore_reply (s : State) (n : Nat) (f : Core → Core) : (s.modCore n f).reply = s.reply := rfl
@[simp] theorem State.modCore_out (s : State) (n : Nat) (f : Core → Core) : (s.modCore n f).out = s.out := rfl
@[simp] theorem State.modCore_reports (s : State) (n : Nat) (f : Core → Core) : (s.modCore n f).reports = s.reports := rfl
@[simp] theorem State.modCore_freeCtr (s : State) (n : Nat) (f : Core → Core) : (s.modCore n f).freeCtr = s.freeCtr := rfl
@[simp] theorem State.modCore_cores (s : State) (n : Nat) (f : Core → Core) : (s.modCore n f).cores = Tbl.put s.cores n (f (s.core n)) := rfl
@[simp] theorem State.modCore_clusters (s : State) (n : Nat) (f : Core → Core) : (s.modCore n f).clusters = s.clusters := rfl
@[simp] theorem State.modCore_ctxs (s : State) (n : Nat) (f : Core → Core) : (s.modCore n f).ctxs = s.ctxs := rfl
@[simp] theorem State.modCore_links (s : State) (n : Nat) (f : Core → Core) : (s.modCore n f).links = s.links := rfl
@[simp] theorem State.modCore_ports (s : State) (n : Nat) (f : Core → Core) : (s.modCore n f).ports = s.ports := rfl
@[simp] theorem State.modCore_yard (s : State) (n : Nat) (f : Core → Core) : (s.modCore n f).yard = s.yard := rfl
@[simp] theorem State.modCore_mem (s : State) (n : Nat) (f : Core → Core) : (s.modCore n f).mem = s.mem := rfl
@[simp] theorem State.modCore_rte (s : State) (n : Nat) (f : Core → Core) : (s.modCore n f).rte = s.rte := rfl
@[simp] theorem State.modCore_fce (s : State) (n : Nat) (f : Core → Core) : (s.modCore n f).fce = s.fce := rfl
@[simp] theorem State.modCore_srv (s : State) (n : Nat) (f : Core → Core) : (s.modCore n f).srv = s.srv := rfl
@[simp] theorem State.modCore_lkp (s : State) (n : Nat) (f : Core → Core) : (s.modCore n f).lkp = s.lkp := rfl
@[simp] theorem State.modCore_sec (s : State) (n : Nat) (f : Core → Core) : (s.modCore n f).sec = s.sec := rfl
@[simp] theorem State.modCore_dbg (s : State) (n : Nat) (f : Core → Core) : (s.modCore n f).dbg = s.dbg := rfl
@[simp] theorem State.modCore_hwd (s : State) (n : Nat) (f : Core → Core) : (s.modCore n f).hwd = s.hwd := rfl
@[simp] theorem State.modCore_flash (s : State) (n : Nat) (f : Core → Core) : (s.modCore n f).flash = s.flash := rfl
@[simp] theorem State.modCore_fuses (s : State) (n : Nat) (f : Core → Core) : (s.modCore n f).fuses = s.fuses := rfl
@[simp] theorem State.modCore_bkp (s : State) (n : Nat) (f : Core → Core) : (s.modCore n f).bkp = s.bkp := rfl
@[simp] theorem State.modCore_rst (s : State) (n : Nat) (f : Core → Core) : (s.modCore n f).rst = s.rst := rfl
@[simp] theorem State.modCore_pwr (s : State) (n : Nat) (f : Core → Core) : (s.modCore n f).pwr = s.pwr := rfl
@[simp] theorem State.modCore_thm (s : State) (n : Nat) (f : Core → Core) : (s.modCore n f).thm = s.thm := rfl
@[simp] theorem State.modCore_age (s : State) (n : Nat) (f : Core → Core) : (s.modCore n f).age = s.age := rfl
@[simp] theorem State.modCore_mgt (s : State) (n : Nat) (f : Core → Core) : (s.modCore n f).mgt = s.mgt := rfl
@[simp] theorem State.modCore_pci (s : State) (n : Nat) (f : Core → Core) : (s.modCore n f).pci = s.pci := rfl
@[simp] theorem State.modCore_pending (s : State) (n : Nat) (f : Core → Core) : (s.modCore n f).pending = s.pending := rfl

/-! ### `modCluster` changes `clusters` only -/

@[simp] theorem State.modCluster_regs (s : State) (n : Nat) (f : Cluster → Cluster) : (s.modCluster n f).regs = s.regs := rfl
@[simp] theorem State.modCluster_latch (s : State) (n : Nat) (f : Cluster → Cluster) : (s.modCluster n f).latch = s.latch := rfl
@[simp] theorem State.modCluster_staged (s : State) (n : Nat) (f : Cluster → Cluster) : (s.modCluster n f).staged = s.staged := rfl
@[simp] theorem State.modCluster_resetting (s : State) (n : Nat) (f : Cluster → Cluster) : (s.modCluster n f).resetting = s.resetting := rfl
@[simp] theorem State.modCluster_held (s : State) (n : Nat) (f : Cluster → Cluster) : (s.modCluster n f).held = s.held := rfl
@[simp] theorem State.modCluster_reply (s : State) (n : Nat) (f : Cluster → Cluster) : (s.modCluster n f).reply = s.reply := rfl
@[simp] theorem State.modCluster_out (s : State) (n : Nat) (f : Cluster → Cluster) : (s.modCluster n f).out = s.out := rfl
@[simp] theorem State.modCluster_reports (s : State) (n : Nat) (f : Cluster → Cluster) : (s.modCluster n f).reports = s.reports := rfl
@[simp] theorem State.modCluster_freeCtr (s : State) (n : Nat) (f : Cluster → Cluster) : (s.modCluster n f).freeCtr = s.freeCtr := rfl
@[simp] theorem State.modCluster_cores (s : State) (n : Nat) (f : Cluster → Cluster) : (s.modCluster n f).cores = s.cores := rfl
@[simp] theorem State.modCluster_clusters (s : State) (n : Nat) (f : Cluster → Cluster) : (s.modCluster n f).clusters = Tbl.put s.clusters n (f (s.cluster n)) := rfl
@[simp] theorem State.modCluster_ctxs (s : State) (n : Nat) (f : Cluster → Cluster) : (s.modCluster n f).ctxs = s.ctxs := rfl
@[simp] theorem State.modCluster_links (s : State) (n : Nat) (f : Cluster → Cluster) : (s.modCluster n f).links = s.links := rfl
@[simp] theorem State.modCluster_ports (s : State) (n : Nat) (f : Cluster → Cluster) : (s.modCluster n f).ports = s.ports := rfl
@[simp] theorem State.modCluster_yard (s : State) (n : Nat) (f : Cluster → Cluster) : (s.modCluster n f).yard = s.yard := rfl
@[simp] theorem State.modCluster_mem (s : State) (n : Nat) (f : Cluster → Cluster) : (s.modCluster n f).mem = s.mem := rfl
@[simp] theorem State.modCluster_rte (s : State) (n : Nat) (f : Cluster → Cluster) : (s.modCluster n f).rte = s.rte := rfl
@[simp] theorem State.modCluster_fce (s : State) (n : Nat) (f : Cluster → Cluster) : (s.modCluster n f).fce = s.fce := rfl
@[simp] theorem State.modCluster_srv (s : State) (n : Nat) (f : Cluster → Cluster) : (s.modCluster n f).srv = s.srv := rfl
@[simp] theorem State.modCluster_lkp (s : State) (n : Nat) (f : Cluster → Cluster) : (s.modCluster n f).lkp = s.lkp := rfl
@[simp] theorem State.modCluster_sec (s : State) (n : Nat) (f : Cluster → Cluster) : (s.modCluster n f).sec = s.sec := rfl
@[simp] theorem State.modCluster_dbg (s : State) (n : Nat) (f : Cluster → Cluster) : (s.modCluster n f).dbg = s.dbg := rfl
@[simp] theorem State.modCluster_hwd (s : State) (n : Nat) (f : Cluster → Cluster) : (s.modCluster n f).hwd = s.hwd := rfl
@[simp] theorem State.modCluster_flash (s : State) (n : Nat) (f : Cluster → Cluster) : (s.modCluster n f).flash = s.flash := rfl
@[simp] theorem State.modCluster_fuses (s : State) (n : Nat) (f : Cluster → Cluster) : (s.modCluster n f).fuses = s.fuses := rfl
@[simp] theorem State.modCluster_bkp (s : State) (n : Nat) (f : Cluster → Cluster) : (s.modCluster n f).bkp = s.bkp := rfl
@[simp] theorem State.modCluster_rst (s : State) (n : Nat) (f : Cluster → Cluster) : (s.modCluster n f).rst = s.rst := rfl
@[simp] theorem State.modCluster_pwr (s : State) (n : Nat) (f : Cluster → Cluster) : (s.modCluster n f).pwr = s.pwr := rfl
@[simp] theorem State.modCluster_thm (s : State) (n : Nat) (f : Cluster → Cluster) : (s.modCluster n f).thm = s.thm := rfl
@[simp] theorem State.modCluster_age (s : State) (n : Nat) (f : Cluster → Cluster) : (s.modCluster n f).age = s.age := rfl
@[simp] theorem State.modCluster_mgt (s : State) (n : Nat) (f : Cluster → Cluster) : (s.modCluster n f).mgt = s.mgt := rfl
@[simp] theorem State.modCluster_pci (s : State) (n : Nat) (f : Cluster → Cluster) : (s.modCluster n f).pci = s.pci := rfl
@[simp] theorem State.modCluster_pending (s : State) (n : Nat) (f : Cluster → Cluster) : (s.modCluster n f).pending = s.pending := rfl

/-! ### `modCtx` changes `ctxs` only -/

@[simp] theorem State.modCtx_regs (s : State) (n : Nat) (f : Ctx → Ctx) : (s.modCtx n f).regs = s.regs := rfl
@[simp] theorem State.modCtx_latch (s : State) (n : Nat) (f : Ctx → Ctx) : (s.modCtx n f).latch = s.latch := rfl
@[simp] theorem State.modCtx_staged (s : State) (n : Nat) (f : Ctx → Ctx) : (s.modCtx n f).staged = s.staged := rfl
@[simp] theorem State.modCtx_resetting (s : State) (n : Nat) (f : Ctx → Ctx) : (s.modCtx n f).resetting = s.resetting := rfl
@[simp] theorem State.modCtx_held (s : State) (n : Nat) (f : Ctx → Ctx) : (s.modCtx n f).held = s.held := rfl
@[simp] theorem State.modCtx_reply (s : State) (n : Nat) (f : Ctx → Ctx) : (s.modCtx n f).reply = s.reply := rfl
@[simp] theorem State.modCtx_out (s : State) (n : Nat) (f : Ctx → Ctx) : (s.modCtx n f).out = s.out := rfl
@[simp] theorem State.modCtx_reports (s : State) (n : Nat) (f : Ctx → Ctx) : (s.modCtx n f).reports = s.reports := rfl
@[simp] theorem State.modCtx_freeCtr (s : State) (n : Nat) (f : Ctx → Ctx) : (s.modCtx n f).freeCtr = s.freeCtr := rfl
@[simp] theorem State.modCtx_cores (s : State) (n : Nat) (f : Ctx → Ctx) : (s.modCtx n f).cores = s.cores := rfl
@[simp] theorem State.modCtx_clusters (s : State) (n : Nat) (f : Ctx → Ctx) : (s.modCtx n f).clusters = s.clusters := rfl
@[simp] theorem State.modCtx_ctxs (s : State) (n : Nat) (f : Ctx → Ctx) : (s.modCtx n f).ctxs = Tbl.put s.ctxs n (f (s.ctx n)) := rfl
@[simp] theorem State.modCtx_links (s : State) (n : Nat) (f : Ctx → Ctx) : (s.modCtx n f).links = s.links := rfl
@[simp] theorem State.modCtx_ports (s : State) (n : Nat) (f : Ctx → Ctx) : (s.modCtx n f).ports = s.ports := rfl
@[simp] theorem State.modCtx_yard (s : State) (n : Nat) (f : Ctx → Ctx) : (s.modCtx n f).yard = s.yard := rfl
@[simp] theorem State.modCtx_mem (s : State) (n : Nat) (f : Ctx → Ctx) : (s.modCtx n f).mem = s.mem := rfl
@[simp] theorem State.modCtx_rte (s : State) (n : Nat) (f : Ctx → Ctx) : (s.modCtx n f).rte = s.rte := rfl
@[simp] theorem State.modCtx_fce (s : State) (n : Nat) (f : Ctx → Ctx) : (s.modCtx n f).fce = s.fce := rfl
@[simp] theorem State.modCtx_srv (s : State) (n : Nat) (f : Ctx → Ctx) : (s.modCtx n f).srv = s.srv := rfl
@[simp] theorem State.modCtx_lkp (s : State) (n : Nat) (f : Ctx → Ctx) : (s.modCtx n f).lkp = s.lkp := rfl
@[simp] theorem State.modCtx_sec (s : State) (n : Nat) (f : Ctx → Ctx) : (s.modCtx n f).sec = s.sec := rfl
@[simp] theorem State.modCtx_dbg (s : State) (n : Nat) (f : Ctx → Ctx) : (s.modCtx n f).dbg = s.dbg := rfl
@[simp] theorem State.modCtx_hwd (s : State) (n : Nat) (f : Ctx → Ctx) : (s.modCtx n f).hwd = s.hwd := rfl
@[simp] theorem State.modCtx_flash (s : State) (n : Nat) (f : Ctx → Ctx) : (s.modCtx n f).flash = s.flash := rfl
@[simp] theorem State.modCtx_fuses (s : State) (n : Nat) (f : Ctx → Ctx) : (s.modCtx n f).fuses = s.fuses := rfl
@[simp] theorem State.modCtx_bkp (s : State) (n : Nat) (f : Ctx → Ctx) : (s.modCtx n f).bkp = s.bkp := rfl
@[simp] theorem State.modCtx_rst (s : State) (n : Nat) (f : Ctx → Ctx) : (s.modCtx n f).rst = s.rst := rfl
@[simp] theorem State.modCtx_pwr (s : State) (n : Nat) (f : Ctx → Ctx) : (s.modCtx n f).pwr = s.pwr := rfl
@[simp] theorem State.modCtx_thm (s : State) (n : Nat) (f : Ctx → Ctx) : (s.modCtx n f).thm = s.thm := rfl
@[simp] theorem State.modCtx_age (s : State) (n : Nat) (f : Ctx → Ctx) : (s.modCtx n f).age = s.age := rfl
@[simp] theorem State.modCtx_mgt (s : State) (n : Nat) (f : Ctx → Ctx) : (s.modCtx n f).mgt = s.mgt := rfl
@[simp] theorem State.modCtx_pci (s : State) (n : Nat) (f : Ctx → Ctx) : (s.modCtx n f).pci = s.pci := rfl
@[simp] theorem State.modCtx_pending (s : State) (n : Nat) (f : Ctx → Ctx) : (s.modCtx n f).pending = s.pending := rfl

/-! ### `modLink` changes `links` only -/

@[simp] theorem State.modLink_regs (s : State) (n : Nat) (f : Link → Link) : (s.modLink n f).regs = s.regs := rfl
@[simp] theorem State.modLink_latch (s : State) (n : Nat) (f : Link → Link) : (s.modLink n f).latch = s.latch := rfl
@[simp] theorem State.modLink_staged (s : State) (n : Nat) (f : Link → Link) : (s.modLink n f).staged = s.staged := rfl
@[simp] theorem State.modLink_resetting (s : State) (n : Nat) (f : Link → Link) : (s.modLink n f).resetting = s.resetting := rfl
@[simp] theorem State.modLink_held (s : State) (n : Nat) (f : Link → Link) : (s.modLink n f).held = s.held := rfl
@[simp] theorem State.modLink_reply (s : State) (n : Nat) (f : Link → Link) : (s.modLink n f).reply = s.reply := rfl
@[simp] theorem State.modLink_out (s : State) (n : Nat) (f : Link → Link) : (s.modLink n f).out = s.out := rfl
@[simp] theorem State.modLink_reports (s : State) (n : Nat) (f : Link → Link) : (s.modLink n f).reports = s.reports := rfl
@[simp] theorem State.modLink_freeCtr (s : State) (n : Nat) (f : Link → Link) : (s.modLink n f).freeCtr = s.freeCtr := rfl
@[simp] theorem State.modLink_cores (s : State) (n : Nat) (f : Link → Link) : (s.modLink n f).cores = s.cores := rfl
@[simp] theorem State.modLink_clusters (s : State) (n : Nat) (f : Link → Link) : (s.modLink n f).clusters = s.clusters := rfl
@[simp] theorem State.modLink_ctxs (s : State) (n : Nat) (f : Link → Link) : (s.modLink n f).ctxs = s.ctxs := rfl
@[simp] theorem State.modLink_links (s : State) (n : Nat) (f : Link → Link) : (s.modLink n f).links = Tbl.put s.links n (f (s.link n)) := rfl
@[simp] theorem State.modLink_ports (s : State) (n : Nat) (f : Link → Link) : (s.modLink n f).ports = s.ports := rfl
@[simp] theorem State.modLink_yard (s : State) (n : Nat) (f : Link → Link) : (s.modLink n f).yard = s.yard := rfl
@[simp] theorem State.modLink_mem (s : State) (n : Nat) (f : Link → Link) : (s.modLink n f).mem = s.mem := rfl
@[simp] theorem State.modLink_rte (s : State) (n : Nat) (f : Link → Link) : (s.modLink n f).rte = s.rte := rfl
@[simp] theorem State.modLink_fce (s : State) (n : Nat) (f : Link → Link) : (s.modLink n f).fce = s.fce := rfl
@[simp] theorem State.modLink_srv (s : State) (n : Nat) (f : Link → Link) : (s.modLink n f).srv = s.srv := rfl
@[simp] theorem State.modLink_lkp (s : State) (n : Nat) (f : Link → Link) : (s.modLink n f).lkp = s.lkp := rfl
@[simp] theorem State.modLink_sec (s : State) (n : Nat) (f : Link → Link) : (s.modLink n f).sec = s.sec := rfl
@[simp] theorem State.modLink_dbg (s : State) (n : Nat) (f : Link → Link) : (s.modLink n f).dbg = s.dbg := rfl
@[simp] theorem State.modLink_hwd (s : State) (n : Nat) (f : Link → Link) : (s.modLink n f).hwd = s.hwd := rfl
@[simp] theorem State.modLink_flash (s : State) (n : Nat) (f : Link → Link) : (s.modLink n f).flash = s.flash := rfl
@[simp] theorem State.modLink_fuses (s : State) (n : Nat) (f : Link → Link) : (s.modLink n f).fuses = s.fuses := rfl
@[simp] theorem State.modLink_bkp (s : State) (n : Nat) (f : Link → Link) : (s.modLink n f).bkp = s.bkp := rfl
@[simp] theorem State.modLink_rst (s : State) (n : Nat) (f : Link → Link) : (s.modLink n f).rst = s.rst := rfl
@[simp] theorem State.modLink_pwr (s : State) (n : Nat) (f : Link → Link) : (s.modLink n f).pwr = s.pwr := rfl
@[simp] theorem State.modLink_thm (s : State) (n : Nat) (f : Link → Link) : (s.modLink n f).thm = s.thm := rfl
@[simp] theorem State.modLink_age (s : State) (n : Nat) (f : Link → Link) : (s.modLink n f).age = s.age := rfl
@[simp] theorem State.modLink_mgt (s : State) (n : Nat) (f : Link → Link) : (s.modLink n f).mgt = s.mgt := rfl
@[simp] theorem State.modLink_pci (s : State) (n : Nat) (f : Link → Link) : (s.modLink n f).pci = s.pci := rfl
@[simp] theorem State.modLink_pending (s : State) (n : Nat) (f : Link → Link) : (s.modLink n f).pending = s.pending := rfl

/-! ### `modPort` changes `ports` only -/

@[simp] theorem State.modPort_regs (s : State) (n : Nat) (f : Port → Port) : (s.modPort n f).regs = s.regs := rfl
@[simp] theorem State.modPort_latch (s : State) (n : Nat) (f : Port → Port) : (s.modPort n f).latch = s.latch := rfl
@[simp] theorem State.modPort_staged (s : State) (n : Nat) (f : Port → Port) : (s.modPort n f).staged = s.staged := rfl
@[simp] theorem State.modPort_resetting (s : State) (n : Nat) (f : Port → Port) : (s.modPort n f).resetting = s.resetting := rfl
@[simp] theorem State.modPort_held (s : State) (n : Nat) (f : Port → Port) : (s.modPort n f).held = s.held := rfl
@[simp] theorem State.modPort_reply (s : State) (n : Nat) (f : Port → Port) : (s.modPort n f).reply = s.reply := rfl
@[simp] theorem State.modPort_out (s : State) (n : Nat) (f : Port → Port) : (s.modPort n f).out = s.out := rfl
@[simp] theorem State.modPort_reports (s : State) (n : Nat) (f : Port → Port) : (s.modPort n f).reports = s.reports := rfl
@[simp] theorem State.modPort_freeCtr (s : State) (n : Nat) (f : Port → Port) : (s.modPort n f).freeCtr = s.freeCtr := rfl
@[simp] theorem State.modPort_cores (s : State) (n : Nat) (f : Port → Port) : (s.modPort n f).cores = s.cores := rfl
@[simp] theorem State.modPort_clusters (s : State) (n : Nat) (f : Port → Port) : (s.modPort n f).clusters = s.clusters := rfl
@[simp] theorem State.modPort_ctxs (s : State) (n : Nat) (f : Port → Port) : (s.modPort n f).ctxs = s.ctxs := rfl
@[simp] theorem State.modPort_links (s : State) (n : Nat) (f : Port → Port) : (s.modPort n f).links = s.links := rfl
@[simp] theorem State.modPort_ports (s : State) (n : Nat) (f : Port → Port) : (s.modPort n f).ports = Tbl.put s.ports n (f (s.port n)) := rfl
@[simp] theorem State.modPort_yard (s : State) (n : Nat) (f : Port → Port) : (s.modPort n f).yard = s.yard := rfl
@[simp] theorem State.modPort_mem (s : State) (n : Nat) (f : Port → Port) : (s.modPort n f).mem = s.mem := rfl
@[simp] theorem State.modPort_rte (s : State) (n : Nat) (f : Port → Port) : (s.modPort n f).rte = s.rte := rfl
@[simp] theorem State.modPort_fce (s : State) (n : Nat) (f : Port → Port) : (s.modPort n f).fce = s.fce := rfl
@[simp] theorem State.modPort_srv (s : State) (n : Nat) (f : Port → Port) : (s.modPort n f).srv = s.srv := rfl
@[simp] theorem State.modPort_lkp (s : State) (n : Nat) (f : Port → Port) : (s.modPort n f).lkp = s.lkp := rfl
@[simp] theorem State.modPort_sec (s : State) (n : Nat) (f : Port → Port) : (s.modPort n f).sec = s.sec := rfl
@[simp] theorem State.modPort_dbg (s : State) (n : Nat) (f : Port → Port) : (s.modPort n f).dbg = s.dbg := rfl
@[simp] theorem State.modPort_hwd (s : State) (n : Nat) (f : Port → Port) : (s.modPort n f).hwd = s.hwd := rfl
@[simp] theorem State.modPort_flash (s : State) (n : Nat) (f : Port → Port) : (s.modPort n f).flash = s.flash := rfl
@[simp] theorem State.modPort_fuses (s : State) (n : Nat) (f : Port → Port) : (s.modPort n f).fuses = s.fuses := rfl
@[simp] theorem State.modPort_bkp (s : State) (n : Nat) (f : Port → Port) : (s.modPort n f).bkp = s.bkp := rfl
@[simp] theorem State.modPort_rst (s : State) (n : Nat) (f : Port → Port) : (s.modPort n f).rst = s.rst := rfl
@[simp] theorem State.modPort_pwr (s : State) (n : Nat) (f : Port → Port) : (s.modPort n f).pwr = s.pwr := rfl
@[simp] theorem State.modPort_thm (s : State) (n : Nat) (f : Port → Port) : (s.modPort n f).thm = s.thm := rfl
@[simp] theorem State.modPort_age (s : State) (n : Nat) (f : Port → Port) : (s.modPort n f).age = s.age := rfl
@[simp] theorem State.modPort_mgt (s : State) (n : Nat) (f : Port → Port) : (s.modPort n f).mgt = s.mgt := rfl
@[simp] theorem State.modPort_pci (s : State) (n : Nat) (f : Port → Port) : (s.modPort n f).pci = s.pci := rfl
@[simp] theorem State.modPort_pending (s : State) (n : Nat) (f : Port → Port) : (s.modPort n f).pending = s.pending := rfl

/-! ### `modPlan` changes `fce` only -/

@[simp] theorem State.modPlan_regs (s : State) (n : Nat) (f : PlanSlot → PlanSlot) : (s.modPlan n f).regs = s.regs := rfl
@[simp] theorem State.modPlan_latch (s : State) (n : Nat) (f : PlanSlot → PlanSlot) : (s.modPlan n f).latch = s.latch := rfl
@[simp] theorem State.modPlan_staged (s : State) (n : Nat) (f : PlanSlot → PlanSlot) : (s.modPlan n f).staged = s.staged := rfl
@[simp] theorem State.modPlan_resetting (s : State) (n : Nat) (f : PlanSlot → PlanSlot) : (s.modPlan n f).resetting = s.resetting := rfl
@[simp] theorem State.modPlan_held (s : State) (n : Nat) (f : PlanSlot → PlanSlot) : (s.modPlan n f).held = s.held := rfl
@[simp] theorem State.modPlan_reply (s : State) (n : Nat) (f : PlanSlot → PlanSlot) : (s.modPlan n f).reply = s.reply := rfl
@[simp] theorem State.modPlan_out (s : State) (n : Nat) (f : PlanSlot → PlanSlot) : (s.modPlan n f).out = s.out := rfl
@[simp] theorem State.modPlan_reports (s : State) (n : Nat) (f : PlanSlot → PlanSlot) : (s.modPlan n f).reports = s.reports := rfl
@[simp] theorem State.modPlan_freeCtr (s : State) (n : Nat) (f : PlanSlot → PlanSlot) : (s.modPlan n f).freeCtr = s.freeCtr := rfl
@[simp] theorem State.modPlan_cores (s : State) (n : Nat) (f : PlanSlot → PlanSlot) : (s.modPlan n f).cores = s.cores := rfl
@[simp] theorem State.modPlan_clusters (s : State) (n : Nat) (f : PlanSlot → PlanSlot) : (s.modPlan n f).clusters = s.clusters := rfl
@[simp] theorem State.modPlan_ctxs (s : State) (n : Nat) (f : PlanSlot → PlanSlot) : (s.modPlan n f).ctxs = s.ctxs := rfl
@[simp] theorem State.modPlan_links (s : State) (n : Nat) (f : PlanSlot → PlanSlot) : (s.modPlan n f).links = s.links := rfl
@[simp] theorem State.modPlan_ports (s : State) (n : Nat) (f : PlanSlot → PlanSlot) : (s.modPlan n f).ports = s.ports := rfl
@[simp] theorem State.modPlan_yard (s : State) (n : Nat) (f : PlanSlot → PlanSlot) : (s.modPlan n f).yard = s.yard := rfl
@[simp] theorem State.modPlan_mem (s : State) (n : Nat) (f : PlanSlot → PlanSlot) : (s.modPlan n f).mem = s.mem := rfl
@[simp] theorem State.modPlan_rte (s : State) (n : Nat) (f : PlanSlot → PlanSlot) : (s.modPlan n f).rte = s.rte := rfl
@[simp] theorem State.modPlan_fce (s : State) (n : Nat) (f : PlanSlot → PlanSlot) : (s.modPlan n f).fce = { s.fce with plans := Tbl.put s.fce.plans n (f (s.plan n)) } := rfl
@[simp] theorem State.modPlan_srv (s : State) (n : Nat) (f : PlanSlot → PlanSlot) : (s.modPlan n f).srv = s.srv := rfl
@[simp] theorem State.modPlan_lkp (s : State) (n : Nat) (f : PlanSlot → PlanSlot) : (s.modPlan n f).lkp = s.lkp := rfl
@[simp] theorem State.modPlan_sec (s : State) (n : Nat) (f : PlanSlot → PlanSlot) : (s.modPlan n f).sec = s.sec := rfl
@[simp] theorem State.modPlan_dbg (s : State) (n : Nat) (f : PlanSlot → PlanSlot) : (s.modPlan n f).dbg = s.dbg := rfl
@[simp] theorem State.modPlan_hwd (s : State) (n : Nat) (f : PlanSlot → PlanSlot) : (s.modPlan n f).hwd = s.hwd := rfl
@[simp] theorem State.modPlan_flash (s : State) (n : Nat) (f : PlanSlot → PlanSlot) : (s.modPlan n f).flash = s.flash := rfl
@[simp] theorem State.modPlan_fuses (s : State) (n : Nat) (f : PlanSlot → PlanSlot) : (s.modPlan n f).fuses = s.fuses := rfl
@[simp] theorem State.modPlan_bkp (s : State) (n : Nat) (f : PlanSlot → PlanSlot) : (s.modPlan n f).bkp = s.bkp := rfl
@[simp] theorem State.modPlan_rst (s : State) (n : Nat) (f : PlanSlot → PlanSlot) : (s.modPlan n f).rst = s.rst := rfl
@[simp] theorem State.modPlan_pwr (s : State) (n : Nat) (f : PlanSlot → PlanSlot) : (s.modPlan n f).pwr = s.pwr := rfl
@[simp] theorem State.modPlan_thm (s : State) (n : Nat) (f : PlanSlot → PlanSlot) : (s.modPlan n f).thm = s.thm := rfl
@[simp] theorem State.modPlan_age (s : State) (n : Nat) (f : PlanSlot → PlanSlot) : (s.modPlan n f).age = s.age := rfl
@[simp] theorem State.modPlan_mgt (s : State) (n : Nat) (f : PlanSlot → PlanSlot) : (s.modPlan n f).mgt = s.mgt := rfl
@[simp] theorem State.modPlan_pci (s : State) (n : Nat) (f : PlanSlot → PlanSlot) : (s.modPlan n f).pci = s.pci := rfl
@[simp] theorem State.modPlan_pending (s : State) (n : Nat) (f : PlanSlot → PlanSlot) : (s.modPlan n f).pending = s.pending := rfl

/-! ### `modDom` changes `pwr` only -/

@[simp] theorem State.modDom_regs (s : State) (n : Nat) (f : PwrDom → PwrDom) : (s.modDom n f).regs = s.regs := rfl
@[simp] theorem State.modDom_latch (s : State) (n : Nat) (f : PwrDom → PwrDom) : (s.modDom n f).latch = s.latch := rfl
@[simp] theorem State.modDom_staged (s : State) (n : Nat) (f : PwrDom → PwrDom) : (s.modDom n f).staged = s.staged := rfl
@[simp] theorem State.modDom_resetting (s : State) (n : Nat) (f : PwrDom → PwrDom) : (s.modDom n f).resetting = s.resetting := rfl
@[simp] theorem State.modDom_held (s : State) (n : Nat) (f : PwrDom → PwrDom) : (s.modDom n f).held = s.held := rfl
@[simp] theorem State.modDom_reply (s : State) (n : Nat) (f : PwrDom → PwrDom) : (s.modDom n f).reply = s.reply := rfl
@[simp] theorem State.modDom_out (s : State) (n : Nat) (f : PwrDom → PwrDom) : (s.modDom n f).out = s.out := rfl
@[simp] theorem State.modDom_reports (s : State) (n : Nat) (f : PwrDom → PwrDom) : (s.modDom n f).reports = s.reports := rfl
@[simp] theorem State.modDom_freeCtr (s : State) (n : Nat) (f : PwrDom → PwrDom) : (s.modDom n f).freeCtr = s.freeCtr := rfl
@[simp] theorem State.modDom_cores (s : State) (n : Nat) (f : PwrDom → PwrDom) : (s.modDom n f).cores = s.cores := rfl
@[simp] theorem State.modDom_clusters (s : State) (n : Nat) (f : PwrDom → PwrDom) : (s.modDom n f).clusters = s.clusters := rfl
@[simp] theorem State.modDom_ctxs (s : State) (n : Nat) (f : PwrDom → PwrDom) : (s.modDom n f).ctxs = s.ctxs := rfl
@[simp] theorem State.modDom_links (s : State) (n : Nat) (f : PwrDom → PwrDom) : (s.modDom n f).links = s.links := rfl
@[simp] theorem State.modDom_ports (s : State) (n : Nat) (f : PwrDom → PwrDom) : (s.modDom n f).ports = s.ports := rfl
@[simp] theorem State.modDom_yard (s : State) (n : Nat) (f : PwrDom → PwrDom) : (s.modDom n f).yard = s.yard := rfl
@[simp] theorem State.modDom_mem (s : State) (n : Nat) (f : PwrDom → PwrDom) : (s.modDom n f).mem = s.mem := rfl
@[simp] theorem State.modDom_rte (s : State) (n : Nat) (f : PwrDom → PwrDom) : (s.modDom n f).rte = s.rte := rfl
@[simp] theorem State.modDom_fce (s : State) (n : Nat) (f : PwrDom → PwrDom) : (s.modDom n f).fce = s.fce := rfl
@[simp] theorem State.modDom_srv (s : State) (n : Nat) (f : PwrDom → PwrDom) : (s.modDom n f).srv = s.srv := rfl
@[simp] theorem State.modDom_lkp (s : State) (n : Nat) (f : PwrDom → PwrDom) : (s.modDom n f).lkp = s.lkp := rfl
@[simp] theorem State.modDom_sec (s : State) (n : Nat) (f : PwrDom → PwrDom) : (s.modDom n f).sec = s.sec := rfl
@[simp] theorem State.modDom_dbg (s : State) (n : Nat) (f : PwrDom → PwrDom) : (s.modDom n f).dbg = s.dbg := rfl
@[simp] theorem State.modDom_hwd (s : State) (n : Nat) (f : PwrDom → PwrDom) : (s.modDom n f).hwd = s.hwd := rfl
@[simp] theorem State.modDom_flash (s : State) (n : Nat) (f : PwrDom → PwrDom) : (s.modDom n f).flash = s.flash := rfl
@[simp] theorem State.modDom_fuses (s : State) (n : Nat) (f : PwrDom → PwrDom) : (s.modDom n f).fuses = s.fuses := rfl
@[simp] theorem State.modDom_bkp (s : State) (n : Nat) (f : PwrDom → PwrDom) : (s.modDom n f).bkp = s.bkp := rfl
@[simp] theorem State.modDom_rst (s : State) (n : Nat) (f : PwrDom → PwrDom) : (s.modDom n f).rst = s.rst := rfl
@[simp] theorem State.modDom_pwr (s : State) (n : Nat) (f : PwrDom → PwrDom) : (s.modDom n f).pwr = { s.pwr with doms := Tbl.put s.pwr.doms n (f (s.dom n)) } := rfl
@[simp] theorem State.modDom_thm (s : State) (n : Nat) (f : PwrDom → PwrDom) : (s.modDom n f).thm = s.thm := rfl
@[simp] theorem State.modDom_age (s : State) (n : Nat) (f : PwrDom → PwrDom) : (s.modDom n f).age = s.age := rfl
@[simp] theorem State.modDom_mgt (s : State) (n : Nat) (f : PwrDom → PwrDom) : (s.modDom n f).mgt = s.mgt := rfl
@[simp] theorem State.modDom_pci (s : State) (n : Nat) (f : PwrDom → PwrDom) : (s.modDom n f).pci = s.pci := rfl
@[simp] theorem State.modDom_pending (s : State) (n : Nat) (f : PwrDom → PwrDom) : (s.modDom n f).pending = s.pending := rfl

/-! ### `modBerth` changes `srv` only -/

@[simp] theorem State.modBerth_regs (s : State) (n : Nat) (f : SrvBerth → SrvBerth) : (s.modBerth n f).regs = s.regs := rfl
@[simp] theorem State.modBerth_latch (s : State) (n : Nat) (f : SrvBerth → SrvBerth) : (s.modBerth n f).latch = s.latch := rfl
@[simp] theorem State.modBerth_staged (s : State) (n : Nat) (f : SrvBerth → SrvBerth) : (s.modBerth n f).staged = s.staged := rfl
@[simp] theorem State.modBerth_resetting (s : State) (n : Nat) (f : SrvBerth → SrvBerth) : (s.modBerth n f).resetting = s.resetting := rfl
@[simp] theorem State.modBerth_held (s : State) (n : Nat) (f : SrvBerth → SrvBerth) : (s.modBerth n f).held = s.held := rfl
@[simp] theorem State.modBerth_reply (s : State) (n : Nat) (f : SrvBerth → SrvBerth) : (s.modBerth n f).reply = s.reply := rfl
@[simp] theorem State.modBerth_out (s : State) (n : Nat) (f : SrvBerth → SrvBerth) : (s.modBerth n f).out = s.out := rfl
@[simp] theorem State.modBerth_reports (s : State) (n : Nat) (f : SrvBerth → SrvBerth) : (s.modBerth n f).reports = s.reports := rfl
@[simp] theorem State.modBerth_freeCtr (s : State) (n : Nat) (f : SrvBerth → SrvBerth) : (s.modBerth n f).freeCtr = s.freeCtr := rfl
@[simp] theorem State.modBerth_cores (s : State) (n : Nat) (f : SrvBerth → SrvBerth) : (s.modBerth n f).cores = s.cores := rfl
@[simp] theorem State.modBerth_clusters (s : State) (n : Nat) (f : SrvBerth → SrvBerth) : (s.modBerth n f).clusters = s.clusters := rfl
@[simp] theorem State.modBerth_ctxs (s : State) (n : Nat) (f : SrvBerth → SrvBerth) : (s.modBerth n f).ctxs = s.ctxs := rfl
@[simp] theorem State.modBerth_links (s : State) (n : Nat) (f : SrvBerth → SrvBerth) : (s.modBerth n f).links = s.links := rfl
@[simp] theorem State.modBerth_ports (s : State) (n : Nat) (f : SrvBerth → SrvBerth) : (s.modBerth n f).ports = s.ports := rfl
@[simp] theorem State.modBerth_yard (s : State) (n : Nat) (f : SrvBerth → SrvBerth) : (s.modBerth n f).yard = s.yard := rfl
@[simp] theorem State.modBerth_mem (s : State) (n : Nat) (f : SrvBerth → SrvBerth) : (s.modBerth n f).mem = s.mem := rfl
@[simp] theorem State.modBerth_rte (s : State) (n : Nat) (f : SrvBerth → SrvBerth) : (s.modBerth n f).rte = s.rte := rfl
@[simp] theorem State.modBerth_fce (s : State) (n : Nat) (f : SrvBerth → SrvBerth) : (s.modBerth n f).fce = s.fce := rfl
@[simp] theorem State.modBerth_srv (s : State) (n : Nat) (f : SrvBerth → SrvBerth) : (s.modBerth n f).srv = { s.srv with berths := Tbl.put s.srv.berths n (f (s.berth n)) } := rfl
@[simp] theorem State.modBerth_lkp (s : State) (n : Nat) (f : SrvBerth → SrvBerth) : (s.modBerth n f).lkp = s.lkp := rfl
@[simp] theorem State.modBerth_sec (s : State) (n : Nat) (f : SrvBerth → SrvBerth) : (s.modBerth n f).sec = s.sec := rfl
@[simp] theorem State.modBerth_dbg (s : State) (n : Nat) (f : SrvBerth → SrvBerth) : (s.modBerth n f).dbg = s.dbg := rfl
@[simp] theorem State.modBerth_hwd (s : State) (n : Nat) (f : SrvBerth → SrvBerth) : (s.modBerth n f).hwd = s.hwd := rfl
@[simp] theorem State.modBerth_flash (s : State) (n : Nat) (f : SrvBerth → SrvBerth) : (s.modBerth n f).flash = s.flash := rfl
@[simp] theorem State.modBerth_fuses (s : State) (n : Nat) (f : SrvBerth → SrvBerth) : (s.modBerth n f).fuses = s.fuses := rfl
@[simp] theorem State.modBerth_bkp (s : State) (n : Nat) (f : SrvBerth → SrvBerth) : (s.modBerth n f).bkp = s.bkp := rfl
@[simp] theorem State.modBerth_rst (s : State) (n : Nat) (f : SrvBerth → SrvBerth) : (s.modBerth n f).rst = s.rst := rfl
@[simp] theorem State.modBerth_pwr (s : State) (n : Nat) (f : SrvBerth → SrvBerth) : (s.modBerth n f).pwr = s.pwr := rfl
@[simp] theorem State.modBerth_thm (s : State) (n : Nat) (f : SrvBerth → SrvBerth) : (s.modBerth n f).thm = s.thm := rfl
@[simp] theorem State.modBerth_age (s : State) (n : Nat) (f : SrvBerth → SrvBerth) : (s.modBerth n f).age = s.age := rfl
@[simp] theorem State.modBerth_mgt (s : State) (n : Nat) (f : SrvBerth → SrvBerth) : (s.modBerth n f).mgt = s.mgt := rfl
@[simp] theorem State.modBerth_pci (s : State) (n : Nat) (f : SrvBerth → SrvBerth) : (s.modBerth n f).pci = s.pci := rfl
@[simp] theorem State.modBerth_pending (s : State) (n : Nat) (f : SrvBerth → SrvBerth) : (s.modBerth n f).pending = s.pending := rfl

/-! ### `modYard` changes `yard` only -/

@[simp] theorem State.modYard_regs (s : State) (f : Yard → Yard) : (s.modYard f).regs = s.regs := rfl
@[simp] theorem State.modYard_latch (s : State) (f : Yard → Yard) : (s.modYard f).latch = s.latch := rfl
@[simp] theorem State.modYard_staged (s : State) (f : Yard → Yard) : (s.modYard f).staged = s.staged := rfl
@[simp] theorem State.modYard_resetting (s : State) (f : Yard → Yard) : (s.modYard f).resetting = s.resetting := rfl
@[simp] theorem State.modYard_held (s : State) (f : Yard → Yard) : (s.modYard f).held = s.held := rfl
@[simp] theorem State.modYard_reply (s : State) (f : Yard → Yard) : (s.modYard f).reply = s.reply := rfl
@[simp] theorem State.modYard_out (s : State) (f : Yard → Yard) : (s.modYard f).out = s.out := rfl
@[simp] theorem State.modYard_reports (s : State) (f : Yard → Yard) : (s.modYard f).reports = s.reports := rfl
@[simp] theorem State.modYard_freeCtr (s : State) (f : Yard → Yard) : (s.modYard f).freeCtr = s.freeCtr := rfl
@[simp] theorem State.modYard_cores (s : State) (f : Yard → Yard) : (s.modYard f).cores = s.cores := rfl
@[simp] theorem State.modYard_clusters (s : State) (f : Yard → Yard) : (s.modYard f).clusters = s.clusters := rfl
@[simp] theorem State.modYard_ctxs (s : State) (f : Yard → Yard) : (s.modYard f).ctxs = s.ctxs := rfl
@[simp] theorem State.modYard_links (s : State) (f : Yard → Yard) : (s.modYard f).links = s.links := rfl
@[simp] theorem State.modYard_ports (s : State) (f : Yard → Yard) : (s.modYard f).ports = s.ports := rfl
@[simp] theorem State.modYard_yard (s : State) (f : Yard → Yard) : (s.modYard f).yard = f s.yard := rfl
@[simp] theorem State.modYard_mem (s : State) (f : Yard → Yard) : (s.modYard f).mem = s.mem := rfl
@[simp] theorem State.modYard_rte (s : State) (f : Yard → Yard) : (s.modYard f).rte = s.rte := rfl
@[simp] theorem State.modYard_fce (s : State) (f : Yard → Yard) : (s.modYard f).fce = s.fce := rfl
@[simp] theorem State.modYard_srv (s : State) (f : Yard → Yard) : (s.modYard f).srv = s.srv := rfl
@[simp] theorem State.modYard_lkp (s : State) (f : Yard → Yard) : (s.modYard f).lkp = s.lkp := rfl
@[simp] theorem State.modYard_sec (s : State) (f : Yard → Yard) : (s.modYard f).sec = s.sec := rfl
@[simp] theorem State.modYard_dbg (s : State) (f : Yard → Yard) : (s.modYard f).dbg = s.dbg := rfl
@[simp] theorem State.modYard_hwd (s : State) (f : Yard → Yard) : (s.modYard f).hwd = s.hwd := rfl
@[simp] theorem State.modYard_flash (s : State) (f : Yard → Yard) : (s.modYard f).flash = s.flash := rfl
@[simp] theorem State.modYard_fuses (s : State) (f : Yard → Yard) : (s.modYard f).fuses = s.fuses := rfl
@[simp] theorem State.modYard_bkp (s : State) (f : Yard → Yard) : (s.modYard f).bkp = s.bkp := rfl
@[simp] theorem State.modYard_rst (s : State) (f : Yard → Yard) : (s.modYard f).rst = s.rst := rfl
@[simp] theorem State.modYard_pwr (s : State) (f : Yard → Yard) : (s.modYard f).pwr = s.pwr := rfl
@[simp] theorem State.modYard_thm (s : State) (f : Yard → Yard) : (s.modYard f).thm = s.thm := rfl
@[simp] theorem State.modYard_age (s : State) (f : Yard → Yard) : (s.modYard f).age = s.age := rfl
@[simp] theorem State.modYard_mgt (s : State) (f : Yard → Yard) : (s.modYard f).mgt = s.mgt := rfl
@[simp] theorem State.modYard_pci (s : State) (f : Yard → Yard) : (s.modYard f).pci = s.pci := rfl
@[simp] theorem State.modYard_pending (s : State) (f : Yard → Yard) : (s.modYard f).pending = s.pending := rfl

/-! ### `modMem` changes `mem` only -/

@[simp] theorem State.modMem_regs (s : State) (f : Mem → Mem) : (s.modMem f).regs = s.regs := rfl
@[simp] theorem State.modMem_latch (s : State) (f : Mem → Mem) : (s.modMem f).latch = s.latch := rfl
@[simp] theorem State.modMem_staged (s : State) (f : Mem → Mem) : (s.modMem f).staged = s.staged := rfl
@[simp] theorem State.modMem_resetting (s : State) (f : Mem → Mem) : (s.modMem f).resetting = s.resetting := rfl
@[simp] theorem State.modMem_held (s : State) (f : Mem → Mem) : (s.modMem f).held = s.held := rfl
@[simp] theorem State.modMem_reply (s : State) (f : Mem → Mem) : (s.modMem f).reply = s.reply := rfl
@[simp] theorem State.modMem_out (s : State) (f : Mem → Mem) : (s.modMem f).out = s.out := rfl
@[simp] theorem State.modMem_reports (s : State) (f : Mem → Mem) : (s.modMem f).reports = s.reports := rfl
@[simp] theorem State.modMem_freeCtr (s : State) (f : Mem → Mem) : (s.modMem f).freeCtr = s.freeCtr := rfl
@[simp] theorem State.modMem_cores (s : State) (f : Mem → Mem) : (s.modMem f).cores = s.cores := rfl
@[simp] theorem State.modMem_clusters (s : State) (f : Mem → Mem) : (s.modMem f).clusters = s.clusters := rfl
@[simp] theorem State.modMem_ctxs (s : State) (f : Mem → Mem) : (s.modMem f).ctxs = s.ctxs := rfl
@[simp] theorem State.modMem_links (s : State) (f : Mem → Mem) : (s.modMem f).links = s.links := rfl
@[simp] theorem State.modMem_ports (s : State) (f : Mem → Mem) : (s.modMem f).ports = s.ports := rfl
@[simp] theorem State.modMem_yard (s : State) (f : Mem → Mem) : (s.modMem f).yard = s.yard := rfl
@[simp] theorem State.modMem_mem (s : State) (f : Mem → Mem) : (s.modMem f).mem = f s.mem := rfl
@[simp] theorem State.modMem_rte (s : State) (f : Mem → Mem) : (s.modMem f).rte = s.rte := rfl
@[simp] theorem State.modMem_fce (s : State) (f : Mem → Mem) : (s.modMem f).fce = s.fce := rfl
@[simp] theorem State.modMem_srv (s : State) (f : Mem → Mem) : (s.modMem f).srv = s.srv := rfl
@[simp] theorem State.modMem_lkp (s : State) (f : Mem → Mem) : (s.modMem f).lkp = s.lkp := rfl
@[simp] theorem State.modMem_sec (s : State) (f : Mem → Mem) : (s.modMem f).sec = s.sec := rfl
@[simp] theorem State.modMem_dbg (s : State) (f : Mem → Mem) : (s.modMem f).dbg = s.dbg := rfl
@[simp] theorem State.modMem_hwd (s : State) (f : Mem → Mem) : (s.modMem f).hwd = s.hwd := rfl
@[simp] theorem State.modMem_flash (s : State) (f : Mem → Mem) : (s.modMem f).flash = s.flash := rfl
@[simp] theorem State.modMem_fuses (s : State) (f : Mem → Mem) : (s.modMem f).fuses = s.fuses := rfl
@[simp] theorem State.modMem_bkp (s : State) (f : Mem → Mem) : (s.modMem f).bkp = s.bkp := rfl
@[simp] theorem State.modMem_rst (s : State) (f : Mem → Mem) : (s.modMem f).rst = s.rst := rfl
@[simp] theorem State.modMem_pwr (s : State) (f : Mem → Mem) : (s.modMem f).pwr = s.pwr := rfl
@[simp] theorem State.modMem_thm (s : State) (f : Mem → Mem) : (s.modMem f).thm = s.thm := rfl
@[simp] theorem State.modMem_age (s : State) (f : Mem → Mem) : (s.modMem f).age = s.age := rfl
@[simp] theorem State.modMem_mgt (s : State) (f : Mem → Mem) : (s.modMem f).mgt = s.mgt := rfl
@[simp] theorem State.modMem_pci (s : State) (f : Mem → Mem) : (s.modMem f).pci = s.pci := rfl
@[simp] theorem State.modMem_pending (s : State) (f : Mem → Mem) : (s.modMem f).pending = s.pending := rfl

/-! ### `emit` changes `out` only -/

@[simp] theorem State.emit_regs (s : State) (o : Out) : (s.emit o).regs = s.regs := rfl
@[simp] theorem State.emit_latch (s : State) (o : Out) : (s.emit o).latch = s.latch := rfl
@[simp] theorem State.emit_staged (s : State) (o : Out) : (s.emit o).staged = s.staged := rfl
@[simp] theorem State.emit_resetting (s : State) (o : Out) : (s.emit o).resetting = s.resetting := rfl
@[simp] theorem State.emit_held (s : State) (o : Out) : (s.emit o).held = s.held := rfl
@[simp] theorem State.emit_reply (s : State) (o : Out) : (s.emit o).reply = s.reply := rfl
@[simp] theorem State.emit_out (s : State) (o : Out) : (s.emit o).out = s.out ++ [o] := rfl
@[simp] theorem State.emit_reports (s : State) (o : Out) : (s.emit o).reports = s.reports := rfl
@[simp] theorem State.emit_freeCtr (s : State) (o : Out) : (s.emit o).freeCtr = s.freeCtr := rfl
@[simp] theorem State.emit_cores (s : State) (o : Out) : (s.emit o).cores = s.cores := rfl
@[simp] theorem State.emit_clusters (s : State) (o : Out) : (s.emit o).clusters = s.clusters := rfl
@[simp] theorem State.emit_ctxs (s : State) (o : Out) : (s.emit o).ctxs = s.ctxs := rfl
@[simp] theorem State.emit_links (s : State) (o : Out) : (s.emit o).links = s.links := rfl
@[simp] theorem State.emit_ports (s : State) (o : Out) : (s.emit o).ports = s.ports := rfl
@[simp] theorem State.emit_yard (s : State) (o : Out) : (s.emit o).yard = s.yard := rfl
@[simp] theorem State.emit_mem (s : State) (o : Out) : (s.emit o).mem = s.mem := rfl
@[simp] theorem State.emit_rte (s : State) (o : Out) : (s.emit o).rte = s.rte := rfl
@[simp] theorem State.emit_fce (s : State) (o : Out) : (s.emit o).fce = s.fce := rfl
@[simp] theorem State.emit_srv (s : State) (o : Out) : (s.emit o).srv = s.srv := rfl
@[simp] theorem State.emit_lkp (s : State) (o : Out) : (s.emit o).lkp = s.lkp := rfl
@[simp] theorem State.emit_sec (s : State) (o : Out) : (s.emit o).sec = s.sec := rfl
@[simp] theorem State.emit_dbg (s : State) (o : Out) : (s.emit o).dbg = s.dbg := rfl
@[simp] theorem State.emit_hwd (s : State) (o : Out) : (s.emit o).hwd = s.hwd := rfl
@[simp] theorem State.emit_flash (s : State) (o : Out) : (s.emit o).flash = s.flash := rfl
@[simp] theorem State.emit_fuses (s : State) (o : Out) : (s.emit o).fuses = s.fuses := rfl
@[simp] theorem State.emit_bkp (s : State) (o : Out) : (s.emit o).bkp = s.bkp := rfl
@[simp] theorem State.emit_rst (s : State) (o : Out) : (s.emit o).rst = s.rst := rfl
@[simp] theorem State.emit_pwr (s : State) (o : Out) : (s.emit o).pwr = s.pwr := rfl
@[simp] theorem State.emit_thm (s : State) (o : Out) : (s.emit o).thm = s.thm := rfl
@[simp] theorem State.emit_age (s : State) (o : Out) : (s.emit o).age = s.age := rfl
@[simp] theorem State.emit_mgt (s : State) (o : Out) : (s.emit o).mgt = s.mgt := rfl
@[simp] theorem State.emit_pci (s : State) (o : Out) : (s.emit o).pci = s.pci := rfl
@[simp] theorem State.emit_pending (s : State) (o : Out) : (s.emit o).pending = s.pending := rfl

/-! ### `draw` changes `freeCtr` only -/

@[simp] theorem State.draw_regs (s : State) : (s.draw.2).regs = s.regs := rfl
@[simp] theorem State.draw_latch (s : State) : (s.draw.2).latch = s.latch := rfl
@[simp] theorem State.draw_staged (s : State) : (s.draw.2).staged = s.staged := rfl
@[simp] theorem State.draw_resetting (s : State) : (s.draw.2).resetting = s.resetting := rfl
@[simp] theorem State.draw_held (s : State) : (s.draw.2).held = s.held := rfl
@[simp] theorem State.draw_reply (s : State) : (s.draw.2).reply = s.reply := rfl
@[simp] theorem State.draw_out (s : State) : (s.draw.2).out = s.out := rfl
@[simp] theorem State.draw_reports (s : State) : (s.draw.2).reports = s.reports := rfl
@[simp] theorem State.draw_freeCtr (s : State) : (s.draw.2).freeCtr = s.freeCtr + 1 := rfl
@[simp] theorem State.draw_cores (s : State) : (s.draw.2).cores = s.cores := rfl
@[simp] theorem State.draw_clusters (s : State) : (s.draw.2).clusters = s.clusters := rfl
@[simp] theorem State.draw_ctxs (s : State) : (s.draw.2).ctxs = s.ctxs := rfl
@[simp] theorem State.draw_links (s : State) : (s.draw.2).links = s.links := rfl
@[simp] theorem State.draw_ports (s : State) : (s.draw.2).ports = s.ports := rfl
@[simp] theorem State.draw_yard (s : State) : (s.draw.2).yard = s.yard := rfl
@[simp] theorem State.draw_mem (s : State) : (s.draw.2).mem = s.mem := rfl
@[simp] theorem State.draw_rte (s : State) : (s.draw.2).rte = s.rte := rfl
@[simp] theorem State.draw_fce (s : State) : (s.draw.2).fce = s.fce := rfl
@[simp] theorem State.draw_srv (s : State) : (s.draw.2).srv = s.srv := rfl
@[simp] theorem State.draw_lkp (s : State) : (s.draw.2).lkp = s.lkp := rfl
@[simp] theorem State.draw_sec (s : State) : (s.draw.2).sec = s.sec := rfl
@[simp] theorem State.draw_dbg (s : State) : (s.draw.2).dbg = s.dbg := rfl
@[simp] theorem State.draw_hwd (s : State) : (s.draw.2).hwd = s.hwd := rfl
@[simp] theorem State.draw_flash (s : State) : (s.draw.2).flash = s.flash := rfl
@[simp] theorem State.draw_fuses (s : State) : (s.draw.2).fuses = s.fuses := rfl
@[simp] theorem State.draw_bkp (s : State) : (s.draw.2).bkp = s.bkp := rfl
@[simp] theorem State.draw_rst (s : State) : (s.draw.2).rst = s.rst := rfl
@[simp] theorem State.draw_pwr (s : State) : (s.draw.2).pwr = s.pwr := rfl
@[simp] theorem State.draw_thm (s : State) : (s.draw.2).thm = s.thm := rfl
@[simp] theorem State.draw_age (s : State) : (s.draw.2).age = s.age := rfl
@[simp] theorem State.draw_mgt (s : State) : (s.draw.2).mgt = s.mgt := rfl
@[simp] theorem State.draw_pci (s : State) : (s.draw.2).pci = s.pci := rfl
@[simp] theorem State.draw_pending (s : State) : (s.draw.2).pending = s.pending := rfl

end Sys2Proof.Machine
end

