-- ==== Sys2Proof/Tests/Slice0.lean ====
section
/-! SUPPORT. Smoke tests of WellFormed, and for every statement of Certificates/Slice0/Obligations.lean that has hypotheses a state and operands that meet them. Expected values are worked out by hand from the rules named. -/

open Sys2Proof Sys2Proof.Machine

namespace Sys2Proof.Tests

set_option Elab.async false

/-! ### WellFormed refuses what it should -/

/-- Measurements of an edge of the right lengths. -/
def edgeIn : EdgeIn :=
  { offset := 0, lastEnd := 100, number := 1, cydNs := [0, 0, 0, 0], railLate := 0, gb := List.replicate 7 50, ro := List.replicate 7 0,
    domPower := [100000, 100000] }

theorem wf_edge : (Instr.tickEdge edgeIn).wf = true := by decide
theorem wf_edge_slices : (Instr.tickEdge { edgeIn with cydNs := [0] }).wf = false := by decide
theorem wf_edge_guard_bands : (Instr.tickInTransition true true { edgeIn with gb := [] }).wf = false := by decide
theorem wf_edge_rings : (Instr.tickEdge { edgeIn with ro := [0] }).wf = false := by decide
theorem wf_edge_powers : (Instr.tickEdge { edgeIn with domPower := [0, 0, 0] }).wf = false := by decide
theorem wf_bad_access : (Instr.badAccess .pf 4 4).wf = false := by decide
theorem wf_aperture_read : (Instr.apertureAccess 1 0 (.read 0)).wf = false := by decide
theorem wf_aperture_write : (Instr.apertureAccess 1 0 (.write [])).wf = false := by decide
theorem wf_power_sample : (Instr.powerSample ⟨1, 1, [1]⟩).wf = false := by decide
theorem wf_energy : (Instr.energyMeterTick [(256, 1)]).wf = false := by decide
theorem wf_avs : (Instr.avsReadback []).wf = false := by decide
theorem wf_thermal : (Instr.thermalSample [none]).wf = false := by decide
theorem wf_replan_count : (Instr.replanDone [5]).wf = false := by decide
theorem wf_replan_step : (Instr.replanDone [5, 5, 5, 5, 5, 5, 7]).wf = false := by decide
theorem wf_retention : (Instr.retentionSample [64, 64, 64]).wf = false := by decide
theorem wf_eyes : (Instr.eyeSample [(1, 1)]).wf = false := by decide
theorem wf_patrol : (Instr.patrolScrub 0x60000000 .clean).wf = false := by decide
theorem wf_sensor : (Instr.thermtripNAssert 208).wf = false := by decide
theorem wf_payload (l : Fin 18) (h : BitVec 256) (p : List Byte) (w : maxPayload < p.length) : (Instr.dataBarge l h p).wf = false := by
  simp [Instr.wf]; omega

/-! ### States to start from -/

/-- An image that runs. -/
def img : Image := { typ := 1, version := 7, svn := 3, hash := 0, payload := [] }

/-- A part that runs: released, READY in D0, the BARs of functions 0 and 1 assigned, Dravner up, contexts 0 and 1 with keys. -/
def up : State := { State.reset with
  rst := { inReset := false, ready := true, phase := 9, drv := some img, sece := some { img with typ := 3 } }
  pwr := { st := 0 }
  pci := { bars := [(0, true), (1, true)] }
  sec := { keyGen := 2, rngOk := true, ready := true }
  ctxs := [(0, { st := .active, key := some 1 }), (1, { st := .active, key := some 2 })] }

/-- Its tick runs. -/
def ticking : State := { up with lkp := { now := 5, phase := .run } }

/-! ### The whole machine -/

theorem witness_step : { up with pending := [.syncReferenceLost] }.pending = .syncReferenceLost :: [] := by decide
theorem witness_idle : State.reset.pending = [] ∧ step State.reset = .next State.reset := ⟨rfl, rfl⟩
theorem witness_scalar : ∀ core, Instr.syncReferenceLost ≠ .scalarInstruction core := by intro core h; cases h
theorem witness_canonical : State.reset.memOk ∧ step State.reset = .next State.reset := ⟨rfl, rfl⟩
theorem witness_fuses : { up with pending := [.fwCommit .pf 0x301] }.reachesBlock .pf = true ∧ up.running 1 = some img ∧
    (match step { up with pending := [.fwCommit .pf 0x301] } with
      | .next t => t.fuses.svnDrv
      | _ => 0) = 3 := by decide +kernel

/-! ### Registers -/

theorem witness_fields : (regAt .lkp Off.lkpTickPeriod).isSome = true := by decide +kernel
theorem witness_read : up.reaches .pf 0x2118 = some ⟨.lkp, 0⟩ ∧ (regAt .lkp 0x118).isSome = true ∧
    Tbl.find (up.regAddr ⟨.lkp, 0⟩ 0x118) up.latch = none ∧ (mdieZeroOnly ⟨.lkp, 0⟩ 0x118 && PageKind.lkp == .mem) = false := by decide +kernel
theorem witness_read_latched : Tbl.find (up.regAddr ⟨.lkp, 0⟩ 0x11C) { up with latch := [(up.regAddr ⟨.lkp, 0⟩ 0x11C, 9)] }.latch = some 9 := by decide +kernel
theorem witness_write : up.reaches .pf 0x2130 = some ⟨.lkp, 0⟩ ∧ (regAt .lkp 0x130).isSome = true ∧ keyWord ⟨.lkp, 0⟩ 0x130 = false := by decide +kernel
theorem witness_drn_mode : up.reachesBlock .pf = true ∧ up.powered ⟨.drn, 511⟩ = true := by decide +kernel
theorem witness_bad_access : up.answers .pf = true ∧ (2 ≠ 4 ∨ (0x2100 : BitVec 32).toNat % 4 ≠ 0) := by decide +kernel
theorem witness_unmapped : up.unassigned .pf 0x300000 = true := by decide +kernel
theorem witness_powered_down : pageAt .pf 0x400000 = some (⟨.mem, 0⟩, 0) ∧ { up with pwr := { up.pwr with st := 2 } }.powered ⟨.mem, 0⟩ = false := by decide +kernel
theorem witness_inject : up.reaches .pf 0x2000 = some ⟨.lkp, 0⟩ ∧ (0x5002 : Word).getLsbD 1 = true ∧ up.mayInject .pf 0 = true ∧
    (up.rd .lkp 0 Off.blkFirst).getLsbD 31 = false ∧ up.mayInject .pf 2 = false := by decide +kernel
theorem witness_first_clear : up.reaches .pf 0x2000 = some ⟨.lkp, 0⟩ ∧ (0x80000000 : Word).getLsbD 31 = true := by decide +kernel
theorem witness_reset_refused : noBlockReset .pci = true ∧ up.reaches .pf 0 = some ⟨.pci, 0⟩ := by decide +kernel
theorem witness_reset_vec : up.reaches .pf 0x1003000 = some ⟨.vec, 0⟩ ∧ (noBlockReset .vec || !up.idle ⟨.vec, 0⟩) = false := by decide +kernel
theorem witness_reset_wharf : (pageOf 0x1006000).map (·.kind) = some .whf ∧ (noBlockReset .whf || !up.idle ⟨.whf, 0⟩) = false := by decide +kernel
theorem witness_reset_end : pageOf 0x2000 = some ⟨.lkp, 0⟩ ∧
    let s := { ticking with resetting := [0x2000], held := [.tickStop .pf 2] }
    s.isResetting ⟨.lkp, 0⟩ = true ∧ s.resetting.all (· == (⟨.lkp, 0⟩ : PageRef).base) = true ∧ s.reachesBlock .pf = true ∧
      (2 : Word).getLsbD 1 = true ∧ s.ticking = true := by decide +kernel

/-! ### Host interface -/

/-- Device memory with tables that map the 2 MiB page at 0 of context 1 to DPA 0x400000, readable, writable and executable (R211, R212). -/
def tables : Mem := [(8, 0x1001), (0x1000, 0x2001), (0x2000, 0x3001), (0x3000, 0x400007), (0x3008, 0)].foldl (fun m e => m.writeBytes 1 e.1 (toBytes 8 e.2)) {}

/-- The running part with those tables. -/
def mapped : State := { up with mem := tables }

/-- Context 1 in a ring mode (R45). -/
def ringed (mode : Nat) : State := mapped.setFld .vlkp 1 Off.lkpCtxRingCfg 4 2 mode

theorem witness_aperture : mapped.hostReaches 1 = true ∧ mapped.diesOn = true ∧ mapped.placed hostUnit 1 0x40 4 .read = some (2, 0x400040) ∧
    mapped.placed hostUnit 1 0x40 4 .write = some (2, 0x400040) ∧ (mapped.keyOf 1).isSome = true ∧ mapped.dbg.st ≠ 1 := by
  decide +kernel
theorem witness_aperture_fault : mapped.leaf 1 0x200000 = .error .xlate := by
  have h : (match mapped.leaf 1 0x200000 with
    | .error .xlate => true
    | _ => false) = true := by decide +kernel
  revert h; generalize mapped.leaf 1 0x200000 = r; rcases r with (_ | _ | _) | _ <;> simp
theorem witness_ring_window : (1 : Fin 256) ≠ 0 ∧ (0x3C : BitVec 18).toNat < 64 * mapped.ringSlots 1 ∧ (0x3C : BitVec 18).toNat % 4 = 0 ∧
    (ringed 1).ringMode 1 ≠ 2 ∧ (0x2C : BitVec 18).toNat / 4 % 16 < 12 ∧ (ringed 1).placed hostUnit 1 0x2C 4 .write = some (2, 0x40002C) ∧
    (ringed 2).ringMode 1 = 2 ∧ 12 ≤ (0x3C : BitVec 18).toNat / 4 % 16 := by decide +kernel
theorem witness_config : { up with rst := { up.rst with perst := true } }.rst.perst = true ∧ State.reset.rst.inReset = true ∧ State.reset.rst.perst = false ∧
    up.rst.inReset = false := by decide +kernel

/-! ### Vector engine -/

/-- Core 0 of a part: a kernel of context 1 runs, with some operands, a small vector length and a cart. -/
def vecCore : Core :=
  { pc := 0x1000
    kernel := some { ctx := 1, entry := 0 }
    sregs := [(2, 64), (3, 0)]
    vl := 4
    v := [(1, 0x00010003007F0002), (2, 0x0004000300017FFF)]
    m := [(0, 5)]
    carts := [{ tag0 := 9, tag1 := 8, bytes := [1, 2, 3, 4] }]
    wharf := [(64, 7), (65, 1)] }

/-- The part with that core. -/
def vec : State := { mapped with cores := [(0, vecCore)] }

/-- A vector word: group, function, type and immediate; vd 3, vs1 1, vs2 2, vs3 4, SX 2 (R131). -/
def vword (g f ty : Nat) (imm : Nat := 0) : BitVec 64 :=
  BitVec.ofNat 64 (0x3F + g * 2 ^ 7 + f * 2 ^ 11 + ty * 2 ^ 17 + 3 * 2 ^ 20 + 1 * 2 ^ 25 + 2 * 2 ^ 30 + 4 * 2 ^ 35 + 2 * 2 ^ 45 + imm * 2 ^ 52)

/-- A word of each group and function with fields it allows. -/
def anyWord (g f : Nat) : BitVec 64 := vword g f (if g = 2 then 3 else 0) (if g = 5 ∧ f = 2 then 5 else 0)

theorem witness_vec : ∀ g < 11, ∀ f < groupSize g, (vecRow g f 0 (anyWord g f)).isSome = true ∧ (vec.vecCmd 0 (anyWord g f)).grp = g ∧
    (vec.vecCmd 0 (anyWord g f)).fn = f ∧ vec.issuesNow 0 (anyWord g f) = some 1 ∧ vec.vecOffered 0 (anyWord g f) = some 1 := by decide +kernel
theorem witness_vec_full : let s := vec.setCore 0 { vecCore with iq := List.replicate 32 ⟨anyWord 1 0, 0, 0, 0⟩ }
    s.vecOffered 0 (anyWord 1 0) = some 1 ∧ (s.vecCmd 0 (anyWord 1 0)).ok = true ∧ 32 ≤ (s.core 0).iq.length := by decide +kernel
theorem witness_vec_waits : let s := vec.setCore 0 { vecCore with carts := [] }
    s.vecOffered 0 (anyWord 10 1) = some 1 ∧ (s.vecCmd 0 (anyWord 10 1)).ok = true ∧
      ((s.core 0).iq.isEmpty && (s.core 0).vecReady (s.vecCmd 0 (anyWord 10 1))) = false ∧ (s.core 0).iq.length < 32 := by decide +kernel
theorem witness_vec_bad : vec.vecOffered 0 (vword 1 0 3) = some 1 ∧ (vec.vecCmd 0 (vword 1 0 3)).ok = false := by decide +kernel
/-- A core whose oldest queued instruction is the given word. -/
def queued (w : BitVec 64) (carts : List Cart) : State := vec.setCore 0 { vecCore with iq := [⟨w, 0, 0, 1⟩], carts := carts }
theorem witness_vec_issue : let c : VecCmd := ⟨anyWord 10 2, 0, 0, 1⟩
    ((queued c.word vecCore.carts).core 0).iq = c :: [] ∧ (queued c.word vecCore.carts).coreCtx 0 = some 1 ∧ c.ok = true ∧
      ((queued c.word vecCore.carts).core 0).vecReady c = true ∧ ((queued c.word []).core 0).vecReady c = false := by decide +kernel
theorem witness_vec_reduce : let c := vec.vecCmd 0 (vword 7 0 3)
    3 ≤ c.type ∧ (vecCore.active c (vecCore.el (typeWidth c.type)) 0) = true := by decide +kernel
theorem witness_vec_reduce_empty : let k : Core := { vecCore with vl := 0 }
    let s := vec.setCore 0 k
    s.issuesNow 0 (vword 7 5 3) = some 1 ∧ ∀ p < 8, k.active (s.vecCmd 0 (vword 7 5 3)) (k.el 32) p = false := by decide +kernel
theorem witness_vec_wharf : (vec.vecCmd 0 (anyWord 9 0)).wharfOk (vecCore.el 32) = true ∧
    (vec.vecCmd 0 (vword 9 1 0 4095)).wharfOk (vecCore.el 32) = false ∧ vec.issuesNow 0 (vword 9 1 0 4095) = some 1 := by decide +kernel
theorem witness_vec_dva : let c := vec.vecCmd 0 (anyWord 9 4)
    vec.placed 0 1 c.dva (vecCore.el 32 * 4) .read = some (2, 0x400040) ∧ vec.placed 0 1 c.dva (vecCore.el 32 * 4) .write = some (2, 0x400040) ∧
      vecCore.port = [] ∧ Tbl.find (c.dva / 64) vecCore.dcache = none ∧ c.men = false := by decide +kernel
theorem witness_vec_cart : (vec.core 0).carts = { tag0 := 9, tag1 := 8, bytes := [1, 2, 3, 4] } :: [] := by decide +kernel

/-! ### Lock-keeper -/

/-- A part with a tick source (R75 SRC) and the lock-keeper in a sync state. -/
def source (s : State) (src sync : Nat) : State := (s.setFld .lkp 0 Off.lkpTickCfg 0 2 src).setFld .lkp 0 Off.lkpSyncStatus 0 2 sync

theorem witness_tick_start : up.reachesBlock .pf = true ∧ up.isResetting ⟨.lkp, 0⟩ = false ∧ (1 : Word).getLsbD 0 = true ∧ up.hwd.fatal = false ∧
    (up.ticking || up.lkp.starting.isSome) = false ∧ (ticking.ticking || ticking.lkp.starting.isSome) = true ∧ (2 : Word).getLsbD 1 = true := by decide +kernel
theorem witness_staged : up.ticking = false ∧ up.lkp.starting = none ∧ up.rst.inReset = false ∧
    { up with staged := [.field (regKey .drn 0 (Off.drnCtxMode + 4 * 3) 0) 1 1] }.staged = [.field (regKey .drn 0 (Off.drnCtxMode + 4 * 3) 0) 1 1] ∧
    { up with staged := [.activate 2] }.staged = [.activate 2] ∧ up.dbg.st ≠ 2 ∧ up.sec.rngOk = true := by decide +kernel
theorem witness_sync : (source ticking 2 1).ticking = true ∧ (source ticking 2 1).tickSrc ≠ 0 ∧ (source ticking 2 1).syncState = 1 ∧
    (source ticking 2 2).syncState = 2 ∧ 2 ≤ (source ticking 2 3).syncState := by decide +kernel
theorem witness_edge : (source ticking 2 1).edgeDue = true ∧ (source ticking 2 1).tickSrc ≠ 1 ∧ (source ticking 2 1).lkp.starting = none ∧
    (source { up with lkp := { starting := some 9 } } 0 0).edgeDue = true ∧ (source { up with lkp := { starting := some 9 } } 0 0).ticking = false := by decide +kernel
theorem witness_edge_pin : (source ticking 1 1).edgeDue = true ∧ (source ticking 1 1).tickSrc = 1 ∧ true = ((source ticking 1 1).fld .lkp 0 Off.lkpPinCfg 0 1 == 0) ∧
    (source ticking 1 1).lkp.starting = none ∧ (source ticking 1 2).ticking = true ∧ 2 ≤ (source ticking 1 2).syncState := by decide +kernel

/-- An entry of one core. -/
def entry1 : Launch := { start := 10, lcluster := 0, bcast := false, mask := 1, entry := 0x100, args := 0x40 }

/-- A step of context 1 with that entry. -/
def step1 : Step := { tick := 5, cls := 2, flight := false, budget := 1000, pairs := 0, coachLeft := 4, fetchSlots := 0, launches := [entry1], runStart := 100 }

/-- Cluster 0 is granted to context 1, whose step runs. -/
def granted : State := { mapped with
  lkp := { now := 5, phase := .run }
  clusters := [(0, { granted := some 1, zeroed := true })]
  ctxs := [(0, { st := .active, key := some 1 }), (1, { st := .active, key := some 2, step := some step1 })] }

/-- The guard band of that pound. -/
def guarding : State := { granted with lkp := { granted.lkp with phase := .guard } }

theorem witness_guard : granted.lkp.phase = .run ∧ (granted.cluster 0).granted.isSome = true ∧ (granted.ctx 1).step = some step1 ∧ (granted.ctx 1).verify = none ∧
    guarding.lkp.phase = .guard ∧ guarding.lkp.tfDone = false ∧ step1.flight = false ∧ (guarding.ctx 1).step = some step1 ∧
    { guarding with lkp := { guarding.lkp with tfDone := true } }.lkp.tfDone = true := by decide +kernel
theorem witness_launch : step1.launches[(0 : BitVec 16).toNat]? = some entry1 ∧ granted.lkp.phase ≠ .guard ∧ step1.verifying = false ∧ granted.isCondemned 1 = false ∧
    granted.diesOn = true ∧ granted.isStopped = false ∧ granted.dbg.st ≠ 1 ∧
    (if step1.spilled then step1.runStart else step1.runStart + entry1.start) ≤ (110 : BitVec 24).toNat ∧ 0 ∈ granted.entryCores 1 entry1 ∧ 0 ∉ entry1.started ∧
    granted.coreReady 1 0 step1 0 = true ∧ granted.launchUnmapped 1 entry1 = false := by decide +kernel
theorem witness_kernel_end : vecCore.kernel = some { ctx := 1, entry := 0 } ∧ vec.scalarRuns 0 = true ∧
    (vecCore.iq.isEmpty && vecCore.drainQ.isEmpty && vecCore.scb.isEmpty) = true ∧ vecCore.carts ≠ [] ∧
    ((queued 0 []).core 0).iq.isEmpty = false := by decide +kernel
theorem witness_kernel_last : let s := { granted with cores := [(0, vecCore)], ctxs := Tbl.put granted.ctxs 1 { (granted.ctx 1) with step := some { step1 with launches := [] } } }
    (s.ctx 1).step = some { step1 with launches := [] } ∧ s.allStarted 1 { step1 with launches := [] } = true ∧
    ((s.grantList 1).all fun g => (coresOf g).all fun n => n == 0 || (s.core n).kernel.isNone) = true := by decide +kernel

/-- A slot for edge 6 whose body of 64 bytes lies at 0x1000 (R47, R48). -/
def slot6 : List Word := [0x11, 6, 0, 64, 0x1000, 0, 0, 0, 0, 0, 0, 0, 0, 0, 0, 0]

/-- Context 1 in HOST-MANIFEST mode, with words for edge 6 in its ring. -/
def preread (w : List Word) : State :=
  let s := guarding.setFld .vlkp 1 Off.lkpCtxRingCfg 4 2 1
  { s with mem := s.mem.writeBytes 2 (0x400000 + 64 * 6) (w.flatMap fun x => toBytes 4 x.toNat) }

theorem witness_preread : (preread slot6).lkp.phase = .guard ∧ (preread slot6).diesOn = true ∧ (preread slot6).readsRing 1 = true ∧
    (preread slot6).guardAt ≤ (99100 : BitVec 24).toNat ∧ ((99100 : BitVec 24).toNat - (preread slot6).guardAt) % 100 = 0 ∧
    (preread slot6).placed 517 1 ((preread slot6).slotDva 1 (6 % (preread slot6).ringSlots 1)) 64 .read = some (2, 0x400180) ∧
    slotOfBytes ((preread slot6).mem.readBytes 2 0x400180 64) = slot6 ∧ slotRow slot6 6 = .due ∧ slotBadVersion slot6 = false ∧
    (preread slot6).badBody 1 slot6 = false ∧ slotLen slot6 = 64 ∧ ((preread slot6).ctx 1).preread = none ∧
    (preread slot6).placed 517 1 (slotAddr slot6) 64 .read = some (2, 0x401000) ∧ slotRow (slot6.set 1 5) 6 ≠ .due := by decide +kernel
theorem witness_verify : let v : Verifying := { words := slot6, slotDva := 0, body := [], tick := 5, reason := 0, deficit := 0 }
    let s := granted.modCtx 1 fun c => { c with verify := some v }
    (s.ctx 1).verify = some v ∧ v.reason = 0 ∧ s.manifestTag 1 (slotSpan v.words 0 8 ++ v.body) (slotSpan v.words 8 4) = false := by decide +kernel
theorem witness_preread_tag : let r : PreRead := { tick := 6, words := slot6, body := [], fault := false, tagOk := none }
    let s := (preread slot6).modCtx 1 fun c => { c with preread := some r }
    (s.ctx 1).verify = none ∧ (s.ctx 1).preread = some r ∧ r.tagOk = none ∧ r.fault = false ∧ s.ringMode 1 = 1 := by decide +kernel

/-- Sixteen bytes as four words. -/
def fourWords (t : List Byte) : List Word := (List.range 4).map fun i => BitVec.ofNat 32 (ofBytes ((t.drop (4 * i)).take 4))

/-- Keys of context 1 for the tag. -/
def keys : KeySet := { sid := 1, kman := 5, kreq := 6, krsp := 7 }
theorem witness_verify_ok : let w := slot6.take 8 ++ fourWords (tagOf 5 (slotSpan slot6 0 8))
    (granted.modCtx 1 fun c => { c with active := some keys }).manifestTag 1 (slotSpan w 0 8 ++ []) (slotSpan w 8 4) = true := by decide +kernel

/-! ### Matrix arrays and drain path -/

/-- Words as one number, word 0 lowest. -/
def pack (ws : List Nat) : Nat := ws.foldr (fun w n => w + 2 ^ 32 * n) 0

/-- The nonzero bytes of a number from an address on. -/
def bytesAt (a n v : Nat) : List (Nat × Byte) := ((toBytes n v).zipIdx.filter fun b => b.1 != 0).map fun b => (a + b.2, b.1)

/-- A tile command of each OP for array 0, INT8 (R97). -/
def tile (op : Nat) : Nat := pack (match op with
  | 1 => [0x11, 0xB * 2 ^ 21 + 0x1000]
  | 3 => [0x13, 0xB * 2 ^ 21 + 0x1000, 0, 0, 1]
  | 4 => [0x14, 0xB * 2 ^ 21 + 0x1000, 0xB * 2 ^ 21 + 0x2000, 0, 0, 1]
  | n => [0x10 + n])

/-- Array 0 holds a live INT8 tile. -/
def liveArray : MxArray := { liveValid := true, liveFmt := 0xB }

/-- Core 0 with a descriptor of `n` bytes at 64 of its wharf, which s2 names. -/
def withDesc (n raw : Nat) (k : Core := vecCore) : State := vec.setCore 0 { k with wharf := bytesAt 64 n raw, arrays := [(0, liveArray)] }

theorem witness_mxq : ∀ op ∈ [1, 2, 3, 4, 5], let s := withDesc 32 (tile op)
    (mxqRow op 0 2).isSome = true ∧ s.scalarRuns 0 = true ∧ s.coreCtx 0 = some 1 ∧ s.isResetting ⟨.mxa, 0⟩ = false ∧
    s.readDesc 0 (s.sreg 0 2) 32 32 = some (tile op) ∧ (s.mxCmd 0 (tile op)).op = op ∧ s.mxRefusal 0 (s.mxCmd 0 (tile op)) = none ∧
    (s.core 0).mxq.length < 16 ∧ (s.core 0).scbFull = false := by decide +kernel
theorem witness_mxq_full : let c := vec.mxCmd 0 (tile 5)
    let s := withDesc 32 (tile 5) { vecCore with mxq := List.replicate 16 c }
    let u := withDesc 32 (tile 5) { vecCore with scb := List.replicate 32 ⟨.mxa, 0, []⟩ }
    s.mxRefusal 0 (s.mxCmd 0 (tile 5)) = none ∧ 16 ≤ (s.core 0).mxq.length ∧ u.mxRefusal 0 (u.mxCmd 0 (tile 5)) = none ∧ (u.core 0).scbFull = true := by
  decide +kernel
theorem witness_mxq_refused : (withDesc 32 0x11).mxRefusal 0 ((withDesc 32 0x11).mxCmd 0 0x11) = some 0x10 := by decide +kernel

/-- Core 0 with one queued command. -/
def started (op : Nat) : State := vec.setCore 0 { vecCore with mxq := [vec.mxCmd 0 (tile op)], arrays := [(0, { liveArray with shadow := if op = 2 then .full else .empty })] }
theorem witness_mxa_start : ∀ op ∈ [1, 2, 3, 4, 5], let s := started op
    let c := vec.mxCmd 0 (tile op)
    (s.core 0).mxq[(0 : Fin 16).val]? = some c ∧ s.coreCtx 0 = some 1 ∧ s.diesOn = true ∧ (s.core 0).mxStartable 0 c = true ∧ c.claim = false ∧
      c.op = op ∧ c.names 0 = true := by decide +kernel
theorem witness_mxa_formats : (vec.mxCmd 0 (tile 3)).fld 1 21 4 = 0xB ∧ (vec.mxCmd 0 (tile 4)).fld 2 21 4 = 0xB ∧ liveArray.liveFmt = 0xB ∧
    (vec.mxCmd 0 (tile 3)).swapFirst = false := by decide +kernel
theorem witness_shadow : let c := vec.mxCmd 0 (tile 1)
    ((vec.setCore 0 { vecCore with arrays := [(0, { load := some c }), (1, { swapPend := true })] }).core 0).array 0 = { load := some c } ∧
    (((vec.setCore 0 { vecCore with arrays := [(0, { load := some c }), (1, { swapPend := true })] }).core 0).array 1).swapPend = true := by decide +kernel
theorem witness_handover : let c := vec.mxCmd 0 (tile 3)
    let d := vec.mxCmd 0 (tile 4)
    let k : Core := { vecCore with handPend := [c], osPend := [d] }
    k.handPend = c :: [] ∧ c.claim = false ∧ k.osPend = d :: [] ∧ d.claim = false ∧ ∀ a < 4, d.names a = true → (k.array a).shadow = .empty := by decide +kernel

/-- A drain descriptor: FP32 rows to the wharf at 0x4000, 128 bytes apart (R114, R119). -/
def drainDesc : Nat := pack [0x10, 0, 0, 0, 0, 0, 0, 0x4000, 128]
theorem witness_dset : let s := withDesc 64 drainDesc
    s.scalarRuns 0 = true ∧ s.coreCtx 0 = some 1 ∧ s.isResetting ⟨.drn, 0⟩ = false ∧ s.readDesc 0 (s.sreg 0 2) 64 64 = some drainDesc ∧
    descOk drainDesc = true ∧ descOk 0xF = false ∧ (withDesc 64 0xF).readDesc 0 ((withDesc 64 0xF).sreg 0 2) 64 64 = some 0xF := by decide +kernel

/-- A bank of one row handed over under a descriptor. -/
def item (d : Nat) : DrainItem := { arr := 0, bank := 0, os := false, seq := 1, dsel := 0, desc := BitVec.ofNat 512 d, high := 0 }
theorem witness_drain : let k : Core := { vecCore with drainQ := [item drainDesc], arrays := [(0, { banks := [(0, [{ val := 0x3F800000 }])] })] }
    let s := vec.setCore 0 k
    k.drainQ = item drainDesc :: [] ∧ s.coreCtx 0 = some 1 ∧ s.diesOn = true ∧ k.heldCart = none ∧ (item drainDesc).os = false ∧
    descFld drainDesc 0 0 32 = 0x10 ∧ (item drainDesc).int = false ∧ (item drainDesc).next = 0 ∧ (item drainDesc).high < 256 ∧
    rowBytes (descFld drainDesc 0 0 4) false ≤ descFld drainDesc 8 0 16 ∧
    descFld drainDesc 7 0 21 + 0 * descFld drainDesc 8 0 16 + rowBytes (descFld drainDesc 0 0 4) false ≤ 2 ^ 21 ∧
    bitsAt (0x3F800000 : Word).toNat 23 8 ≠ 255 ∧ bitsAt (0x3F800000 : Word).toNat 23 8 ≠ 0 := by decide +kernel
theorem witness_drain_cart : descFld 0 0 4 1 = 0 ∧ (item 0).next ≤ (item 0).high ∧ (item 0).high < (item 0).next + rowsPerCart (rowBytes (descFld 0 0 0 4) false) ∧
    vecCore.carts.length < 16 ∧ 16 ≤ (List.replicate 16 ({ tag0 := 0, tag1 := 0, bytes := [] } : Cart)).length := by decide +kernel
theorem witness_cart : let c : Cart := { tag0 := 0, tag1 := 0, bytes := [] }
    ({ vecCore with heldCart := some c } : Core).heldCart = some c ∧ vec.diesOn = true ∧ vecCore.carts.length < 16 := by decide +kernel
theorem witness_nan_report : let r : Report := { ctx := 1, page := 0x1002000, cond := 0x10, record := 5 }
    { up with reports := [r] }.reports = r :: [] ∧ (pageOf r.page).map (·.kind) = some .drn ∧ PageKind.drn.isView = false ∧
    up.fld .vhwd 1 Off.hwdCtxNan0 31 1 = 0 ∧ (up.setFld .vhwd 1 Off.hwdCtxNan0 31 1 1).fld .vhwd 1 Off.hwdCtxNan0 31 1 = 1 ∧ up.nanHalt 1 = false ∧
    (up.wr .drn 0 Off.drnCtxMode 0xFFFF).nanHalt 1 = true := by decide +kernel

/-! ### Scalar unit -/

theorem witness_scalar_load (a : Word) : vec.scalarRuns 0 = true ∧ vec.coreCtx 0 = some 1 ∧ vec.waitsVec 0 [2] = false ∧ vec.waitsVec 0 [2, 3] = false ∧
    (scalarPlace 0 a).aligned 1 = true ∧ vec.scalarBlocked 0 ((scalarPlace 0 a).ranges 1 false) = false ∧
    vec.scalarBlocked 0 ((scalarPlace 0 a).ranges 1 true) = false ∧ ((∃ o, scalarPlace 0 a = .wharf o) ∨ ∃ d, scalarPlace 0 a = .dva d) := by
  refine ⟨by decide +kernel, by decide +kernel, by decide +kernel, by decide +kernel, ?_, ?_, ?_, ?_⟩
  · simp only [scalarPlace]; split <;> simp [ScalarPlace.aligned, Nat.mod_one]
  · rfl
  · rfl
  · simp only [scalarPlace]; split <;> simp
theorem witness_scalar_dva : vec.placed 0 1 0x40 1 .read = some (2, 0x400040) ∧ vec.placed 0 1 0x40 1 .write = some (2, 0x400040) ∧ vecCore.port = [] ∧
    Tbl.find (0x40 / 64) vecCore.dcache = none := by decide +kernel
theorem witness_scalar_misaligned : (ScalarPlace.wharf 1).aligned 4 = false ∧ (ScalarPlace.dva 2).aligned 4 = false := by decide +kernel
theorem witness_scalar_blocked : (vec.setCore 0 { vecCore with scb := [⟨.dma, 1, wharfRange 0 64 true⟩] }).scalarBlocked 0 ((ScalarPlace.wharf 0).ranges 4 false) = true := by
  decide +kernel
theorem witness_ldu : let s := vec.setCore 0 { vecCore with sregs := [(2, 0x40)] }
    s.coreCtx 0 = some 1 ∧ (s.core 0).iq = [] ∧ (s.sreg 0 2 + 2 ^ 32 * (s.sreg 0 3 % 2 ^ 16)) % 4 = 0 ∧ s.scalarBlocked 0 (dvaRange 0x40 4 false) = false ∧
    (s.core 0).port = [] ∧ s.placed 0 1 0x40 4 .read = some (2, 0x400040) ∧
    ((vec.setCore 0 { vecCore with sregs := [(2, 0x41)] }).sreg 0 2) % 4 ≠ 0 := by decide +kernel

/-- Core 0 about to fetch a word. -/
def fetches (w : Nat) : State := { vec with mem := vec.mem.writeBytes 2 0x401000 (toBytes 4 w) }
theorem witness_scalar_fetch : ∀ w ∈ [0x00500113, 0x00310133, 0x40310133, 0x00317133, 0x00316133, 0x00314133, 0x02310133, 0x123450B7, 0x00208463, 0x00209463, 0x0000006F, 0x73],
    (fetches w).scalarRuns 0 = true ∧ (fetches w).coreCtx 0 = some 1 ∧ ((fetches w).core 0).iq = [] ∧ ((fetches w).core 0).port = [] ∧
    (fetches w).placed 0 1 ((fetches w).core 0).pc.toNat 4 .fetch = some (2, 0x401000) ∧ ofBytes ((fetches w).mem.readBytes 2 0x401000 4) = w := by decide +kernel
theorem witness_fences : vec.scalarRuns 0 = true ∧ vec.coreCtx 0 = some 1 ∧ ∀ scope : BitVec 2, vecCore.relReady scope = true ∧ vecCore.acqReady = true := by
  decide +kernel
theorem witness_fence_waits : let k : Core := { vecCore with scb := [⟨.dma, 1, dvaRange 0 64 false⟩], port := [(0x400040, [1])] }
    k.relReady 1 = false ∧ k.acqReady = false ∧ k.port = [(0x400040, [1])] ∧ (vec.setCore 0 k).scalarRuns 0 = true := by decide +kernel
theorem witness_sync_cnt : let s := vec.setCore 0 { vecCore with sregs := [(2, 3), (4, 255)] }
    s.isResetting ⟨.syc, 0⟩ = false ∧ s.sreg 0 2 < 255 ∧ 255 ≤ s.sreg 0 4 ∧ 0 ≤ (((s.cluster 0).cnt 3).value - (s.core 0).sreg 5).toInt ∧
    (((s.cluster 0).cnt 3).value - (s.core 0).sreg 2).toInt < 0 ∧ (s.core 0).acqReady = true := by decide +kernel
theorem witness_syw_end : let k : Core := { vecCore with wait := .syw 3 0 1 }
    let s := vec.setCore 0 k
    k.wait = .syw 3 0 1 ∧ s.coreCtx 0 = some 1 ∧ s.diesOn = true ∧ k.kernel.isSome = true ∧ 0 ≤ (((s.cluster 0).cnt 3).value - (0 : Word)).toInt ∧
    (((s.cluster 0).cnt 3).value - (1 : Word)).toInt < 0 := by decide +kernel

/-! ### Attention, merge unit and coach yard -/

/-- An attention job of no coaches, one head of 64, BF16 pairs, FP32 records to the wharf at 0x8000 (R176). -/
def job (op count : Nat) : Nat := pack [op + 2 ^ 2 + 2 ^ 6 + 2 ^ 10, 0, 0x8000, 0x9000, count]

/-- A core of context 1, whose step declares pair 0x11. -/
def attends (k : Core) : State := { granted with
  cores := [(0, k)]
  ctxs := Tbl.put granted.ctxs 1 { granted.ctx 1 with step := some { step1 with pairs := 0x11 } } }

theorem witness_atq : ∀ op ∈ [0, 1], let s := attends { vecCore with wharf := bytesAt 64 64 (job op 0) }
    (atqRow op 0 2).isSome = true ∧ s.scalarRuns 0 = true ∧ s.coreCtx 0 = some 1 ∧ s.isResetting ⟨.atp, 0⟩ = false ∧
    s.readDesc 0 (s.sreg 0 2) 64 64 = some (job op 0) ∧ atOp (job op 0) = op ∧ atRefusal (job op 0) 0 (s.pairDeclared 1 (atPair (job op 0))) = none ∧
    (s.core 0).jobs.length < 8 ∧ (s.core 0).mxq.length < 16 ∧ (s.core 0).scbFull = false := by decide +kernel
theorem witness_atq_full : let j : AtJob := ⟨BitVec.ofNat 512 (job 0 0), 1⟩
    8 ≤ ({ vecCore with jobs := List.replicate 8 j } : Core).jobs.length := by decide +kernel
theorem witness_atq_refused : atRefusal (job 0 0) 0 false = some 0x11 ∧
    262144 < atHeads (pack [1 + 2 ^ 2 + 2 ^ 6 + 16 * 2 ^ 10 + 2 * 2 ^ 15]) * 32 * atHdim (pack [1 + 2 ^ 2 + 2 ^ 6 + 16 * 2 ^ 10 + 2 * 2 ^ 15]) * 4 := by decide +kernel

/-- The core with a queued job; its list names handle 5, which no coach has. -/
def jobCore (op count : Nat) : Core := { vecCore with jobs := [⟨BitVec.ofNat 512 (job op count), 1⟩], wharf := bytesAt 0x9000 4 5 }
theorem witness_atp_start : (jobCore 0 0).jobs = ⟨BitVec.ofNat 512 (job 0 0), 1⟩ :: [] ∧ (attends (jobCore 0 0)).coreCtx 0 = some 1 ∧
    (attends (jobCore 0 0)).diesOn = true ∧ (jobCore 0 0).atStartable ⟨BitVec.ofNat 512 (job 0 0), 1⟩ = true ∧ atCount (job 0 0) = 0 ∧
    ((attends (jobCore 0 1)).atResolve 1 (job 0 1) [5]).toBool = false := by decide +kernel
theorem witness_atp_coaches : (attends (jobCore 0 0)).atResolve 1 (job 0 0) [] = .ok [] ∧
    ((attends (jobCore 0 0)).atCoaches 0 1 (job 0 0) [] []).2 = .ok [] := ⟨rfl, rfl⟩

/-- A job that has started. -/
def atRun (raw : Nat) : AtRun := { job := ⟨BitVec.ofNat 512 raw, 1⟩, recs := [⟨0, 0, List.replicate 64 0⟩], scores := [(5, 3)] }
theorem witness_atp_end : let k : Core := { vecCore with job := some (atRun (job 0 0)) }
    k.job = some (atRun (job 0 0)) ∧ (attends k).coreCtx 0 = some 1 ∧ atDest (job 0 0) = 0 ∧ atBf (job 0 0) = false ∧
    atDest (job 0 0 + 2 ^ 20) = 2 ∧ atBf (job 0 0 + 2 ^ 20) = false := by decide +kernel

/-- A contribution of lane 0 with EXPECT as given, to be merged in slot 0 for core 0. -/
def given (expect : Nat) : Contribution := ⟨0, BitVec.ofNat 512 (job 0 0 + 2 ^ 20 + 2 ^ 256 * (expect * 16)), 1, [⟨0, 0, List.replicate 64 0⟩]⟩
/-- Cluster 0 with that contribution on its way. -/
def merging (expect : Nat) : Cluster := { granted := some 1, inbox := [given expect] }
theorem witness_merge : (merging 1).inbox = given 1 :: [] ∧ (merging 1).granted = some 1 ∧ granted.isResetting ⟨.mrg, 0⟩ = false ∧
    (merging 2).mergeRefusal (given 2) = some 0x11 ∧ (merging 3).mergeRefusal (given 3) = none ∧ ((merging 3).mergeStored (given 3)).complete = false ∧
    (merging 1).mergeRefusal (given 1) = none ∧ ((merging 1).mergeStored (given 1)).complete = true ∧
    Tbl.get (merging 1).roots (atSlot (given 1).raw.toNat) none = none := by decide +kernel
theorem witness_merge_deliver : let m : MergeSlot := ⟨(given 1).raw, [given 1]⟩
    let c : Cluster := { granted := some 1, roots := [(0, some m)] }
    Tbl.get c.roots 0 none = some m ∧ c.granted = some 1 ∧ expectLanes m.raw.toNat = [(given 1).lane.val] ∧ m.got = [given 1] ∧
    atTarget m.raw.toNat = 0 ∧ atNorm m.raw.toNat = false ∧ atBf m.raw.toNat = false := by decide +kernel

/-- A yard command of an OP for berth 0, BF16 of 64, result at 0x100 (R192). -/
def yardRaw (op arg : Nat) : Nat := pack [op, 0, 0, arg, 1, 0, 0, 0x100]

/-- Context 1 owns 4 berths from 0, with frames of 16 KiB, and berth 0 is open or not. -/
def yarded (k : Core) (y : Yard) : State :=
  ((attends k).setFld .vcyd 1 Off.cydCtxBerths 16 15 4).setFld .vcyd 1 Off.cydCtxFrame 0 3 2 |> fun s => { s with yard := y }

theorem witness_cyq : ∀ op ∈ [1, 2, 3, 4, 5, 6, 7, 8, 9], let s := yarded { vecCore with wharf := bytesAt 64 32 (yardRaw op 0) } {}
    let c : YardCmd := ⟨BitVec.ofNat 256 (yardRaw op 0), s.rd .vcyd 1 Off.cydCmdSeq + 1, 1, .core 0⟩
    (cyqRow op 0 2).isSome = true ∧ s.scalarRuns 0 = true ∧ s.readDesc 0 (s.sreg 0 2) 32 32 = some (yardRaw op 0) ∧ c.op = op ∧
    s.isResetting ⟨.cyd, c.slice⟩ = false ∧ c.malformed = false ∧ s.yard.queued 0 < 8 ∧ (s.core 0).scbFull = false := by decide +kernel
theorem witness_cyq_full : let c : YardCmd := ⟨0, 0, 1, .core 0⟩
    8 ≤ ({ slices := [(0, List.replicate 8 c)] } : Yard).queued 0 ∧ ({ c with raw := 2 ^ 6 + 1 } : YardCmd).malformed = true := by decide +kernel

/-- A queued command of the slice of berth 0. -/
def yardCmd (op : Nat) (arg : Nat := 0) : YardCmd := ⟨BitVec.ofNat 256 (yardRaw op arg), 1, 1, .core 0⟩
/-- An open berth of one layer and one group with one coach. -/
def openBerth : YardBerth := { openW := true, ctx := 1, layers := 1, groups := 1, chainW := [(0, [7])] }
/-- Coach 7 of that berth. -/
def coach7 : Coach := { st := .live, ctx := 1, fmt := 1, refs := 1 }

theorem witness_yard_open : let s := yarded vecCore { slices := [(0, [yardCmd 1])] }
    let u := yarded vecCore { slices := [(0, [yardCmd 1])], berths := [(0, openBerth)] }
    s.yard.slice 0 = yardCmd 1 :: [] ∧ (yardCmd 1).issuer = .core 0 ∧ (yardCmd 1).op = 1 ∧ s.ownsBerth 1 0 = true ∧ (yardCmd 1).res + 8 ≤ 2 ^ 21 ∧
    (s.yard.berth 0).openW = false ∧ keyFormat ((yardCmd 1).fld 4 0 4) = true ∧ coachBytes ((yardCmd 1).fld 4 0 4) ((yardCmd 1).fld 4 4 2) ≤ s.frameSize 1 ∧
    (s.ctx 1).journal.changes ≤ 262144 ∧ (u.yard.berth 0).openW = true := by decide +kernel
theorem witness_yard_append : let s := (yarded vecCore { slices := [(0, [yardCmd 2])], berths := [(0, openBerth)], coaches := [(7, coach7)] }).wr .vcyd 1 Off.cydCtxQuota 100
    let c := yardCmd 2
    c.op = 2 ∧ c.alll = false ∧ c.allg = false ∧ c.inBerth openBerth = true ∧ c.res + 12 ≤ 2 ^ 21 ∧ s.yardStatus c openBerth (s.planAppend c openBerth) 0 = 0 := by
  decide +kernel
theorem witness_yard_release : let s := yarded vecCore { slices := [(0, [yardCmd 5])], berths := [(0, openBerth)], coaches := [(7, coach7)] }
    (yardCmd 5).op = 5 ∧ s.ownsBerth 1 0 = true ∧ s.yardStatus (yardCmd 5) openBerth (s.planRelease (yardCmd 5) openBerth) 0 = 0 := by decide +kernel
theorem witness_yard_info : (yardCmd 8 7).op = 8 ∧ ({ coaches := [(7, coach7)] } : Yard).named 1 (yardCmd 8 7).arg = some (7, coach7) ∧ (yardCmd 8 7).res + 40 ≤ 2 ^ 21 := by
  decide +kernel
theorem witness_yard_foreign : (attends vecCore).ownsBerth 1 0 = false ∧ (yardCmd 2).op ≠ 6 ∧ (yardCmd 2).op ≠ 8 := by decide +kernel
theorem witness_score : let y : Yard := { scoreQ := [(1, 7, 3)], coaches := [(7, coach7)] }
    y.scoreQ = (1, 7, 3) :: [] ∧ y.named 1 (7 : Word).toNat = some (7, coach7) ∧ coach7.st = .live := by decide +kernel

/-! ### DMA -/

/-- A DMA descriptor of each OP (R226): a copy from wharf 0x1000 to wharf 0x2000, a fill of memory at 0x40, a coach write, an add at 0x40, a remote write. -/
def dma (op : Nat) : Nat := pack (match op with
  | 1 => [0x31, 0x1000, 0, 0x2000, 0, 64, 1, 64, 128]
  | 2 => [2, 0x55, 0, 0x40, 0, 64]
  | 3 => [0x13, 0x1000, 0, 0, 0, 0, 0, 0, 0, 0, 7, 64]
  | 4 => [0x814, 0x1000, 0, 0x40, 0, 4]
  | n => [n + 0x10, 0x1000, 0, 0x40, 0, 64])
/-- SYNC = none for those that need not increment. -/
def noSync : Nat := 255 * 2 ^ 16

theorem witness_dmq : ∀ op ∈ [1, 2, 3, 4, 5], let s := vec.setCore 0 { vecCore with wharf := bytesAt 64 64 (dma op + noSync) }
    (dmqRow op 0 2).isSome = true ∧ s.scalarRuns 0 = true ∧ s.coreCtx 0 = some 1 ∧ s.isResetting ⟨.dma, 0⟩ = false ∧
    s.readDesc 0 (s.sreg 0 2) 64 64 = some (dma op + noSync) ∧ dmOp (dma op + noSync) = op ∧ dmBad (dma op + noSync) = false ∧ (s.core 0).dmq.length < 16 ∧
    (s.core 0).scbFull = false := by decide +kernel
theorem witness_dmq_other : 16 ≤ (List.replicate 16 (⟨0, 0⟩ : DmaCmd)).length ∧ dmBad 1 = true := by decide +kernel
theorem witness_dma_start : let raw := dma 1
    let k : Core := { vecCore with dmq := [⟨BitVec.ofNat 512 raw, 1⟩] }
    let s := vec.setCore 0 k
    k.dmq = ⟨BitVec.ofNat 512 raw, 1⟩ :: [] ∧ s.coreCtx 0 = some 1 ∧ s.diesOn = true ∧ k.scbBlocked .dma 1 = false ∧ k.dmaRun.length < 4 ∧ dmRemote raw = false ∧
    dmSrcW raw = true ∧ dmDstW raw = true ∧ dmSkew raw = false ∧ dmConv raw = 0 ∧ k.port = [] ∧ dmRows raw = 2 ∧ dmRowBytes raw = 64 ∧
    dmDstW (dma 2) = false ∧ dmSkew (dma 2) = false ∧ dmConv (dma 2) = 0 ∧ dmRemote (dma 2) = false := by decide +kernel

/-- A command in flight. -/
def dmaRun (raw : Nat) : DmaRun := { cmd := ⟨BitVec.ofNat 512 raw, 1⟩, toWharf := [], toDva := [], atoms := [], unacked := [] }
theorem witness_dma_end : let r := dmaRun (dma 1)
    let k : Core := { vecCore with dmaRun := [{ r with toWharf := [(0, 0x2000, [1, 2])] }] }
    k.dmaRun[(0 : Fin 4).val]? = some { r with toWharf := [(0, 0x2000, [1, 2])] } ∧ dmRemote (dma 1) = false ∧ r.toDva = [] ∧
    vec.placed 0 1 0x40 2 .write = some (2, 0x400040) ∧ dmAop (dma 4) = 1 ∧ dmRet (dma 4) = false ∧ vec.placed 0 1 0x40 4 .read = some (2, 0x400040) ∧
    vec.placed 0 1 0x40 4 .write = some (2, 0x400040) ∧ r.unacked = [] ∧ ({ r with unacked := [3] } : DmaRun).unacked ≠ [] := by decide +kernel
theorem witness_dma_coach : ({ coaches := [(7, coach7)], berths := [(0, openBerth)] } : Yard).writable 1 (dmHandle (dma 3)) (dmFirst (dma 3)) (dmN (dma 3)) =
    .ok (7, coach7) ∧ (∃ u, vec.dmWrite 0 1 [] = (u, .ok ())) ∧ ({} : Yard).writable 1 7 0 1 = .error 0x12 := by
  exact ⟨rfl, ⟨_, rfl⟩, rfl⟩

/-! ### Fabric: barges to and from the other member of a flight of two -/

/-- The plan of FLIGHT 5: two members, this one is member 0, and its link 0 of port 0 leads to member 1 (R294). -/
def plan2 : List Byte :=
  toBytes 4 (5 * 2 ^ 16 + 1) ++ toBytes 4 (2 ^ 16 + 2) ++ List.replicate 88 0 ++ toBytes 4 (2 ^ 23 + 1) ++ List.replicate 146 0 ++ toBytes 2 0x100 ++ List.replicate 56 0

/-- A part with that plan ARMED in slot 0, bound to context 1, with FLIGHT port 0 of link 0, which is up. -/
def linked (k : Core) (f : Fce := {}) : State :=
  let s := { attends k with links := [(0, { st := .up })], fce := { f with plans := [(0, { st := .armed, plan := plan2 })] } }
  ((s.setFld .lpt 0 Off.lptCfg 0 2 1).setFld .lpt 0 Off.lptLinks 0 1 1).setFld .fce 0 Off.fceCtxPlan 5 1 1 1

/-- A header of FLIGHT 5 from member 1 to member 0 at a tick with a payload of `n` bytes (R289). -/
def hdrOf (kind n : Nat) (step : Nat := 5) (more : List (Nat × Nat × Nat) := []) : BitVec 256 :=
  BitVec.ofNat 256 (packFields ([(0, 4, 1), (4, 4, kind), (8, 1, 1), (32, 16, 5), (64, 12, 1), (96, 48, step), (192, 21, n)] ++ more))

/-- A remote write to member 1 with one barge to acknowledge. -/
def rwrite : DmaRun := { dmaRun (5 + 2 ^ 448) with unacked := [7] }
theorem witness_rwack : let s := linked { vecCore with dmaRun := [rwrite] }
    s.delivers 5 0 ⟨hdrOf 5 4, toBytes 4 7⟩ 0 1 = true ∧ s.rwWaiting 1 1 (ofBytes (toBytes 4 7)) = some (0, rwrite) ∧
    (⟨hdrOf 5 4, toBytes 4 7⟩ : Barge).fld 0 11 1 = 0 ∧ s.delivers 5 0 ⟨hdrOf 5 4 5 [(11, 1, 1)], toBytes 4 7⟩ 0 1 = true ∧
    (⟨hdrOf 5 4 5 [(11, 1, 1)], toBytes 4 7⟩ : Barge).fld 0 11 1 = 1 := by decide +kernel

/-! ### Routing engine -/

/-- A routing job of `rows` rows over 4 experts, its table at 0x1000 (R265). -/
def routing (rows : Nat) : Nat := pack [0, 4, rows + 2 ^ 16, 3 * 2 ^ 8 + 4 * 2 ^ 16, 1, 0, 0, 0, 0, 0x1000, 0, 0, 0, 1]

/-- Core 0 with a routing job at 64 of its wharf, its context with 4 experts a layer, one layer and slots of 1 KiB (R261, R262). -/
def routes (r : Rte) (jobs : Nat := 0) (f : Fce := {}) : State :=
  let s := linked { vecCore with wharf := bytesAt 64 64 (routing jobs) } f
  let s := (((s.setFld .rte 0 Off.rteCtxLayout 0 13 4 1).setFld .rte 0 Off.rteCtxLayout 16 11 1 1).setFld .rte 0 Off.rteCtxCacheCfg 0 5 10 1).setFld .rte 0 Off.rteCtxCacheCfg 8 13 1 1
  { s with rte := r }

theorem witness_rtq : let s := routes {}
    s.scalarRuns 0 = true ∧ s.coreCtx 0 = some 1 ∧ s.waitsVec 0 [2] = false ∧ s.isResetting ⟨.rte, 0⟩ = false ∧ (s.core 0).relReady 1 = true ∧
    s.readDesc 0 (s.sreg 0 2) 64 64 = some (routing 0) ∧ s.isCondemned 1 = false ∧ s.rte.jobs.length < 64 := by decide +kernel
/-- A queued job. -/
def rtJob (rows : Nat) : RteJob := ⟨BitVec.ofNat 512 (routing rows), 1, 0, 1⟩
theorem witness_rtq_full : let s := routes { jobs := List.replicate 4 (rtJob 0) }
    4 ≤ (s.rte.jobs.filter fun j => j.core == 0).length ∧ s.scalarRuns 0 = true ∧ (s.core 0).relReady 1 = true := by decide +kernel
theorem witness_select : let s := routes { jobs := [rtJob 0] }
    s.rte.jobs = rtJob 0 :: [] ∧ s.diesOn = true ∧ s.rtBad 1 (rtJob 0).raw.toNat = false ∧ rtRows (rtJob 0).raw.toNat = 0 ∧
    s.placed 517 1 (rtDispatch (rtJob 0).raw.toNat) 64 .write = some (2, 0x401000) ∧ (s.grantList 1)[0]? = some 0 ∧ s.rtBad 1 0 = true := by decide +kernel
theorem witness_cap : ∀ e, ({ dir := [], slots := [] } : RtSel).load e ≤ 1 := fun _ => Nat.zero_le _

theorem witness_fetch_req : let s := routes {}
    s.isResetting ⟨.rte, 0⟩ = false ∧ s.delivers 2 0 ⟨hdrOf 2 0, []⟩ 0 1 = true ∧ s.stepTick 1 ≤ (⟨hdrOf 2 0, []⟩ : Barge).step ∧
    s.delivers 2 0 ⟨hdrOf 2 4, toBytes 4 1⟩ 0 1 = true ∧ s.fld .rte 0 Off.rteCtxLayout 16 11 1 ≤ bitsAt 1 0 10 := by decide +kernel

/-- A fetch of expert 2 from member 1. -/
def fetch1 (arrived : Bool) : RteFetch :=
  { ctx := 1, member := 1, layer := 0, expert := 2, slot := 0, exch := 0, bytes := 64, tick := 5, waiters := [], arrived := arrived }
theorem witness_weight : let s := routes { fetches := [fetch1 false] }
    let b : Barge := ⟨hdrOf 3 64, List.replicate 64 9⟩
    let r : Barge := ⟨hdrOf 3 0 5 [(10, 1, 1)], []⟩
    s.delivers 3 0 b 0 1 = true ∧ s.slotOf 1 = some 0 ∧ s.rte.weights = [] ∧ (fetch1 false).member = b.src ∧ (fetch1 false).exch = b.coll ∧
    (fetch1 false).tick = b.step ∧ b.fld 0 10 1 = 0 ∧ s.placed 517 1 (s.rtSlotDva 1 0) 64 .write = some (2, 0x400000) ∧
    s.delivers 3 0 r 0 1 = true ∧ r.fld 0 10 1 = 1 := by decide +kernel
theorem witness_landed : let s := routes { fetches := [fetch1 true] }
    s.diesOn = true ∧ s.rte.fetches[0]? = some (fetch1 true) ∧ (fetch1 true).waiters = [] ∧ (fetch1 false).arrived = false := by decide +kernel

/-! ### Collectives -/

/-- A collective over both members, 8 bytes to the wharf at 0x100, counter 3 (R300). -/
def collDesc (op : Nat) : Nat := pack [op + 3 * 2 ^ 4, 0, 2 * 2 ^ 12, 0, 8, 0x100, 3]

/-- Its table in device memory and a contribution record for it. -/
def collects (record : Nat) (f : Fce := {}) : State :=
  let s := linked { vecCore with wharf := bytesAt 64 16 record } f
  { s with mem := s.mem.writeBytes 2 0x400000 (toBytes 64 (collDesc 0)) }

theorem witness_fcq : let s := collects (pack [0, 0x40])
    s.scalarRuns 0 = true ∧ s.coreCtx 0 = some 1 ∧ s.waitsVec 0 [2] = false ∧ s.isResetting ⟨.fce, 0⟩ = false ∧
    s.readDesc 0 (s.sreg 0 2) 16 16 = some (pack [0, 0x40]) ∧ s.slotOf 1 = some 0 ∧ Tbl.get (s.ctx 1).insts 0 0 < 256 ∧ (s.core 0).relReady 1 = true ∧
    (s.core 0).port = [] ∧ 0 < 2 ^ s.fld .fce 0 Off.fceCtxCtabLog2 0 5 1 ∧
    s.placed 517 1 (s.rd64 .fce 0 Off.fceCtxCtabLo 1 / 64 * 64 % 2 ^ 48 + 0 * 64) 64 .read = some (2, 0x400000) ∧
    ofBytes (s.mem.readBytes 2 0x400000 64) = collDesc 0 ∧ clOk (collDesc 0) (planN (s.plan 0).plan) (planSelf (s.plan 0).plan) = true ∧
    clOp (collDesc 0) < 4 ∧ clCluster (collDesc 0) < (s.grantList 1).length ∧ 0x40 + clBytes (collDesc 0) ≤ 2 ^ 21 ∧ s.findInst 1 0 0 (s.collTick 1) = none := by
  decide +kernel
theorem witness_fcq_bad : let s := collects (pack [2 ^ 17, 0])
    s.readDesc 0 (s.sreg 0 2) 16 16 = some (pack [2 ^ 17, 0]) ∧ descFld (pack [2 ^ 17, 0]) 0 17 15 ≠ 0 := by decide +kernel
theorem witness_coll_barge : ∀ kind < 2, (linked vecCore).delivers kind 0 ⟨hdrOf kind 8, List.replicate 8 1⟩ 0 1 = true ∧
    (linked vecCore).collTick 1 ≤ (⟨hdrOf kind 8, List.replicate 8 1⟩ : Barge).step ∧
    (linked vecCore).delivers kind 0 ⟨hdrOf kind 8 4, List.replicate 8 1⟩ 0 1 = true ∧
    (⟨hdrOf kind 8 4, List.replicate 8 1⟩ : Barge).step < (linked vecCore).collTick 1 := by decide +kernel

/-- An instance of it with both contributions. -/
def inst1 (op : Nat) : CollInst :=
  { ctx := 1, coll := 0, inst := 0, tick := 5, desc := some (BitVec.ofNat 512 (collDesc op)), own := some (toBytes 4 0x7FFFFFFF ++ toBytes 4 5),
    got := [(1, 0, 0, toBytes 4 1 ++ toBytes 4 6)], leaves := [], unacked := [] }
theorem witness_coll_complete : let s := linked vecCore { insts := [inst1 0] }
    s.fce.insts[0]? = some (inst1 0) ∧ (inst1 0).desc = some (BitVec.ofNat 512 (collDesc 0)) ∧ s.slotOf 1 = some 0 ∧ s.diesOn = true ∧
    (inst1 0).tick = s.collTick 1 ∧ clOp (collDesc 0) < 5 ∧ clToDva (collDesc 0) = false ∧
    ((inst1 0).output (s.flush32 1) (collDesc 0) (planSelf (s.plan 0).plan - clFirst (collDesc 0))).map (·.1) = some (toBytes 4 0x7FFFFFFF ++ toBytes 4 11) := by
  decide +kernel
theorem witness_reduce : ∀ op < 2, clAlgoFld (collDesc op) = 0 ∧ clCount (collDesc op) = 2 ∧ clBytes (collDesc op) = 8 ∧ clOp (collDesc op) = op ∧
    clType (collDesc op) = 3 ∧ clRed (collDesc op) = 0 ∧ (inst1 op).msg (collDesc op) ⟨1, 0, 8⟩ = some (toBytes 4 1 ++ toBytes 4 6) := by decide +kernel

/-! ### Barges between members -/

theorem witness_rwrite : let b : Barge := ⟨hdrOf 4 12, toBytes 8 0x40 ++ [1, 2, 3, 4]⟩
    (linked vecCore).delivers 4 0 b 0 1 = true ∧ (linked vecCore).slotMuted 0 = false ∧
    (linked vecCore).placed 517 1 (bitsAt (ofBytes (b.payload.take 8)) 0 48) (b.payload.length - 8) .write = some (2, 0x400040) := by decide +kernel
theorem witness_notices : (linked vecCore).accepts 6 0 ⟨hdrOf 6 0, []⟩ 0 = true ∧ (linked vecCore).lkp.now ≤ (⟨hdrOf 6 0, []⟩ : Barge).step ∧
    (linked vecCore).accepts 6 0 ⟨hdrOf 6 0 4, []⟩ 0 = true ∧ (⟨hdrOf 6 0 4, []⟩ : Barge).step < (linked vecCore).lkp.now ∧
    (linked vecCore).accepts 7 0 ⟨hdrOf 7 8, List.replicate 8 0⟩ 0 = true := by decide +kernel

/-- A barge of member 0 to member 1 that has been sent on link 0. -/
def sentBarge (retries : Nat) : TxBarge := ⟨({ kind := 0, dst := 1, step := 5, payload := [1, 2] } : BargeSpec).build plan2 0, 0, some 0, retries⟩
theorem witness_ack : let s := linked vecCore { retx := [sentBarge 0] }
    let b := (sentBarge 0).barge
    let p := ackEntry (0, b.flight, b.src, b.dst, b.seq)
    s.accepts 8 0 ⟨hdrOf 8 12, p⟩ 0 = true ∧ s.fce.retx = [sentBarge 0] ∧ (sentBarge 0).link.isSome = true ∧ s.portOf 0 = some (sentBarge 0).port := by
  decide +kernel
theorem witness_ack_tx : let s := linked vecCore { acks := [(0, 5, 1, 0, 0)] }
    (s.link 0).st = .up ∧ (0, 5, 1, 0, 0) ∈ s.fce.acks ∧ (s.portOf 0).isSome = true ∧ (s.armedSlot 5).isSome = true := by decide +kernel
theorem witness_ack_timeout : let s := linked vecCore { retx := [sentBarge 0] }
    let u := linked vecCore { retx := [sentBarge 15] }
    (0 : Nat) < s.fld .fce 0 Off.fceCfg 8 4 ∧ s.linksFor (sentBarge 0).barge 0 = [0] ∧ u.fld .fce 0 Off.fceCfg 8 4 ≤ 15 ∧
    (sentBarge 15).barge.notice = false ∧ u.flightSlot (sentBarge 15).barge.flight = some 0 := by decide +kernel
theorem witness_ack_resend : (sentBarge 0).barge.linkOf [0] = some 0 := by simp [Barge.linkOf, Nat.mod_one]

/-! ### Links, ports and plans -/

/-- The part with link 0 in a state, of a port of a role. -/
def cabled (st : LinkState) (role : Nat) : State := ({ linked vecCore with links := [(0, { st := st })] } : State).setFld .lpt 0 Off.lptCfg 0 2 role

theorem witness_links : (cabled .up 1).rst.inReset = false ∧ ((cabled .up 1).link 0).st = .up ∧ (cabled .up 2).isFront 0 = true ∧ ((cabled .down 1).link 0).st = .down ∧
    (cabled .down 1).hwd.fatal = false ∧ ((cabled .verifying 1).link 0).st = .verifying := by decide +kernel
theorem witness_arp : let s := (((linked vecCore).wr .lpt 0 Off.lptIp 0x0A000001).setFld .lpt 0 Off.lptCfg 2 1 0)
    s.role 0 ≠ 0 ∧ s.hasUp 0 = true ∧ s.fld .lpt 0 Off.lptCfg 2 1 = b2n false ∧ (s.rd64 .lpt 0 Off.lptIp + s.rd64 .lpt 0 (Off.lptIp + 8) * 2 ^ 64) % 2 ^ 32 = 0x0A000001 := by
  decide +kernel
theorem witness_pfc : (cabled .up 2).portOf 0 = some 0 ∧ (cabled .up 2).role 0 = 2 ∧ ((cabled .up 2).link 0).st = .up ∧
    (3 : BitVec 3).toNat = ((cabled .up 2).setFld .lpt 0 Off.lptCfg 5 3 3).fld .lpt 0 Off.lptCfg 5 3 ∧ ((cabled .up 2).port 0).txq = [] ∧ (cabled .up 1).role 0 ≠ 2 := by
  decide +kernel
theorem witness_ptp : (cabled .up 1).ptpOn 0 = true ∧ ((cabled .up 2).setFld .fce 0 Off.fceCfg 25 1 1).ptpOn 0 = true ∧ (cabled .up 2).role 0 = 2 ∧
    ((⟨BitVec.ofNat 8 ((cabled .up 2).fld .fce 0 Off.fceCfg 12 8), 0⟩ : PtpMsg).domain.toNat = (cabled .up 2).fld .fce 0 Off.fceCfg 12 8) ∧
    (cabled .up 1).slavePort = none := by decide +kernel

/-- The part with slot 0 in a state. -/
def slot0 (p : PlanSlot) (bound : Nat := 0) : State := ({ linked vecCore with fce := { plans := [(0, p)] } } : State).setFld .fce 0 Off.fceCtxPlan 5 1 bound 1
theorem witness_plan : (slot0 {}).reachesBlock .pf = true ∧ (slot0 {}).isResetting ⟨.fce, 0⟩ = false ∧ (slot0 {}).planSel = 0 ∧ ((slot0 {}).plan 0).st = .empty ∧
    ((slot0 { st := .loaded }).plan 0).st = .loaded ∧ ((slot0 { st := .armed }).plan 0).st = .armed ∧ (slot0 {}).boundCtx 0 = none ∧ (slot0 {} 1).boundCtx 0 = some 1 ∧
    ((slot0 { loading := true }).plan 0).loading = true ∧ (15 : Word).getLsbD 3 = true := by decide +kernel

/-- A plan of one member that passes the checks: the tick's period and guard time as they are after reset, and the SHA-256 hash of its own common part (R294, R295). -/
def plan1 : List Byte :=
  toBytes 4 (5 * 2 ^ 16 + 1) ++ toBytes 4 1 ++ toBytes 4 100000 ++ toBytes 4 1000 ++ List.replicate 16 0 ++
    toBytes 32 8715053187961368351682333850651148544163980777513308770304401394437436595222 ++ List.replicate 152 0

/-- Slot 1 loads the plan of `b` from address 0x8000 of context 0. -/
def loads (b : List Byte) : State :=
  let s := ({ up with mem := { up.mem with cells := b.zipIdx.map fun c => (0x8000 + c.2, c.1), tags := (List.range 8).map fun l => (0x200 + l, 1) } } : State).wr .fce 0 Off.fcePlanAddrLo 0x8000 1
  s.modPlan 1 fun p => { p with loading := true }
theorem witness_plan_read : ∀ b ∈ [plan1, plan2], let s := loads b
    let r := s.modPlan 1 fun p => { p with loading := false }
    (s.plan 1).loading = true ∧ s.rd64 .fce 0 Off.fcePlanAddrLo 1 = 0x8000 ∧ (match r.memRead 517 0 0x8000 64 with
      | (u, .ok h) => decide (0 < planN h ∧ planN h ≤ 4096 ∧ bitsAt (planWord h 0) 0 16 = 1) && (match u.memRead 517 0 0x8000 (planSize (planN h)) with
        | (w, .ok x) => x == b && ((w.planCheck 1 x == 0) == (planN x == 1))
        | _ => false)
      | _ => false) = true := by decide +kernel

/-! ### Serving engine and sampler -/

/-- The parameter block of a greedy request of at most 100 tokens (R316). -/
def params : List Byte := toBytes 32 (pack [2 ^ 11, 0, 0x3F800000, 0x3F800000, 0, 9, 100]) ++ List.replicate 96 0

/-- A frame of context 1 for request 9 with its tag (R313, R314): one token, 77, for OPEN and APPEND. -/
def frame (kind : Nat) (word5 : Nat := 0) (last : Bool := true) : List Byte :=
  let n := if kind = 3 then 0 else 1
  let body := toBytes 32 (pack [1 + kind * 2 ^ 4 + 2 ^ 8 + b2n last * 2 ^ 16, 9, 0, 0, n, word5]) ++ (if kind = 1 then params else []) ++
    toBytes (4 * n) 77
  body ++ tagOf 6 body

/-- Device memory with bytes of context 1 at rising addresses of its first page. -/
def filled (ps : List (Nat × List Byte)) : Mem :=
  { tables with
    cells := tables.cells ++ ps.flatMap fun p => p.2.zipIdx.map fun c => (0x400000 + p.1 + c.2, c.1)
    tags := tables.tags ++ ps.flatMap fun p => (List.range ((p.2.length + 63) / 64)).map fun l => ((0x400000 + p.1) / 64 + l, 2) }

/-- A berth of request 9 in a state, with its prompt. -/
def served (st : BerthState) : SrvBerth :=
  { st := st, ctx := 1, reqId := 9, params := BitVec.ofNat 1024 (ofBytes params), toks := [5, 6], prompt := 2, tokIdx := [0, 1] }

/-- Context 1 in SELF-MANIFEST mode with keys, 4 berths, a token buffer of 4,096 entries and buffers in its first page. -/
def serves (bs : Tbl SrvBerth) (ps : List (Nat × List Byte) := []) (b : Option Batch := none) : State :=
  let s := { ticking with
    mem := filled ps
    cores := [(0, { vecCore with wharf := bytesAt 64 16 (pack [2 ^ 15, 2, 0x1000]) ++ bytesAt 0x1000 8 (pack [0x3F800000, 0x40000000]) })]
    srv := { berths := bs }
    ctxs := [(0, { st := .active, key := some 1 }), (1, { st := .active, key := some 2, active := some keys, batch := b })] }
  [(Off.srvCtxTokLog2, 0, 5, 12), (Off.srvCtxTemplateLo, 0, 32, 0x1000), (Off.srvCtxBatchLo, 0, 32, 0x10000), (Off.srvCtxBatchLog2, 0, 5, 16),
    (Off.srvCtxInringLo, 0, 32, 0x8000), (Off.srvCtxLimits, 16, 16, 8)].foldl (fun s x => s.setFld .vsrv 1 x.1 x.2.1 x.2.2.1 x.2.2.2)
    ((s.setFld .vlkp 1 Off.lkpCtxRingCfg 4 2 2).setFld .vcyd 1 Off.cydCtxBerths 16 15 4)

theorem witness_open : let s := serves []
    let f := frame 1
    s.admits (.ring 1) f 1 = true ∧ (s.ctx 1).openMark.toNat < (frReq f).toNat ∧ frCtx f = 1 ∧ frSplit f = false ∧
    paramsOk (BitVec.ofNat 1024 (ofBytes ((f.drop 32).take 128))) = true ∧ (frToks f).length + 1 ≤ pMaxLen (BitVec.ofNat 1024 (ofBytes ((f.drop 32).take 128))) ∧
    frToks f ≠ [] ∧ s.freeBerth 1 = some 0 ∧ s.tokRoom 1 1 = true ∧ s.rst.inReset = false ∧ s.arrives (.ring 1) = true ∧ s.isResetting ⟨.srv, 0⟩ = false ∧
    s.isStopped = false ∧ frOk [] = false := by decide +kernel
theorem witness_replayed : (frReq (frame 1)).toNat ≤ (((serves []).modCtx 1 fun c => { c with openMark := 9 }).ctx 1).openMark.toNat := by decide +kernel
theorem witness_append : let s := serves [(0, served .prefill)]
    let f := frame 2 2
    s.admits (.ring 1) f 2 = true ∧ s.named 1 f = some (served .prefill) ∧ (served .prefill).promptDone = false ∧ fw f 5 = (served .prefill).prompt ∧
    (served .prefill).prompt + (frToks f).length + 1 ≤ pMaxLen (served .prefill).params ∧ s.tokRoom 1 (frToks f).length = true := by decide +kernel
theorem witness_cancel : (serves [(0, served .decode)]).admits (.ring 1) (frame 3) 3 = true ∧
    (serves [(0, served .decode)]).named 1 (frame 3) = some (served .decode) := by decide +kernel

/-- The intake ring's first entry, for a CANCEL at 0x9000 or not valid (R315). -/
def entry (valid : Bool) : List Byte := toBytes 16 (pack [b2n valid + 48 * 2 ^ 16, 0x9000])
theorem witness_intake : ∀ v, let s := serves [(0, served .decode)] [(0x8000, entry v), (0x9000, frame 3)]
    s.diesOn = true ∧ s.isResetting ⟨.srv, 0⟩ = false ∧ (s.ctx 1).outHeld = [] ∧ s.ringMode 1 = 2 ∧ s.isStopped = false ∧
    s.placed 517 1 (s.srvDva 1 Off.srvCtxInringLo + 16 * (s.ctx 1).inNext) 16 .read = some (2, 0x408000) ∧ bitAt (fw (s.mem.readBytes 2 0x408000 16) 0) 0 = v := by
  decide +kernel
theorem witness_intake_cancel : let s := serves [(0, served .decode)] [(0x8000, entry true), (0x9000, frame 3)]
    let e := s.mem.readBytes 2 0x408000 16
    bitAt (fw e 0) 0 = true ∧ fw e 3 = 0 ∧ bitsAt (fw e 0) 16 16 = 48 ∧ s.placed 517 1 0x8000 16 .write = some (2, 0x408000) ∧
    s.placed 517 1 ((fw e 1 + fw e 2 * 2 ^ 32) % 2 ^ 48) 48 .read = some (2, 0x409000) ∧ s.admits (.ring 1) (s.mem.readBytes 2 0x409000 48) 3 = true ∧
    s.named 1 (s.mem.readBytes 2 0x409000 48) = some (served .decode) := by decide +kernel

/-- A template whose bodies of 64 bytes lie at 0x2000, with an allowance of 8 prefill tokens (R319, R321). -/
def template : List Byte := toBytes 32 (pack [0x2000, 0, 64, 0, 0x2000, 0, 64, 8])
/-- The same with no berth, or one whose prompt is complete. -/
def builds (bs : Tbl SrvBerth) : State := serves bs [(0x1000, template), (0x2000, List.replicate 64 0)]
theorem witness_build : ∀ bs ∈ [[], [(0, { served .prefill with promptDone := true })]], let s := builds bs
    s.diesOn = true ∧ s.isStopped = false ∧ s.ringMode 1 = 2 ∧ s.ticking = true ∧ s.isCondemned 1 = false ∧ s.isResetting ⟨.srv, 0⟩ = false ∧ (s.ctx 1).owed = false ∧
    (s.ctx 1).nextBatch = none ∧ (s.ctx 1).step = none ∧ s.batchFor 1 false 8 = (if bs = [] then [] else [⟨0, true, true, true, 0, 2⟩]) ∧
    (match s.memRead 517 1 (s.srvDva 1 Off.srvCtxTemplateLo) 32 with
      | (_, .ok t) => t == template
      | _ => false) = true := by decide +kernel
theorem witness_build_body : let s := builds [(0, { served .prefill with promptDone := true })]
    (match s.memRead 517 1 0x2000 64 with
      | (s, .ok b) => (match s.memWrite 517 1 (s.srvDva 1 Off.srvCtxBatchLo + 6 % s.ringSlots 1 * 2 ^ 16) (b.take 4) with
        | (s, .ok _) => (match s.memWrite 517 1 (s.slotDva 1 (6 % s.ringSlots 1)) (b.take 4) with
          | (_, .ok _) => true
          | _ => false)
        | _ => false)
      | _ => false) = true := by decide +kernel

/-- A batch that samples berth 0. -/
def sampling : Batch := ⟨5, [⟨0, false, true, true, 1, 1⟩]⟩
theorem witness_spq : let s := serves [(0, served .decode)] [] (some sampling)
    s.scalarRuns 0 = true ∧ s.coreCtx 0 = some 1 ∧ s.waitsVec 0 [2] = false ∧ s.isResetting ⟨.smp, 0⟩ = false ∧ (s.core 0).relReady 1 = true ∧ s.isCondemned 1 = false ∧
    s.readDesc 0 (s.sreg 0 2) 16 16 = some (pack [2 ^ 15, 2, 0x1000]) ∧ (s.ctx 1).batch = some sampling ∧ (s.ctx 1).spqd.contains 0 = false ∧
    s.srv.smpQ = [] ∧ s.srv.freeUnit = some 0 ∧ ((serves []).ctx 1).batch = none := by decide +kernel
theorem witness_sample : let q : SampleReq := ⟨0, 1, [0x3F800000, 0x40000000, 0x40000000]⟩
    let r := served .decode
    r.st ≠ .free ∧ r.ctx = q.ctx ∧ (serves [(0, r)]).isCondemned q.ctx = false ∧ pGreedy r.params = true ∧ pWindow r.params = 0 ∧
    (∀ x ∈ q.logits.map (·.toNat), isNan32 x = false) ∧ (∃ x ∈ q.logits.map (·.toNat), x ≠ fninf) ∧
    Tbl.get ({ units := [(0, some q)] } : Srv).units 0 none = some q := by decide +kernel

/-! ### Security and debug -/

/-- The part with context `k` selected in `SEC_CTX_SEL`. -/
def selects (k : Nat) (s : State := up) : State := s.setFld .sec 0 Off.secCtxSel 0 8 k

theorem witness_activate : (selects 2).reachesBlock .pf = true ∧ (selects 2).secSel = 2 ∧ ((selects 2).ctx 2).st = .inactive ∧ (selects 2).rst.ready = true ∧
    (selects 2).inField = false ∧ (selects 2).sec.rngOk = true ∧ ((selects 1).ctx 1).st ≠ .inactive ∧ (selects 1).secSel ≠ 0 ∧ (selects 1).ringMode 1 = 0 ∧
    (selects 1).grantOf 1 = 0 ∧ (selects 1).spilling 1 = false ∧ (selects 1).isStopped = false ∧ (selects 0).secSel = 0 := by decide +kernel
theorem witness_sec_writes : up.powered ⟨.mem, 0⟩ = true ∧ (0x107 : Word).getLsbD 8 = true ∧ (0x205 : Word).getLsbD 9 = true ∧ bitsAt (0x205 : Word).toNat 0 5 < 18 ∧
    up.running (bitsAt (0x301 : Word).toNat 0 8) = some img ∧ img.svn.toNat = bitsAt (0x301 : Word).toNat 8 16 ∧ img.svn.toNat ≤ 63 ∧
    up.running (bitsAt (0x401 : Word).toNat 0 8) = some img ∧ img.svn.toNat ≠ bitsAt (0x401 : Word).toNat 8 16 := by decide +kernel
/-- A session of context 1, named 5. -/
def session (done : Bool) : Session := { sid := 5, finished := done, hbeat := true }
/-- The part with that session, and with the algorithms negotiated over the towpath. -/
def talks (ss : List Session) (ctx : Nat := 1) : State :=
  { up with
    ctxs := Tbl.put up.ctxs ctx { (up.ctx ctx) with sessions := ss, psk := (List.range 8).map fun i => (i, 1) }
    sec := { up.sec with spdm := [(viaNo .mctp, { version := some 0x13, caps := true, algs := true })] } }
theorem witness_psk : up.reachesView .pf 0 = true ∧ up.reachesView (.vf 1) 1 = true ∧ (Source.vf 1).fn ≠ none ∧ (up.ctx 0).sessions = [] ∧ ((talks [session true]).ctx 1).sessions ≠ [] ∧
    up.rst.inReset = false := by decide +kernel
theorem witness_spdm : (talks []).spdmUp .mctp = true ∧ (talks []).hwd.restarting = false ∧ (talks []).conn .mctp = { version := some 0x13, caps := true, algs := true } ∧
    up.conn .mctp = {} ∧ spdmSupported.contains 0xEE = false := by decide +kernel
theorem witness_psk_exchange : let req : PskExchange := { reqSid := 3, summary := 0, hint := [1], context := [], hbeat := true }
    req.hint.length = 1 ∧ viaAccepts .mctp 1 = true ∧ ((talks []).ctx 1).st = .active ∧ ((talks []).ctx 1).pskSet = true ∧ ((talks []).ctx 1).sessions.length < 2 ∧
    (talks []).sessionsOpen < 64 ∧ (talks []).sec.rngOk = true ∧ 2 ≤ ((talks [session true, { session true with sid := 6 }]).ctx 1).sessions.length := by decide +kernel
theorem witness_session : ∀ d, (talks [session d]).sessionOf .mctp 5 = some (1, session d) ∧ session d ∈ ((talks [session d]).ctx 1).sessions ∧
    (session d).hbeat = true ∧ (talks [session d] 0).sessionOf .mctp 5 = some (0, session d) := by decide +kernel
theorem witness_evidence : up.evidenceCtx .mctp none = some 0 ∧ up.spdmUp .mctp = true ∧ up.bkp.attNext < 2 ^ 30 ∧
    up.sec.attSecond < up.fld .sec 0 Off.secAttRate 0 4 ∧ up.bkp.attNext ≤ up.attReserve ∧ { up.bkp with attNext := 2 ^ 30 }.attNext = 2 ^ 30 := by decide +kernel
theorem witness_signer : let x : Signing := ⟨.mctp, 3, [1, 2]⟩
    { up.sec with signing := [x] }.signing = x :: [] := by decide +kernel

theorem witness_debug : up.reachesBlock .pf = true ∧ (0x101 : Word).getLsbD 8 = true ∧ up.isStopped = false ∧ up.dbg.st = 0 ∧ up.dbg.pend = none ∧
    up.fuses.lab = false ∧ dbgAllowed false 0 3 = false ∧ dbgAllowed false 0 1 = true ∧ dbgAllowed true 0 2 = true ∧ up.quiet = true ∧
    (ringed 1).quiet = false ∧ dbgAllowed false 0 2 = true := by decide +kernel
theorem witness_token : { up.dbg with token := some [] }.token = some [] ∧ up.tokenCheck [] ≠ 0 := by
  refine ⟨rfl, ?_⟩
  unfold State.tokenCheck; rw [if_pos (Or.inl (by decide))]; decide
theorem witness_tap : up.tapOffers .idcode = true ∧ up.tapOffers .scan = false := by decide +kernel

/-! ### Reset and start-up -/

theorem witness_power_on : State.reset.rst.inReset = true ∧ State.reset.rst.ready = false ∧ State.reset.rst.resetN = false ∧ { up.rst with resetN := true }.resetN = true ∧
    State.reset.bkp.held = false ∧ { up.bkp with held := true }.held = true := by decide +kernel
theorem witness_retry : let s : State := { up with rst := { up.rst with retryDue := true } }
    s.rst.inReset = false ∧ s.rst.retryDue = true ∧ optRead s.flash.optA ≠ 0 ∧ optRead s.flash.optB ≠ 0 ∧ s.bkp.optFails < 255 ∧ up.rst.retryDue = false := by decide +kernel
theorem witness_tamper : (TamperFlag.vbakLow, 0) ∈ [(TamperFlag.vbakLow, 0), (.voltGlitch, 1), (.clockGlitch, 2), (.attRollback, 3), (.optRollback, 4)] ∧
    up.bkp.tamper.getLsbD 0 = false ∧ { up.bkp with tamper := 1 }.tamper.getLsbD 0 = true ∧ bitsAt (1 : Word).toNat 0 5 ≠ 0 ∧ up.dbg.st.toNat < 2 ∧
    2 ≤ { up.dbg with st := 2 }.st.toNat ∧ up.reachesBlock .pf = true := by decide +kernel
theorem witness_pldm : up.dravnerUp = true ∧ up.rst.phase ≠ 10 ∧ imgWord [1, 0, 0, 0] 0 % 256 = 1 ∧ ¬ up.imageCheck 1 [1, 0, 0, 0] = 0 ∧
    { up.sec with pldm := some [2, 0, 0, 0], pldmOk := true }.pldm = some [2, 0, 0, 0] ∧ imgWord [2, 0, 0, 0] 0 % 256 = 2 ∧ up.sec.pldmOk = false := by decide +kernel
theorem witness_daa : { up.rst with straps := 1 }.straps.getLsbD 0 = true := by decide +kernel

/-! ### Power, heat and ageing -/

theorem witness_power : up.rst.inReset = false ∧ up.rst.ready = true ∧ (up.dom 0).point ≠ 15 ∧ ticking.ticking = true ∧ ticking.diesOn = true ∧ ticking.pwr.st = 0 := by
  decide +kernel
theorem witness_brake : let cap := 10 * up.fld .pwr 0 Off.pwrCap 0 9
    cap * 104 < { up.pwr with avg1ms := 2 * cap }.avg1ms * 100 ∧ up.pwr.avg1ms < cap ∧ cap ≤ { up.pwr with avg1ms := cap }.avg1ms ∧ cap * 100 ≤ cap * 104 := by
  decide +kernel
theorem witness_sluice : up.diesOn = true ∧ up.pwr.sluiced.getLsbD 3 = false ∧ (1 : Nat) + 2 ≤ 5 := by decide +kernel
/-- The part in a power state with a transition pending. -/
def powered (st : Nat) (pend : Option Nat) : State := { up with pwr := { up.pwr with st := BitVec.ofNat 2 st, pend := pend.map (BitVec.ofNat 2) } }
theorem witness_idle_entry : up.rst.ready = true ∧ up.pwr.pend = none ∧ up.ticking = false ∧ up.lkp.starting = none ∧ up.hwd.fatal = false ∧
    (∀ e ∈ up.ctxs, e.2.step = none) := by decide +kernel
theorem witness_state_req : (powered 1 none).pwr.st = 1 ∧ (powered 1 none).isStopped = false ∧ (∀ i < 32, ((powered 1 none).plan i).st ≠ .armed) ∧
    bitsAt (0x102 : Word).toNat 0 2 = 2 ∧ (0x102 : Word).getLsbD 8 = true ∧ (powered 2 none).pwr.st = 2 ∧ (powered 2 (some 1)).pwr.pend = some 1 ∧ up.pwr.st ≠ 1 := by
  decide +kernel
theorem witness_effecter : up.dravnerUp = true ∧ 900 ≤ (1000 : Word).toNat ∧ (1000 : Word).toNat ≤ 3000 ∧ (1000 : Word).toNat % 10 = 0 ∧ (995 : Word).toNat % 10 ≠ 0 := by
  decide +kernel
theorem witness_thermal : ([some 440, none] : List (Option (BitVec 12))).length ≤ 208 ∧ 460 ≤ sext (460 : BitVec 12).toNat 12 ∧ 440 ≤ sext (440 : BitVec 12).toNat 12 ∧
    1 ∉ up.thm.failed ∧ up.thm.trip = false ∧ { up.thm with trip := true }.trip = true := by decide +kernel
theorem witness_age : up.age.busy = false ∧ { up.age with busy := true }.busy = true ∧ up.ticking = false ∧ up.diesOn = true ∧ ((linked vecCore).link 0).st = .up ∧
    (1 : Nat) < up.fld .age 0 Off.ageEyeMin 0 10 ∧ { up.age with events := [(1, 2, [])] }.events = (1, 2, []) :: [] := by decide +kernel

/-! ### Heartbeat, captures, GAUGE, memory -/

theorem witness_hwd : up.reachesBlock .dravner = true ∧ Source.pf ≠ .dravner ∧ up.reachesBlock .pf = true ∧ up.fld .hwd 0 Off.hwdCapStatus 0 1 = 0 ∧
    up.hwd.capturing = none ∧ (up.setFld .hwd 0 Off.hwdCapStatus 0 1 1).fld .hwd 0 Off.hwdCapStatus 0 1 = 1 ∧ up.isStopped = false ∧
    { up with hwd := { up.hwd with stopped := true } }.isStopped = true ∧ bitsAt (0x104 : Word).toNat 8 8 ≠ 0 ∧ bitsAt (0x004 : Word).toNat 8 8 = 0 := by decide +kernel
theorem witness_hang : let s : State := { up with hwd := { up.hwd with restarting := true, muted := true, missed := 200 } }
    s.hwd.restarting = true ∧ s.hwd.restartPend = false ∧ s.rst.drv.isSome = true ∧ s.hwd.muted = true ∧ up.hwd.missed < up.fld .hwd 0 Off.hwdCfg 0 8 ∧
    s.fld .hwd 0 Off.hwdCfg 0 8 ≤ s.hwd.missed ∧ s.isStopped = false ∧ { up.hwd with capturing := some ⟨4, 0, 5⟩ }.capturing = some ⟨4, 0, 5⟩ := by decide +kernel
theorem witness_gauge : (1 : Word).getLsbD 0 = true ∧ (2 : Word).getLsbD 1 = true ∧ up.hwd.gaugeReq = none ∧ up.hwd.gaugeRec = none ∧ ticking.ticking = true ∧
    up.ticking = false ∧ up.rst.ready = true ∧ { up.hwd with gaugeRec := some [] }.gaugeRec ≠ none := by decide +kernel
/-- The part with a record of 64 bytes to write to 0x8000 of context 0, and one for the towpath. -/
def gauging (addr : Word) : State :=
  ({ up with hwd := { up.hwd with gaugeRec := some (List.replicate 64 7), gaugeTowRec := some [1] } } : State).wr .hwd 0 Off.hwdGaugeAddrLo addr
theorem witness_gauge_write : let s := gauging 0x8000
    s.diesOn = true ∧ (s.keyOf 0).isSome = true ∧ s.rd64 .hwd 0 Off.hwdGaugeAddrLo = 0x8000 ∧ s.mapped 0 0x8000 64 .write = true ∧
    (match s.memWrite 517 0 0x8000 (List.replicate 64 7) with
      | (_, .ok _) => true
      | _ => false) = true := by decide +kernel
/-- Context 0 with a root directory entry that maps nothing beyond its first table. -/
def unmapped : State := { gauging 0x80000000 with mem := [(0, 0x1001), (0x1000, 0)].foldl (fun m e => m.writeBytes 1 e.1 (toBytes 8 e.2)) {} }
theorem witness_gauge_unmapped : unmapped.mapped 0 (unmapped.rd64 .hwd 0 Off.hwdGaugeAddrLo) 64 .write = false := by decide +kernel
theorem witness_patrol : up.diesOn = true ∧ 64 * (5 : BitVec 31).toNat < dramEnd ∧ up.mem.poisoned (5 : BitVec 31).toNat = false := by decide +kernel
theorem witness_imbalance : up.fld .mem 0 Off.memImb 0 4 * (1 : BitVec 16).toNat < (100 : BitVec 16).toNat ∧ (0 : BitVec 16).toNat ≤ up.fld .mem 0 Off.memImb 0 4 * 1 := by
  decide +kernel
theorem witness_frames : (∃ t, exec (.swapEffect 3 0) up = .next t) ∧ (Instr.swapEffect 3 0).mayChangeMemory = false ∧ up.dbg.st ≠ 1 ∧
    (Instr.swapEffect 3 0).mayChangeEngines = false ∧ (Instr.swapEffect 3 0).mayChangeManagement = false ∧ (Instr.swapEffect 3 0).mayChangeClockwork = false ∧
    (Instr.swapEffect 3 0).coreOf = some 3 := by
  exact ⟨⟨_, rfl⟩, rfl, by decide, rfl, rfl, rfl, rfl⟩

/-! ### A signed image -/

theorem length_toBytes : ∀ n x, (toBytes n x).length = n
  | 0, _ => rfl
  | n + 1, x => by simp [toBytes, length_toBytes n]
theorem toBytes_ofBytes : ∀ bs : List Byte, toBytes bs.length (ofBytes bs) = bs
  | [] => rfl
  | b :: bs => by
    have h : (b.toNat + 256 * ofBytes bs) / 256 = ofBytes bs := by have := b.isLt; omega
    simp only [List.length_cons, toBytes, ofBytes, h, toBytes_ofBytes bs]
    congr 1; apply BitVec.eq_of_toNat_eq; simp [Nat.mod_eq_of_lt b.isLt]
theorem ofBytes_lt : ∀ bs : List Byte, ofBytes bs < 256 ^ bs.length
  | [] => by simp [ofBytes]
  | b :: bs => by
    have := b.isLt; have := ofBytes_lt bs
    simp only [ofBytes, List.length_cons, Nat.pow_succ]; omega
theorem length_shaRound (v : List Word) (k : Word) (h : v.length = 8) : (shaRound v k).length = 8 := by
  match v, h with
  | [_, _, _, _, _, _, _, _], _ => rfl
theorem length_shaRounds (ks : List (Nat × Word)) : ∀ v : List Word, v.length = 8 →
    (ks.foldl (fun v (x : Nat × Word) => shaRound v (BitVec.ofNat 32 (bitsAt shaK (32 * x.1) 32) + x.2)) v).length = 8 := by
  induction ks with
  | nil => exact fun _ h => h
  | cons k ks ih => exact fun v h => ih _ (length_shaRound v _ h)
theorem length_shaBlock (v : List Word) (b : List Byte) (h : v.length = 8) : (shaBlock v b).length = 8 := by
  simp only [shaBlock, List.length_zipWith, h]
  rw [length_shaRounds _ v h]; rfl
theorem length_sha256 (m : List Byte) : (sha256 m).length = 32 := by
  have h : ∀ (bs : List (List Byte)) (v : List Word), v.length = 8 → (bs.foldl shaBlock v).length = 8 := by
    intro bs; induction bs with
    | nil => exact fun _ h => h
    | cons b bs ih => exact fun v h => ih _ (length_shaBlock v b h)
  simp only [sha256]
  generalize hw : List.foldl shaBlock shaH0 _ = ws
  have h8 : ws.length = 8 := hw ▸ h _ _ rfl
  match ws, h8 with
  | [_, _, _, _, _, _, _, _], _ => simp [toBytesBE, length_toBytes]
theorem length_lmPath (i : List Byte) : ∀ (ps : List (List Byte)) n x, x.length = 32 → (lmPath i ps n x).length = 32
  | [], _, _, h => h
  | _ :: ps, _, _, _ => length_lmPath i ps _ _ (length_sha256 _)

/-- Header of an image of TYPE 1 and SVN 3 with no payload (R344). -/
def signedHead : List Byte := toBytes 4 1 ++ toBytes 4 7 ++ toBytes 4 3 ++ toBytes 4 0 ++ sha256 [] ++ List.replicate 80 0
/-- A signature of leaf 0 whose chain values and path are zeros. -/
def zeroSig : List Byte := List.replicate 4 0 ++ toBytesBE 4 4 ++ List.replicate 1120 0 ++ toBytesBE 4 7 ++ List.replicate 480 0
/-- The root to which that signature of a header leads. -/
def rootOf (msg : List Byte) : List Byte :=
  lmPath (List.replicate 16 0) (chunks 32 (zeroSig.drop 1132)) (2 ^ 15)
    (sha256 (List.replicate 16 0 ++ toBytesBE 4 (2 ^ 15) ++ toBytesBE 2 0x8282 ++ lmOtsKey (List.replicate 16 0) (List.replicate 4 0) (zeroSig.drop 4) msg))
/-- The public key with that root. -/
def zeroPub : List Byte := toBytesBE 4 7 ++ toBytesBE 4 4 ++ List.replicate 16 0 ++ rootOf signedHead
/-- The image. -/
def signed : List Byte := signedHead ++ (zeroSig ++ (zeroPub ++ List.replicate 252 0))
/-- The part with that key's hash in fuse 0. -/
def trusts : State := { up with fuses := { up.fuses with keyHash := [(0, BitVec.ofNat 256 (ofBytes (sha256 zeroPub)))] } }

theorem length_zeroSig : zeroSig.length = 1612 := by decide +kernel
theorem length_signedHead : signedHead.length = 128 := by simp only [signedHead, List.length_append, length_toBytes, length_sha256, List.length_replicate]
theorem length_rootOf (m : List Byte) : (rootOf m).length = 32 := length_lmPath _ _ _ _ (length_sha256 _)
theorem length_zeroPub : zeroPub.length = 56 := by
  simp only [zeroPub, toBytesBE, List.length_append, List.length_reverse, length_toBytes, List.length_replicate, length_rootOf]
theorem zeroPub_id : (zeroPub.drop 8).take 16 = List.replicate 16 0 := by
  have h : zeroPub = (toBytesBE 4 7 ++ toBytesBE 4 4) ++ (List.replicate 16 0 ++ rootOf signedHead) := by simp only [zeroPub, List.append_assoc]
  rw [h, List.drop_left' (by decide), List.take_left' (by decide)]
theorem zeroPub_root : (zeroPub.drop 24).take 32 = rootOf signedHead := by
  rw [zeroPub, List.drop_left' (by decide), ← length_rootOf signedHead, List.take_length]
theorem zeroPub_types : lmTypes zeroPub = true := by
  have h : zeroPub = (toBytesBE 4 7 ++ toBytesBE 4 4) ++ (List.replicate 16 0 ++ rootOf signedHead) := by simp only [zeroPub, List.append_assoc]
  rw [lmTypes, h, List.take_left' (by decide)]; exact beq_self_eq_true _
theorem zeroSig_parts : zeroSig.take 4 = List.replicate 4 0 ∧ ((zeroSig.drop 4).take 4 == toBytesBE 4 4) = true ∧ ((zeroSig.drop 1128).take 4 == toBytesBE 4 7) = true := by
  decide +kernel
theorem zeroSig_verifies : lmsVerify zeroPub zeroSig signedHead = true := by
  have e : lmPath (List.replicate 16 0) (chunks 32 (zeroSig.drop 1132)) (2 ^ 15 + ofBytesBE (List.replicate 4 0)) (sha256 (List.replicate 16 0 ++
      toBytesBE 4 (2 ^ 15 + ofBytesBE (List.replicate 4 0)) ++ toBytesBE 2 0x8282 ++ lmOtsKey (List.replicate 16 0) (List.replicate 4 0) (zeroSig.drop 4) signedHead)) =
      rootOf signedHead := by
    rw [show 2 ^ 15 + ofBytesBE (List.replicate 4 0) = 2 ^ 15 from by decide]; rfl
  have d : decide (ofBytesBE (List.replicate 4 0) < 2 ^ 15) = true := by decide
  simp only [lmsVerify, zeroPub_id, zeroSig_parts.1, e, zeroPub_root, zeroPub_types, zeroSig_parts.2, length_zeroPub, length_zeroSig, d, beq_self_eq_true, Bool.and_true]
theorem signed_words : imgWord signed 0 = 1 ∧ imgWord signed 2 = 3 ∧ imgWord signed 3 = 0 := by
  have h : signed = toBytes 4 1 ++ (toBytes 4 7 ++ (toBytes 4 3 ++ (toBytes 4 0 ++ (sha256 [] ++ (List.replicate 80 0 ++ (zeroSig ++ (zeroPub ++ List.replicate 252 0))))))) := by
    simp only [signed, signedHead, List.append_assoc]
  generalize (sha256 [] ++ (List.replicate 80 0 ++ (zeroSig ++ (zeroPub ++ List.replicate 252 0)))) = r at h
  rw [h]; exact ⟨rfl, rfl, rfl⟩
theorem signed_parts : signed.length = 2048 ∧ signed.take 128 = signedHead ∧ (signed.drop 128).take 1612 = zeroSig ∧ (signed.drop 1740).take 56 = zeroPub ∧
    (signed.drop 16).take 32 = sha256 [] := by
  refine ⟨?_, List.take_left' length_signedHead, ?_, ?_, ?_⟩
  · simp only [signed, List.length_append, length_signedHead, length_zeroPub, length_zeroSig, List.length_replicate]
  · rw [signed, List.drop_left' length_signedHead, List.take_left' length_zeroSig]
  · rw [signed, ← List.append_assoc, List.drop_left' (by rw [List.length_append, length_signedHead, length_zeroSig]), List.take_left' length_zeroPub]
  · have h : signed = (toBytes 4 1 ++ toBytes 4 7 ++ toBytes 4 3 ++ toBytes 4 0) ++ (sha256 [] ++ (List.replicate 80 0 ++ (zeroSig ++ (zeroPub ++ List.replicate 252 0)))) := by
      simp only [signed, signedHead, List.append_assoc]
    rw [h, List.drop_left' (by decide), List.take_left' (length_sha256 [])]
/-- An image that verifies (R344), and its hash is never worked out: the key is made from the signature. -/
theorem witness_signed : trusts.imageCheck 1 signed = 0 := by
  obtain ⟨w0, w2, w3⟩ := signed_words
  obtain ⟨hl, hh, hs, hp, hx⟩ := signed_parts
  have hk : toBytes 32 (BitVec.ofNat 256 (ofBytes (sha256 zeroPub))).toNat = sha256 zeroPub := by
    have l := ofBytes_lt (sha256 zeroPub); have t := toBytes_ofBytes (sha256 zeroPub)
    rw [length_sha256] at l t
    rw [BitVec.toNat_ofNat, Nat.mod_eq_of_lt (by simpa using l), t]
  have hf : Tbl.get trusts.fuses.keyHash 0 0 = BitVec.ofNat 256 (ofBytes (sha256 zeroPub)) := rfl
  have hy : imgPayload signed = [] := by rw [imgPayload, w3]; rfl
  have hsvn : (imageOf signed).svn.toNat = 3 := by rw [imageOf]; simp only [w2]; rfl
  have hq : ¬ 3 < trusts.fuses.svn 1 := by decide
  simp [State.imageCheck, hl, w0, w3, hp, hs, hh, hy, hx, hsvn, zeroPub_types, zeroSig_verifies, hq, show bitsAt 1 8 4 = 0 from rfl]
  exact ⟨hk.symm.trans (congrArg (fun x => toBytes 32 (BitVec.toNat x)) hf.symm), rfl⟩
theorem witness_signed_type : imgWord signed 0 % 256 = 1 ∧ trusts.dravnerUp = true ∧ trusts.rst.phase ≠ 10 := ⟨by rw [signed_words.1], by decide, by decide⟩

end Sys2Proof.Tests
end

section
/-! PROOFS. A vector word that issues at once (R131, R133): every row of the vector engine reaches the same function of the state, and what the shared operations do to the core. -/

namespace Sys2Proof.Machine

theorem exec_vecRow {grp fn : Nat} {core : Fin 512} {word : BitVec 64} {i : Instr} (s : State)
    (h : vecRow grp fn core word = some i) : exec i s = .next (s.vecOp core word grp fn) := by
  unfold vecRow at h
  split at h <;> cases h <;> rfl

/-- The state after a vector word has issued at once: its number taken, its effect made, the scalar unit past it. -/
def State.vecIssued (s : State) (core : Fin 512) (ctx : Nat) (word : BitVec 64) : State :=
  ((s.nextSeq .vec core Off.vecInsnSeq).2.vecExec core ctx (s.vecCmd core word)).retire core 8

theorem State.issuesNow_eq_some {s : State} {core : Fin 512} {word : BitVec 64} {ctx : Nat} :
    s.issuesNow core word = some ctx ↔
      ((s.vecCmd core word).ok = true ∧ ((s.core core).iq.isEmpty && (s.core core).vecReady (s.vecCmd core word)) = true) ∧
      (s.scalarRuns core = true ∧ (s.vecCmd core word).fld 0 7 = 0x3F) ∧
      ((s.core core).sregPending (s.vecCmd core word).sxNo = false ∧ (s.core core).sregPending ((s.vecCmd core word).sxNo + 1) = false ∧
        s.isResetting ⟨.vec, core⟩ = false) ∧ s.coreCtx core = some ctx := by
  simp only [State.issuesNow, State.vecOffered, Option.ite_none_right_eq_some, Bool.and_eq_true, Bool.not_eq_true', beq_iff_eq, and_assoc]

/-- A word that issues at once passes every check of acceptance. -/
theorem State.vecOp_of_issuesNow {s : State} {core : Fin 512} {word : BitVec 64} {ctx : Nat} (h : s.issuesNow core word = some ctx) :
    s.vecOp core word (s.vecCmd core word).grp (s.vecCmd core word).fn = s.vecIssued core ctx word := by
  obtain ⟨⟨hok, hready⟩, ⟨hruns, hlen⟩, ⟨hsx, hsx1, hreset⟩, hctx⟩ := State.issuesNow_eq_some.mp h
  have hvector : ¬ (!s.scalarRuns core || (s.vecCmd core word).fld 0 7 != 0x3F) = true := by simp [hruns, hlen]
  have hrow : ¬ ((s.vecCmd core word).fn < groupSize (s.vecCmd core word).grp ∧
      ((s.vecCmd core word).grp ≠ (s.vecCmd core word).grp ∨ (s.vecCmd core word).fn ≠ (s.vecCmd core word).fn)) := by simp
  have hfree : ¬ ((s.core core).sregPending (s.vecCmd core word).sxNo || (s.core core).sregPending ((s.vecCmd core word).sxNo + 1) ||
      s.isResetting ⟨.vec, core⟩) = true := by simp [hsx, hsx1, hreset]
  have haccepted : ¬ (!(s.vecCmd core word).ok) = true := by simp [hok]
  refine (if_neg hvector).trans ((if_neg hrow).trans ((if_neg hfree).trans ?_))
  rw [hctx]
  exact (if_neg haccepted).trans (if_pos hready)

theorem exec_of_issuesNow {grp fn : Nat} {s : State} {core : Fin 512} {word : BitVec 64} {i : Instr} {ctx : Nat}
    (hrow : vecRow grp fn core word = some i) (hgrp : (s.vecCmd core word).grp = grp) (hfn : (s.vecCmd core word).fn = fn)
    (hissue : s.issuesNow core word = some ctx) : exec i s = .next (s.vecIssued core ctx word) := by
  subst hgrp hfn
  rw [exec_vecRow s hrow, State.vecOp_of_issuesNow hissue]

/-- An effect shown of the state after issue, for every word of a group and function, is one that group and function give. -/
theorem vecGives_of_vecIssued {grp fn : Nat} {P : State → Fin 512 → Nat → VecCmd → State → Prop}
    (h : ∀ (s : State) (core : Fin 512) (ctx : Nat) (word : BitVec 64), (s.vecCmd core word).grp = grp → (s.vecCmd core word).fn = fn →
      P s core ctx (s.vecCmd core word) (s.vecIssued core ctx word)) : VecGives grp fn P :=
  fun s core word _ ctx hrow hgrp hfn hissue => ⟨_, exec_of_issuesNow hrow hgrp hfn hissue, h s core ctx word hgrp hfn⟩

/-! ### The core after each shared operation -/

theorem State.core_eq_of_coresOf {s t : State} (h : t.coresOf = s.coresOf) (n : Nat) : t.core n = s.core n :=
  congrArg (fun cores : Tbl Core => Tbl.get cores n {}) h

@[simp] theorem State.core_modCore (s : State) (n : Nat) (f : Core → Core) : (s.modCore n f).core n = f (s.core n) :=
  Tbl.get_put_same _ _ _ _

@[simp] theorem State.core_count (s : State) (k : PageKind) (i off x bank n : Nat) : (s.count k i off x bank).core n = s.core n :=
  State.core_eq_of_coresOf (State.count_coresOf s k i off x bank) n

@[simp] theorem State.core_vecOps (s : State) (core x n : Nat) : (s.vecOps core x).core n = s.core n :=
  State.core_eq_of_coresOf (State.vecOps_coresOf s core x) n

@[simp] theorem State.core_nextSeq (s : State) (k : PageKind) (i off n : Nat) : (s.nextSeq k i off).2.core n = s.core n :=
  State.core_eq_of_coresOf (State.nextSeq_coresOf s k i off) n

@[simp] theorem State.core_reportCore (s : State) (core ctx : Nat) (v : NumEvent) (n : Nat) : (s.reportCore core ctx v).core n = s.core n :=
  State.core_eq_of_coresOf (State.reportCore_coresOf s core ctx v) n

@[simp] theorem State.core_retire_vector (s : State) (n : Nat) : (s.retire n 8).core n = (s.core n).passed :=
  State.core_modCore _ _ _

@[simp] theorem State.core_vecSx (s : State) (n : Nat) (c : VecCmd) (x : Nat) :
    (s.vecSx n c x).core n = (s.core n).setSreg c.sxNo (BitVec.ofNat 32 x) :=
  State.core_modCore _ _ _

theorem Core.passed_setSreg (k : Core) (r : Nat) (x : Word) : (k.setSreg r x).passed = k.passed.setSreg r x := by
  unfold Core.setSreg
  split <;> rfl

end Sys2Proof.Machine
end

section
/-! PROOFS. Vector destinations (R128, R130): a register packed from its elements gives each of them back, and what `vecWrite` leaves in the core. -/

namespace Sys2Proof.Machine

/-- The number whose `w`-bit digits, lowest first, are the low bits of the elements. -/
def packed (w : Nat) (xs : List Nat) : Nat := xs.foldr (fun x acc => x % 2 ^ w + acc * 2 ^ w) 0

@[simp] theorem packed_nil (w : Nat) : packed w [] = 0 := rfl
theorem packed_cons (w x : Nat) (xs : List Nat) : packed w (x :: xs) = x % 2 ^ w + packed w xs * 2 ^ w := rfl

theorem regOf_eq_packed (w : Nat) (xs : List Nat) : regOf w xs = BitVec.ofNat 8192 (packed w xs) := rfl

theorem packed_lt (w : Nat) (xs : List Nat) : packed w xs < 2 ^ (w * xs.length) := by
  induction xs with
  | nil => simp
  | cons x xs ih =>
    have hx : x % 2 ^ w < 2 ^ w := Nat.mod_lt _ (Nat.two_pow_pos w)
    calc packed w (x :: xs) < (packed w xs + 1) * 2 ^ w := by rw [packed_cons, Nat.succ_mul]; omega
      _ ≤ 2 ^ (w * xs.length) * 2 ^ w := Nat.mul_le_mul_right _ ih
      _ = 2 ^ (w * (x :: xs).length) := by rw [List.length_cons, Nat.mul_succ, Nat.pow_add]

theorem bitsAt_packed (w : Nat) (xs : List Nat) (i : Nat) : bitsAt (packed w xs) (w * i) w = xs.getD i 0 % 2 ^ w := by
  induction xs generalizing i with
  | nil => simp [bitsAt]
  | cons x xs ih =>
    cases i with
    | zero => simp [bitsAt, packed_cons]
    | succ i =>
      have hx : x % 2 ^ w / 2 ^ w = 0 := Nat.div_eq_of_lt (Nat.mod_lt _ (Nat.two_pow_pos w))
      rw [List.getD_cons_succ, ← ih i, bitsAt, bitsAt, packed_cons, Nat.mul_succ, Nat.add_comm (w * i), Nat.shiftRight_add,
        Nat.shiftRight_eq_div_pow _ w, Nat.add_mul_div_right _ _ (Nat.two_pow_pos w), hx, Nat.zero_add]

theorem toNat_ofNat_packed {w n : Nat} {xs : List Nat} (h : w * xs.length ≤ n) : (BitVec.ofNat n (packed w xs)).toNat = packed w xs := by
  rw [BitVec.toNat_ofNat, Nat.mod_eq_of_lt (Nat.lt_of_lt_of_le (packed_lt w xs) (Nat.pow_le_pow_right Nat.two_pos h))]

theorem Core.lane_lt (k : Core) (w r i : Nat) : k.lane w r i < 2 ^ w := Nat.mod_lt _ (Nat.two_pow_pos w)

theorem Core.lane_setV_regOf (k : Core) (w r : Nat) (xs : List Nat) (h : w * xs.length ≤ 8192) (i : Nat) :
    (k.setV r (regOf w xs)).lane w r i = xs.getD i 0 % 2 ^ w := by
  rw [Core.lane, Core.vreg, Core.setV, Tbl.get_put_same, regOf_eq_packed, toNat_ofNat_packed h, bitsAt_packed]

theorem Core.vreg_setV_other (k : Core) {r j : Nat} (h : j % 32 ≠ r % 32) (x : BitVec 8192) : (k.setV r x).vreg j = k.vreg j :=
  Tbl.get_put_other _ h _ _

theorem VecCmd.vd_lt (c : VecCmd) : c.vd < 32 := Nat.mod_lt _ (by decide)

/-! ### What `vecWrite` writes and reports -/

/-- The elements of the vector destination after the instruction. -/
def Core.destElems (k : Core) (c : VecCmd) (w : Nat) (f : Nat → El) : List Nat :=
  (List.range (lanesOf w)).map fun i => if k.active c (k.el w) i then (f i).v else if c.zm then 0 else k.lane w c.vd i

/-- The active result elements with their positions. -/
def Core.activeEls (k : Core) (c : VecCmd) (w : Nat) (f : Nat → El) : List (Nat × El) :=
  (List.range (lanesOf w)).filterMap fun i => if k.active c (k.el w) i then some (i, f i) else none

/-- The VSTAT bits that result elements set (R144). -/
def vstatBits (els : List (Nat × El)) : Nat :=
  let any (f : El → Bool) : Nat := b2n (els.any fun e => f e.2)
  any (·.inv) * 4 + any (·.ovf) * 8 + any (·.unf) * 16 + any (·.sat) * 32 + any (·.divz) * 64

/-- The core with a vector destination written and VSTAT reported. -/
def Core.withResults (k : Core) (c : VecCmd) (w : Nat) (f : Nat → El) : Core :=
  (k.setV c.vd (regOf w (k.destElems c w f))).setVstat (vstatBits (k.activeEls c w f))

theorem Core.getD_destElems (k : Core) (c : VecCmd) (w : Nat) (f : Nat → El) {i : Nat} (h : i < lanesOf w) :
    (k.destElems c w f).getD i 0 = if k.active c (k.el w) i then (f i).v else if c.zm then 0 else k.lane w c.vd i := by
  simp [Core.destElems, h]

theorem Core.any_activeEls (k : Core) (c : VecCmd) (w : Nat) (f : Nat → El) (p : El → Bool) :
    ((k.activeEls c w f).any fun e => p e.2) = (List.range (lanesOf w)).any fun i => k.active c (k.el w) i && p (f i) := by
  rw [Core.activeEls, List.any_filterMap]
  refine congrArg (List.any _) (funext fun i => ?_)
  by_cases h : k.active c (k.el w) i = true <;> simp [h]

@[simp] theorem State.core_vecReport (s : State) (n ctx : Nat) (c : VecCmd) (els : List (Nat × El)) :
    (s.vecReport n ctx c els).core n = (s.core n).setVstat (vstatBits els) := by
  unfold State.vecReport
  dsimp only
  split <;> simp only [State.core_reportCore, State.core_count, State.core_modCore] <;> rfl

theorem regElems_zipIdx (w : Nat) (r : BitVec 8192) :
    (regElems w r).zipIdx = (List.range (lanesOf w)).map fun i => (bitsAt r.toNat (w * i) w, i) :=
  List.ext_getElem (by simp [regElems]) (by simp [regElems])

theorem State.core_vecWrite (s : State) (n ctx : Nat) (c : VecCmd) (w : Nat) (f : Nat → El) :
    (s.vecWrite n ctx c w f).core n = (s.core n).withResults c w f := by
  unfold State.vecWrite Core.withResults
  simp only [regElems_zipIdx, State.core_vecOps, State.core_vecReport, State.core_modCore, List.map_map, List.filterMap_map]
  congr 3
  · refine List.map_congr_left fun i _ => ?_
    by_cases h : (s.core n).active c ((s.core n).el w) i = true <;> simp [h, Core.lane]
  · funext i
    by_cases h : (s.core n).active c ((s.core n).el w) i = true <;> simp [h]

theorem lanesBecome_withResults {k k' : Core} {c : VecCmd} {f : Nat → El} (hv : k'.v = (k.withResults c (typeWidth c.type) f).v) :
    LanesBecome k k' c fun p => (f p).v := by
  have hreg (r : Nat) : k'.vreg r = (k.setV c.vd (regOf (typeWidth c.type) (k.destElems c (typeWidth c.type) f))).vreg r := by
    rw [Core.vreg, hv]; rfl
  have hlen : typeWidth c.type * (k.destElems c (typeWidth c.type) f).length ≤ 8192 := by
    simpa [Core.destElems, lanesOf] using Nat.mul_div_le 8192 (typeWidth c.type)
  constructor
  · intro i hi
    have hlane := k.lane_setV_regOf (typeWidth c.type) c.vd _ hlen i
    rw [k.getD_destElems c _ f hi] at hlane
    rw [Core.lane, hreg, ← Core.lane, hlane]
    split
    · rfl
    · split
      · exact Nat.zero_mod _
      · exact Nat.mod_eq_of_lt (k.lane_lt _ _ _)
  · intro r hr hne
    have := c.vd_lt
    rw [hreg, Core.vreg_setV_other k (by omega)]

theorem LanesBecome.congr {k k' : Core} {c : VecCmd} {f g : Nat → Nat} (h : LanesBecome k k' c f)
    (hfg : ∀ p, f p % 2 ^ typeWidth c.type = g p % 2 ^ typeWidth c.type) : LanesBecome k k' c g := by
  obtain ⟨hlanes, hothers⟩ := h
  exact ⟨fun i hi => by rw [hlanes i hi, hfg], hothers⟩

theorem Core.getLsbD_vstat_setVstat (k : Core) (bits : Nat) {b : Nat} (h : b < 7) :
    (k.setVstat bits).vstat.getLsbD b = (k.vstat.getLsbD b || bits.testBit b) := by
  rw [Core.setVstat, BitVec.getLsbD_or, BitVec.getLsbD_ofNat, decide_eq_true h, Bool.true_and]

end Sys2Proof.Machine
end

section
/-! PROOFS. Integer arithmetic of the vector engine (R132, R135). -/

namespace Sys2Proof.Machine

/-! ### Two's complement numbers modulo 2^w -/

theorem sext_emod (x w : Nat) : sext x w % (2 ^ w : Nat) = (x : Int) % (2 ^ w : Nat) := by
  unfold sext
  split
  · rw [Int.natCast_emod, Int.sub_emod_right, Int.emod_emod]
  · rw [Int.natCast_emod, Int.emod_emod]

theorem toBits_of_emod_eq {w n : Nat} {i : Int} (h : i % (2 ^ w : Nat) = (n : Int) % (2 ^ w : Nat)) : toBits w i = n % 2 ^ w := by
  rw [toBits, h, ← Int.natCast_emod, Int.toNat_natCast]

@[simp] theorem toBits_mod (w : Nat) (i : Int) : toBits w i % 2 ^ w = toBits w i := by
  have hpos : (0 : Int) < (2 ^ w : Nat) := Int.natCast_pos.mpr (Nat.two_pow_pos w)
  exact Nat.mod_eq_of_lt ((Int.toNat_lt (Int.emod_nonneg _ (Int.ne_of_gt hpos))).mpr (Int.emod_lt_of_pos _ hpos))

theorem toBits_sext {x w : Nat} (h : x < 2 ^ w) : toBits w (sext x w) = x := by
  rw [toBits_of_emod_eq (sext_emod x w), Nat.mod_eq_of_lt h]

theorem toBits_sub_sext {a b w : Nat} (h : b < 2 ^ w) : toBits w (sext a w - sext b w) = (a + (2 ^ w - b)) % 2 ^ w := by
  refine toBits_of_emod_eq ?_
  have hsum : ((a + (2 ^ w - b) : Nat) : Int) = (a - b : Int) + (2 ^ w : Nat) := by
    generalize 2 ^ w = m at h ⊢
    omega
  rw [Int.sub_emod, sext_emod, sext_emod, ← Int.sub_emod, hsum, Int.add_emod_right]

/-! ### Saturation -/

/-- An integer clamped to what `w` bits hold in two's complement, as such a number (R135). -/
def clampBits (w : Nat) (x : Int) : Nat := toBits w (max (-(2 ^ (w - 1) : Nat) : Int) (min x ((2 ^ (w - 1) : Nat) - 1)))

/-- `w` bits do not hold the integer in two's complement. -/
def outOfRange (w : Nat) (x : Int) : Bool := decide (x < -(2 ^ (w - 1) : Nat) ∨ ((2 ^ (w - 1) : Nat) : Int) - 1 < x)

theorem toBits_satInt (w : Nat) (x : Int) : toBits w (satInt w x).1 = clampBits w x := by
  have hpos : 0 < 2 ^ (w - 1) := Nat.two_pow_pos _
  refine congrArg (toBits w) ?_
  unfold satInt
  generalize 2 ^ (w - 1) = m at hpos ⊢
  dsimp only
  split
  · dsimp only; omega
  · split <;> dsimp only <;> omega

theorem satInt_snd (w : Nat) (x : Int) : (satInt w x).2 = outOfRange w x := by
  unfold satInt outOfRange
  dsimp only
  split
  case isTrue hlow => simp only [hlow, true_or, decide_true]
  case isFalse hlow => split <;> simp_all only [false_or, decide_true, decide_false]

/-! ### The value of each function -/

/-- `f`, of the width, two operands and the shift amount, tells the low bits of what function `fn` makes. -/
def ComputesInteger (fn : Nat) (f : Nat → Nat → Nat → Nat → Nat) : Prop :=
  ∀ w a b n, a < 2 ^ w → b < 2 ^ w → (iarith w fn a b n).v % 2 ^ w = f w a b n % 2 ^ w

theorem computesInteger_add : ComputesInteger 0 fun _ a b _ => a + b := fun _ _ _ _ _ _ => Nat.mod_mod _ _

theorem computesInteger_sub : ComputesInteger 1 fun w a b _ => a + (2 ^ w - b) := by
  intro w a b n _ hb
  change toBits w (sext a w - sext b w) % 2 ^ w = _
  rw [toBits_mod, toBits_sub_sext hb]

theorem computesInteger_mul : ComputesInteger 2 fun _ a b _ => a * b := fun _ _ _ _ _ _ => Nat.mod_mod _ _

theorem computesInteger_addsat : ComputesInteger 3 fun w a b _ => clampBits w (sext a w + sext b w) :=
  fun w _ _ _ _ _ => congrArg (· % 2 ^ w) (toBits_satInt w _)

theorem computesInteger_subsat : ComputesInteger 4 fun w a b _ => clampBits w (sext a w - sext b w) :=
  fun w _ _ _ _ _ => congrArg (· % 2 ^ w) (toBits_satInt w _)

theorem computesInteger_min : ComputesInteger 5 fun w a b _ => toBits w (min (sext a w) (sext b w)) := by
  intro w a b n ha hb
  change (if sext a w ≤ sext b w then a else b) % 2 ^ w = toBits w (min (sext a w) (sext b w)) % 2 ^ w
  rw [Int.min_def]
  split
  · rw [toBits_sext ha]
  · rw [toBits_sext hb]

theorem computesInteger_max : ComputesInteger 6 fun w a b _ => toBits w (max (sext a w) (sext b w)) := by
  intro w a b n ha hb
  change (if sext a w ≤ sext b w then b else a) % 2 ^ w = toBits w (max (sext a w) (sext b w)) % 2 ^ w
  rw [Int.max_def]
  split
  · rw [toBits_sext hb]
  · rw [toBits_sext ha]

theorem computesInteger_and : ComputesInteger 7 fun _ a b _ => a &&& b := fun _ _ _ _ _ _ => rfl
theorem computesInteger_or : ComputesInteger 8 fun _ a b _ => a ||| b := fun _ _ _ _ _ _ => rfl
theorem computesInteger_xor : ComputesInteger 9 fun _ a b _ => a ^^^ b := fun _ _ _ _ _ _ => rfl

theorem computesInteger_shl : ComputesInteger 10 fun _ a _ n => a * 2 ^ n := by
  intro w a b n _ _
  change (a <<< n) % 2 ^ w % 2 ^ w = _
  rw [Nat.mod_mod, Nat.shiftLeft_eq]

theorem computesInteger_shrl : ComputesInteger 11 fun _ a _ n => a / 2 ^ n := by
  intro w a b n _ _
  change (a >>> n) % 2 ^ w = _
  rw [Nat.shiftRight_eq_div_pow]

theorem computesInteger_shra : ComputesInteger 12 fun w a _ n => toBits w (sext a w / (2 ^ n : Nat)) := by
  intro w a b n _ _
  change toBits w (sext a w / 2 ^ n) % 2 ^ w = toBits w (sext a w / (2 ^ n : Nat)) % 2 ^ w
  rw [Int.natCast_pow]
  rfl

/-! ### The core after an integer instruction -/

/-- The result element at a position of an integer instruction. -/
def Core.integerEl (k : Core) (c : VecCmd) (p : Nat) : El :=
  iarith (typeWidth c.type) c.fn (k.lane (typeWidth c.type) c.vs1 p) (k.lane (typeWidth c.type) c.vs2 p) (c.imm % 32)

theorem State.vecExec_integer {s : State} {core ctx : Nat} {c : VecCmd} (h : c.grp = 2) :
    s.vecExec core ctx c = s.vecWrite core ctx c (typeWidth c.type) ((s.core core).integerEl c) := by
  simp only [State.vecExec, State.vecElem, h]
  rfl

theorem State.core_vecIssued_integer {s : State} {core : Fin 512} {ctx : Nat} {word : BitVec 64} (h : (s.vecCmd core word).grp = 2) :
    (s.vecIssued core ctx word).core core = ((s.core core).withResults (s.vecCmd core word) (typeWidth (s.vecCmd core word).type)
      ((s.core core).integerEl (s.vecCmd core word))).passed := by
  rw [State.vecIssued, State.core_retire_vector, State.vecExec_integer h, State.core_vecWrite, State.core_nextSeq]

/-- The vector destination becomes `f` of the operands, and of the core only it and VSTAT change. -/
def IntegerLanes (f : Nat → Nat → Nat → Nat → Nat) (s : State) (core : Fin 512) (_ : Nat) (c : VecCmd) (t : State) : Prop :=
  LanesBecome (s.core core) (t.core core) c (fun p =>
    f (typeWidth c.type) ((s.core core).lane (typeWidth c.type) c.vs1 p) ((s.core core).lane (typeWidth c.type) c.vs2 p) (c.imm % 32)) ∧
  t.core core = { (s.core core).passed with v := (t.core core).v, vstat := (t.core core).vstat }

theorem vecGives_integerLanes {fn : Nat} {f : Nat → Nat → Nat → Nat → Nat} (h : ComputesInteger fn f) : VecGives 2 fn (IntegerLanes f) := by
  refine vecGives_of_vecIssued fun s core ctx word hgrp hfn => ?_
  rw [IntegerLanes, State.core_vecIssued_integer hgrp]
  refine ⟨(lanesBecome_withResults rfl).congr fun p => ?_, rfl⟩
  rw [Core.integerEl, hfn]
  exact h _ _ _ _ (Core.lane_lt _ _ _ _) (Core.lane_lt _ _ _ _)

/-! ### VSTAT.SAT (R135, R144) -/

/-- Of the flags of a result element, integer arithmetic sets at most SAT. -/
theorem iarith_eq_v_sat (w fn a b n : Nat) :
    iarith w fn a b n = { v := (iarith w fn a b n).v, sat := (iarith w fn a b n).sat } := by
  unfold iarith
  split <;> rfl

theorem vstatBits_integer (k : Core) (c : VecCmd) (w : Nat) :
    vstatBits (k.activeEls c w (k.integerEl c)) =
      b2n ((List.range (lanesOf w)).any fun p => k.active c (k.el w) p && (k.integerEl c p).sat) * 32 := by
  have hinv (p : Nat) : (k.integerEl c p).inv = false := by rw [Core.integerEl, iarith_eq_v_sat]
  have hovf (p : Nat) : (k.integerEl c p).ovf = false := by rw [Core.integerEl, iarith_eq_v_sat]
  have hunf (p : Nat) : (k.integerEl c p).unf = false := by rw [Core.integerEl, iarith_eq_v_sat]
  have hdivz (p : Nat) : (k.integerEl c p).divz = false := by rw [Core.integerEl, iarith_eq_v_sat]
  simp [vstatBits, Core.any_activeEls, hinv, hovf, hunf, hdivz, b2n]

theorem testBit_b2n_mul_32 (x : Bool) {b : Nat} (h : b < 7) : (b2n x * 32).testBit b = (b == 5 && x) := by
  cases x
  · rw [Bool.and_false]
    exact Nat.zero_testBit b
  · rw [Bool.and_true]
    exact (by decide : ∀ i < 7, (b2n true * 32).testBit i = (i == 5)) b h

/-- What ADDSAT (function 3) and SUBSAT make of two integers before they saturate. -/
def sumOrDiff (fn : Nat) (x y : Int) : Int := if fn = 3 then x + y else x - y

theorem iarith_sat {fn : Nat} (h : fn = 3 ∨ fn = 4) (w a b n : Nat) :
    (iarith w fn a b n).sat = outOfRange w (sumOrDiff fn (sext a w) (sext b w)) := by
  obtain rfl | rfl := h
  · exact satInt_snd w (sext a w + sext b w)
  · exact satInt_snd w (sext a w - sext b w)

/-- SAT is set when an active exact result lies out of range, and no other bit of VSTAT changes. -/
def SatReported (fn : Nat) (s : State) (core : Fin 512) (_ : Nat) (c : VecCmd) (t : State) : Prop :=
  ∀ b < 7, (t.core core).vstat.getLsbD b = ((s.core core).vstat.getLsbD b || (b == 5 &&
    (List.range (lanesOf (typeWidth c.type))).any fun p => (s.core core).active c ((s.core core).el (typeWidth c.type)) p &&
      outOfRange (typeWidth c.type) (sumOrDiff fn (sext ((s.core core).lane (typeWidth c.type) c.vs1 p) (typeWidth c.type))
        (sext ((s.core core).lane (typeWidth c.type) c.vs2 p) (typeWidth c.type)))))

theorem vecGives_satReported {fn : Nat} (h : fn = 3 ∨ fn = 4) : VecGives 2 fn (SatReported fn) := by
  refine vecGives_of_vecIssued fun s core ctx word hgrp hfn b hb => ?_
  rw [State.core_vecIssued_integer hgrp]
  refine (Core.getLsbD_vstat_setVstat _ _ hb).trans ?_
  rw [vstatBits_integer, testBit_b2n_mul_32 _ hb]
  simp only [Core.integerEl, hfn, iarith_sat h]
  rfl

/-- Settles O17: the value of each function at every width, and SAT from the results that saturate. -/
theorem vectorIntegerArithmetic : Obligations.VectorIntegerArithmetic := by
  unfold Obligations.VectorIntegerArithmetic
  exact ⟨vecGives_integerLanes computesInteger_add, vecGives_integerLanes computesInteger_sub, vecGives_integerLanes computesInteger_mul,
    vecGives_integerLanes computesInteger_addsat, vecGives_integerLanes computesInteger_subsat,
    vecGives_integerLanes computesInteger_min, vecGives_integerLanes computesInteger_max,
    vecGives_integerLanes computesInteger_and, vecGives_integerLanes computesInteger_or, vecGives_integerLanes computesInteger_xor,
    vecGives_integerLanes computesInteger_shl, vecGives_integerLanes computesInteger_shrl, vecGives_integerLanes computesInteger_shra,
    fun _ => vecGives_satReported⟩

end Sys2Proof.Machine
end

section
/-! PROOFS. Mask destinations of compares and mask logic (R130, R132, R136). -/

namespace Sys2Proof.Machine

/-! ### A mask register from its bits -/

/-- The number whose bits, lowest first, are the given ones. -/
def packedBits (bs : List Bool) : Nat := bs.foldr (fun b acc => b2n b + 2 * acc) 0

theorem packedBits_cons (b : Bool) (bs : List Bool) : packedBits (b :: bs) = b2n b + 2 * packedBits bs := rfl

theorem testBit_packedBits (bs : List Bool) (i : Nat) : (packedBits bs).testBit i = bs.getD i false := by
  induction bs generalizing i with
  | nil => exact Nat.zero_testBit i
  | cons b bs ih =>
    have hb : b2n b < 2 := by cases b <;> decide
    cases i with
    | zero =>
      rw [packedBits_cons, List.getD_cons_zero, Nat.testBit_zero, Nat.add_mul_mod_self_left, Nat.mod_eq_of_lt hb]
      cases b <;> rfl
    | succ i =>
      rw [packedBits_cons, List.getD_cons_succ, Nat.testBit_succ, Nat.add_mul_div_left _ _ Nat.two_pos, Nat.div_eq_of_lt hb, Nat.zero_add, ih]

theorem Core.mreg_setM_same (k : Core) (r : Nat) (x : BitVec 1024) : (k.setM r x).mreg r = x := Tbl.get_put_same _ _ _ _

theorem Core.mreg_setM_other (k : Core) {r j : Nat} (h : j % 8 ≠ r % 8) (x : BitVec 1024) : (k.setM r x).mreg j = k.mreg j :=
  Tbl.get_put_other _ h _ _

/-! ### What `maskWrite` leaves in the core -/

/-- The bits of the mask destination after the instruction. -/
def Core.destBits (k : Core) (c : VecCmd) (w : Nat) (f : Nat → Bool) : List Bool :=
  (List.range 1024).map fun i => if k.active c (k.el w) i then f i else !c.zm && (k.mreg c.vd).getLsbD i

theorem State.core_maskWrite (s : State) (n : Nat) (c : VecCmd) (w : Nat) (f : Nat → Bool) :
    (s.maskWrite n c w f).core n = (s.core n).setM c.vd (BitVec.ofNat 1024 (packedBits ((s.core n).destBits c w f))) := by
  rw [State.maskWrite, State.core_vecOps, State.core_modCore]
  rfl

/-- The mask destination becomes `f` of the position where active, elsewhere 0 under ZM and unchanged without (R130); the core's other parts keep their values. -/
def MaskBecomes (f : Nat → Bool) (s : State) (core : Fin 512) (c : VecCmd) (t : State) : Prop :=
  (∀ p < 1024, ((t.core core).mreg c.vd).getLsbD p =
    if (s.core core).active c ((s.core core).el (typeWidth c.type)) p then f p else !c.zm && ((s.core core).mreg c.vd).getLsbD p) ∧
  (∀ r < 8, r ≠ c.vd % 8 → (t.core core).mreg r = (s.core core).mreg r) ∧
  t.core core = { (s.core core).passed with m := (t.core core).m }

theorem maskBecomes_of_core_eq {f : Nat → Bool} {s t : State} {core : Fin 512} {c : VecCmd}
    (h : t.core core = ((s.core core).setM c.vd (BitVec.ofNat 1024 (packedBits ((s.core core).destBits c (typeWidth c.type) f)))).passed) :
    MaskBecomes f s core c t := by
  rw [MaskBecomes, h]
  refine ⟨fun p hp => ?_, fun r hr hne => ?_, rfl⟩
  · refine (congrArg (·.getLsbD p) (Core.mreg_setM_same _ _ _)).trans ?_
    rw [BitVec.getLsbD_ofNat, testBit_packedBits, decide_eq_true hp, Bool.true_and]
    simp [Core.destBits, hp]
  · exact Core.mreg_setM_other _ (by omega) _

/-! ### Compares (R136) -/

theorem State.vecExec_compare {s : State} {core ctx : Nat} {c : VecCmd} (h : c.grp = 3) : s.vecExec core ctx c = s.vecCmp core ctx c := by
  simp only [State.vecExec, h]

/-- A compare sees the context's subnormal mode as it stands once its own number is taken. -/
theorem maskBecomes_vecIssued_compare {s : State} {core : Fin 512} {ctx : Nat} {word : BitVec 64} (h : (s.vecCmd core word).grp = 3) :
    MaskBecomes (fun p => compare ((s.nextSeq .vec core Off.vecInsnSeq).2.flush32 ctx) (s.vecCmd core word).type (s.vecCmd core word).fn
      ((s.core core).lane (typeWidth (s.vecCmd core word).type) (s.vecCmd core word).vs1 p)
      ((s.core core).lane (typeWidth (s.vecCmd core word).type) (s.vecCmd core word).vs2 p)) s core (s.vecCmd core word)
      (s.vecIssued core ctx word) := by
  refine maskBecomes_of_core_eq ?_
  rw [State.vecIssued, State.core_retire_vector, State.vecExec_compare h, State.vecCmp, State.core_maskWrite, State.core_nextSeq]
  rfl

/-- For the 256 context numbers there are, taking a number leaves the mode registers alone. -/
theorem State.flush32_nextSeq_vec (s : State) (core : Fin 512) {ctx : Nat} (h : ctx < 256) :
    (s.nextSeq .vec core Off.vecInsnSeq).2.flush32 ctx = s.flush32 ctx := by
  have hkey : regKey .drn 0 (Off.drnCtxMode + 4 * (ctx / 16)) 0 ≠ regKey .vec core Off.vecInsnSeq 0 := by
    simp only [regKey, PageRef.base, Off.drnCtxMode, Off.vecInsnSeq]
    omega
  simp only [State.flush32, State.modeBit, State.nextSeq, State.rd, State.wr_regs, Tbl.get_put_other _ hkey]

/-- Compares write mask bits only, as O18 says, for every context number the part has (R136). -/
theorem vecGives_compare (fn : Nat) : VecGives 3 fn fun s core ctx c t => ctx < 256 →
    MaskBecomes (fun p => compare (s.flush32 ctx) c.type fn ((s.core core).lane (typeWidth c.type) c.vs1 p)
      ((s.core core).lane (typeWidth c.type) c.vs2 p)) s core c t := by
  refine vecGives_of_vecIssued fun s core ctx word hgrp hfn hctx => ?_
  rw [← State.flush32_nextSeq_vec s core hctx, ← hfn]
  exact maskBecomes_vecIssued_compare hgrp

/-! ### Mask logic, SETN, POPC and FIRST (R132): what O18 says of them, which holds in every state -/

theorem State.vecExec_mask {s : State} {core ctx : Nat} {c : VecCmd} (h : c.grp = 8) : s.vecExec core ctx c = s.vecMask core c := by
  simp only [State.vecExec, h]

theorem State.core_vecIssued_mask {s : State} {core : Fin 512} {ctx : Nat} {word : BitVec 64} (h : (s.vecCmd core word).grp = 8) :
    (s.vecIssued core ctx word).core core =
      (((s.nextSeq .vec core Off.vecInsnSeq).2.vecMask core (s.vecCmd core word)).core core).passed := by
  rw [State.vecIssued, State.core_retire_vector, State.vecExec_mask h]

/-- The bit that AND, OR, XOR, ANDN and NOT make of two mask bits. -/
def maskLogic : Nat → Bool → Bool → Bool
  | 0, a, b => a && b
  | 1, a, b => a || b
  | 2, a, b => a ^^ b
  | 3, a, b => a && !b
  | _, a, _ => !a

theorem State.vecMask_logic {s : State} {core : Nat} {c : VecCmd} (h : c.fn < 5) : s.vecMask core c =
    s.maskWrite core c (typeWidth c.type) fun p => maskLogic c.fn (((s.core core).mreg c.vs1).getLsbD p) (((s.core core).mreg c.vs2).getLsbD p) := by
  unfold State.vecMask
  generalize c.fn = fn at h
  match fn, h with
  | 0, _ | 1, _ | 2, _ | 3, _ | 4, _ => rfl

theorem vecGives_maskLogic {fn : Nat} (h : fn < 5) : VecGives 8 fn fun s core _ c t =>
    MaskBecomes (fun p => maskLogic fn (((s.core core).mreg c.vs1).getLsbD p) (((s.core core).mreg c.vs2).getLsbD p)) s core c t := by
  refine vecGives_of_vecIssued fun s core ctx word hgrp hfn => maskBecomes_of_core_eq ?_
  subst hfn
  rw [State.core_vecIssued_mask hgrp, State.vecMask_logic h, State.core_maskWrite, State.core_nextSeq]

theorem vecGives_setn : VecGives 8 5 fun s core _ c t => t.core core = { (s.core core).passed with m := (t.core core).m } ∧
    (∀ p < 1024, ((t.core core).mreg c.vd).getLsbD p = decide (p < min ((s.core core).sreg c.sxNo).toNat 1024)) ∧
    ∀ r < 8, r ≠ c.vd % 8 → (t.core core).mreg r = (s.core core).mreg r := by
  refine vecGives_of_vecIssued fun s core ctx word hgrp hfn => ?_
  have hcore : (s.vecIssued core ctx word).core core = ((s.core core).setM (s.vecCmd core word).vd
      (BitVec.ofNat 1024 (2 ^ min ((s.core core).sreg (s.vecCmd core word).sxNo).toNat 1024 - 1))).passed := by
    rw [State.core_vecIssued_mask hgrp, State.vecMask, hfn]
    exact congrArg Core.passed ((State.core_modCore _ _ _).trans (by rw [State.core_nextSeq]; rfl))
  rw [hcore]
  refine ⟨rfl, fun p hp => ?_, fun r hr hne => Core.mreg_setM_other _ (by omega) _⟩
  refine (congrArg (·.getLsbD p) (Core.mreg_setM_same _ _ _)).trans ?_
  rw [BitVec.getLsbD_ofNat, Nat.testBit_two_pow_sub_one, decide_eq_true hp, Bool.true_and]

/-- The set bits of the source mask below EL, lowest first. -/
def Core.setBelow (k : Core) (c : VecCmd) : List Nat :=
  (List.range (k.el (typeWidth c.type))).filter fun p => (k.mreg c.vs1).getLsbD p

theorem vecGives_popc : VecGives 8 6 fun s core _ c t =>
    t.core core = (s.core core).passed.setSreg c.sxNo (BitVec.ofNat 32 ((s.core core).setBelow c).length) := by
  refine vecGives_of_vecIssued fun s core ctx word hgrp hfn => ?_
  rw [State.core_vecIssued_mask hgrp, State.vecMask, hfn]
  simp only [State.core_vecSx, State.core_nextSeq, Core.passed_setSreg]
  rfl

theorem vecGives_first : VecGives 8 7 fun s core _ c t =>
    t.core core = (s.core core).passed.setSreg c.sxNo (BitVec.ofNat 32 (((s.core core).setBelow c).head?.getD 0xFFFF)) := by
  refine vecGives_of_vecIssued fun s core ctx word hgrp hfn => ?_
  rw [State.core_vecIssued_mask hgrp, State.vecMask, hfn]
  simp only [State.core_vecSx, State.core_nextSeq, Core.passed_setSreg]
  rfl

/-! ### O18 fails for a context number no part has -/

/-- VEC_EQ of FP32: mask 0 from v1 and v2. -/
def eqWord : BitVec 64 := BitVec.ofNat 64 (0x3F + 3 * 2 ^ 7 + 1 * 2 ^ 25 + 2 * 2 ^ 30)

/-- A context number whose mode bits, by the addresses of the DRN page, would lie in VEC_INSN_SEQ of core 0. -/
def overlapCtx : Nat := 15904

/-- A running part whose core 0 works for that context, with a subnormal FP32 number in element 0 of v1 and 0 in v2. -/
def overlapState : State := { State.reset with
  rst := { inReset := false, ready := true }
  pwr := { st := 0 }
  cores := [(0, { kernel := some { ctx := overlapCtx, entry := 0 }, v := [(1, 1)] })] }

theorem overlapState_issuesNow : overlapState.issuesNow 0 eqWord = some overlapCtx := by decide +kernel

theorem overlapState_active : let c := overlapState.vecCmd 0 eqWord
    (overlapState.core 0).active c ((overlapState.core 0).el (typeWidth c.type)) 0 = true := by decide +kernel

/-- Taking its number flips the mode bit that the compare then reads, and with it whether the subnormal number counts as 0. -/
theorem overlapState_compare : let c := overlapState.vecCmd 0 eqWord
    let x := (overlapState.core 0).lane (typeWidth c.type) c.vs1 0
    let y := (overlapState.core 0).lane (typeWidth c.type) c.vs2 0
    compare ((overlapState.nextSeq .vec 0 Off.vecInsnSeq).2.flush32 overlapCtx) c.type c.fn x y ≠
      compare (overlapState.flush32 overlapCtx) c.type 0 x y := by decide +kernel

/-- Refutes O18: the statement leaves the context number unbounded, and for 15904 the model reads FLUSH32 in VEC_INSN_SEQ, which the compare itself advances,
so that it goes by another mode than that of the state before. Below 256, `vecGives_compare` has what O18 says of compares. -/
theorem not_vectorMasks : ¬ Obligations.VectorMasks := by
  unfold Obligations.VectorMasks
  rintro ⟨hcompare, -⟩
  obtain ⟨t, hexec, hbits, -⟩ := hcompare 0 overlapState 0 eqWord _ overlapCtx rfl (by decide) (by decide) overlapState_issuesNow
  obtain ⟨hissued, -⟩ := maskBecomes_vecIssued_compare (s := overlapState) (core := 0) (ctx := overlapCtx) (word := eqWord) (by decide)
  rw [exec_of_issuesNow (grp := 3) (fn := 0) rfl (by decide) (by decide) overlapState_issuesNow] at hexec
  obtain rfl := Host.Outcome.next.inj hexec
  have hafter := (hissued 0 (by decide)).trans (if_pos overlapState_active)
  have hbefore := (hbits 0 (by decide)).trans (if_pos overlapState_active)
  exact overlapState_compare (hafter.symm.trans hbefore)

end Sys2Proof.Machine
end
